-- ==== Sys2Proof/Word.lean ====
section
/-! DEFINITION. The widths of the part: 64-bit scalar values (05 R79), 32-bit words (05 R59), bytes (00 R1). -/

namespace Sys2Proof

abbrev Byte := BitVec 8
abbrev Word32 := BitVec 32
abbrev Word := BitVec 64
/-- A 56-bit virtual address (09 R129), a block address in particular (05 R59). -/
abbrev Addr := BitVec 56

end Sys2Proof
end

