-- ==== Sys2Proof/Syntax.lean ====
section
/-! DEFINITION. The instructions of the part: one constructor for each row of spec/opcode_table.json.
Three kinds of row: a sequencer instruction word (05 R63, R84), a stage operation word (11 R177, R85), and a
step of an engine, of the scheduler or of the outside world (95_what_each_step_holds.md). The fields of a word
are the table's fields. The operands of an event name what it acts on: a slot is bay * 8 + slot, a bay is
die * 32 + bay (01 R23); values an event brings from outside are operands too. -/

namespace Sys2Proof

inductive Instr where
  /-- ADD (R92). Delivers (L + R) mod 2^64 to its targets. -/
  | add (p : BitVec 2) (t : BitVec 9) (l r : BitVec 7)
  /-- SUB (R92). Delivers (L - R) mod 2^64. -/
  | sub (p : BitVec 2) (t : BitVec 9) (l r : BitVec 7)
  /-- MUL (R92). Delivers the low 64 bits of L x R. -/
  | mul (p : BitVec 2) (t : BitVec 9) (l r : BitVec 7)
  /-- MULH (R92). Delivers bits 127:64 of the signed 128-bit product. -/
  | mulh (p : BitVec 2) (t : BitVec 9) (l r : BitVec 7)
  /-- MULHU (R92). Delivers bits 127:64 of the unsigned 128-bit product. -/
  | mulhu (p : BitVec 2) (t : BitVec 9) (l r : BitVec 7)
  /-- DIV (R94). Signed division rounded toward zero, with the fixed results for a zero divisor and MIN_INT / -1. -/
  | div (p : BitVec 2) (t : BitVec 9) (l r : BitVec 7)
  /-- DIVU (R94). Unsigned division; a zero divisor gives all ones. -/
  | divu (p : BitVec 2) (t : BitVec 9) (l r : BitVec 7)
  /-- REM (R94). Signed remainder with the sign of the dividend. -/
  | rem (p : BitVec 2) (t : BitVec 9) (l r : BitVec 7)
  /-- REMU (R94). Unsigned remainder; a zero divisor returns L. -/
  | remu (p : BitVec 2) (t : BitVec 9) (l r : BitVec 7)
  /-- AND (R92). Delivers the bitwise AND of L and R. -/
  | and (p : BitVec 2) (t : BitVec 9) (l r : BitVec 7)
  /-- OR (R92). Delivers the bitwise OR of L and R. -/
  | or (p : BitVec 2) (t : BitVec 9) (l r : BitVec 7)
  /-- XOR (R92). Delivers the bitwise XOR of L and R. -/
  | xor (p : BitVec 2) (t : BitVec 9) (l r : BitVec 7)
  /-- ANDN (R92). Delivers L AND NOT R. -/
  | andn (p : BitVec 2) (t : BitVec 9) (l r : BitVec 7)
  /-- SHL (R93). Shifts L left by R[5:0]. -/
  | shl (p : BitVec 2) (t : BitVec 9) (l r : BitVec 7)
  /-- SHR (R93). Logical right shift of L by R[5:0]. -/
  | shr (p : BitVec 2) (t : BitVec 9) (l r : BitVec 7)
  /-- SAR (R93). Arithmetic right shift of L by R[5:0], rounding toward minus infinity. -/
  | sar (p : BitVec 2) (t : BitVec 9) (l r : BitVec 7)
  /-- ROTL (R93). Rotates L left by R[5:0]. -/
  | rotl (p : BitVec 2) (t : BitVec 9) (l r : BitVec 7)
  /-- MIN (R92). Delivers the signed minimum. -/
  | min (p : BitVec 2) (t : BitVec 9) (l r : BitVec 7)
  /-- MAX (R92). Delivers the signed maximum. -/
  | max (p : BitVec 2) (t : BitVec 9) (l r : BitVec 7)
  /-- MINU (R92). Delivers the unsigned minimum. -/
  | minu (p : BitVec 2) (t : BitVec 9) (l r : BitVec 7)
  /-- MAXU (R92). Delivers the unsigned maximum. -/
  | maxu (p : BitVec 2) (t : BitVec 9) (l r : BitVec 7)
  /-- SHADD1 (R95). Delivers (L << 1) + R + P, with P always awaited. -/
  | shadd1 (t : BitVec 9) (l r : BitVec 7)
  /-- SHADD2 (R95). Delivers (L << 2) + R + P. -/
  | shadd2 (t : BitVec 9) (l r : BitVec 7)
  /-- SHADD3 (R95). Delivers (L << 3) + R + P. -/
  | shadd3 (t : BitVec 9) (l r : BitVec 7)
  /-- SHADD4 (R95). Delivers (L << 4) + R + P. -/
  | shadd4 (t : BitVec 9) (l r : BitVec 7)
  /-- CLZ (R96). Counts leading zero bits of L. -/
  | clz (p : BitVec 2) (t : BitVec 9) (l r : BitVec 7)
  /-- CTZ (R96). Counts trailing zero bits of L. -/
  | ctz (p : BitVec 2) (t : BitVec 9) (l r : BitVec 7)
  /-- POPC (R96). Counts the one bits of L. -/
  | popc (p : BitVec 2) (t : BitVec 9) (l r : BitVec 7)
  /-- SEXT (R97). Sign-extends L from bit R[5:0]. -/
  | sext (p : BitVec 2) (t : BitVec 9) (l r : BitVec 7)
  /-- ZEXT (R97). Zero-extends L from bit R[5:0]. -/
  | zext (p : BitVec 2) (t : BitVec 9) (l r : BitVec 7)
  /-- ADDW (R92). Delivers the 32-bit wrapped sum, sign-extended to 64 bits. -/
  | addw (p : BitVec 2) (t : BitVec 9) (l r : BitVec 7)
  /-- CEQ (R98). Delivers 1 when L equals R. -/
  | ceq (p : BitVec 2) (t : BitVec 9) (l r : BitVec 7)
  /-- CNE (R98). Delivers 1 when L differs from R. -/
  | cne (p : BitVec 2) (t : BitVec 9) (l r : BitVec 7)
  /-- CLT (R98). Delivers 1 when L < R, signed. -/
  | clt (p : BitVec 2) (t : BitVec 9) (l r : BitVec 7)
  /-- CLTU (R98). Delivers 1 when L < R, unsigned. -/
  | cltu (p : BitVec 2) (t : BitVec 9) (l r : BitVec 7)
  /-- CLE (R98). Delivers 1 when L <= R, signed. -/
  | cle (p : BitVec 2) (t : BitVec 9) (l r : BitVec 7)
  /-- CLEU (R98). Delivers 1 when L <= R, unsigned. -/
  | cleu (p : BitVec 2) (t : BitVec 9) (l r : BitVec 7)
  /-- TZ (R99). Delivers 1 when L is zero. -/
  | tz (p : BitVec 2) (t : BitVec 9) (l r : BitVec 7)
  /-- TNZ (R99). Delivers 1 when L is nonzero. -/
  | tnz (p : BitVec 2) (t : BitVec 9) (l r : BitVec 7)
  /-- SEL (R100). Delivers L if P is nonzero, otherwise R. -/
  | sel (t : BitVec 9) (l r : BitVec 7)
  /-- NOT (R99). Delivers the bitwise complement of L. -/
  | not (p : BitVec 2) (t : BitVec 9) (l r : BitVec 7)
  /-- CONST (R101). Delivers the sign-extended 14-bit immediate. -/
  | const (p : BitVec 2) (t : BitVec 9) (i : BitVec 14)
  /-- CONSTX (R102). Delivers (L << 14) or IMM14. -/
  | constx (p : BitVec 2) (t : BitVec 9) (i : BitVec 14)
  /-- MOV (R103). Delivers L unchanged. -/
  | mov (p : BitVec 2) (t : BitVec 9) (l r : BitVec 7)
  /-- FAN (R104). Delivers L to two targets T and T2. -/
  | fan (p : BitVec 2) (t u : BitVec 9)
  /-- SRRD (R105). Reads a special register at fire, checking the view. -/
  | srrd (p : BitVec 2) (t : BitVec 9) (n : BitVec 14)
  /-- SRWR (R106). Writes a special register at commit step 1 and returns its prior value. -/
  | srwr (p : BitVec 2) (t : BitVec 9) (n : BitVec 14)
  /-- BRI (R110). Chooses the block at a J-format offset as the successor. -/
  | bri (p : BitVec 2) (o : BitVec 23)
  /-- BR (R111). Chooses the block at address L as the successor, faulting ALIGN on a bad address. -/
  | br (p : BitVec 2) (l r : BitVec 7)
  /-- CALLI (R110). Branches by offset and writes the link to s63. -/
  | calli (p : BitVec 2) (o : BitVec 23)
  /-- CALL (R111). Branches to L and writes the link to s63. -/
  | call (p : BitVec 2) (l r : BitVec 7)
  /-- EXIT (R112). Ends the task, which enters its exit join. -/
  | exit (p : BitVec 2) (l r : BitVec 7)
  /-- YIELD (R113). Enters the join, then rewrites the record and requeues the task. -/
  | yield (p : BitVec 2) (l r : BitVec 7)
  /-- TRAP (R114). Faults the block precisely with cause TRAP and its code. -/
  | trap (p : BitVec 2) (i : BitVec 14)
  /-- ERET (R115). From a handler, reinstates the interrupted block from the trap frame. -/
  | eret (p : BitVec 2) (l r : BitVec 7)
  /-- FADD (R117). Sequencer FP32 addition under RNE. -/
  | fadd (p : BitVec 2) (t : BitVec 9) (l r : BitVec 7)
  /-- FSUB (R117). Sequencer FP32 subtraction under RNE. -/
  | fsub (p : BitVec 2) (t : BitVec 9) (l r : BitVec 7)
  /-- FMUL (R117). Sequencer FP32 multiplication under RNE. -/
  | fmul (p : BitVec 2) (t : BitVec 9) (l r : BitVec 7)
  /-- FDIV (R117). Sequencer FP32 division under RNE. -/
  | fdiv (p : BitVec 2) (t : BitVec 9) (l r : BitVec 7)
  /-- FMIN (R117). Sequencer FP32 minimum under R39. -/
  | fmin (p : BitVec 2) (t : BitVec 9) (l r : BitVec 7)
  /-- FMAX (R117). Sequencer FP32 maximum under R39. -/
  | fmax (p : BitVec 2) (t : BitVec 9) (l r : BitVec 7)
  /-- FCLT (R117). Delivers 1 when f(L) < f(R). -/
  | fclt (p : BitVec 2) (t : BitVec 9) (l r : BitVec 7)
  /-- FCEQ (R117). Delivers 1 when f(L) == f(R). -/
  | fceq (p : BitVec 2) (t : BitVec 9) (l r : BitVec 7)
  /-- FCLE (R117). Delivers 1 when f(L) <= f(R). -/
  | fcle (p : BitVec 2) (t : BitVec 9) (l r : BitVec 7)
  /-- CVTIF (R119). Converts a signed 64-bit integer to FP32 under RNE. -/
  | cvtif (p : BitVec 2) (t : BitVec 9) (l r : BitVec 7)
  /-- CVTFI (R119). Converts FP32 to a saturated INT64 under RNE. -/
  | cvtfi (p : BitVec 2) (t : BitVec 9) (l r : BitVec 7)
  /-- FSQRT (R120). FP32 square root rounded once. -/
  | fsqrt (p : BitVec 2) (t : BitVec 9) (l r : BitVec 7)
  /-- LD8 (R135). Loads one byte, zero-extended. -/
  | ld8 (p : BitVec 2) (t : BitVec 9) (l r : BitVec 7)
  /-- LD8S (R135). Loads one byte, sign-extended. -/
  | ld8s (p : BitVec 2) (t : BitVec 9) (l r : BitVec 7)
  /-- LD16 (R135). Loads two bytes, zero-extended. -/
  | ld16 (p : BitVec 2) (t : BitVec 9) (l r : BitVec 7)
  /-- LD16S (R135). Loads two bytes, sign-extended. -/
  | ld16s (p : BitVec 2) (t : BitVec 9) (l r : BitVec 7)
  /-- LD32 (R135). Loads four bytes, zero-extended. -/
  | ld32 (p : BitVec 2) (t : BitVec 9) (l r : BitVec 7)
  /-- LD32S (R135). Loads four bytes, sign-extended. -/
  | ld32s (p : BitVec 2) (t : BitVec 9) (l r : BitVec 7)
  /-- LD64 (R135). Loads eight bytes. -/
  | ld64 (p : BitVec 2) (t : BitVec 9) (l r : BitVec 7)
  /-- LDAQ (R137). Load with acquire semantics at a scope, holding back later loads of the block. -/
  | ldaq (p : BitVec 2) (t : BitVec 9) (l : BitVec 7) (s : BitVec 3) (x : BitVec 1) (z : BitVec 2)
  /-- ST8 (R138). Buffered store of one byte, performed at commit step 2. -/
  | st8 (p : BitVec 2) (o : BitVec 9) (l r : BitVec 7)
  /-- ST16 (R138). Buffered store of two bytes. -/
  | st16 (p : BitVec 2) (o : BitVec 9) (l r : BitVec 7)
  /-- ST32 (R138). Buffered store of four bytes. -/
  | st32 (p : BitVec 2) (o : BitVec 9) (l r : BitVec 7)
  /-- ST64 (R138). Buffered store of eight bytes. -/
  | st64 (p : BitVec 2) (o : BitVec 9) (l r : BitVec 7)
  /-- STRL (R139). Buffered store with release semantics at a scope. -/
  | strl (p : BitVec 2) (l : BitVec 7) (s : BitVec 3) (z : BitVec 2)
  /-- AMO64 (R141). Indivisible 64-bit read-modify-write at commit step 2. -/
  | amo64 (p : BitVec 2) (t : BitVec 9) (l : BitVec 7) (s : BitVec 3) (k : BitVec 1) (o : BitVec 3)
  /-- AMO32 (R141). Indivisible 32-bit read-modify-write, FADD included. -/
  | amo32 (p : BitVec 2) (t : BitVec 9) (l : BitVec 7) (s : BitVec 3) (k : BitVec 1) (o : BitVec 3)
  /-- CAS64 (R142). Indivisible 64-bit compare-and-swap at commit step 2. -/
  | cas64 (t : BitVec 9) (l : BitVec 7) (s : BitVec 3) (k : BitVec 2)
  /-- FENCE (R145). Orders the task's memory and engine accesses at a scope by kind. -/
  | fence (p : BitVec 2) (l : BitVec 7) (s : BitVec 3) (e k : BitVec 2)
  /-- SBAR (R147). Orders the task against named memory-port streams. -/
  | sbar (p : BitVec 2) (l : BitVec 7)
  /-- PREF (R148). Prefetches a line into the L1 without faulting. -/
  | pref (p : BitVec 2) (l r : BitVec 7)
  /-- SPAWN (R286). Reads a record and pushes it when its JOIN is zero. -/
  | spawn (p : BitVec 2) (t : BitVec 9) (l r : BitVec 7)
  /-- JOINDEC (R287). Decrements a record's JOIN and pushes it when JOIN reaches zero. -/
  | joindec (p : BitVec 2) (t : BitVec 9) (l r : BitVec 7)
  /-- GANG (R280). Reads GW x GH records and queues them as one gang. -/
  | gang (p : BitVec 2) (t : BitVec 9) (l r : BitVec 7)
  /-- RVINIT (R283). Sets a rendezvous point's EXPECT if it is zero. -/
  | rvinit (p : BitVec 2) (t : BitVec 9) (l r : BitVec 7)
  /-- ARRIVE (R284). Counts an arrival at a rendezvous point, advancing PHASE when the round completes. -/
  | arrive (p : BitVec 2) (t : BitVec 9) (l r : BitVec 7)
  /-- WAIT (R285). In commit step 4, waits until a rendezvous point reaches a phase. -/
  | wait (p : BitVec 2) (l r : BitVec 7)
  /-- EST (R288). Sets SR.EST, and optionally the launch's estimate. -/
  | est (p : BitVec 2) (t : BitVec 9) (l r : BitVec 7)
  /-- PROGRESS (R288). Marks a progress event for the watchdog. -/
  | progress (p : BitVec 2) (t : BitVec 9) (l r : BitVec 7)
  /-- GRAPHGO (R278). Writes a graph trigger with an optional patch list. -/
  | graphgo (p : BitVec 2) (t : BitVec 9) (l r : BitVec 7)
  /-- MLOAD (R215). Takes a mould-table entry and issues the load of a mould image. -/
  | mload (p : BitVec 2) (t : BitVec 9) (l r : BitVec 7)
  /-- MSTART (R216). Starts a loaded mould, optionally overriding its base registers. -/
  | mstart (p : BitVec 2) (t : BitVec 9) (l r : BitVec 7)
  /-- MSTOP_DRAIN (R217). Closes every source of a mould; the stages stop when empty and the entry is freed once the sinks are empty. -/
  | mstopDrain (p : BitVec 2) (t : BitVec 9) (l r : BitVec 7)
  /-- MSTOP_ABORT (R217). Discards every bead and token of a mould at once and frees the entry. -/
  | mstopAbort (p : BitVec 2) (t : BitVec 9) (l r : BitVec 7)
  /-- INJECT (R218). Injects one bead or a strided set of beads into a mould source, optionally closing it. -/
  | inject (p : BitVec 2) (t : BitVec 9) (l r : BitVec 7)
  /-- COLLECT (R220). Takes one bead or a status from a mould sink into a register group. -/
  | collect (p : BitVec 2) (t : BitVec 9) (l r : BitVec 7)
  /-- POUR_LOADT (R250). Loads a 64-byte template into the ladle template table. -/
  | pourLoadt (p : BitVec 2) (t : BitVec 9) (l r : BitVec 7)
  /-- POUR_START (R250). Copies a template into a channel queue as a forked transfer. -/
  | pourStart (p : BitVec 2) (t : BitVec 9) (l r : BitVec 7)
  /-- PJOIN (R251). In commit step 4, waits for the named channels and KV operations of the task. -/
  | pjoin (p : BitVec 2) (l r : BitVec 7)
  /-- MXCFG (R235). Checks and arms a matrix operation-table entry. -/
  | mxcfg (p : BitVec 2) (t : BitVec 9) (l r : BitVec 7)
  /-- MXJOIN (R238). In commit step 4, waits for the task's armings of the masked entries. -/
  | mxjoin (p : BitVec 2) (l r : BitVec 7)
  /-- SPALLOC (R149). Allocates guarded scratchpad lines and returns their window address or 0. -/
  | spalloc (p : BitVec 2) (t : BitVec 9) (l r : BitVec 7)
  /-- SPFREE (R150). Frees a scratchpad allocation once none of its lines is held. -/
  | spfree (p : BitVec 2) (t : BitVec 9) (l r : BitVec 7)
  /-- HMDECL (R296). Declares a hallmark key, advancing or creating its entry. -/
  | hmdecl (p : BitVec 2) (t : BitVec 9) (l r : BitVec 7)
  /-- STAMP (R297). Sets a hallmark stamped, releasing the issuer's accesses. -/
  | stamp (p : BitVec 2) (t : BitVec 9) (l r : BitVec 7)
  /-- AWAIT (R298). In commit step 4, waits for a hallmark generation to be stamped or its producer to finish. -/
  | await (p : BitVec 2) (l r : BitVec 7)
  /-- HMTEST (R299). Evaluates a hallmark once and delivers READY, NOENTRY and GEN. -/
  | hmtest (p : BitVec 2) (t : BitVec 9) (l r : BitVec 7)
  /-- HMRETIRE (R301). Frees a hallmark entry and re-evaluates its waiters. -/
  | hmretire (p : BitVec 2) (t : BitVec 9) (l r : BitVec 7)
  /-- KVMAP (R321). Allocates a fresh KV block and installs it in a stage-1 slot. -/
  | kvmap (p : BitVec 2) (t : BitVec 9) (l r : BitVec 7)
  /-- KVFORK (R322). Shares a KV block into another slot, adding a reference or cloning. -/
  | kvfork (p : BitVec 2) (t : BitVec 9) (l r : BitVec 7)
  /-- KVAPPEND (R323). Appends one token's keys and values to one layer of a sequence. -/
  | kvappend (p : BitVec 2) (t : BitVec 9) (l r : BitVec 7)
  /-- KVFREE (R324). Drops a reference to a KV block and clears its slot. -/
  | kvfree (p : BitVec 2) (t : BitVec 9) (l r : BitVec 7)
  /-- PFXH (R325). Delivers rotl64(L, 13) xor R, one link of the prefix chain hash. -/
  | pfxh (p : BitVec 2) (t : BitVec 9) (l r : BitVec 7)
  /-- PFXLOOK (R327). Walks the prefix table for the longest matching prefix, optionally pinning its columns. -/
  | pfxlook (p : BitVec 2) (t : BitVec 9) (l r : BitVec 7)
  /-- PFXINS (R328). Inserts, replaces or removes a prefix table entry. -/
  | pfxins (p : BitVec 2) (t : BitVec 9) (l r : BitVec 7)
  /-- SPLICE (R330). Forks an engine operation inserting document tokens into a sequence at a position. -/
  | splice (p : BitVec 2) (t : BitVec 9) (l r : BitVec 7)
  /-- REPAIR (R336). Forks an engine operation that probes and repairs spliced tokens layer by layer. -/
  | repair (p : BitVec 2) (t : BitVec 9) (l r : BitVec 7)
  /-- KATT (R342). Forks decode attention over one layer in the crucibles. -/
  | katt (p : BitVec 2) (t : BitVec 9) (l r : BitVec 7)
  /-- CACHEOP_BINV (R122). Invalidates the 128-byte granule holding L in every block cache. -/
  | cacheopBinv (p : BitVec 2) (t : BitVec 9) (l r : BitVec 7)
  /-- CACHEOP_BINVDIE (R122). Invalidates every block cache of the issuer's die. -/
  | cacheopBinvdie (p : BitVec 2) (t : BitVec 9) (l r : BitVec 7)
  /-- TLBOP_PAGE (R123). Removes every translation covering L from all TLBs and walkers. -/
  | tlbopPage (p : BitVec 2) (t : BitVec 9) (l r : BitVec 7)
  /-- TLBOP_ALL (R123). Removes every translation in the package. -/
  | tlbopAll (p : BitVec 2) (t : BitVec 9) (l r : BitVec 7)
  /-- TRACE_MARK (R124). Records a marker event in the bay's trace buffer. -/
  | traceMark (p : BitVec 2) (t : BitVec 9) (l r : BitVec 7)
  /-- TRACE_FREEZE (R124). Stops trace recording, keeping the contents. -/
  | traceFreeze (p : BitVec 2) (t : BitVec 9) (l r : BitVec 7)
  /-- TRACE_THAW (R124). Resumes trace recording. -/
  | traceThaw (p : BitVec 2) (t : BitVec 9) (l r : BitVec 7)
  /-- MIGRATE (R125). Issues a write-blocking migration of a page to a destination frame. -/
  | migrate (p : BitVec 2) (t : BitVec 9) (l r : BitVec 7)
  /-- HALT_STOP (R126). Stops popping of records in a bay, die or the package. -/
  | haltStop (p : BitVec 2) (t : BitVec 9) (l r : BitVec 7)
  /-- HALT_GO (R126). Restores popping of records in a scope. -/
  | haltGo (p : BitVec 2) (t : BitVec 9) (l r : BitVec 7)
  /-- PASS (R180). Stage passes vectors, applying PIN and POUT. -/
  | pass (c : BitVec 4)
  /-- IADD (R181). Stage 32-bit wrapping addition per lane. -/
  | iadd (d a b : BitVec 2) (s : BitVec 3) (c : BitVec 4)
  /-- ISUB (R181). Stage 32-bit wrapping subtraction. -/
  | isub (d a b : BitVec 2) (s : BitVec 3) (c : BitVec 4)
  /-- IMUL (R181). Stage 32-bit wrapping multiplication. -/
  | imul (d a b : BitVec 2) (s : BitVec 3) (c : BitVec 4)
  /-- IMULH (R181). Stage high 32 bits of the product, signed or unsigned. -/
  | imulh (d a b : BitVec 2) (s : BitVec 3) (c : BitVec 4) (u : BitVec 1)
  /-- IAND (R181). Stage bitwise AND. -/
  | iand (d a b : BitVec 2) (s : BitVec 3) (c : BitVec 4)
  /-- IOR (R181). Stage bitwise OR. -/
  | ior (d a b : BitVec 2) (s : BitVec 3) (c : BitVec 4)
  /-- IXOR (R181). Stage bitwise XOR. -/
  | ixor (d a b : BitVec 2) (s : BitVec 3) (c : BitVec 4)
  /-- ISHL (R181). Stage left shift by B[4:0]. -/
  | ishl (d a b : BitVec 2) (s : BitVec 3) (c : BitVec 4)
  /-- ISHR (R181). Stage logical right shift. -/
  | ishr (d a b : BitVec 2) (s : BitVec 3) (c : BitVec 4)
  /-- ISAR (R181). Stage arithmetic right shift. -/
  | isar (d a b : BitVec 2) (s : BitVec 3) (c : BitVec 4)
  /-- IMIN (R181). Stage signed minimum. -/
  | imin (d a b : BitVec 2) (s : BitVec 3) (c : BitVec 4)
  /-- IMAX (R181). Stage signed maximum. -/
  | imax (d a b : BitVec 2) (s : BitVec 3) (c : BitVec 4)
  /-- IMINU (R181). Stage unsigned minimum. -/
  | iminu (d a b : BitVec 2) (s : BitVec 3) (c : BitVec 4)
  /-- IMAXU (R181). Stage unsigned maximum. -/
  | imaxu (d a b : BitVec 2) (s : BitVec 3) (c : BitVec 4)
  /-- ICMP (R181). Stage integer compare by condition code. -/
  | icmp (d a b : BitVec 2) (s : BitVec 3) (c : BitVec 4) (k : BitVec 3)
  /-- IHASH (R182). Stage 32-bit mixing hash with B as seed. -/
  | ihash (d a b : BitVec 2) (s : BitVec 3) (c : BitVec 4)
  /-- ISEL (R181). Stage selects A or B by the lane predicate. -/
  | isel (d a b : BitVec 2) (s : BitVec 3) (c : BitVec 2)
  /-- IPOPC (R181). Stage population count of A. -/
  | ipopc (d a : BitVec 2) (c : BitVec 4)
  /-- STAGE_FADD (R183). Stage FP32 addition under the word's rounding mode. -/
  | stageFadd (d a b : BitVec 2) (s : BitVec 3) (c : BitVec 4) (m : BitVec 3)
  /-- STAGE_FSUB (R183). Stage FP32 subtraction. -/
  | stageFsub (d a b : BitVec 2) (s : BitVec 3) (c : BitVec 4) (m : BitVec 3)
  /-- STAGE_FMUL (R183). Stage FP32 multiplication. -/
  | stageFmul (d a b : BitVec 2) (s : BitVec 3) (c : BitVec 4) (m : BitVec 3)
  /-- FFMA (R183). Stage fused multiply-add into the destination field. -/
  | ffma (d a b : BitVec 2) (s : BitVec 3) (c : BitVec 4) (m : BitVec 3)
  /-- STAGE_FMIN (R183). Stage FP32 minimum. -/
  | stageFmin (d a b : BitVec 2) (s : BitVec 3) (c : BitVec 4)
  /-- STAGE_FMAX (R183). Stage FP32 maximum. -/
  | stageFmax (d a b : BitVec 2) (s : BitVec 3) (c : BitVec 4)
  /-- FCMP (R183). Stage FP32 compare by condition code. -/
  | fcmp (d a b : BitVec 2) (s : BitVec 3) (c : BitVec 4) (k : BitVec 3)
  /-- FEXP2 (R184). Stage 2^a by its table-and-polynomial definition. -/
  | fexp2 (d a : BitVec 2) (c : BitVec 4)
  /-- FRCP (R185). Stage reciprocal by table and two Newton steps. -/
  | frcp (d a : BitVec 2) (c : BitVec 4)
  /-- FRSQ (R186). Stage reciprocal square root by table and two Newton steps. -/
  | frsq (d a : BitVec 2) (c : BitVec 4)
  /-- CVT (R187). Stage format conversion per lane, with dither phase. -/
  | cvt (d a : BitVec 2) (h : BitVec 5) (c x y : BitVec 4) (m : BitVec 3)
  /-- CVTB4 (R188). Stage converts 32 FP32 values of a vector into one TB4 block. -/
  | cvtb4 (d a : BitVec 2) (h : BitVec 5) (m : BitVec 3) (s : BitVec 2)
  /-- FABSN (R183). Stage sign manipulation by mode. -/
  | fabsn (d a b : BitVec 2) (s : BitVec 3) (c : BitVec 4) (m : BitVec 2)
  /-- LSHUF (R189). Stage lane shuffle by B[3:0]. -/
  | lshuf (d a b : BitVec 2) (s : BitVec 3)
  /-- LBCAST (R189). Stage broadcast of one lane's field. -/
  | lbcast (d a : BitVec 2) (l : BitVec 4)
  /-- LSCAN (R189). Stage serial inclusive prefix over lanes. -/
  | lscan (d a : BitVec 2) (m : BitVec 3) (o : BitVec 4)
  /-- LRED (R189). Stage pairwise-tree reduction over lanes. -/
  | lred (d a : BitVec 2) (m : BitVec 3) (o : BitVec 4)
  /-- LCOMPACT (R189). Stage moves beads, then ghosts, to the lowest lanes. -/
  | lcompact
  /-- FILTER (R190). Stage absorbs lanes selected by predicate. -/
  | filter (q : BitVec 1)
  /-- FORK (R190). Stage yields a child of each selected bead. -/
  | fork (d a b : BitVec 2) (s : BitVec 3) (q : BitVec 1)
  /-- RECIRC (R191). Stage sends selected beads back to s0 through the recirculation buffer, absorbing at count 255. -/
  | recirc (q : BitVec 1)
  /-- STEER (R190). Stage sends selected beads out through PX. -/
  | steer (q : BitVec 1)
  /-- MERGE (R192). Stage merges the previous stage's stream and PB. -/
  | merge
  /-- REORD (R193). Stage restores sequence-tag order. -/
  | reord
  /-- GEN (R196). Stage emits A copies of each bound bead with stepped values. -/
  | gen (d a b : BitVec 2) (s : BitVec 3) (i : BitVec 12)
  /-- SEQTAG (R195). Stage re-tags beads from its counter and consumes ghosts. -/
  | seqtag
  /-- ISECT (R197). Stage joins the primary stream with PB by f0. -/
  | isect (d b : BitVec 2)
  /-- SPLD (R198). Stage scratchpad load per acting lane. -/
  | spld (d a b : BitVec 2) (c : BitVec 4) (z : BitVec 2) (o : BitVec 10)
  /-- SPST (R198). Stage scratchpad store per acting lane. -/
  | spst (d a b : BitVec 2) (c : BitVec 4) (z : BitVec 2) (o : BitVec 10)
  /-- SPAMO (R198). Stage indivisible scratchpad atomic per acting lane. -/
  | spamo (d a b : BitVec 2) (c : BitVec 4) (k : BitVec 3) (o : BitVec 9)
  /-- SPFILL (R198). Stage scratchpad store that then sets FULL on the line. -/
  | spfill (d a b : BitVec 2) (c : BitVec 4) (z : BitVec 2) (o : BitVec 10)
  /-- SPMARK (R198). Stage sets FULL of a line to IMM[0]. -/
  | spmark (d a b : BitVec 2) (c : BitVec 4) (f : BitVec 1)
  /-- MLD (R199). Stage translated-memory load through the memory port, optionally in KV mode. -/
  | mld (d a : BitVec 2) (c : BitVec 4) (z : BitVec 2) (e : BitVec 4) (n : BitVec 3) (v : BitVec 1)
  /-- MST (R199). Stage translated-memory store. -/
  | mst (d a : BitVec 2) (c : BitVec 4) (z : BitVec 2) (e : BitVec 4) (n : BitVec 3)
  /-- MGATH (R199). Stage 16-byte gather into f0-f3. -/
  | mgath (a : BitVec 2) (c e : BitVec 4) (n : BitVec 3)
  /-- MSCAT (R199). Stage 16-byte scatter of f0-f3. -/
  | mscat (a : BitVec 2) (c e : BitVec 4) (n : BitVec 3)
  /-- SBARS (R203). Stage holds each vector until named streams' earlier accesses are visible. -/
  | sbars (h s : BitVec 4) (l : BitVec 12)
  /-- TRSWAP (R241). Stage sends a swap token after every E-th vector. -/
  | trswap (e m : BitVec 6)
  /-- TRLOAD (R241). Stage writes into a later stage's loading tile register. -/
  | trload (a b : BitVec 2) (s : BitVec 3) (p : BitVec 2) (q : BitVec 1) (d : BitVec 3)
  /-- TRMV (R241). Stage reads four words of a tile register row into f0-f3. -/
  | trmv (p : BitVec 2) (l : BitVec 1) (q : BitVec 2)
  /-- PKOUT (R241). Stage packs vectors into a tile packet. -/
  | pkout (a : BitVec 2) (h : BitVec 1)
  /-- PKIN (R241). Stage turns packet beats into bead vectors. -/
  | pkin (h : BitVec 1)
  /-- TMERGE (R242). Stage merges (m, l, acc) triples with PB partners. -/
  | tmerge
  /-- B4DEC (R243). Stage decodes a TB4 block to 32 FP32 values. -/
  | b4dec (d a : BitVec 2)
  /-- SOFTACC (R244). Stage accumulates into a word of the active tile register. -/
  | softacc (d a b : BitVec 2) (s : BitVec 3) (c : BitVec 4) (n : BitVec 1) (m : BitVec 3)
  /-- SINK (R204). Stage passes vectors to a sink, drops ghosts and completes at end-of-stream. -/
  | sink
  /-- TOKEN (R205). Stage passes vectors and sends count, end-of-stream or swap tokens. -/
  | token (k : BitVec 2)
  /-- BLOCK_FETCH (R61). Fetches a block's words, checks header and words, and makes its instructions ready. -/
  | blockFetch (slot : Nat)
  /-- READ_DELIVER (R136). A load's access returns, possibly after waiting for FULL, and its value reaches its targets. -/
  | readDeliver (slot idx : Nat)
  /-- BLOCK_COMMIT (R75). A block with one fired exit and nothing able to fire completes and commits in five steps. -/
  | blockCommit (slot : Nat)
  /-- BUFFERED_WRITE_RESUME (R140). A buffered write stalled on WB or HELD is performed and commit continues. -/
  | bufferedWriteResume (slot : Nat)
  /-- BLOCK_HANG (R74). 2^24 cycles pass from fetch without completion and the block faults. -/
  | blockHang (slot : Nat)
  /-- WAIT_PHASE_REACHED (R285). A waiting WAIT completes when its point's PHASE reaches the named phase. -/
  | waitPhaseReached (slot : Nat)
  /-- AWAIT_COMPLETE (R298). A waiting AWAIT is re-evaluated on a change of its entry or producer and completes or faults. -/
  | awaitComplete (slot : Nat)
  /-- PJOIN_COMPLETE (R251). The joined transfers and KV operations complete and PJOIN reports their faults. -/
  | pjoinComplete (slot : Nat)
  /-- MXJOIN_COMPLETE (R238). The joined matrix armings complete and MXJOIN reports their faults. -/
  | mxjoinComplete (slot : Nat)
  /-- TASK_RETIRE (R289). A task's exit join completes and the task retires, releasing its accesses. -/
  | taskRetire (slot : Nat)
  /-- YIELD_REQUEUE (R113). A yield join completes, the record is rewritten and pushed to its queue. -/
  | yieldRequeue (slot : Nat)
  /-- TASK_POP (R267). An idle slot selects, reads, checks and binds a record or restores a checkpoint image. -/
  | taskPop (slot : Nat)
  /-- GANG_PLACE (R279). A queued gang is placed whole once every bay of its rectangle has an idle slot. -/
  | gangPlace (die : Nat)
  /-- PREEMPT_CONSIDER (R291). Every 4096 cycles of a waiting newcomer, the scheduler picks a candidate to drain, checkpoint or kill. -/
  | preemptConsider (die : Nat)
  /-- CHECKPOINT_COMPLETE (R363). A task's save image is written, its slot freed and the image pushed in class 3. -/
  | checkpointComplete (slot : Nat)
  /-- LAUNCH_OPEN (R272). A launch whose predecessors are done opens: checks, groups, keys, records and releases. -/
  | launchOpen (launch : Nat)
  /-- HELD_TASK_RELEASE (R273). A held task or gang is pushed when its last input key becomes ready. -/
  | heldTaskRelease (unit : Nat)
  /-- LAUNCH_FINISH (R274). A started launch with all records released and retired finishes and lowers successor counts. -/
  | launchFinish (launch : Nat)
  /-- TRIGGER_REGISTER_WRITE (R277). A write of the trigger register is refused, busy or accepted with its patch list. -/
  | triggerRegisterWrite (value : BitVec 64)
  /-- GRAPH_RUN_START (R277). An accepted trigger's run starts once no overlapping run is in progress: patches, counts, openings. -/
  | graphRunStart (run : Nat)
  /-- SPRUE_TRIGGER (R391). The control node's TRIGGER command acts as a trigger register write. -/
  | sprueTrigger (value : BitVec 64)
  /-- DISPATCH_STOP (R391). The control node stops dispatch in a bay, die or the package. -/
  | dispatchStop (scope : BitVec 2) (unit : Nat)
  /-- DISPATCH_GO (R391). The control node resumes dispatch in a scope. -/
  | dispatchGo (scope : BitVec 2) (unit : Nat)
  /-- ATTEST (R394). Returns a signed attestation report over firmware, boot log, capabilities and a nonce. -/
  | attest (nonce : BitVec 64)
  /-- TELEMETRY (R391). Returns power, thermal and counter readings. -/
  | telemetry (sensor : Nat)
  /-- LOGREAD (R391). Returns the boot log. -/
  | logread
  /-- LOGCLEAR (R393). Clears boot-log entries for named units so they are tried again. -/
  | logclear (kind : BitVec 8) (unit : BitVec 16)
  /-- ACCESS_READ (R391). The control node reads device memory by physical address at system scope. -/
  | accessRead (pa : BitVec 56) (size : Nat)
  /-- ACCESS_WRITE (R391). The control node writes device memory by physical address at system scope. -/
  | accessWrite (pa : BitVec 56) (size : Nat) (data : BitVec 64)
  /-- SPECIAL_REGISTER_WRITE (R108). A write to a register with no row of its own takes effect as its table gives. -/
  | specialRegisterWrite (slot : Nat)
  /-- MOULD_LOAD_DONE (R215). A mould image load finishes its checks and configures the footprint, or marks the entry failed. -/
  | mouldLoadDone (die entry : Nat)
  /-- MOULD_COMPLETE (R204). Every SINK stage of a mould is complete and no bead is in flight. -/
  | mouldComplete (die entry : Nat)
  /-- STAGE_ACCESS_COMPLETE (R201). A stage memory access returns or fails, releasing or absorbing its bead. -/
  | stageAccessComplete (access : Nat)
  /-- TOKEN_ARRIVE (R205). A token reaches a pipeline's TK port and enters s0 as a token bead. -/
  | tokenArrive (die entry pipe : Nat)
  /-- QUANTUM_EXPIRY (R290). A mould's quantum ends and the region scheduler checkpoints it and resumes the next. -/
  | quantumExpiry (die entry : Nat)
  /-- MXCFG_ARM (R225). A waiting MXCFG arms its entry once free and within the configuration-number window. -/
  | mxcfgArm (slot : Nat)
  /-- PASS_START (R230). A matrix pass starts when its operands are full and earlier overlapping entries are done, holding its lines. -/
  | passStart (bay entry : Nat)
  /-- OPERAND_RELEASE (R232). A pass's last read of a tile releases its lines, emptying consumed ones. -/
  | operandRelease (bay entry pass : Nat)
  /-- PASS_ACCUMULATE (R231). A pass's results reach its accumulator slots; a keep-mode entry completes after its last pass. -/
  | passAccumulate (bay entry pass : Nat)
  /-- WRITE_OUT (R231). After the last pass a write entry writes D, marks it full and stamps its key. -/
  | writeOut (bay entry : Nat)
  /-- LADLE_TRANSFER_START (R249). A channel starts a queued transfer and checks its template. -/
  | ladleTransferStart (bay chan : Nat)
  /-- DECOMP_BLOCK (R258). The decoder decodes and checks one compressed block. -/
  | decompBlock (bay chan : Nat)
  /-- LADLE_TRANSFER_COMPLETE (R254). A transfer's writes are performed and MARKFULL, TOKEN and STAMP are taken. -/
  | ladleTransferComplete (bay chan : Nat)
  /-- LADLE_DOORBELL_WRITE (R256). A doorbell write through the aperture starts a detached transfer of context 0. -/
  | ladleDoorbellWrite (bay chan : Nat) (data : BitVec 64)
  /-- REMOTE_HALLMARK_QUERY (R300). A remote await or test arrives at the owning device and is evaluated there. -/
  | remoteHallmarkQuery (chip : BitVec 18) (key sel : BitVec 64)
  /-- REMOTE_HALLMARK_REPORT (R300). The owning device's report reaches the issuer and completes or faults its AWAIT or HMTEST. -/
  | remoteHallmarkReport (slot idx : Nat) (answer : BitVec 64)
  /-- SPLICE_RUN (R332). A splice whose turn has come checks, reserves and writes each layer's new row, then LEN. -/
  | spliceRun (op : Nat)
  /-- SPLICE_ABSENT_TIMEOUT (R331). A splice or repair waiting 2^20 cycles on an absent block faults with KV_ABSENT. -/
  | spliceAbsentTimeout (op : Nat)
  /-- REPAIR_START (R336). A repair whose turn has come reads its records, lists candidates and pushes its first task. -/
  | repairStart (op : Nat)
  /-- REPAIR_TASK_RETIRED (R340). A probe or repair task retires and the engine classifies, advances the frontier or pushes the next task. -/
  | repairTaskRetired (op : Nat)
  /-- CRUCIBLE_BLOCK (R343). A crucible processes one KV block into its per-head state, or defers it. -/
  | crucibleBlock (op blk crucible : Nat)
  /-- KATT_REVISIT (R344). A KATT revisits a deferred or absent block and processes or keeps deferring it. -/
  | kattRevisit (op blk crucible : Nat)
  /-- KATT_ABSENT_TIMEOUT (R344). A block still absent or deferred 2^20 cycles after first skip raises KV_ABSENT. -/
  | kattAbsentTimeout (op blk : Nat)
  /-- KATT_COMPLETE (R345). A KATT writes its partials, header, MARKFULL and token. -/
  | kattComplete (op : Nat)
  /-- WATCHDOG_FIRE (R369). A task's watchdog or lifetime count expires; it is checkpointed or frozen and WATCHDOG is queued. -/
  | watchdogFire (slot : Nat)
  /-- SLOTCTL_THAW (R370). Resumes a frozen task with its watchdog count reset. -/
  | slotctlThaw (slot : Nat)
  /-- SLOTCTL_KILL (R370). Retires a frozen task. -/
  | slotctlKill (slot : Nat)
  /-- SLOTCTL_REQUEUE (R370). Pushes a held save image in class 3. -/
  | slotctlRequeue (slot : Nat)
  /-- CTXSW_SAVE (R366). Starts saving every task, mould, entry and transfer of a context to the save area. -/
  | ctxswSave (slot : Nat)
  /-- CTXSW_RESTORE (R366). Starts restoring a context from its save area. -/
  | ctxswRestore (slot : Nat)
  /-- CTXSW_COMPLETE (R367). A context save or restore finishes and BUSY clears, ERR set on failure. -/
  | ctxswComplete
  /-- TRACECTL_FREEZE (R374). Writing FROZEN 1 freezes the bay's trace buffer. -/
  | tracectlFreeze (slot : Nat)
  /-- TRACECTL_THAW (R374). Writing FROZEN 0 resumes trace recording. -/
  | tracectlThaw (slot : Nat)
  /-- TRACE_POST_FREEZE (R374). POST records after the trigger have been written and the trace freezes. -/
  | tracePostFreeze (bay : Nat)
  /-- SCRUB (R371). The scrubber reads an array, repairs correctable errors and poisons uncorrectable granules. -/
  | scrub (kind addr : Nat) (correctable : Bool)
  /-- PAGE_WALK (R380). A TLB miss walks three levels and installs a translation or faults. -/
  | pageWalk (bay : Nat) (va : BitVec 64)
  /-- LINE_FILL (R384). A slice miss fills a line from its home stack, host or peer and counts traffic. -/
  | lineFill (die line victim : Nat)
  /-- SLICE_RETRY (R165). A slice answers a stale-generation request with retry and the requester reissues it. -/
  | sliceRetry (die request : Nat)
  /-- SLICE_LEAVE_SERVICE (R164). A slice is flushed, its capability bit cleared and the slice map generation advanced. -/
  | sliceLeaveService (die slice : Nat)
  /-- SHOOTDOWN_COMPLETE (R123). A TLBOP's removal and dependent accesses are done and the block's exit may proceed. -/
  | shootdownComplete (slot : Nat)
  /-- BLOCK_INVALIDATE_COMPLETE (R122). A CACHEOP's invalidation is complete everywhere and the exit proceeds. -/
  | blockInvalidateComplete (slot : Nat)
  /-- WB_REWALK (R386). A write waiting on WB walks its entry again every 4096 cycles or when WB clears. -/
  | wbRewalk (slot : Nat)
  /-- MIGRATION_COPY_DONE (R387). The ladle copy of a migrating page ends and its leaves are switched to the new frame. -/
  | migrationCopyDone (op : Nat)
  /-- MIGRATION_FINISH (R387). After the second shootdown WB is cleared and waiting writes walk again. -/
  | migrationFinish (op : Nat)
  /-- PEER_ACCESS_IN (R389). An incoming peer access is translated through the peer window and performed or answered LINK_FAULT. data: what it
  writes or an atomic's operand, and the value a CAS64 compares with. -/
  | peerAccessIn (chip : BitVec 18) (kind : BitVec 4) (offset : BitVec 32) (size : Nat) (data : BitVec 64 × BitVec 64)
  /-- LINK_RETRANSMIT (R390). A flit whose check fails is retransmitted. -/
  | linkRetransmit (link : Nat)
  /-- LINK_OUT_OF_SERVICE (R390). A persistently failing link is taken out of service and its traffic moved. -/
  | linkOutOfService (link : Nat)
  /-- LINK_PATH_TIMEOUT (R390). An access with no path for 10 ms fails with LINK_FAULT; index 255 is the fetch of
  the slot's block. -/
  | linkPathTimeout (slot idx : Nat)
  /-- EDGE_FAILURE (R9). An abutted edge fails; paths reroute or unreachable dies are treated as failed. -/
  | edgeFailure (edge : Nat)
  /-- PART_FAILURE (R397). A bay, die or stack fails and its queues, tasks and operations are recovered. -/
  | partFailure (kind : BitVec 8) (unit : Nat)
  /-- POWER_THROTTLE (R395). The power manager grants or withholds current tokens, lowering rates only. -/
  | powerThrottle (island : Nat) (limit : BitVec 16)
  /-- START_CONTROLLER (R392). The Esgead controller starts from ROM, checks firmware and brings up the sprue port. -/
  | startController (primary alternate : Bool) (chip host : BitVec 18)
  /-- DIE_OPEN (R392). A die passes logic test and stack training, is opened and its capability registers set. -/
  | dieOpen (die : Nat) (bays tiles : BitVec 32) (slices : BitVec 64) (low high : BitVec 20) (banks pages : List Nat)
  /-- EDGE_TRAINING (R392). The abutment edges are trained, by alternate method or mapped out. -/
  | edgeTraining (edge : Nat) (outcome : BitVec 2)
  /-- LINK_TRAINING (R392). The runner links are trained or mapped out. -/
  | linkTraining (link : Nat) (outcome : BitVec 2)
  /-- FENCE_SC_COMPLETE (R160). An sc FENCE, issued in commit step 3, completes: it takes its place in the total order, its issuer's earlier writes are visible on every die of its scope, and the block's exit may proceed. -/
  | fenceScComplete (slot : Nat)
  /-- WRITE_VISIBLE_ON_DIE (R156). A performed write becomes visible to every party of one die, at that die's own moment and in coherence order. -/
  | writeVisibleOnDie (write die : Nat)
  deriving DecidableEq, Repr

end Sys2Proof
end

