-- ==== Sys2Proof/WellFormed.lean ====
section
/-! DEFINITION. Which terms of Instr are instructions: the checks that a word answers for by itself.
For a sequencer word, the rows of the table of 05 R68 that need no other word of the block (the form of the targets, the
specifiers of unused slots, the register groups, the scopes and the zero fields). For a stage word, the checks of 11 R177
and of its entry. For an event, that its operands name parts the package has (01 R23). Where one word serves two rows
(MSTOP, POUR, CACHEOP, TLBOP, TRACE, HALT), the R specifier says which row the word is filed under: log entry 6. -/

namespace Sys2Proof

/-- 05 R68: PM 11 is ILLEGAL_FORM. -/
def pmOk (p : BitVec 2) : Bool := p != 3#2
/-- 05 R66: a target value names a slot, a register, or none (0x1C0). -/
def targetOk (t : BitVec 9) : Bool := t.toNat < 0x1C1
/-- 05 R66, R71: a register, or none. -/
def regTargetOk (t : BitVec 9) : Bool := 0x180 ≤ t.toNat && t.toNat < 0x1C1
/-- 05 R67: a group target is s1 to s60, or none. -/
def groupTargetOk (t : BitVec 9) : Bool := t == 0x1C0#9 || (0x181 ≤ t.toNat && t.toNat ≤ 0x1BC)
/-- 05 R67: a group operand starts at s0 to s60. -/
def groupSpecOk (l : BitVec 7) : Bool := l.toNat ≤ 60
/-- 05 R64: the specifier of an unused slot is 0x00 or 0x60. -/
def unusedOk (r : BitVec 7) : Bool := r == 0#7 || r == 0x60#7
/-- 05 R65, R68: an A-format scope is 0 to 4. -/
def scopeOk (s : BitVec 3) : Bool := s.toNat ≤ 4
/-- 05 R64: the specifier is an immediate. -/
def isImm (r : BitVec 7) : Bool := 0x41 ≤ r.toNat
/-- 11 R177: BSEL 101 to 111 are invalid, and SRCB, which only BSEL 000 and 011 use, is zero under the others. -/
def bselOk (b : BitVec 2) (s : BitVec 3) : Bool := s.toNat ≤ 4 && (b == 0#2 || s == 0#3 || s == 3#3)
/-- 11 R187: the formats CVT may name. -/
def cvtFormatOk (x : BitVec 4) : Bool := x.toNat ≤ 4 || (8 ≤ x.toNat && x.toNat ≤ 10)
/-- 09 R129: an access is 1, 2, 4 or 8 bytes. -/
def sizeOk (n : Nat) : Bool := n == 1 || n == 2 || n == 4 || n == 8

/-- The term is an instruction the part has. -/
def Instr.wf : Instr → Bool
  | .add p t _ _ => pmOk p && targetOk t
  | .sub p t _ _ => pmOk p && targetOk t
  | .mul p t _ _ => pmOk p && targetOk t
  | .mulh p t _ _ => pmOk p && targetOk t
  | .mulhu p t _ _ => pmOk p && targetOk t
  | .div p t _ _ => pmOk p && targetOk t
  | .divu p t _ _ => pmOk p && targetOk t
  | .rem p t _ _ => pmOk p && targetOk t
  | .remu p t _ _ => pmOk p && targetOk t
  | .and p t _ _ => pmOk p && targetOk t
  | .or p t _ _ => pmOk p && targetOk t
  | .xor p t _ _ => pmOk p && targetOk t
  | .andn p t _ _ => pmOk p && targetOk t
  | .shl p t _ _ => pmOk p && targetOk t
  | .shr p t _ _ => pmOk p && targetOk t
  | .sar p t _ _ => pmOk p && targetOk t
  | .rotl p t _ _ => pmOk p && targetOk t
  | .min p t _ _ => pmOk p && targetOk t
  | .max p t _ _ => pmOk p && targetOk t
  | .minu p t _ _ => pmOk p && targetOk t
  | .maxu p t _ _ => pmOk p && targetOk t
  | .shadd1 t _ _ => targetOk t
  | .shadd2 t _ _ => targetOk t
  | .shadd3 t _ _ => targetOk t
  | .shadd4 t _ _ => targetOk t
  | .clz p t _ r => pmOk p && targetOk t && unusedOk r
  | .ctz p t _ r => pmOk p && targetOk t && unusedOk r
  | .popc p t _ r => pmOk p && targetOk t && unusedOk r
  | .sext p t _ _ => pmOk p && targetOk t
  | .zext p t _ _ => pmOk p && targetOk t
  | .addw p t _ _ => pmOk p && targetOk t
  | .ceq p t _ _ => pmOk p && targetOk t
  | .cne p t _ _ => pmOk p && targetOk t
  | .clt p t _ _ => pmOk p && targetOk t
  | .cltu p t _ _ => pmOk p && targetOk t
  | .cle p t _ _ => pmOk p && targetOk t
  | .cleu p t _ _ => pmOk p && targetOk t
  | .tz p t _ r => pmOk p && targetOk t && unusedOk r
  | .tnz p t _ r => pmOk p && targetOk t && unusedOk r
  | .sel t _ _ => targetOk t
  | .not p t _ r => pmOk p && targetOk t && unusedOk r
  | .const p t _ => pmOk p && targetOk t
  | .constx p t _ => pmOk p && targetOk t
  | .mov p t _ r => pmOk p && targetOk t && unusedOk r
  | .fan p t u => pmOk p && targetOk t && targetOk u
  | .srrd p t _ => pmOk p && targetOk t
  | .srwr p t _ => pmOk p && regTargetOk t
  | .bri p _ => pmOk p
  | .br p _ r => pmOk p && unusedOk r
  | .calli p _ => pmOk p
  | .call p _ r => pmOk p && unusedOk r
  | .exit p l r => pmOk p && unusedOk l && unusedOk r
  | .yield p l r => pmOk p && unusedOk l && unusedOk r
  | .trap p _ => pmOk p
  | .eret p l r => pmOk p && unusedOk l && unusedOk r
  | .fadd p t _ _ => pmOk p && targetOk t
  | .fsub p t _ _ => pmOk p && targetOk t
  | .fmul p t _ _ => pmOk p && targetOk t
  | .fdiv p t _ _ => pmOk p && targetOk t
  | .fmin p t _ _ => pmOk p && targetOk t
  | .fmax p t _ _ => pmOk p && targetOk t
  | .fclt p t _ _ => pmOk p && targetOk t
  | .fceq p t _ _ => pmOk p && targetOk t
  | .fcle p t _ _ => pmOk p && targetOk t
  | .cvtif p t _ r => pmOk p && targetOk t && unusedOk r
  | .cvtfi p t _ r => pmOk p && targetOk t && unusedOk r
  | .fsqrt p t _ r => pmOk p && targetOk t && unusedOk r
  | .ld8 p t _ _ => pmOk p && targetOk t
  | .ld8s p t _ _ => pmOk p && targetOk t
  | .ld16 p t _ _ => pmOk p && targetOk t
  | .ld16s p t _ _ => pmOk p && targetOk t
  | .ld32 p t _ _ => pmOk p && targetOk t
  | .ld32s p t _ _ => pmOk p && targetOk t
  | .ld64 p t _ _ => pmOk p && targetOk t
  | .ldaq p t _ s _ _ => pmOk p && targetOk t && scopeOk s
  | .st8 p _ _ _ => pmOk p
  | .st16 p _ _ _ => pmOk p
  | .st32 p _ _ _ => pmOk p
  | .st64 p _ _ _ => pmOk p
  | .strl p _ s _ => pmOk p && scopeOk s
  | .amo64 p t _ s _ o => pmOk p && regTargetOk t && scopeOk s && (o != 7#3)
  | .amo32 p t _ s _ _ => pmOk p && regTargetOk t && scopeOk s
  | .cas64 t _ s _ => regTargetOk t && scopeOk s
  | .fence p l s e _ => pmOk p && unusedOk l && (e != 0#2) && scopeOk s
  | .sbar p _ => pmOk p
  | .pref p _ _ => pmOk p
  | .spawn p t _ r => pmOk p && regTargetOk t && unusedOk r
  | .joindec p t _ _ => pmOk p && regTargetOk t
  | .gang p t l r => pmOk p && regTargetOk t && groupSpecOk l && unusedOk r
  | .rvinit p t _ _ => pmOk p && regTargetOk t
  | .arrive p t _ r => pmOk p && regTargetOk t && unusedOk r
  | .wait p _ _ => pmOk p
  | .est p t _ _ => pmOk p && regTargetOk t
  | .progress p t l r => pmOk p && regTargetOk t && unusedOk l && unusedOk r
  | .graphgo p t _ _ => pmOk p && regTargetOk t
  | .mload p t _ _ => pmOk p && regTargetOk t
  | .mstart p t _ _ => pmOk p && regTargetOk t
  | .mstopDrain p t _ r => pmOk p && regTargetOk t && (r != 0x61#7)
  | .mstopAbort p t _ r => pmOk p && regTargetOk t && (r = 0x61#7)
  | .inject p t l _ => pmOk p && regTargetOk t && groupSpecOk l
  | .collect p t _ _ => pmOk p && groupTargetOk t
  | .pourLoadt p t _ r => pmOk p && regTargetOk t && !isImm r
  | .pourStart p t _ r => pmOk p && regTargetOk t && isImm r
  | .pjoin p _ r => pmOk p && unusedOk r
  | .mxcfg p t l _ => pmOk p && regTargetOk t && groupSpecOk l
  | .mxjoin p _ r => pmOk p && unusedOk r
  | .spalloc p t _ _ => pmOk p && regTargetOk t
  | .spfree p t _ r => pmOk p && regTargetOk t && unusedOk r
  | .hmdecl p t _ r => pmOk p && regTargetOk t && unusedOk r
  | .stamp p t _ _ => pmOk p && regTargetOk t
  | .await p _ _ => pmOk p
  | .hmtest p t _ _ => pmOk p && targetOk t
  | .hmretire p t _ r => pmOk p && regTargetOk t && unusedOk r
  | .kvmap p t _ _ => pmOk p && regTargetOk t
  | .kvfork p t _ _ => pmOk p && regTargetOk t
  | .kvappend p t _ _ => pmOk p && regTargetOk t
  | .kvfree p t _ r => pmOk p && regTargetOk t && unusedOk r
  | .pfxh p t _ _ => pmOk p && targetOk t
  | .pfxlook p t _ r => pmOk p && regTargetOk t && unusedOk r
  | .pfxins p t _ _ => pmOk p && regTargetOk t
  | .splice p t l _ => pmOk p && regTargetOk t && groupSpecOk l
  | .repair p t l _ => pmOk p && regTargetOk t && groupSpecOk l
  | .katt p t l _ => pmOk p && regTargetOk t && groupSpecOk l
  | .cacheopBinv p t _ r => pmOk p && regTargetOk t && (r != 0x61#7)
  | .cacheopBinvdie p t _ r => pmOk p && regTargetOk t && (r = 0x61#7)
  | .tlbopPage p t _ r => pmOk p && regTargetOk t && (r != 0x61#7)
  | .tlbopAll p t _ r => pmOk p && regTargetOk t && (r = 0x61#7)
  | .traceMark p t _ r => pmOk p && regTargetOk t && (r != 0x61#7 && r != 0x62#7)
  | .traceFreeze p t _ r => pmOk p && regTargetOk t && (r = 0x61#7)
  | .traceThaw p t _ r => pmOk p && regTargetOk t && (r = 0x62#7)
  | .migrate p t _ _ => pmOk p && regTargetOk t
  | .haltStop p t _ r => pmOk p && regTargetOk t && (r != 0x61#7)
  | .haltGo p t _ r => pmOk p && regTargetOk t && (r = 0x61#7)
  | .pass _ => true
  | .iadd _ _ b s _ => bselOk b s
  | .isub _ _ b s _ => bselOk b s
  | .imul _ _ b s _ => bselOk b s
  | .imulh _ _ b s _ _ => bselOk b s
  | .iand _ _ b s _ => bselOk b s
  | .ior _ _ b s _ => bselOk b s
  | .ixor _ _ b s _ => bselOk b s
  | .ishl _ _ b s _ => bselOk b s
  | .ishr _ _ b s _ => bselOk b s
  | .isar _ _ b s _ => bselOk b s
  | .imin _ _ b s _ => bselOk b s
  | .imax _ _ b s _ => bselOk b s
  | .iminu _ _ b s _ => bselOk b s
  | .imaxu _ _ b s _ => bselOk b s
  | .icmp _ _ b s _ _ => bselOk b s
  | .ihash _ _ b s _ => bselOk b s
  | .isel _ _ b s _ => (bselOk b s && s != 4#3)
  | .ipopc _ _ _ => true
  | .stageFadd _ _ b s _ m => bselOk b s && (m.toNat ≤ 3)
  | .stageFsub _ _ b s _ m => bselOk b s && (m.toNat ≤ 3)
  | .stageFmul _ _ b s _ m => bselOk b s && (m.toNat ≤ 3)
  | .ffma _ _ b s _ m => bselOk b s && (m.toNat ≤ 3)
  | .stageFmin _ _ b s _ => bselOk b s
  | .stageFmax _ _ b s _ => bselOk b s
  | .fcmp _ _ b s _ _ => bselOk b s
  | .fexp2 _ _ _ => true
  | .frcp _ _ _ => true
  | .frsq _ _ _ => true
  | .cvt _ _ _ _ x y m => (m.toNat ≤ 4 && cvtFormatOk x && cvtFormatOk y)
  | .cvtb4 _ _ _ m s => (s != 3#2 && (m == 0#3 || m == 4#3))
  | .fabsn _ _ b s _ m => (m == 3#2 || (b == 0#2 && s == 0#3)) && bselOk b s
  | .lshuf _ _ b s => bselOk b s
  | .lbcast _ _ _ => true
  | .lscan _ _ m o => (o.toNat ≤ 10 && (if o == 8#4 then m.toNat ≤ 3 else m == 0#3))
  | .lred _ _ m o => (o.toNat ≤ 10 && (if o == 8#4 then m.toNat ≤ 3 else m == 0#3))
  | .lcompact => true
  | .filter _ => true
  -- 11 R190: FORK reads SRCA for the row word of BSEL 010 alone
  | .fork _ a b s _ => bselOk b s && (a == 0#2 || s == 2#3)
  | .recirc _ => true
  | .steer _ => true
  | .merge => true
  | .reord => true
  | .gen _ _ b s _ => bselOk b s
  | .seqtag => true
  | .isect _ _ => true
  | .spld _ _ _ _ z _ => (z != 3#2)
  | .spst _ _ _ _ z _ => (z != 3#2)
  | .spamo _ _ _ _ _ _ => true
  | .spfill _ _ _ _ z _ => (z != 3#2)
  | .spmark _ _ _ _ _ => true
  | .mld _ _ _ z _ _ _ => (z != 3#2)
  | .mst _ _ _ z _ _ => (z != 3#2)
  | .mgath _ _ _ _ => true
  | .mscat _ _ _ _ => true
  | .sbars _ _ _ => true
  | .trswap _ m => (m != 0#6)
  | .trload a b s _ q d => bselOk b s && (1 ≤ d.toNat && d.toNat ≤ 5 && (q == 0#1 || a == 0#2 || s == 2#3))
  | .trmv _ _ _ => true
  | .pkout a h => (h == 1#1 || a == 0#2)
  | .pkin _ => true
  | .tmerge => true
  | .b4dec _ _ => true
  | .softacc _ _ b s _ n m => bselOk b s && (if n == 1#1 then m == 0#3 else m.toNat ≤ 3)
  | .sink => true
  | .token k => (k != 3#2)
  | .blockFetch slot => (slot < 1024)
  | .readDeliver slot idx => (slot < 1024) && (idx < 128)
  | .blockCommit slot => (slot < 1024)
  | .bufferedWriteResume slot => (slot < 1024)
  | .blockHang slot => (slot < 1024)
  | .waitPhaseReached slot => (slot < 1024)
  | .awaitComplete slot => (slot < 1024)
  | .pjoinComplete slot => (slot < 1024)
  | .mxjoinComplete slot => (slot < 1024)
  | .taskRetire slot => (slot < 1024)
  | .yieldRequeue slot => (slot < 1024)
  | .taskPop slot => (slot < 1024)
  | .gangPlace die => (die < 4)
  | .preemptConsider die => (die < 4)
  | .checkpointComplete slot => (slot < 1024)
  | .launchOpen launch => (launch < 4096)
  | .heldTaskRelease _ => true
  | .launchFinish launch => (launch < 4096)
  | .triggerRegisterWrite _ => true
  | .graphRunStart _ => true
  | .sprueTrigger _ => true
  | .dispatchStop scope _ => (scope != 0#2)
  | .dispatchGo scope _ => (scope != 0#2)
  | .attest _ => true
  | .telemetry _ => true
  | .logread => true
  | .logclear _ _ => true
  | .accessRead _ size => sizeOk size
  | .accessWrite _ size _ => sizeOk size
  | .specialRegisterWrite slot => (slot < 1024)
  | .mouldLoadDone die entry => (die < 4) && (entry < 64)
  | .mouldComplete die entry => (die < 4) && (entry < 64)
  | .stageAccessComplete _ => true
  | .tokenArrive die entry pipe => (die < 4) && (entry < 64) && (pipe < 832)
  | .quantumExpiry die entry => (die < 4) && (entry < 64)
  | .mxcfgArm slot => (slot < 1024)
  | .passStart bay entry => (bay < 128) && (entry < 16)
  | .operandRelease bay entry _ => (bay < 128) && (entry < 16)
  | .passAccumulate bay entry _ => (bay < 128) && (entry < 16)
  | .writeOut bay entry => (bay < 128) && (entry < 16)
  | .ladleTransferStart bay chan => (bay < 128) && (chan < 8)
  | .decompBlock bay chan => (bay < 128) && (chan < 8)
  | .ladleTransferComplete bay chan => (bay < 128) && (chan < 8)
  | .ladleDoorbellWrite bay chan _ => (bay < 128) && (chan < 8)
  | .remoteHallmarkQuery _ _ _ => true
  | .remoteHallmarkReport slot idx _ => (slot < 1024) && (idx < 128)
  | .spliceRun _ => true
  | .spliceAbsentTimeout _ => true
  | .repairStart _ => true
  | .repairTaskRetired _ => true
  | .crucibleBlock _ _ crucible => (crucible < 128)
  | .kattRevisit _ _ crucible => (crucible < 128)
  | .kattAbsentTimeout _ _ => true
  | .kattComplete _ => true
  | .watchdogFire slot => (slot < 1024)
  | .slotctlThaw slot => (slot < 1024)
  | .slotctlKill slot => (slot < 1024)
  | .slotctlRequeue slot => (slot < 1024)
  | .ctxswSave slot => (slot < 1024)
  | .ctxswRestore slot => (slot < 1024)
  | .ctxswComplete => true
  | .tracectlFreeze slot => (slot < 1024)
  | .tracectlThaw slot => (slot < 1024)
  | .tracePostFreeze bay => (bay < 128)
  | .scrub _ _ _ => true
  | .pageWalk bay _ => (bay < 128)
  | .lineFill die _ _ => (die < 4)
  | .sliceRetry die _ => (die < 4)
  | .sliceLeaveService die slice => (die < 4) && (slice < 64)
  | .shootdownComplete slot => (slot < 1024)
  | .blockInvalidateComplete slot => (slot < 1024)
  | .wbRewalk slot => (slot < 1024)
  | .migrationCopyDone _ => true
  | .migrationFinish _ => true
  | .peerAccessIn _ kind _ size _ =>
    if kind.toNat < 2 then sizeOk size else if kind = 2#4 then size = 8 else 8 ≤ kind.toNat && (size = 4 || size = 8)
  | .linkRetransmit link => (link < 26)
  | .linkOutOfService link => (link < 26)
  | .linkPathTimeout slot idx => (slot < 1024) && (idx < 128 || idx == 255)
  | .edgeFailure edge => (edge < 4)
  | .partFailure _ _ => true
  | .powerThrottle island _ => (island < 1024)
  | .startController _ _ _ _ => true
  | .dieOpen die _ _ _ _ _ _ _ => (die < 4)
  | .edgeTraining edge _ => (edge < 4)
  | .linkTraining link _ => (link < 24)
  | .fenceScComplete slot => (slot < 1024)
  | .writeVisibleOnDie _ die => (die < 6 + 262144)

end Sys2Proof
end

