-- ==== Sys2Proof/Decode.lean ====
section
/-! DEFINITION. The decoders, total on any bytes, and the encoder written from the same formats (05 R63-R67, 11 R177).
decodeSeq reads a sequencer word (05 R68: what it refuses is ILLEGAL_OPCODE or ILLEGAL_FORM), decodeStage a stage operation
word (11 R177: what it refuses is MOULD_INVALID). Word-only checks stand in Instr.wf; the checks that need the whole block or
the whole mould image stand in Machine/Ops.lean and Machine/MouldImage.lean. -/

namespace Sys2Proof

/-- Why a word is no instruction. -/
inductive Reject where
  /-- 05 R68: OP is 0x00 or 0x7F. -/
  | illegalOpcode
  /-- 05 R68: any other check of the word. -/
  | illegalForm
  /-- 11 R177, 05 R85: a stage operation word that fails a check. -/
  | mouldInvalid
  /-- Fewer bytes than a word has. -/
  | truncated
  deriving DecidableEq, Repr

/-- Bits lo + n - 1 down to lo of a word (00 R1). -/
def fld (w : Word32) (lo n : Nat) : BitVec n := BitVec.ofNat n (w.toNat / 2 ^ lo)

/-- A term is accepted when it is well formed, otherwise rejected by the given name. -/
def accept (why : Reject) (i : Instr) : Except Reject Instr := if i.wf then .ok i else .error why

/-- The fixed fields of a row hold (05 R91: any departure is ILLEGAL_FORM). -/
def fixed (w : Word32) (fs : List (Nat × Nat × Nat)) : Bool :=
  fs.all fun f => w.toNat / 2 ^ f.1 % 2 ^ f.2.1 == f.2.2

/-- A sequencer instruction word (05 R63, R84). -/
def decodeSeq (w : Word32) : Except Reject Instr :=
  match w.toNat / 2 ^ 25 with
  | 0x01 => accept .illegalForm (.add (fld w 23 2) (fld w 14 9) (fld w 7 7) (fld w 0 7))
  | 0x02 => accept .illegalForm (.sub (fld w 23 2) (fld w 14 9) (fld w 7 7) (fld w 0 7))
  | 0x03 => accept .illegalForm (.mul (fld w 23 2) (fld w 14 9) (fld w 7 7) (fld w 0 7))
  | 0x04 => accept .illegalForm (.mulh (fld w 23 2) (fld w 14 9) (fld w 7 7) (fld w 0 7))
  | 0x05 => accept .illegalForm (.mulhu (fld w 23 2) (fld w 14 9) (fld w 7 7) (fld w 0 7))
  | 0x06 => accept .illegalForm (.div (fld w 23 2) (fld w 14 9) (fld w 7 7) (fld w 0 7))
  | 0x07 => accept .illegalForm (.divu (fld w 23 2) (fld w 14 9) (fld w 7 7) (fld w 0 7))
  | 0x08 => accept .illegalForm (.rem (fld w 23 2) (fld w 14 9) (fld w 7 7) (fld w 0 7))
  | 0x09 => accept .illegalForm (.remu (fld w 23 2) (fld w 14 9) (fld w 7 7) (fld w 0 7))
  | 0x0A => accept .illegalForm (.and (fld w 23 2) (fld w 14 9) (fld w 7 7) (fld w 0 7))
  | 0x0B => accept .illegalForm (.or (fld w 23 2) (fld w 14 9) (fld w 7 7) (fld w 0 7))
  | 0x0C => accept .illegalForm (.xor (fld w 23 2) (fld w 14 9) (fld w 7 7) (fld w 0 7))
  | 0x0D => accept .illegalForm (.andn (fld w 23 2) (fld w 14 9) (fld w 7 7) (fld w 0 7))
  | 0x0E => accept .illegalForm (.shl (fld w 23 2) (fld w 14 9) (fld w 7 7) (fld w 0 7))
  | 0x0F => accept .illegalForm (.shr (fld w 23 2) (fld w 14 9) (fld w 7 7) (fld w 0 7))
  | 0x10 => accept .illegalForm (.sar (fld w 23 2) (fld w 14 9) (fld w 7 7) (fld w 0 7))
  | 0x11 => accept .illegalForm (.rotl (fld w 23 2) (fld w 14 9) (fld w 7 7) (fld w 0 7))
  | 0x12 => accept .illegalForm (.min (fld w 23 2) (fld w 14 9) (fld w 7 7) (fld w 0 7))
  | 0x13 => accept .illegalForm (.max (fld w 23 2) (fld w 14 9) (fld w 7 7) (fld w 0 7))
  | 0x14 => accept .illegalForm (.minu (fld w 23 2) (fld w 14 9) (fld w 7 7) (fld w 0 7))
  | 0x15 => accept .illegalForm (.maxu (fld w 23 2) (fld w 14 9) (fld w 7 7) (fld w 0 7))
  | 0x16 => if fixed w [(23, 2, 0)] then accept .illegalForm (.shadd1 (fld w 14 9) (fld w 7 7) (fld w 0 7)) else .error .illegalForm
  | 0x17 => if fixed w [(23, 2, 0)] then accept .illegalForm (.shadd2 (fld w 14 9) (fld w 7 7) (fld w 0 7)) else .error .illegalForm
  | 0x18 => if fixed w [(23, 2, 0)] then accept .illegalForm (.shadd3 (fld w 14 9) (fld w 7 7) (fld w 0 7)) else .error .illegalForm
  | 0x19 => if fixed w [(23, 2, 0)] then accept .illegalForm (.shadd4 (fld w 14 9) (fld w 7 7) (fld w 0 7)) else .error .illegalForm
  | 0x1A => accept .illegalForm (.clz (fld w 23 2) (fld w 14 9) (fld w 7 7) (fld w 0 7))
  | 0x1B => accept .illegalForm (.ctz (fld w 23 2) (fld w 14 9) (fld w 7 7) (fld w 0 7))
  | 0x1C => accept .illegalForm (.popc (fld w 23 2) (fld w 14 9) (fld w 7 7) (fld w 0 7))
  | 0x1D => accept .illegalForm (.sext (fld w 23 2) (fld w 14 9) (fld w 7 7) (fld w 0 7))
  | 0x1E => accept .illegalForm (.zext (fld w 23 2) (fld w 14 9) (fld w 7 7) (fld w 0 7))
  | 0x1F => accept .illegalForm (.addw (fld w 23 2) (fld w 14 9) (fld w 7 7) (fld w 0 7))
  | 0x20 => accept .illegalForm (.ceq (fld w 23 2) (fld w 14 9) (fld w 7 7) (fld w 0 7))
  | 0x21 => accept .illegalForm (.cne (fld w 23 2) (fld w 14 9) (fld w 7 7) (fld w 0 7))
  | 0x22 => accept .illegalForm (.clt (fld w 23 2) (fld w 14 9) (fld w 7 7) (fld w 0 7))
  | 0x23 => accept .illegalForm (.cltu (fld w 23 2) (fld w 14 9) (fld w 7 7) (fld w 0 7))
  | 0x24 => accept .illegalForm (.cle (fld w 23 2) (fld w 14 9) (fld w 7 7) (fld w 0 7))
  | 0x25 => accept .illegalForm (.cleu (fld w 23 2) (fld w 14 9) (fld w 7 7) (fld w 0 7))
  | 0x26 => accept .illegalForm (.tz (fld w 23 2) (fld w 14 9) (fld w 7 7) (fld w 0 7))
  | 0x27 => accept .illegalForm (.tnz (fld w 23 2) (fld w 14 9) (fld w 7 7) (fld w 0 7))
  | 0x28 => if fixed w [(23, 2, 0)] then accept .illegalForm (.sel (fld w 14 9) (fld w 7 7) (fld w 0 7)) else .error .illegalForm
  | 0x29 => accept .illegalForm (.not (fld w 23 2) (fld w 14 9) (fld w 7 7) (fld w 0 7))
  | 0x2A => accept .illegalForm (.const (fld w 23 2) (fld w 14 9) (fld w 0 14))
  | 0x2B => accept .illegalForm (.constx (fld w 23 2) (fld w 14 9) (fld w 0 14))
  | 0x2C => accept .illegalForm (.mov (fld w 23 2) (fld w 14 9) (fld w 7 7) (fld w 0 7))
  | 0x2D => if fixed w [(0, 5, 0)] then accept .illegalForm (.fan (fld w 23 2) (fld w 14 9) (fld w 5 9)) else .error .illegalForm
  | 0x2E => accept .illegalForm (.srrd (fld w 23 2) (fld w 14 9) (fld w 0 14))
  | 0x2F => accept .illegalForm (.srwr (fld w 23 2) (fld w 14 9) (fld w 0 14))
  | 0x30 => accept .illegalForm (.bri (fld w 23 2) (fld w 0 23))
  | 0x31 => if fixed w [(14, 9, 448)] then accept .illegalForm (.br (fld w 23 2) (fld w 7 7) (fld w 0 7)) else .error .illegalForm
  | 0x32 => accept .illegalForm (.calli (fld w 23 2) (fld w 0 23))
  | 0x33 => if fixed w [(14, 9, 448)] then accept .illegalForm (.call (fld w 23 2) (fld w 7 7) (fld w 0 7)) else .error .illegalForm
  | 0x34 => if fixed w [(14, 9, 448)] then accept .illegalForm (.exit (fld w 23 2) (fld w 7 7) (fld w 0 7)) else .error .illegalForm
  | 0x35 => if fixed w [(14, 9, 448)] then accept .illegalForm (.yield (fld w 23 2) (fld w 7 7) (fld w 0 7)) else .error .illegalForm
  | 0x36 => if fixed w [(14, 9, 448)] then accept .illegalForm (.trap (fld w 23 2) (fld w 0 14)) else .error .illegalForm
  | 0x37 => if fixed w [(14, 9, 448)] then accept .illegalForm (.eret (fld w 23 2) (fld w 7 7) (fld w 0 7)) else .error .illegalForm
  | 0x38 => accept .illegalForm (.fadd (fld w 23 2) (fld w 14 9) (fld w 7 7) (fld w 0 7))
  | 0x39 => accept .illegalForm (.fsub (fld w 23 2) (fld w 14 9) (fld w 7 7) (fld w 0 7))
  | 0x3A => accept .illegalForm (.fmul (fld w 23 2) (fld w 14 9) (fld w 7 7) (fld w 0 7))
  | 0x3B => accept .illegalForm (.fdiv (fld w 23 2) (fld w 14 9) (fld w 7 7) (fld w 0 7))
  | 0x3C => accept .illegalForm (.fmin (fld w 23 2) (fld w 14 9) (fld w 7 7) (fld w 0 7))
  | 0x3D => accept .illegalForm (.fmax (fld w 23 2) (fld w 14 9) (fld w 7 7) (fld w 0 7))
  | 0x3E => accept .illegalForm (.fclt (fld w 23 2) (fld w 14 9) (fld w 7 7) (fld w 0 7))
  | 0x3F => accept .illegalForm (.fceq (fld w 23 2) (fld w 14 9) (fld w 7 7) (fld w 0 7))
  | 0x40 => accept .illegalForm (.fcle (fld w 23 2) (fld w 14 9) (fld w 7 7) (fld w 0 7))
  | 0x41 => accept .illegalForm (.cvtif (fld w 23 2) (fld w 14 9) (fld w 7 7) (fld w 0 7))
  | 0x42 => accept .illegalForm (.cvtfi (fld w 23 2) (fld w 14 9) (fld w 7 7) (fld w 0 7))
  | 0x43 => accept .illegalForm (.fsqrt (fld w 23 2) (fld w 14 9) (fld w 7 7) (fld w 0 7))
  | 0x44 => accept .illegalForm (.ld8 (fld w 23 2) (fld w 14 9) (fld w 7 7) (fld w 0 7))
  | 0x45 => accept .illegalForm (.ld8s (fld w 23 2) (fld w 14 9) (fld w 7 7) (fld w 0 7))
  | 0x46 => accept .illegalForm (.ld16 (fld w 23 2) (fld w 14 9) (fld w 7 7) (fld w 0 7))
  | 0x47 => accept .illegalForm (.ld16s (fld w 23 2) (fld w 14 9) (fld w 7 7) (fld w 0 7))
  | 0x48 => accept .illegalForm (.ld32 (fld w 23 2) (fld w 14 9) (fld w 7 7) (fld w 0 7))
  | 0x49 => accept .illegalForm (.ld32s (fld w 23 2) (fld w 14 9) (fld w 7 7) (fld w 0 7))
  | 0x4A => accept .illegalForm (.ld64 (fld w 23 2) (fld w 14 9) (fld w 7 7) (fld w 0 7))
  | 0x4B => if fixed w [(3, 1, 0)] then accept .illegalForm (.ldaq (fld w 23 2) (fld w 14 9) (fld w 7 7) (fld w 4 3) (fld w 2 1) (fld w 0 2)) else .error .illegalForm
  | 0x4C => accept .illegalForm (.st8 (fld w 23 2) (fld w 14 9) (fld w 7 7) (fld w 0 7))
  | 0x4D => accept .illegalForm (.st16 (fld w 23 2) (fld w 14 9) (fld w 7 7) (fld w 0 7))
  | 0x4E => accept .illegalForm (.st32 (fld w 23 2) (fld w 14 9) (fld w 7 7) (fld w 0 7))
  | 0x4F => accept .illegalForm (.st64 (fld w 23 2) (fld w 14 9) (fld w 7 7) (fld w 0 7))
  | 0x50 => if fixed w [(2, 2, 0), (14, 9, 448)] then accept .illegalForm (.strl (fld w 23 2) (fld w 7 7) (fld w 4 3) (fld w 0 2)) else .error .illegalForm
  | 0x51 => accept .illegalForm (.amo64 (fld w 23 2) (fld w 14 9) (fld w 7 7) (fld w 4 3) (fld w 3 1) (fld w 0 3))
  | 0x52 => accept .illegalForm (.amo32 (fld w 23 2) (fld w 14 9) (fld w 7 7) (fld w 4 3) (fld w 3 1) (fld w 0 3))
  | 0x53 => if fixed w [(2, 2, 0), (23, 2, 0)] then accept .illegalForm (.cas64 (fld w 14 9) (fld w 7 7) (fld w 4 3) (fld w 0 2)) else .error .illegalForm
  | 0x54 => if fixed w [(14, 9, 448)] then accept .illegalForm (.fence (fld w 23 2) (fld w 7 7) (fld w 4 3) (fld w 2 2) (fld w 0 2)) else .error .illegalForm
  | 0x55 => if fixed w [(0, 7, 0), (14, 9, 448)] then accept .illegalForm (.sbar (fld w 23 2) (fld w 7 7)) else .error .illegalForm
  | 0x56 => if fixed w [(14, 9, 448)] then accept .illegalForm (.pref (fld w 23 2) (fld w 7 7) (fld w 0 7)) else .error .illegalForm
  | 0x57 => accept .illegalForm (.spawn (fld w 23 2) (fld w 14 9) (fld w 7 7) (fld w 0 7))
  | 0x58 => accept .illegalForm (.joindec (fld w 23 2) (fld w 14 9) (fld w 7 7) (fld w 0 7))
  | 0x59 => accept .illegalForm (.gang (fld w 23 2) (fld w 14 9) (fld w 7 7) (fld w 0 7))
  | 0x5A => accept .illegalForm (.rvinit (fld w 23 2) (fld w 14 9) (fld w 7 7) (fld w 0 7))
  | 0x5B => accept .illegalForm (.arrive (fld w 23 2) (fld w 14 9) (fld w 7 7) (fld w 0 7))
  | 0x5C => if fixed w [(14, 9, 448)] then accept .illegalForm (.wait (fld w 23 2) (fld w 7 7) (fld w 0 7)) else .error .illegalForm
  | 0x5D => accept .illegalForm (.est (fld w 23 2) (fld w 14 9) (fld w 7 7) (fld w 0 7))
  | 0x5E => accept .illegalForm (.progress (fld w 23 2) (fld w 14 9) (fld w 7 7) (fld w 0 7))
  | 0x5F => accept .illegalForm (.graphgo (fld w 23 2) (fld w 14 9) (fld w 7 7) (fld w 0 7))
  | 0x60 => accept .illegalForm (.mload (fld w 23 2) (fld w 14 9) (fld w 7 7) (fld w 0 7))
  | 0x61 => accept .illegalForm (.mstart (fld w 23 2) (fld w 14 9) (fld w 7 7) (fld w 0 7))
  | 0x62 => accept .illegalForm (if w.toNat % 128 == 0x61 then .mstopAbort (fld w 23 2) (fld w 14 9) (fld w 7 7) (fld w 0 7) else .mstopDrain (fld w 23 2) (fld w 14 9) (fld w 7 7) (fld w 0 7))
  | 0x63 => accept .illegalForm (.inject (fld w 23 2) (fld w 14 9) (fld w 7 7) (fld w 0 7))
  | 0x64 => accept .illegalForm (.collect (fld w 23 2) (fld w 14 9) (fld w 7 7) (fld w 0 7))
  | 0x65 => accept .illegalForm (if isImm (fld w 0 7) then .pourStart (fld w 23 2) (fld w 14 9) (fld w 7 7) (fld w 0 7) else .pourLoadt (fld w 23 2) (fld w 14 9) (fld w 7 7) (fld w 0 7))
  | 0x66 => if fixed w [(14, 9, 448)] then accept .illegalForm (.pjoin (fld w 23 2) (fld w 7 7) (fld w 0 7)) else .error .illegalForm
  | 0x67 => accept .illegalForm (.mxcfg (fld w 23 2) (fld w 14 9) (fld w 7 7) (fld w 0 7))
  | 0x68 => if fixed w [(14, 9, 448)] then accept .illegalForm (.mxjoin (fld w 23 2) (fld w 7 7) (fld w 0 7)) else .error .illegalForm
  | 0x69 => accept .illegalForm (.spalloc (fld w 23 2) (fld w 14 9) (fld w 7 7) (fld w 0 7))
  | 0x6A => accept .illegalForm (.spfree (fld w 23 2) (fld w 14 9) (fld w 7 7) (fld w 0 7))
  | 0x6B => accept .illegalForm (.hmdecl (fld w 23 2) (fld w 14 9) (fld w 7 7) (fld w 0 7))
  | 0x6C => accept .illegalForm (.stamp (fld w 23 2) (fld w 14 9) (fld w 7 7) (fld w 0 7))
  | 0x6D => if fixed w [(14, 9, 448)] then accept .illegalForm (.await (fld w 23 2) (fld w 7 7) (fld w 0 7)) else .error .illegalForm
  | 0x6E => accept .illegalForm (.hmtest (fld w 23 2) (fld w 14 9) (fld w 7 7) (fld w 0 7))
  | 0x6F => accept .illegalForm (.hmretire (fld w 23 2) (fld w 14 9) (fld w 7 7) (fld w 0 7))
  | 0x70 => accept .illegalForm (.kvmap (fld w 23 2) (fld w 14 9) (fld w 7 7) (fld w 0 7))
  | 0x71 => accept .illegalForm (.kvfork (fld w 23 2) (fld w 14 9) (fld w 7 7) (fld w 0 7))
  | 0x72 => accept .illegalForm (.kvappend (fld w 23 2) (fld w 14 9) (fld w 7 7) (fld w 0 7))
  | 0x73 => accept .illegalForm (.kvfree (fld w 23 2) (fld w 14 9) (fld w 7 7) (fld w 0 7))
  | 0x74 => accept .illegalForm (.pfxh (fld w 23 2) (fld w 14 9) (fld w 7 7) (fld w 0 7))
  | 0x75 => accept .illegalForm (.pfxlook (fld w 23 2) (fld w 14 9) (fld w 7 7) (fld w 0 7))
  | 0x76 => accept .illegalForm (.pfxins (fld w 23 2) (fld w 14 9) (fld w 7 7) (fld w 0 7))
  | 0x77 => accept .illegalForm (.splice (fld w 23 2) (fld w 14 9) (fld w 7 7) (fld w 0 7))
  | 0x78 => accept .illegalForm (.repair (fld w 23 2) (fld w 14 9) (fld w 7 7) (fld w 0 7))
  | 0x79 => accept .illegalForm (.katt (fld w 23 2) (fld w 14 9) (fld w 7 7) (fld w 0 7))
  | 0x7A => accept .illegalForm (if w.toNat % 128 == 0x61 then .cacheopBinvdie (fld w 23 2) (fld w 14 9) (fld w 7 7) (fld w 0 7) else .cacheopBinv (fld w 23 2) (fld w 14 9) (fld w 7 7) (fld w 0 7))
  | 0x7B => accept .illegalForm (if w.toNat % 128 == 0x61 then .tlbopAll (fld w 23 2) (fld w 14 9) (fld w 7 7) (fld w 0 7) else .tlbopPage (fld w 23 2) (fld w 14 9) (fld w 7 7) (fld w 0 7))
  | 0x7C => accept .illegalForm (if w.toNat % 128 == 0x61 then .traceFreeze (fld w 23 2) (fld w 14 9) (fld w 7 7) (fld w 0 7) else if w.toNat % 128 == 0x62 then .traceThaw (fld w 23 2) (fld w 14 9) (fld w 7 7) (fld w 0 7) else .traceMark (fld w 23 2) (fld w 14 9) (fld w 7 7) (fld w 0 7))
  | 0x7D => accept .illegalForm (.migrate (fld w 23 2) (fld w 14 9) (fld w 7 7) (fld w 0 7))
  | 0x7E => accept .illegalForm (if w.toNat % 128 == 0x61 then .haltGo (fld w 23 2) (fld w 14 9) (fld w 7 7) (fld w 0 7) else .haltStop (fld w 23 2) (fld w 14 9) (fld w 7 7) (fld w 0 7))
  | _ => .error .illegalOpcode

/-- A stage operation word (11 R177, 05 R85). -/
def decodeStage (w : Word32) : Except Reject Instr :=
  match w.toNat / 2 ^ 25 with
  | 0x00 => if fixed w [(0, 12, 0), (16, 9, 0)] then accept .mouldInvalid (.pass (fld w 12 4)) else .error .mouldInvalid
  | 0x01 => if fixed w [(0, 12, 0)] then accept .mouldInvalid (.iadd (fld w 23 2) (fld w 21 2) (fld w 19 2) (fld w 16 3) (fld w 12 4)) else .error .mouldInvalid
  | 0x02 => if fixed w [(0, 12, 0)] then accept .mouldInvalid (.isub (fld w 23 2) (fld w 21 2) (fld w 19 2) (fld w 16 3) (fld w 12 4)) else .error .mouldInvalid
  | 0x03 => if fixed w [(0, 12, 0)] then accept .mouldInvalid (.imul (fld w 23 2) (fld w 21 2) (fld w 19 2) (fld w 16 3) (fld w 12 4)) else .error .mouldInvalid
  | 0x04 => if fixed w [(1, 11, 0)] then accept .mouldInvalid (.imulh (fld w 23 2) (fld w 21 2) (fld w 19 2) (fld w 16 3) (fld w 12 4) (fld w 0 1)) else .error .mouldInvalid
  | 0x05 => if fixed w [(0, 12, 0)] then accept .mouldInvalid (.iand (fld w 23 2) (fld w 21 2) (fld w 19 2) (fld w 16 3) (fld w 12 4)) else .error .mouldInvalid
  | 0x06 => if fixed w [(0, 12, 0)] then accept .mouldInvalid (.ior (fld w 23 2) (fld w 21 2) (fld w 19 2) (fld w 16 3) (fld w 12 4)) else .error .mouldInvalid
  | 0x07 => if fixed w [(0, 12, 0)] then accept .mouldInvalid (.ixor (fld w 23 2) (fld w 21 2) (fld w 19 2) (fld w 16 3) (fld w 12 4)) else .error .mouldInvalid
  | 0x08 => if fixed w [(0, 12, 0)] then accept .mouldInvalid (.ishl (fld w 23 2) (fld w 21 2) (fld w 19 2) (fld w 16 3) (fld w 12 4)) else .error .mouldInvalid
  | 0x09 => if fixed w [(0, 12, 0)] then accept .mouldInvalid (.ishr (fld w 23 2) (fld w 21 2) (fld w 19 2) (fld w 16 3) (fld w 12 4)) else .error .mouldInvalid
  | 0x0A => if fixed w [(0, 12, 0)] then accept .mouldInvalid (.isar (fld w 23 2) (fld w 21 2) (fld w 19 2) (fld w 16 3) (fld w 12 4)) else .error .mouldInvalid
  | 0x0B => if fixed w [(0, 12, 0)] then accept .mouldInvalid (.imin (fld w 23 2) (fld w 21 2) (fld w 19 2) (fld w 16 3) (fld w 12 4)) else .error .mouldInvalid
  | 0x0C => if fixed w [(0, 12, 0)] then accept .mouldInvalid (.imax (fld w 23 2) (fld w 21 2) (fld w 19 2) (fld w 16 3) (fld w 12 4)) else .error .mouldInvalid
  | 0x0D => if fixed w [(0, 12, 0)] then accept .mouldInvalid (.iminu (fld w 23 2) (fld w 21 2) (fld w 19 2) (fld w 16 3) (fld w 12 4)) else .error .mouldInvalid
  | 0x0E => if fixed w [(0, 12, 0)] then accept .mouldInvalid (.imaxu (fld w 23 2) (fld w 21 2) (fld w 19 2) (fld w 16 3) (fld w 12 4)) else .error .mouldInvalid
  | 0x0F => if fixed w [(3, 9, 0)] then accept .mouldInvalid (.icmp (fld w 23 2) (fld w 21 2) (fld w 19 2) (fld w 16 3) (fld w 12 4) (fld w 0 3)) else .error .mouldInvalid
  | 0x10 => if fixed w [(0, 12, 0)] then accept .mouldInvalid (.ihash (fld w 23 2) (fld w 21 2) (fld w 19 2) (fld w 16 3) (fld w 12 4)) else .error .mouldInvalid
  | 0x11 => if fixed w [(0, 12, 0), (14, 2, 0)] then accept .mouldInvalid (.isel (fld w 23 2) (fld w 21 2) (fld w 19 2) (fld w 16 3) (fld w 12 2)) else .error .mouldInvalid
  | 0x12 => if fixed w [(0, 12, 0), (16, 5, 0)] then accept .mouldInvalid (.ipopc (fld w 23 2) (fld w 21 2) (fld w 12 4)) else .error .mouldInvalid
  | 0x13 => if fixed w [(3, 9, 0)] then accept .mouldInvalid (.stageFadd (fld w 23 2) (fld w 21 2) (fld w 19 2) (fld w 16 3) (fld w 12 4) (fld w 0 3)) else .error .mouldInvalid
  | 0x14 => if fixed w [(3, 9, 0)] then accept .mouldInvalid (.stageFsub (fld w 23 2) (fld w 21 2) (fld w 19 2) (fld w 16 3) (fld w 12 4) (fld w 0 3)) else .error .mouldInvalid
  | 0x15 => if fixed w [(3, 9, 0)] then accept .mouldInvalid (.stageFmul (fld w 23 2) (fld w 21 2) (fld w 19 2) (fld w 16 3) (fld w 12 4) (fld w 0 3)) else .error .mouldInvalid
  | 0x16 => if fixed w [(3, 9, 0)] then accept .mouldInvalid (.ffma (fld w 23 2) (fld w 21 2) (fld w 19 2) (fld w 16 3) (fld w 12 4) (fld w 0 3)) else .error .mouldInvalid
  | 0x17 => if fixed w [(0, 12, 0)] then accept .mouldInvalid (.stageFmin (fld w 23 2) (fld w 21 2) (fld w 19 2) (fld w 16 3) (fld w 12 4)) else .error .mouldInvalid
  | 0x18 => if fixed w [(0, 12, 0)] then accept .mouldInvalid (.stageFmax (fld w 23 2) (fld w 21 2) (fld w 19 2) (fld w 16 3) (fld w 12 4)) else .error .mouldInvalid
  | 0x19 => if fixed w [(3, 9, 0)] then accept .mouldInvalid (.fcmp (fld w 23 2) (fld w 21 2) (fld w 19 2) (fld w 16 3) (fld w 12 4) (fld w 0 3)) else .error .mouldInvalid
  | 0x1A => if fixed w [(0, 12, 0), (16, 5, 0)] then accept .mouldInvalid (.fexp2 (fld w 23 2) (fld w 21 2) (fld w 12 4)) else .error .mouldInvalid
  | 0x1B => if fixed w [(0, 12, 0), (16, 5, 0)] then accept .mouldInvalid (.frcp (fld w 23 2) (fld w 21 2) (fld w 12 4)) else .error .mouldInvalid
  | 0x1C => if fixed w [(0, 12, 0), (16, 5, 0)] then accept .mouldInvalid (.frsq (fld w 23 2) (fld w 21 2) (fld w 12 4)) else .error .mouldInvalid
  | 0x1D => if fixed w [(3, 1, 0)] then accept .mouldInvalid (.cvt (fld w 23 2) (fld w 21 2) (fld w 16 5) (fld w 12 4) (fld w 8 4) (fld w 4 4) (fld w 0 3)) else .error .mouldInvalid
  | 0x1E => if fixed w [(5, 11, 0)] then accept .mouldInvalid (.cvtb4 (fld w 23 2) (fld w 21 2) (fld w 16 5) (fld w 2 3) (fld w 0 2)) else .error .mouldInvalid
  | 0x1F => if fixed w [(2, 10, 0)] then accept .mouldInvalid (.fabsn (fld w 23 2) (fld w 21 2) (fld w 19 2) (fld w 16 3) (fld w 12 4) (fld w 0 2)) else .error .mouldInvalid
  | 0x20 => if fixed w [(0, 16, 0)] then accept .mouldInvalid (.lshuf (fld w 23 2) (fld w 21 2) (fld w 19 2) (fld w 16 3)) else .error .mouldInvalid
  | 0x21 => if fixed w [(4, 17, 0)] then accept .mouldInvalid (.lbcast (fld w 23 2) (fld w 21 2) (fld w 0 4)) else .error .mouldInvalid
  | 0x22 => if fixed w [(7, 14, 0)] then accept .mouldInvalid (.lscan (fld w 23 2) (fld w 21 2) (fld w 4 3) (fld w 0 4)) else .error .mouldInvalid
  | 0x23 => if fixed w [(7, 14, 0)] then accept .mouldInvalid (.lred (fld w 23 2) (fld w 21 2) (fld w 4 3) (fld w 0 4)) else .error .mouldInvalid
  | 0x24 => if fixed w [(0, 25, 0)] then accept .mouldInvalid (.lcompact) else .error .mouldInvalid
  | 0x25 => if fixed w [(1, 24, 0)] then accept .mouldInvalid (.filter (fld w 0 1)) else .error .mouldInvalid
  | 0x26 => if fixed w [(1, 15, 0)] then accept .mouldInvalid (.fork (fld w 23 2) (fld w 21 2) (fld w 19 2) (fld w 16 3) (fld w 0 1)) else .error .mouldInvalid
  | 0x27 => if fixed w [(1, 24, 0)] then accept .mouldInvalid (.recirc (fld w 0 1)) else .error .mouldInvalid
  | 0x28 => if fixed w [(1, 24, 0)] then accept .mouldInvalid (.steer (fld w 0 1)) else .error .mouldInvalid
  | 0x29 => if fixed w [(0, 25, 0)] then accept .mouldInvalid (.merge) else .error .mouldInvalid
  | 0x2A => if fixed w [(0, 25, 0)] then accept .mouldInvalid (.reord) else .error .mouldInvalid
  | 0x2B => if fixed w [(12, 4, 0)] then accept .mouldInvalid (.gen (fld w 23 2) (fld w 21 2) (fld w 19 2) (fld w 16 3) (fld w 0 12)) else .error .mouldInvalid
  | 0x2C => if fixed w [(0, 25, 0)] then accept .mouldInvalid (.seqtag) else .error .mouldInvalid
  | 0x2D => if fixed w [(0, 19, 0), (21, 2, 0)] then accept .mouldInvalid (.isect (fld w 23 2) (fld w 19 2)) else .error .mouldInvalid
  | 0x2E => if fixed w [(16, 3, 0)] then accept .mouldInvalid (.spld (fld w 23 2) (fld w 21 2) (fld w 19 2) (fld w 12 4) (fld w 10 2) (fld w 0 10)) else .error .mouldInvalid
  | 0x2F => if fixed w [(16, 3, 0)] then accept .mouldInvalid (.spst (fld w 23 2) (fld w 21 2) (fld w 19 2) (fld w 12 4) (fld w 10 2) (fld w 0 10)) else .error .mouldInvalid
  | 0x30 => if fixed w [(16, 3, 0)] then accept .mouldInvalid (.spamo (fld w 23 2) (fld w 21 2) (fld w 19 2) (fld w 12 4) (fld w 9 3) (fld w 0 9)) else .error .mouldInvalid
  | 0x31 => if fixed w [(16, 3, 0)] then accept .mouldInvalid (.spfill (fld w 23 2) (fld w 21 2) (fld w 19 2) (fld w 12 4) (fld w 10 2) (fld w 0 10)) else .error .mouldInvalid
  | 0x32 => if fixed w [(1, 11, 0), (16, 3, 0)] then accept .mouldInvalid (.spmark (fld w 23 2) (fld w 21 2) (fld w 19 2) (fld w 12 4) (fld w 0 1)) else .error .mouldInvalid
  | 0x33 => if fixed w [(0, 2, 0), (16, 5, 0)] then accept .mouldInvalid (.mld (fld w 23 2) (fld w 21 2) (fld w 12 4) (fld w 10 2) (fld w 6 4) (fld w 3 3) (fld w 2 1)) else .error .mouldInvalid
  | 0x34 => if fixed w [(0, 3, 0), (16, 5, 0)] then accept .mouldInvalid (.mst (fld w 23 2) (fld w 21 2) (fld w 12 4) (fld w 10 2) (fld w 6 4) (fld w 3 3)) else .error .mouldInvalid
  | 0x35 => if fixed w [(0, 3, 0), (10, 2, 0), (16, 5, 0), (23, 2, 0)] then accept .mouldInvalid (.mgath (fld w 21 2) (fld w 12 4) (fld w 6 4) (fld w 3 3)) else .error .mouldInvalid
  | 0x36 => if fixed w [(0, 3, 0), (10, 2, 0), (16, 5, 0), (23, 2, 0)] then accept .mouldInvalid (.mscat (fld w 21 2) (fld w 12 4) (fld w 6 4) (fld w 3 3)) else .error .mouldInvalid
  | 0x37 => if fixed w [(16, 5, 0)] then accept .mouldInvalid (.sbars (fld w 21 4) (fld w 12 4) (fld w 0 12)) else .error .mouldInvalid
  | 0x38 => if fixed w [(12, 13, 0)] then accept .mouldInvalid (.trswap (fld w 6 6) (fld w 0 6)) else .error .mouldInvalid
  | 0x39 => if fixed w [(4, 10, 0), (23, 2, 0)] then accept .mouldInvalid (.trload (fld w 21 2) (fld w 19 2) (fld w 16 3) (fld w 14 2) (fld w 3 1) (fld w 0 3)) else .error .mouldInvalid
  | 0x3A => if fixed w [(3, 11, 0), (16, 9, 0)] then accept .mouldInvalid (.trmv (fld w 14 2) (fld w 2 1) (fld w 0 2)) else .error .mouldInvalid
  | 0x3B => if fixed w [(1, 20, 0), (23, 2, 0)] then accept .mouldInvalid (.pkout (fld w 21 2) (fld w 0 1)) else .error .mouldInvalid
  | 0x3C => if fixed w [(1, 24, 0)] then accept .mouldInvalid (.pkin (fld w 0 1)) else .error .mouldInvalid
  | 0x3D => if fixed w [(0, 25, 196608)] then accept .mouldInvalid (.tmerge) else .error .mouldInvalid
  | 0x3E => if fixed w [(0, 21, 0)] then accept .mouldInvalid (.b4dec (fld w 23 2) (fld w 21 2)) else .error .mouldInvalid
  | 0x3F => if fixed w [(4, 8, 0)] then accept .mouldInvalid (.softacc (fld w 23 2) (fld w 21 2) (fld w 19 2) (fld w 16 3) (fld w 12 4) (fld w 3 1) (fld w 0 3)) else .error .mouldInvalid
  | 0x40 => if fixed w [(0, 25, 0)] then accept .mouldInvalid (.sink) else .error .mouldInvalid
  | 0x41 => if fixed w [(2, 23, 0)] then accept .mouldInvalid (.token (fld w 0 2)) else .error .mouldInvalid
  | _ => .error .mouldInvalid

/-- Word of a row: its fixed bits, and each field at its place. -/
def put (base : Nat) (fs : List (Nat × Nat)) : Word32 :=
  BitVec.ofNat 32 (fs.foldl (fun a f => a + f.1 * 2 ^ f.2) base)

/-- The word of an instruction, from the same formats (05 R63-R67, R91; 11 R177); an event has none. -/
def encode : Instr → Option Word32
  | .add p t l r => some (put 0x02000000 [(p.toNat, 23), (t.toNat, 14), (l.toNat, 7), (r.toNat, 0)])
  | .sub p t l r => some (put 0x04000000 [(p.toNat, 23), (t.toNat, 14), (l.toNat, 7), (r.toNat, 0)])
  | .mul p t l r => some (put 0x06000000 [(p.toNat, 23), (t.toNat, 14), (l.toNat, 7), (r.toNat, 0)])
  | .mulh p t l r => some (put 0x08000000 [(p.toNat, 23), (t.toNat, 14), (l.toNat, 7), (r.toNat, 0)])
  | .mulhu p t l r => some (put 0x0A000000 [(p.toNat, 23), (t.toNat, 14), (l.toNat, 7), (r.toNat, 0)])
  | .div p t l r => some (put 0x0C000000 [(p.toNat, 23), (t.toNat, 14), (l.toNat, 7), (r.toNat, 0)])
  | .divu p t l r => some (put 0x0E000000 [(p.toNat, 23), (t.toNat, 14), (l.toNat, 7), (r.toNat, 0)])
  | .rem p t l r => some (put 0x10000000 [(p.toNat, 23), (t.toNat, 14), (l.toNat, 7), (r.toNat, 0)])
  | .remu p t l r => some (put 0x12000000 [(p.toNat, 23), (t.toNat, 14), (l.toNat, 7), (r.toNat, 0)])
  | .and p t l r => some (put 0x14000000 [(p.toNat, 23), (t.toNat, 14), (l.toNat, 7), (r.toNat, 0)])
  | .or p t l r => some (put 0x16000000 [(p.toNat, 23), (t.toNat, 14), (l.toNat, 7), (r.toNat, 0)])
  | .xor p t l r => some (put 0x18000000 [(p.toNat, 23), (t.toNat, 14), (l.toNat, 7), (r.toNat, 0)])
  | .andn p t l r => some (put 0x1A000000 [(p.toNat, 23), (t.toNat, 14), (l.toNat, 7), (r.toNat, 0)])
  | .shl p t l r => some (put 0x1C000000 [(p.toNat, 23), (t.toNat, 14), (l.toNat, 7), (r.toNat, 0)])
  | .shr p t l r => some (put 0x1E000000 [(p.toNat, 23), (t.toNat, 14), (l.toNat, 7), (r.toNat, 0)])
  | .sar p t l r => some (put 0x20000000 [(p.toNat, 23), (t.toNat, 14), (l.toNat, 7), (r.toNat, 0)])
  | .rotl p t l r => some (put 0x22000000 [(p.toNat, 23), (t.toNat, 14), (l.toNat, 7), (r.toNat, 0)])
  | .min p t l r => some (put 0x24000000 [(p.toNat, 23), (t.toNat, 14), (l.toNat, 7), (r.toNat, 0)])
  | .max p t l r => some (put 0x26000000 [(p.toNat, 23), (t.toNat, 14), (l.toNat, 7), (r.toNat, 0)])
  | .minu p t l r => some (put 0x28000000 [(p.toNat, 23), (t.toNat, 14), (l.toNat, 7), (r.toNat, 0)])
  | .maxu p t l r => some (put 0x2A000000 [(p.toNat, 23), (t.toNat, 14), (l.toNat, 7), (r.toNat, 0)])
  | .shadd1 t l r => some (put 0x2C000000 [(t.toNat, 14), (l.toNat, 7), (r.toNat, 0)])
  | .shadd2 t l r => some (put 0x2E000000 [(t.toNat, 14), (l.toNat, 7), (r.toNat, 0)])
  | .shadd3 t l r => some (put 0x30000000 [(t.toNat, 14), (l.toNat, 7), (r.toNat, 0)])
  | .shadd4 t l r => some (put 0x32000000 [(t.toNat, 14), (l.toNat, 7), (r.toNat, 0)])
  | .clz p t l r => some (put 0x34000000 [(p.toNat, 23), (t.toNat, 14), (l.toNat, 7), (r.toNat, 0)])
  | .ctz p t l r => some (put 0x36000000 [(p.toNat, 23), (t.toNat, 14), (l.toNat, 7), (r.toNat, 0)])
  | .popc p t l r => some (put 0x38000000 [(p.toNat, 23), (t.toNat, 14), (l.toNat, 7), (r.toNat, 0)])
  | .sext p t l r => some (put 0x3A000000 [(p.toNat, 23), (t.toNat, 14), (l.toNat, 7), (r.toNat, 0)])
  | .zext p t l r => some (put 0x3C000000 [(p.toNat, 23), (t.toNat, 14), (l.toNat, 7), (r.toNat, 0)])
  | .addw p t l r => some (put 0x3E000000 [(p.toNat, 23), (t.toNat, 14), (l.toNat, 7), (r.toNat, 0)])
  | .ceq p t l r => some (put 0x40000000 [(p.toNat, 23), (t.toNat, 14), (l.toNat, 7), (r.toNat, 0)])
  | .cne p t l r => some (put 0x42000000 [(p.toNat, 23), (t.toNat, 14), (l.toNat, 7), (r.toNat, 0)])
  | .clt p t l r => some (put 0x44000000 [(p.toNat, 23), (t.toNat, 14), (l.toNat, 7), (r.toNat, 0)])
  | .cltu p t l r => some (put 0x46000000 [(p.toNat, 23), (t.toNat, 14), (l.toNat, 7), (r.toNat, 0)])
  | .cle p t l r => some (put 0x48000000 [(p.toNat, 23), (t.toNat, 14), (l.toNat, 7), (r.toNat, 0)])
  | .cleu p t l r => some (put 0x4A000000 [(p.toNat, 23), (t.toNat, 14), (l.toNat, 7), (r.toNat, 0)])
  | .tz p t l r => some (put 0x4C000000 [(p.toNat, 23), (t.toNat, 14), (l.toNat, 7), (r.toNat, 0)])
  | .tnz p t l r => some (put 0x4E000000 [(p.toNat, 23), (t.toNat, 14), (l.toNat, 7), (r.toNat, 0)])
  | .sel t l r => some (put 0x50000000 [(t.toNat, 14), (l.toNat, 7), (r.toNat, 0)])
  | .not p t l r => some (put 0x52000000 [(p.toNat, 23), (t.toNat, 14), (l.toNat, 7), (r.toNat, 0)])
  | .const p t i => some (put 0x54000000 [(p.toNat, 23), (t.toNat, 14), (i.toNat, 0)])
  | .constx p t i => some (put 0x56000000 [(p.toNat, 23), (t.toNat, 14), (i.toNat, 0)])
  | .mov p t l r => some (put 0x58000000 [(p.toNat, 23), (t.toNat, 14), (l.toNat, 7), (r.toNat, 0)])
  | .fan p t u => some (put 0x5A000000 [(p.toNat, 23), (t.toNat, 14), (u.toNat, 5)])
  | .srrd p t n => some (put 0x5C000000 [(p.toNat, 23), (t.toNat, 14), (n.toNat, 0)])
  | .srwr p t n => some (put 0x5E000000 [(p.toNat, 23), (t.toNat, 14), (n.toNat, 0)])
  | .bri p o => some (put 0x60000000 [(p.toNat, 23), (o.toNat, 0)])
  | .br p l r => some (put 0x62700000 [(p.toNat, 23), (l.toNat, 7), (r.toNat, 0)])
  | .calli p o => some (put 0x64000000 [(p.toNat, 23), (o.toNat, 0)])
  | .call p l r => some (put 0x66700000 [(p.toNat, 23), (l.toNat, 7), (r.toNat, 0)])
  | .exit p l r => some (put 0x68700000 [(p.toNat, 23), (l.toNat, 7), (r.toNat, 0)])
  | .yield p l r => some (put 0x6A700000 [(p.toNat, 23), (l.toNat, 7), (r.toNat, 0)])
  | .trap p i => some (put 0x6C700000 [(p.toNat, 23), (i.toNat, 0)])
  | .eret p l r => some (put 0x6E700000 [(p.toNat, 23), (l.toNat, 7), (r.toNat, 0)])
  | .fadd p t l r => some (put 0x70000000 [(p.toNat, 23), (t.toNat, 14), (l.toNat, 7), (r.toNat, 0)])
  | .fsub p t l r => some (put 0x72000000 [(p.toNat, 23), (t.toNat, 14), (l.toNat, 7), (r.toNat, 0)])
  | .fmul p t l r => some (put 0x74000000 [(p.toNat, 23), (t.toNat, 14), (l.toNat, 7), (r.toNat, 0)])
  | .fdiv p t l r => some (put 0x76000000 [(p.toNat, 23), (t.toNat, 14), (l.toNat, 7), (r.toNat, 0)])
  | .fmin p t l r => some (put 0x78000000 [(p.toNat, 23), (t.toNat, 14), (l.toNat, 7), (r.toNat, 0)])
  | .fmax p t l r => some (put 0x7A000000 [(p.toNat, 23), (t.toNat, 14), (l.toNat, 7), (r.toNat, 0)])
  | .fclt p t l r => some (put 0x7C000000 [(p.toNat, 23), (t.toNat, 14), (l.toNat, 7), (r.toNat, 0)])
  | .fceq p t l r => some (put 0x7E000000 [(p.toNat, 23), (t.toNat, 14), (l.toNat, 7), (r.toNat, 0)])
  | .fcle p t l r => some (put 0x80000000 [(p.toNat, 23), (t.toNat, 14), (l.toNat, 7), (r.toNat, 0)])
  | .cvtif p t l r => some (put 0x82000000 [(p.toNat, 23), (t.toNat, 14), (l.toNat, 7), (r.toNat, 0)])
  | .cvtfi p t l r => some (put 0x84000000 [(p.toNat, 23), (t.toNat, 14), (l.toNat, 7), (r.toNat, 0)])
  | .fsqrt p t l r => some (put 0x86000000 [(p.toNat, 23), (t.toNat, 14), (l.toNat, 7), (r.toNat, 0)])
  | .ld8 p t l r => some (put 0x88000000 [(p.toNat, 23), (t.toNat, 14), (l.toNat, 7), (r.toNat, 0)])
  | .ld8s p t l r => some (put 0x8A000000 [(p.toNat, 23), (t.toNat, 14), (l.toNat, 7), (r.toNat, 0)])
  | .ld16 p t l r => some (put 0x8C000000 [(p.toNat, 23), (t.toNat, 14), (l.toNat, 7), (r.toNat, 0)])
  | .ld16s p t l r => some (put 0x8E000000 [(p.toNat, 23), (t.toNat, 14), (l.toNat, 7), (r.toNat, 0)])
  | .ld32 p t l r => some (put 0x90000000 [(p.toNat, 23), (t.toNat, 14), (l.toNat, 7), (r.toNat, 0)])
  | .ld32s p t l r => some (put 0x92000000 [(p.toNat, 23), (t.toNat, 14), (l.toNat, 7), (r.toNat, 0)])
  | .ld64 p t l r => some (put 0x94000000 [(p.toNat, 23), (t.toNat, 14), (l.toNat, 7), (r.toNat, 0)])
  | .ldaq p t l s x z => some (put 0x96000000 [(p.toNat, 23), (t.toNat, 14), (l.toNat, 7), (s.toNat, 4), (x.toNat, 2), (z.toNat, 0)])
  | .st8 p o l r => some (put 0x98000000 [(p.toNat, 23), (o.toNat, 14), (l.toNat, 7), (r.toNat, 0)])
  | .st16 p o l r => some (put 0x9A000000 [(p.toNat, 23), (o.toNat, 14), (l.toNat, 7), (r.toNat, 0)])
  | .st32 p o l r => some (put 0x9C000000 [(p.toNat, 23), (o.toNat, 14), (l.toNat, 7), (r.toNat, 0)])
  | .st64 p o l r => some (put 0x9E000000 [(p.toNat, 23), (o.toNat, 14), (l.toNat, 7), (r.toNat, 0)])
  | .strl p l s z => some (put 0xA0700000 [(p.toNat, 23), (l.toNat, 7), (s.toNat, 4), (z.toNat, 0)])
  | .amo64 p t l s k o => some (put 0xA2000000 [(p.toNat, 23), (t.toNat, 14), (l.toNat, 7), (s.toNat, 4), (k.toNat, 3), (o.toNat, 0)])
  | .amo32 p t l s k o => some (put 0xA4000000 [(p.toNat, 23), (t.toNat, 14), (l.toNat, 7), (s.toNat, 4), (k.toNat, 3), (o.toNat, 0)])
  | .cas64 t l s k => some (put 0xA6000000 [(t.toNat, 14), (l.toNat, 7), (s.toNat, 4), (k.toNat, 0)])
  | .fence p l s e k => some (put 0xA8700000 [(p.toNat, 23), (l.toNat, 7), (s.toNat, 4), (e.toNat, 2), (k.toNat, 0)])
  | .sbar p l => some (put 0xAA700000 [(p.toNat, 23), (l.toNat, 7)])
  | .pref p l r => some (put 0xAC700000 [(p.toNat, 23), (l.toNat, 7), (r.toNat, 0)])
  | .spawn p t l r => some (put 0xAE000000 [(p.toNat, 23), (t.toNat, 14), (l.toNat, 7), (r.toNat, 0)])
  | .joindec p t l r => some (put 0xB0000000 [(p.toNat, 23), (t.toNat, 14), (l.toNat, 7), (r.toNat, 0)])
  | .gang p t l r => some (put 0xB2000000 [(p.toNat, 23), (t.toNat, 14), (l.toNat, 7), (r.toNat, 0)])
  | .rvinit p t l r => some (put 0xB4000000 [(p.toNat, 23), (t.toNat, 14), (l.toNat, 7), (r.toNat, 0)])
  | .arrive p t l r => some (put 0xB6000000 [(p.toNat, 23), (t.toNat, 14), (l.toNat, 7), (r.toNat, 0)])
  | .wait p l r => some (put 0xB8700000 [(p.toNat, 23), (l.toNat, 7), (r.toNat, 0)])
  | .est p t l r => some (put 0xBA000000 [(p.toNat, 23), (t.toNat, 14), (l.toNat, 7), (r.toNat, 0)])
  | .progress p t l r => some (put 0xBC000000 [(p.toNat, 23), (t.toNat, 14), (l.toNat, 7), (r.toNat, 0)])
  | .graphgo p t l r => some (put 0xBE000000 [(p.toNat, 23), (t.toNat, 14), (l.toNat, 7), (r.toNat, 0)])
  | .mload p t l r => some (put 0xC0000000 [(p.toNat, 23), (t.toNat, 14), (l.toNat, 7), (r.toNat, 0)])
  | .mstart p t l r => some (put 0xC2000000 [(p.toNat, 23), (t.toNat, 14), (l.toNat, 7), (r.toNat, 0)])
  | .mstopDrain p t l r => some (put 0xC4000000 [(p.toNat, 23), (t.toNat, 14), (l.toNat, 7), (r.toNat, 0)])
  | .mstopAbort p t l r => some (put 0xC4000000 [(p.toNat, 23), (t.toNat, 14), (l.toNat, 7), (r.toNat, 0)])
  | .inject p t l r => some (put 0xC6000000 [(p.toNat, 23), (t.toNat, 14), (l.toNat, 7), (r.toNat, 0)])
  | .collect p t l r => some (put 0xC8000000 [(p.toNat, 23), (t.toNat, 14), (l.toNat, 7), (r.toNat, 0)])
  | .pourLoadt p t l r => some (put 0xCA000000 [(p.toNat, 23), (t.toNat, 14), (l.toNat, 7), (r.toNat, 0)])
  | .pourStart p t l r => some (put 0xCA000000 [(p.toNat, 23), (t.toNat, 14), (l.toNat, 7), (r.toNat, 0)])
  | .pjoin p l r => some (put 0xCC700000 [(p.toNat, 23), (l.toNat, 7), (r.toNat, 0)])
  | .mxcfg p t l r => some (put 0xCE000000 [(p.toNat, 23), (t.toNat, 14), (l.toNat, 7), (r.toNat, 0)])
  | .mxjoin p l r => some (put 0xD0700000 [(p.toNat, 23), (l.toNat, 7), (r.toNat, 0)])
  | .spalloc p t l r => some (put 0xD2000000 [(p.toNat, 23), (t.toNat, 14), (l.toNat, 7), (r.toNat, 0)])
  | .spfree p t l r => some (put 0xD4000000 [(p.toNat, 23), (t.toNat, 14), (l.toNat, 7), (r.toNat, 0)])
  | .hmdecl p t l r => some (put 0xD6000000 [(p.toNat, 23), (t.toNat, 14), (l.toNat, 7), (r.toNat, 0)])
  | .stamp p t l r => some (put 0xD8000000 [(p.toNat, 23), (t.toNat, 14), (l.toNat, 7), (r.toNat, 0)])
  | .await p l r => some (put 0xDA700000 [(p.toNat, 23), (l.toNat, 7), (r.toNat, 0)])
  | .hmtest p t l r => some (put 0xDC000000 [(p.toNat, 23), (t.toNat, 14), (l.toNat, 7), (r.toNat, 0)])
  | .hmretire p t l r => some (put 0xDE000000 [(p.toNat, 23), (t.toNat, 14), (l.toNat, 7), (r.toNat, 0)])
  | .kvmap p t l r => some (put 0xE0000000 [(p.toNat, 23), (t.toNat, 14), (l.toNat, 7), (r.toNat, 0)])
  | .kvfork p t l r => some (put 0xE2000000 [(p.toNat, 23), (t.toNat, 14), (l.toNat, 7), (r.toNat, 0)])
  | .kvappend p t l r => some (put 0xE4000000 [(p.toNat, 23), (t.toNat, 14), (l.toNat, 7), (r.toNat, 0)])
  | .kvfree p t l r => some (put 0xE6000000 [(p.toNat, 23), (t.toNat, 14), (l.toNat, 7), (r.toNat, 0)])
  | .pfxh p t l r => some (put 0xE8000000 [(p.toNat, 23), (t.toNat, 14), (l.toNat, 7), (r.toNat, 0)])
  | .pfxlook p t l r => some (put 0xEA000000 [(p.toNat, 23), (t.toNat, 14), (l.toNat, 7), (r.toNat, 0)])
  | .pfxins p t l r => some (put 0xEC000000 [(p.toNat, 23), (t.toNat, 14), (l.toNat, 7), (r.toNat, 0)])
  | .splice p t l r => some (put 0xEE000000 [(p.toNat, 23), (t.toNat, 14), (l.toNat, 7), (r.toNat, 0)])
  | .repair p t l r => some (put 0xF0000000 [(p.toNat, 23), (t.toNat, 14), (l.toNat, 7), (r.toNat, 0)])
  | .katt p t l r => some (put 0xF2000000 [(p.toNat, 23), (t.toNat, 14), (l.toNat, 7), (r.toNat, 0)])
  | .cacheopBinv p t l r => some (put 0xF4000000 [(p.toNat, 23), (t.toNat, 14), (l.toNat, 7), (r.toNat, 0)])
  | .cacheopBinvdie p t l r => some (put 0xF4000000 [(p.toNat, 23), (t.toNat, 14), (l.toNat, 7), (r.toNat, 0)])
  | .tlbopPage p t l r => some (put 0xF6000000 [(p.toNat, 23), (t.toNat, 14), (l.toNat, 7), (r.toNat, 0)])
  | .tlbopAll p t l r => some (put 0xF6000000 [(p.toNat, 23), (t.toNat, 14), (l.toNat, 7), (r.toNat, 0)])
  | .traceMark p t l r => some (put 0xF8000000 [(p.toNat, 23), (t.toNat, 14), (l.toNat, 7), (r.toNat, 0)])
  | .traceFreeze p t l r => some (put 0xF8000000 [(p.toNat, 23), (t.toNat, 14), (l.toNat, 7), (r.toNat, 0)])
  | .traceThaw p t l r => some (put 0xF8000000 [(p.toNat, 23), (t.toNat, 14), (l.toNat, 7), (r.toNat, 0)])
  | .migrate p t l r => some (put 0xFA000000 [(p.toNat, 23), (t.toNat, 14), (l.toNat, 7), (r.toNat, 0)])
  | .haltStop p t l r => some (put 0xFC000000 [(p.toNat, 23), (t.toNat, 14), (l.toNat, 7), (r.toNat, 0)])
  | .haltGo p t l r => some (put 0xFC000000 [(p.toNat, 23), (t.toNat, 14), (l.toNat, 7), (r.toNat, 0)])
  | .pass c => some (put 0x00000000 [(c.toNat, 12)])
  | .iadd d a b s c => some (put 0x02000000 [(d.toNat, 23), (a.toNat, 21), (b.toNat, 19), (s.toNat, 16), (c.toNat, 12)])
  | .isub d a b s c => some (put 0x04000000 [(d.toNat, 23), (a.toNat, 21), (b.toNat, 19), (s.toNat, 16), (c.toNat, 12)])
  | .imul d a b s c => some (put 0x06000000 [(d.toNat, 23), (a.toNat, 21), (b.toNat, 19), (s.toNat, 16), (c.toNat, 12)])
  | .imulh d a b s c u => some (put 0x08000000 [(d.toNat, 23), (a.toNat, 21), (b.toNat, 19), (s.toNat, 16), (c.toNat, 12), (u.toNat, 0)])
  | .iand d a b s c => some (put 0x0A000000 [(d.toNat, 23), (a.toNat, 21), (b.toNat, 19), (s.toNat, 16), (c.toNat, 12)])
  | .ior d a b s c => some (put 0x0C000000 [(d.toNat, 23), (a.toNat, 21), (b.toNat, 19), (s.toNat, 16), (c.toNat, 12)])
  | .ixor d a b s c => some (put 0x0E000000 [(d.toNat, 23), (a.toNat, 21), (b.toNat, 19), (s.toNat, 16), (c.toNat, 12)])
  | .ishl d a b s c => some (put 0x10000000 [(d.toNat, 23), (a.toNat, 21), (b.toNat, 19), (s.toNat, 16), (c.toNat, 12)])
  | .ishr d a b s c => some (put 0x12000000 [(d.toNat, 23), (a.toNat, 21), (b.toNat, 19), (s.toNat, 16), (c.toNat, 12)])
  | .isar d a b s c => some (put 0x14000000 [(d.toNat, 23), (a.toNat, 21), (b.toNat, 19), (s.toNat, 16), (c.toNat, 12)])
  | .imin d a b s c => some (put 0x16000000 [(d.toNat, 23), (a.toNat, 21), (b.toNat, 19), (s.toNat, 16), (c.toNat, 12)])
  | .imax d a b s c => some (put 0x18000000 [(d.toNat, 23), (a.toNat, 21), (b.toNat, 19), (s.toNat, 16), (c.toNat, 12)])
  | .iminu d a b s c => some (put 0x1A000000 [(d.toNat, 23), (a.toNat, 21), (b.toNat, 19), (s.toNat, 16), (c.toNat, 12)])
  | .imaxu d a b s c => some (put 0x1C000000 [(d.toNat, 23), (a.toNat, 21), (b.toNat, 19), (s.toNat, 16), (c.toNat, 12)])
  | .icmp d a b s c k => some (put 0x1E000000 [(d.toNat, 23), (a.toNat, 21), (b.toNat, 19), (s.toNat, 16), (c.toNat, 12), (k.toNat, 0)])
  | .ihash d a b s c => some (put 0x20000000 [(d.toNat, 23), (a.toNat, 21), (b.toNat, 19), (s.toNat, 16), (c.toNat, 12)])
  | .isel d a b s c => some (put 0x22000000 [(d.toNat, 23), (a.toNat, 21), (b.toNat, 19), (s.toNat, 16), (c.toNat, 12)])
  | .ipopc d a c => some (put 0x24000000 [(d.toNat, 23), (a.toNat, 21), (c.toNat, 12)])
  | .stageFadd d a b s c m => some (put 0x26000000 [(d.toNat, 23), (a.toNat, 21), (b.toNat, 19), (s.toNat, 16), (c.toNat, 12), (m.toNat, 0)])
  | .stageFsub d a b s c m => some (put 0x28000000 [(d.toNat, 23), (a.toNat, 21), (b.toNat, 19), (s.toNat, 16), (c.toNat, 12), (m.toNat, 0)])
  | .stageFmul d a b s c m => some (put 0x2A000000 [(d.toNat, 23), (a.toNat, 21), (b.toNat, 19), (s.toNat, 16), (c.toNat, 12), (m.toNat, 0)])
  | .ffma d a b s c m => some (put 0x2C000000 [(d.toNat, 23), (a.toNat, 21), (b.toNat, 19), (s.toNat, 16), (c.toNat, 12), (m.toNat, 0)])
  | .stageFmin d a b s c => some (put 0x2E000000 [(d.toNat, 23), (a.toNat, 21), (b.toNat, 19), (s.toNat, 16), (c.toNat, 12)])
  | .stageFmax d a b s c => some (put 0x30000000 [(d.toNat, 23), (a.toNat, 21), (b.toNat, 19), (s.toNat, 16), (c.toNat, 12)])
  | .fcmp d a b s c k => some (put 0x32000000 [(d.toNat, 23), (a.toNat, 21), (b.toNat, 19), (s.toNat, 16), (c.toNat, 12), (k.toNat, 0)])
  | .fexp2 d a c => some (put 0x34000000 [(d.toNat, 23), (a.toNat, 21), (c.toNat, 12)])
  | .frcp d a c => some (put 0x36000000 [(d.toNat, 23), (a.toNat, 21), (c.toNat, 12)])
  | .frsq d a c => some (put 0x38000000 [(d.toNat, 23), (a.toNat, 21), (c.toNat, 12)])
  | .cvt d a h c x y m => some (put 0x3A000000 [(d.toNat, 23), (a.toNat, 21), (h.toNat, 16), (c.toNat, 12), (x.toNat, 8), (y.toNat, 4), (m.toNat, 0)])
  | .cvtb4 d a h m s => some (put 0x3C000000 [(d.toNat, 23), (a.toNat, 21), (h.toNat, 16), (m.toNat, 2), (s.toNat, 0)])
  | .fabsn d a b s c m => some (put 0x3E000000 [(d.toNat, 23), (a.toNat, 21), (b.toNat, 19), (s.toNat, 16), (c.toNat, 12), (m.toNat, 0)])
  | .lshuf d a b s => some (put 0x40000000 [(d.toNat, 23), (a.toNat, 21), (b.toNat, 19), (s.toNat, 16)])
  | .lbcast d a l => some (put 0x42000000 [(d.toNat, 23), (a.toNat, 21), (l.toNat, 0)])
  | .lscan d a m o => some (put 0x44000000 [(d.toNat, 23), (a.toNat, 21), (m.toNat, 4), (o.toNat, 0)])
  | .lred d a m o => some (put 0x46000000 [(d.toNat, 23), (a.toNat, 21), (m.toNat, 4), (o.toNat, 0)])
  | .lcompact => some (put 0x48000000 [])
  | .filter q => some (put 0x4A000000 [(q.toNat, 0)])
  | .fork d a b s q => some (put 0x4C000000 [(d.toNat, 23), (a.toNat, 21), (b.toNat, 19), (s.toNat, 16), (q.toNat, 0)])
  | .recirc q => some (put 0x4E000000 [(q.toNat, 0)])
  | .steer q => some (put 0x50000000 [(q.toNat, 0)])
  | .merge => some (put 0x52000000 [])
  | .reord => some (put 0x54000000 [])
  | .gen d a b s i => some (put 0x56000000 [(d.toNat, 23), (a.toNat, 21), (b.toNat, 19), (s.toNat, 16), (i.toNat, 0)])
  | .seqtag => some (put 0x58000000 [])
  | .isect d b => some (put 0x5A000000 [(d.toNat, 23), (b.toNat, 19)])
  | .spld d a b c z o => some (put 0x5C000000 [(d.toNat, 23), (a.toNat, 21), (b.toNat, 19), (c.toNat, 12), (z.toNat, 10), (o.toNat, 0)])
  | .spst d a b c z o => some (put 0x5E000000 [(d.toNat, 23), (a.toNat, 21), (b.toNat, 19), (c.toNat, 12), (z.toNat, 10), (o.toNat, 0)])
  | .spamo d a b c k o => some (put 0x60000000 [(d.toNat, 23), (a.toNat, 21), (b.toNat, 19), (c.toNat, 12), (k.toNat, 9), (o.toNat, 0)])
  | .spfill d a b c z o => some (put 0x62000000 [(d.toNat, 23), (a.toNat, 21), (b.toNat, 19), (c.toNat, 12), (z.toNat, 10), (o.toNat, 0)])
  | .spmark d a b c f => some (put 0x64000000 [(d.toNat, 23), (a.toNat, 21), (b.toNat, 19), (c.toNat, 12), (f.toNat, 0)])
  | .mld d a c z e n v => some (put 0x66000000 [(d.toNat, 23), (a.toNat, 21), (c.toNat, 12), (z.toNat, 10), (e.toNat, 6), (n.toNat, 3), (v.toNat, 2)])
  | .mst d a c z e n => some (put 0x68000000 [(d.toNat, 23), (a.toNat, 21), (c.toNat, 12), (z.toNat, 10), (e.toNat, 6), (n.toNat, 3)])
  | .mgath a c e n => some (put 0x6A000000 [(a.toNat, 21), (c.toNat, 12), (e.toNat, 6), (n.toNat, 3)])
  | .mscat a c e n => some (put 0x6C000000 [(a.toNat, 21), (c.toNat, 12), (e.toNat, 6), (n.toNat, 3)])
  | .sbars h s l => some (put 0x6E000000 [(h.toNat, 21), (s.toNat, 12), (l.toNat, 0)])
  | .trswap e m => some (put 0x70000000 [(e.toNat, 6), (m.toNat, 0)])
  | .trload a b s p q d => some (put 0x72000000 [(a.toNat, 21), (b.toNat, 19), (s.toNat, 16), (p.toNat, 14), (q.toNat, 3), (d.toNat, 0)])
  | .trmv p l q => some (put 0x74000000 [(p.toNat, 14), (l.toNat, 2), (q.toNat, 0)])
  | .pkout a h => some (put 0x76000000 [(a.toNat, 21), (h.toNat, 0)])
  | .pkin h => some (put 0x78000000 [(h.toNat, 0)])
  | .tmerge => some (put 0x7A030000 [])
  | .b4dec d a => some (put 0x7C000000 [(d.toNat, 23), (a.toNat, 21)])
  | .softacc d a b s c n m => some (put 0x7E000000 [(d.toNat, 23), (a.toNat, 21), (b.toNat, 19), (s.toNat, 16), (c.toNat, 12), (n.toNat, 3), (m.toNat, 0)])
  | .sink => some (put 0x80000000 [])
  | .token k => some (put 0x82000000 [(k.toNat, 0)])
  | .blockFetch _ => none
  | .readDeliver _ _ => none
  | .blockCommit _ => none
  | .bufferedWriteResume _ => none
  | .blockHang _ => none
  | .waitPhaseReached _ => none
  | .awaitComplete _ => none
  | .pjoinComplete _ => none
  | .mxjoinComplete _ => none
  | .taskRetire _ => none
  | .yieldRequeue _ => none
  | .taskPop _ => none
  | .gangPlace _ => none
  | .preemptConsider _ => none
  | .checkpointComplete _ => none
  | .launchOpen _ => none
  | .heldTaskRelease _ => none
  | .launchFinish _ => none
  | .triggerRegisterWrite _ => none
  | .graphRunStart _ => none
  | .sprueTrigger _ => none
  | .dispatchStop _ _ => none
  | .dispatchGo _ _ => none
  | .attest _ => none
  | .telemetry _ => none
  | .logread => none
  | .logclear _ _ => none
  | .accessRead _ _ => none
  | .accessWrite _ _ _ => none
  | .specialRegisterWrite _ => none
  | .mouldLoadDone _ _ => none
  | .mouldComplete _ _ => none
  | .stageAccessComplete _ => none
  | .tokenArrive _ _ _ => none
  | .quantumExpiry _ _ => none
  | .mxcfgArm _ => none
  | .passStart _ _ => none
  | .operandRelease _ _ _ => none
  | .passAccumulate _ _ _ => none
  | .writeOut _ _ => none
  | .ladleTransferStart _ _ => none
  | .decompBlock _ _ => none
  | .ladleTransferComplete _ _ => none
  | .ladleDoorbellWrite _ _ _ => none
  | .remoteHallmarkQuery _ _ _ => none
  | .remoteHallmarkReport _ _ _ => none
  | .spliceRun _ => none
  | .spliceAbsentTimeout _ => none
  | .repairStart _ => none
  | .repairTaskRetired _ => none
  | .crucibleBlock _ _ _ => none
  | .kattRevisit _ _ _ => none
  | .kattAbsentTimeout _ _ => none
  | .kattComplete _ => none
  | .watchdogFire _ => none
  | .slotctlThaw _ => none
  | .slotctlKill _ => none
  | .slotctlRequeue _ => none
  | .ctxswSave _ => none
  | .ctxswRestore _ => none
  | .ctxswComplete => none
  | .tracectlFreeze _ => none
  | .tracectlThaw _ => none
  | .tracePostFreeze _ => none
  | .scrub _ _ _ => none
  | .pageWalk _ _ => none
  | .lineFill _ _ _ => none
  | .sliceRetry _ _ => none
  | .sliceLeaveService _ _ => none
  | .shootdownComplete _ => none
  | .blockInvalidateComplete _ => none
  | .wbRewalk _ => none
  | .migrationCopyDone _ => none
  | .migrationFinish _ => none
  | .peerAccessIn _ _ _ _ _ => none
  | .linkRetransmit _ => none
  | .linkOutOfService _ => none
  | .linkPathTimeout _ _ => none
  | .edgeFailure _ => none
  | .partFailure _ _ => none
  | .powerThrottle _ _ => none
  | .startController _ _ _ _ => none
  | .dieOpen _ _ _ _ _ _ _ _ => none
  | .edgeTraining _ _ => none
  | .linkTraining _ _ => none
  | .fenceScComplete _ => none
  | .writeVisibleOnDie _ _ => none

/-- The word at the head of a little-endian byte list, and the bytes after it (00 R1, 05 R59). -/
def takeWord : List Byte → Option (Word32 × List Byte)
  | a :: b :: c :: d :: rest => some (d ++ c ++ b ++ a, rest)
  | _ => none

/-- A sequencer instruction at the head of a byte list. -/
def decodeBytes (bs : List Byte) : Except Reject (Instr × List Byte) :=
  match takeWord bs with
  | none => .error .truncated
  | some (w, rest) =>
    match decodeSeq w with
    | .ok i => .ok (i, rest)
    | .error e => .error e

/-- The instruction of a 32-bit word of the table. Sequencer words and stage operation words share the numbers 0x00 to 0x41
of bits 31:25; what tells them apart on the part is the place they stand in. Here a word is read as a sequencer word, and as
a stage word where the sequencer refuses it: log entry 14. -/
def decodeTableWord (_nbits w : Nat) : Option Instr :=
  let word := BitVec.ofNat 32 w
  match decodeSeq word with
  | .ok i => some i
  | .error _ =>
    match decodeStage word with
    | .ok i => some i
    | .error _ => none

end Sys2Proof
end

