-- ==== Sys2Proof/Config.lean ====
section
/-! DEFINITION. What the manual leaves to the implementation, and the free values: constants with no body, so that nothing
can be proved about what they are (log entries 1, 9, 17, 19). -/

namespace Sys2Proof

/-- Whose turn it is: a cycle passes, an instruction of a block in flight fires, a stage of a mould fires, or one of the
table's events comes about. -/
inductive Turn where
  | clock
  | fire (slot idx : Nat)
  | stage (die entry pipe stg : Nat)
  | event (i : Instr)
  deriving DecidableEq, Repr, Inhabited

/-- Which party acts when the state's agenda names none: no rule gives the order of independent parties (05 R69, 11 R175;
00 R5). Free: log entry 1. -/
opaque Config.turn : Nat → Turn

/-- A fresh free word for each step, by its tick, and each place in it (log entries 16, 17 and 19). -/
opaque Config.freeWord : Nat → Nat → BitVec 64

/-- A fresh free choice of one of several allowed outcomes (log entry 17). -/
opaque Config.freeBool : Nat → Nat → Bool

/-- How far back in coherence order a write is placed among writes no party has seen (09 R155, R157). Free: log entry 12. -/
opaque Config.place : Nat → Nat

/-- The DETAIL codes of a memory event in the trace are not given (19 R373): 0 atomic, 1 FENCE, 2 wait on FULL, 3 wait on
HELD, 4 slice retry. Free: log entry 21. -/
opaque Config.traceKind : Nat → Nat

/-- The die-wide hash of a line address to one of the slices in service is not given (09 R164). Free: log entry 18. -/
opaque Config.sliceHash : Nat → Nat → Nat

/-- Nor is the hash of a line address to one of the L1s that are fused (09 R134). Free: log entry 18. -/
opaque Config.fuseHash : Nat → Nat

end Sys2Proof
end

