-- ==== Sys2Proof/Machine/Sparse.lean ====
section
/-! DEFINITION. Tables held as sorted lists of key and value with the default value left out, so that equal tables are equal
data. -/

namespace Sys2Proof.Machine

/-- Key and value pairs, keys strictly rising. -/
abbrev Smap (α : Type) := List (Nat × α)

def Smap.find {α : Type} (m : Smap α) (k : Nat) : Option α :=
  match m with
  | [] => none
  | (j, v) :: rest => if j = k then some v else if k < j then none else Smap.find rest k

/-- The value at k, or the default. -/
def Smap.getD {α : Type} (m : Smap α) (d : α) (k : Nat) : α := (Smap.find m k).getD d

def Smap.insert {α : Type} (m : Smap α) (k : Nat) (v : α) : Smap α :=
  match m with
  | [] => [(k, v)]
  | (j, w) :: rest =>
    if j = k then (k, v) :: rest else if k < j then (k, v) :: (j, w) :: rest else (j, w) :: Smap.insert rest k v

def Smap.erase {α : Type} (m : Smap α) (k : Nat) : Smap α :=
  match m with
  | [] => []
  | (j, w) :: rest => if j = k then rest else if k < j then (j, w) :: rest else (j, w) :: Smap.erase rest k

/-- Write v at k; the default removes the entry. -/
def Smap.put {α : Type} [DecidableEq α] (m : Smap α) (d : α) (k : Nat) (v : α) : Smap α :=
  if v = d then Smap.erase m k else Smap.insert m k v

def Smap.has {α : Type} (m : Smap α) (k : Nat) : Bool := (Smap.find m k).isSome

/-- Keys strictly rise, all above lo. -/
def Smap.sortedFrom {α : Type} (lo : Nat) (m : Smap α) : Bool :=
  match m with
  | [] => true
  | (j, _) :: rest => decide (lo ≤ j) && Smap.sortedFrom (j + 1) rest

/-- The canonical form: keys strictly rise and no entry holds the default. -/
def Smap.wf {α : Type} [DecidableEq α] (d : α) (m : Smap α) : Bool :=
  Smap.sortedFrom 0 m && m.all (fun e => decide (e.2 ≠ d))

/-- Replace the n-th element of a list; a list too short is left as it is. -/
def setNth {α : Type} (l : List α) (n : Nat) (v : α) : List α := l.set n v

/-- Change the n-th element of a list. -/
def modNth {α : Type} (l : List α) (n : Nat) (f : α → α) : List α := l.modify n f

/-- The n bytes of a number, least significant first (00 R1). -/
def bytesOf (n v : Nat) : List Byte :=
  match n with
  | 0 => []
  | k + 1 => BitVec.ofNat 8 v :: bytesOf k (v / 256)

/-- The number little-endian bytes hold. -/
def natOf (bs : List Byte) : Nat :=
  match bs with
  | [] => 0
  | b :: rest => b.toNat + 256 * natOf rest

/-- Bits hi down to lo of a number (00 R4). -/
def bitsOf (x hi lo : Nat) : Nat := x / 2 ^ lo % 2 ^ (hi + 1 - lo)

/-- Insert by key, after what has an equal key. -/
def insertBy {α : Type} (key : α → Nat) (x : α) : List α → List α
  | [] => [x]
  | y :: rest => if key x < key y then x :: y :: rest else y :: insertBy key x rest

/-- Sort by a key, least first; equal keys keep their order. -/
def sortBy {α : Type} (key : α → Nat) (l : List α) : List α := l.foldl (fun acc x => insertBy key x acc) []

end Sys2Proof.Machine
end

