-- ==== Sys2Proof/Machine/Num.lean ====
section
/-! DEFINITION. Number formats and exact arithmetic (03 R33-R42, R50, R53): a value is a NaN, an infinity or an exact
signed rational, and every result is rounded once to its format. -/

namespace Sys2Proof.Machine

/-- An exact value. A zero keeps its sign (R41). The magnitude is num / den, den above 0. -/
inductive Val where
  | nan
  | inf (neg : Bool)
  | fin (neg : Bool) (num den : Nat)
  deriving DecidableEq, Repr

/-- A binary floating-point format (R35): exponent and mantissa widths, bias, and whether it lacks infinities (E4M3). -/
structure FFmt where
  ebits : Nat
  mbits : Nat
  bias : Nat
  finiteOnly : Bool
  deriving DecidableEq, Repr

def fp32 : FFmt := ⟨8, 23, 127, false⟩
def bf16 : FFmt := ⟨8, 7, 127, false⟩
def fp16 : FFmt := ⟨5, 10, 15, false⟩
def e4m3 : FFmt := ⟨4, 3, 7, true⟩
def e5m2 : FFmt := ⟨5, 2, 15, false⟩

/-- Rounding modes (R40). DITHER carries the position and the phase (R50). -/
inductive RMode where
  | rne
  | rtz
  | ru
  | rd
  | dither (pos phase : Nat)
  deriving DecidableEq, Repr

def FFmt.width (f : FFmt) : Nat := 1 + f.ebits + f.mbits

/-- Bits of the largest finite magnitude (R35, R36). -/
def FFmt.maxFinite (f : FFmt) : Nat :=
  if f.finiteOnly then (1 <<< (f.ebits + f.mbits)) - 2
  else ((1 <<< f.ebits) - 1) <<< f.mbits - 1

/-- The canonical NaN (R37). -/
def FFmt.nanBits (f : FFmt) : Nat :=
  if f.finiteOnly then (1 <<< (f.ebits + f.mbits)) - 1
  else ((1 <<< f.ebits) - 1) <<< f.mbits + 1 <<< (f.mbits - 1)

/-- Bits of the infinity magnitude. -/
def FFmt.infBits (f : FFmt) : Nat := ((1 <<< f.ebits) - 1) <<< f.mbits

/-- num / den times 2 to the k, as a quotient. -/
def scaleBy (num den : Nat) (k : Int) : Nat × Nat :=
  match k with
  | .ofNat n => (num <<< n, den)
  | .negSucc n => (num, den <<< (n + 1))

/-- The exact value bits stand for (R35, R36). Bits above the width are ignored (R34). -/
def FFmt.decode (f : FFmt) (x : Nat) : Val :=
  let x := x % (1 <<< f.width)
  let neg := x / (1 <<< (f.ebits + f.mbits)) == 1
  let mag := x % (1 <<< (f.ebits + f.mbits))
  let e := mag / (1 <<< f.mbits)
  let m := mag % (1 <<< f.mbits)
  if f.finiteOnly && mag == (1 <<< (f.ebits + f.mbits)) - 1 then .nan
  else if !f.finiteOnly && e == (1 <<< f.ebits) - 1 then (if m == 0 then .inf neg else .nan)
  else if e == 0 then
    let q := scaleBy m 1 (1 - (f.bias : Int) - f.mbits)
    .fin neg q.1 q.2
  else
    let q := scaleBy ((1 <<< f.mbits) + m) 1 ((e : Int) - f.bias - f.mbits)
    .fin neg q.1 q.2

/-- Bit reversal of five bits (R50). -/
def brev5 (n : Nat) : Nat :=
  n % 2 * 16 + n / 2 % 2 * 8 + n / 4 % 2 * 4 + n / 8 % 2 * 2 + n / 16 % 2

/-- Does a remainder r of d, over a lower neighbour q, round away from zero (R40, R50)? -/
def RMode.up (m : RMode) (neg : Bool) (q r d : Nat) : Bool :=
  match m with
  | .rne => d < 2 * r || (2 * r == d && q % 2 == 1)
  | .rtz => false
  | .ru => !neg && 0 < r
  | .rd => neg && 0 < r
  | .dither i phi => 0 < r && (2 * brev5 ((i + phi) % 32) + 1) * d ≤ 64 * r

/-- Floor of the base-2 logarithm of num / den, num above 0. -/
def floorLog2 (num den : Nat) : Int :=
  let l : Int := (Nat.log2 num : Int) - Nat.log2 den
  let s := scaleBy num den (-l)
  if s.1 < s.2 then l - 1 else l

/-- Magnitude bits of num / den rounded as though the exponent were unbounded above. -/
def FFmt.roundMag (f : FFmt) (m : RMode) (neg : Bool) (num den : Nat) : Nat :=
  if num == 0 then 0
  else
    let emin : Int := 1 - (f.bias : Int)
    let e := max (floorLog2 num den) emin
    let s := scaleBy num den ((f.mbits : Int) - e)
    let q := s.1 / s.2
    let q' := if m.up neg q (s.1 % s.2) s.2 then q + 1 else q
    (e - emin).toNat <<< f.mbits + q'

/-- The magnitude a value beyond the largest finite one becomes (R41). -/
def FFmt.overflow (f : FFmt) (m : RMode) (neg : Bool) : Nat :=
  if f.finiteOnly then f.maxFinite
  else match m with
    | .rne => f.infBits
    | .dither _ _ => f.infBits
    | .rtz => f.maxFinite
    | .ru => if neg then f.maxFinite else f.infBits
    | .rd => if neg then f.infBits else f.maxFinite

/-- Round a value to a format under a mode (R40, R41). -/
def FFmt.round (f : FFmt) (m : RMode) (v : Val) : Nat :=
  let sign (neg : Bool) : Nat := if neg then 1 <<< (f.ebits + f.mbits) else 0
  match v with
  | .nan => f.nanBits
  | .inf neg => sign neg + (if f.finiteOnly then f.maxFinite else f.infBits)
  | .fin neg num den =>
    -- Above the largest finite magnitude DITHER is RNE (R50).
    let big := f.decode f.maxFinite
    let m := match m, big with
      | .dither i p, .fin _ bn bd => if bn * den < num * bd then RMode.rne else .dither i p
      | m, _ => m
    let mag := f.roundMag m neg num den
    sign neg + (if f.maxFinite < mag then f.overflow m neg else mag)

/-- Round a finite value to an integer under a mode. -/
def roundInt (m : RMode) (neg : Bool) (num den : Nat) : Int :=
  let q := num / den
  let q' := if m.up neg q (num % den) den then q + 1 else q
  if neg then -(q' : Int) else q'

/-- Clamp to a signed range of n bits. -/
def saturate (n : Nat) (x : Int) : Int :=
  let hi : Int := (1 <<< (n - 1) : Nat) - 1
  if hi < x then hi else if x < -hi - 1 then -hi - 1 else x

/-- Convert a value to a signed integer of n bits (R42). -/
def Val.toInt (v : Val) (m : RMode) (n : Nat) : Int :=
  let hi : Int := (1 <<< (n - 1) : Nat) - 1
  match v with
  | .nan => 0
  | .inf neg => if neg then -hi - 1 else hi
  | .fin neg num den => saturate n (roundInt m neg num den)

def Val.ofInt (x : Int) : Val := .fin (x < 0) x.natAbs 1

def Val.isNan (v : Val) : Bool :=
  match v with
  | .nan => true
  | _ => false

def Val.neg (v : Val) : Val :=
  match v with
  | .nan => .nan
  | .inf s => .inf (!s)
  | .fin s n d => .fin (!s) n d

/-- Exact sum; a zero sum of opposite signs is +0, or −0 under RD (R41). -/
def Val.add (rd : Bool) (a b : Val) : Val :=
  match a, b with
  | .nan, _ => .nan
  | _, .nan => .nan
  | .inf s, .inf t => if s == t then .inf s else .nan
  | .inf s, .fin _ _ _ => .inf s
  | .fin _ _ _, .inf t => .inf t
  | .fin s n d, .fin t m e =>
    if s == t then .fin s (n * e + m * d) (d * e)
    else if n * e == m * d then .fin rd 0 1
    else if m * d < n * e then .fin s (n * e - m * d) (d * e)
    else .fin t (m * d - n * e) (d * e)

/-- Exact product (R118). -/
def Val.mul (a b : Val) : Val :=
  match a, b with
  | .nan, _ => .nan
  | _, .nan => .nan
  | .inf s, .inf t => .inf (s != t)
  | .inf s, .fin t m _ => if m == 0 then .nan else .inf (s != t)
  | .fin s n _, .inf t => if n == 0 then .nan else .inf (s != t)
  | .fin s n d, .fin t m e => .fin (s != t) (n * m) (d * e)

/-- Exact quotient (R118). -/
def Val.div (a b : Val) : Val :=
  match a, b with
  | .nan, _ => .nan
  | _, .nan => .nan
  | .inf _, .inf _ => .nan
  | .inf s, .fin t _ _ => .inf (s != t)
  | .fin s _ _, .inf t => .fin (s != t) 0 1
  | .fin s n d, .fin t m e =>
    if m == 0 then (if n == 0 then .nan else .inf (s != t)) else .fin (s != t) (n * e) (d * m)

/-- Integer square root of n, of at most k bits. -/
def isqrt (k n : Nat) : Nat :=
  match k with
  | 0 => 0
  | j + 1 =>
    let hi := isqrt j (n / 4)
    let c := 2 * hi + 1
    if c * c ≤ n then c else 2 * hi

/-- Square root, held to 2^-160 with the lost part as half a unit, which never changes a rounding to FP32 (R120). -/
def Val.sqrt (a : Val) : Val :=
  match a with
  | .nan => .nan
  | .inf s => if s then .nan else .inf false
  | .fin s n d =>
    if n == 0 then .fin s 0 1
    else if s then .nan
    else
      let x := (n <<< 320) / d
      let r := isqrt 400 x
      let exact := r * r == x && (n <<< 320) % d == 0
      .fin false (if exact then 2 * r else 2 * r + 1) (1 <<< 161)

/-- Less-than on exact values; false when unordered (R39). -/
def Val.lt (a b : Val) : Bool :=
  match a, b with
  | .nan, _ => false
  | _, .nan => false
  | .inf s, .inf t => s && !t
  | .inf s, .fin _ _ _ => s
  | .fin _ _ _, .inf t => !t
  | .fin s n d, .fin t m e =>
    let x : Int := if s then -((n * e : Nat) : Int) else (n * e : Nat)
    let y : Int := if t then -((m * d : Nat) : Int) else (m * d : Nat)
    x < y

/-- Equality on exact values (R39). -/
def Val.eqv (a b : Val) : Bool := !a.isNan && !b.isNan && !a.lt b && !b.lt a

def Val.le (a b : Val) : Bool := a.lt b || a.eqv b

/-- FP32 minimum and maximum on bits (R39, R118): the chosen operand's bits, −0 below +0. -/
def fpMin (x y : Nat) : Nat :=
  match (fp32.decode x).isNan, (fp32.decode y).isNan with
  | true, true => fp32.nanBits
  | true, false => y
  | false, true => x
  | false, false =>
    if (fp32.decode x).lt (fp32.decode y) then x
    else if (fp32.decode y).lt (fp32.decode x) then y
    else if x / 2 ^ 31 == 1 then x else y

def fpMax (x y : Nat) : Nat :=
  match (fp32.decode x).isNan, (fp32.decode y).isNan with
  | true, true => fp32.nanBits
  | true, false => y
  | false, true => x
  | false, false =>
    if (fp32.decode x).lt (fp32.decode y) then y
    else if (fp32.decode y).lt (fp32.decode x) then x
    else if x / 2 ^ 31 == 1 then y else x

/-- A rounding that adds: exact sum, rounded once. -/
def fpAdd (m : RMode) (x y : Nat) : Nat :=
  fp32.round m (Val.add (m == .rd) (fp32.decode x) (fp32.decode y))

def fpSub (m : RMode) (x y : Nat) : Nat :=
  fp32.round m (Val.add (m == .rd) (fp32.decode x) (fp32.decode y).neg)

def fpMul (m : RMode) (x y : Nat) : Nat := fp32.round m (Val.mul (fp32.decode x) (fp32.decode y))

def fpDiv (m : RMode) (x y : Nat) : Nat := fp32.round m (Val.div (fp32.decode x) (fp32.decode y))

/-- x times y plus z, rounded once (R55). -/
def fpFma (m : RMode) (x y z : Nat) : Nat :=
  fp32.round m (Val.add (m == .rd) (Val.mul (fp32.decode x) (fp32.decode y)) (fp32.decode z))

/-- The float format of a code, if it names one (R33). -/
def floatOf (code : Nat) : Option FFmt :=
  if code == 0 then some fp32
  else if code == 1 then some bf16
  else if code == 2 then some fp16
  else if code == 3 then some e4m3
  else if code == 4 then some e5m2
  else none

/-- The width of an integer format code (R33). -/
def intOf (code : Nat) : Option Nat :=
  if code == 8 then some 8
  else if code == 9 then some 16
  else if code == 10 then some 32
  else if code == 11 then some 64
  else none

/-- Bytes of one element of a format, TB4 apart. -/
def fmtBytes (code : Nat) : Nat :=
  match floatOf code with
  | some f => f.width / 8
  | none => (intOf code).getD 0 / 8

/-- An integer as n bits of two's complement. -/
def intBits (n : Nat) (x : Int) : Nat := (x % ((1 <<< n : Nat) : Int)).toNat

/-- n bits as a signed integer. -/
def signedOf (n x : Nat) : Int :=
  let x := x % (1 <<< n)
  if x < 1 <<< (n - 1) then x else (x : Int) - (1 <<< n : Nat)

/-- Convert a 32-bit lane word between two formats that have a place in one (R34, R42). Integer results are sign-extended. -/
def convert (m : RMode) (src dst x : Nat) : Nat :=
  match floatOf src, floatOf dst with
  | some f, some g => g.round m (f.decode x)
  | some f, none => intBits 32 ((f.decode x).toInt m ((intOf dst).getD 32))
  | none, some g => g.round m (Val.ofInt (signedOf ((intOf src).getD 32) x))
  | none, none => intBits 32 (saturate ((intOf dst).getD 32) (signedOf ((intOf src).getD 32) x))

end Sys2Proof.Machine
end

