-- ==== Sys2Proof/Machine/State.lean ====
section
/-! DEFINITION. Everything the manual gives the machine, as plain data, and the state after reset.
Tables of many like parts (slots, bays, lines, elements) are Smap tables: what they do not list is at its reset value. -/

namespace Sys2Proof.Machine

/-! ### Why a step stops -/

/-- A stop that no program can reach: the machine's own conditions are all next states. -/
inductive Fault where
  /-- An instruction word is executed while State.focus names no block in flight, or no stage, that holds it. Raised by
  the meanings of instruction words and stage words when exec is called on such a state; step never does. Safe: the part
  has no such state. -/
  | noFocus
  deriving DecidableEq, Repr

/-- An instruction without a meaning. -/
inductive Refusal where
  /-- The instruction has no meaning in the model yet. Raised by an arm of exec. Safe: nothing can be proved of it. -/
  | notModelled (mnemonic : String)
  deriving DecidableEq, Repr

/-! ### Parties, writes, faults held -/

/-- A party of 09 R153. Tasks and operations are named by numbers of the model's own (uid, op), which no program sees. -/
inductive Party where
  | task (uid : Nat)
  | portStream (bay n : Nat)
  | padStream (bay unit n : Nat)
  | op (id : Nat)
  | device (die : Nat)
  | host
  /-- A peer device, by its chip identifier. -/
  | peer (chip : Nat)
  deriving DecidableEq, Repr

/-- A source of writes: to one line they become visible in the order it issued them (09 R155). An operation of the KV engines or a
migration, a mould's stream and the outside are each their own. -/
inductive Origin where
  | slot (k : Nat)
  | chan (bay n : Nat)
  | tile (bay : Nat)
  | crucible (n : Nat)
  /-- A splice, a repair or a migration, at its issuer's bay (R153). -/
  | engine (bay op : Nat)
  | own (p : Party)
  deriving DecidableEq, Repr

/-- How one write must precede another: it is visible on these dies first, or it is visible to whoever acquires the other at a scope,
where that scope and the acquirer's include both parties (09 R158, R159). -/
inductive Prec where
  | on (dies : List Nat)
  | scope (n : Nat)
  deriving DecidableEq, Repr

/-- A write that must precede another, and how. -/
abbrev Dep := Nat × Prec

/-- A performed write that is not yet visible everywhere (09 R155, R156). Dies 0 to 3 are the package's, 4 is the host, 6 + c the
peer with chip identifier c once it has made itself known, and 5 every other peer (R153: each counts as a die of its own). -/
structure WriteRec where
  id : Nat
  src : Party
  origin : Origin
  /-- Of a stream: the group it was issued in, from 1 (R157; 11 R201). -/
  group : Nat
  addr : Nat
  data : List Byte
  /-- Dies on which the write is visible. -/
  seen : List Nat
  /-- Writes that must precede this one (R158, R145). -/
  deps : List Dep
  /-- Written by an atomic: no write falls between it and the write its read returned (R143). -/
  atomic : Bool
  deriving DecidableEq, Repr

/-- A held imprecise record or a queue entry (19 R352, R360). -/
structure ImpRec where
  cause : Byte
  source : Byte
  flags : Byte
  ctx : BitVec 6
  /-- Slot number bay * 8 + slot of the owning task, or none. -/
  owner : Option Nat
  count : BitVec 16
  addr : Word
  d1 : Word
  d2 : Word
  deriving DecidableEq, Repr

/-- A push that waits for the migration of a page it goes to (21 R387): from a die, to the queue of a descriptor, with what it releases. -/
structure LatePush where
  die : Nat
  desc : Nat
  entry : List Byte
  rel : List Nat
  deriving DecidableEq, Repr

/-- What an outstanding operation of a task is (19 R362). -/
inductive JoinKind where
  | ladle (bay chan : Nat)
  | matrix (bay entry : Nat)
  | kv (bay : Nat)
  | mould (die entry : Nat)
  | migration (bay : Nat)
  deriving DecidableEq, Repr

/-- An operation a task forked, until it is joined. -/
structure JoinOb where
  kind : JoinKind
  op : Nat
  /-- Index of the instruction of the block being committed that forked it; 0 once that block has been left. A wait joins
  what lower-index instructions forked (13 R238, R251). -/
  idx : Nat
  done : Bool
  /-- Joined by the exit or yield join (a matrix entry only with JOIN 1, 13 R236). -/
  atExit : Bool
  faults : List ImpRec
  /-- A ninth distinct report was lost (19 R352). -/
  overflow : Bool
  deriving DecidableEq, Repr

/-! ### Blocks in flight -/

/-- Captured operands of a fired instruction (19 R353: REPLAY, HELD). grp holds the registers of a group operand (05 R67). -/
structure Capture where
  idx : Nat
  l : Word
  r : Word
  p : Word
  grp : List Word
  deriving DecidableEq, Repr

/-- A read in flight (05 R76): fired and not yet delivered. -/
structure ReadInFlight where
  cap : Capture
  addr : Word
  size : Nat
  signed : Bool
  acquire : Bool
  /-- Generation of the slice map under which its line was hashed (09 R165). -/
  gen : BitVec 4
  /-- Answered with retry: later requests of the slot to its line wait (R165). -/
  retried : Bool
  deriving DecidableEq, Repr

/-- A translation as an access uses it (21 R377, R384). -/
structure Trans where
  pa : Nat
  home : Nat
  tier : Nat
  cnt : Bool
  wb : Bool
  w : Bool
  r : Bool
  large : Bool
  ctr : Nat
  deriving DecidableEq, Repr

/-- What an address leads to. -/
inductive Place where
  /-- Physical memory, with the page's translation. -/
  | mem (t : Trans)
  /-- A page of a KV block, through the KV window (17 R317). -/
  | kv (pa : Nat)
  | pad (va : Nat)
  | padWord (ln : Nat)
  | template (bay off : Nat)
  | doorbell (bay chan : Nat)
  | sched (off : Nat)
  | trace (bay rec : Nat) (high : Bool)
  deriving DecidableEq, Repr

/-- An entry of the slot's store buffer (05 R60, R76; 19 R353 STORE). -/
structure StoreEntry where
  idx : Nat
  addr : Word
  data : Word
  dataP : Word
  /-- Where its address led when it fired (09 R138, R140); a frame and an image have no room for it. -/
  place : Option Place
  /-- Generation of the slice map under which its line was hashed, once it has been issued (R165). -/
  gen : Option (BitVec 4)
  deriving DecidableEq, Repr

/-- A register write to land at commit (05 R75). -/
structure RegWrite where
  reg : Nat
  writer : Nat
  value : Word
  deriving DecidableEq, Repr

/-- The aligned 8 bytes that hold what a load has bound, as they stood when it bound it, each with the write it came from
(09 R129, R154, R155). -/
structure BoundRead where
  idx : Nat
  key : Nat
  bytes : List Byte
  from_ : List (Option Nat)
  deriving DecidableEq, Repr

/-- The exit chosen (05 R71, R73). -/
inductive ExitSel where
  | goto (succ : Addr)
  | exit
  | yield
  | eret
  deriving DecidableEq, Repr

/-- Where a commit stands (05 R75): not begun, or at a step, with the lowest index not yet performed in it. -/
inductive CommitPos where
  | firing
  | writes (idx : Nat)
  | effects (idx : Nat)
  /-- Between steps 3 and 4: what the effects started must complete (CACHEOP, TLBOP, FENCE; 07 R122, R123; 09 R146). -/
  | settle
  | waits (idx : Nat)
  | leave
  deriving DecidableEq, Repr

/-- What holds the exit of a committing block (07 R122, R123; 09 R145-R147, R160). -/
inductive Hold where
  /-- TLBOP: a page (its 64 KiB number), or every page. -/
  | shootdown (page : Option Nat)
  /-- CACHEOP: a 128-byte granule, or a whole die's caches. -/
  | invalidate (granule : Option Nat)
  /-- FENCE sc: the writes that must be visible, and on which dies. -/
  | fenceSc (deps dies : List Nat)
  /-- FENCE over engines: the operations that must have performed their accesses, and its scope. -/
  | engines (ops : List Nat) (scope : Nat)
  /-- SBAR: the stage accesses that must be performed, and the die on which they must be visible. -/
  | streams (accesses : List Nat)
  deriving DecidableEq, Repr

/-- A block in flight (05 R59-R78). -/
structure Block where
  addr : Addr
  /-- The instruction words as fetched, index 0 first. -/
  words : List Word32
  handler : Bool
  /-- The view the block was fetched in (05 R80, 07 R108). -/
  priv : Bool
  fired : BitVec 128
  /-- The block's cycle in which each instruction fired (R74). -/
  firedAt : Smap Nat
  /-- Values delivered to slots: key index * 3 + (0 L, 1 R, 2 P). -/
  tokens : Smap Word
  reads : List ReadInFlight
  /-- Instructions fired and not finished that are no plain reads (a waiting COLLECT or HMTEST). -/
  replay : List Capture
  held : List Capture
  stores : List StoreEntry
  regw : List RegWrite
  exit : Option (Nat × ExitSel)
  /-- What loads have bound, oldest first. -/
  bound : List BoundRead
  cycles : Nat
  pos : CommitPos
  holds : List Hold
  /-- Wait-class instruction being performed (05 R75, step 4): its index, and the generation an AWAIT fixed (15 R298). -/
  waiting : Option Nat
  fixedGen : Option (BitVec 16)
  deriving DecidableEq, Repr

/-- A block read back from a frame, to be reinstated when its words have been fetched (19 R355, R356, R363). -/
structure Resume where
  fired : BitVec 128
  exitSel : Bool
  succ : Addr
  /-- 00 mid-block, 01 at a commit wait, 10 after the exit join. -/
  mode : Nat
  resIdx : Nat
  replay : List Capture
  held : List Capture
  /-- Instruction, slot and value. -/
  tokens : List (Nat × Nat × Word)
  stores : List StoreEntry
  regw : List RegWrite
  /-- From a save image: the checks of R356 are not made. -/
  image : Bool
  deriving DecidableEq, Repr

/-! ### Tasks and slots -/

/-- How the successor block is reached (05 R61). -/
inductive Arrival where
  | normal
  | trap
  | fromHandler
  /-- ERET reinstates the block in the frame (07 R115). -/
  | eret
  deriving DecidableEq, Repr

/-- The task in a slot: the record it was popped from and what its launch gave it (15 R262-R264). -/
structure Task where
  uid : Nat
  record : Addr
  entry : Word
  join : Word32
  launchField : BitVec 16
  flags : BitVec 16
  arg : Word
  /-- Launch index it counts under (R264, R274). -/
  launch : Nat
  /-- Queue it was popped from: die, level, class. -/
  qDie : Nat
  qLevel : Nat
  qClass : Nat
  /-- Gang it belongs to, a number of the model's own (15 R292), and its place in the rectangle, by rows. -/
  gang : Option Nat
  place : Nat
  /-- Order of binding, for R291. -/
  boundAt : Nat
  /-- While its image is parked, what the image has no room for: how its block was reached, the exit chosen, the registers of
  group operands captured, by index, and the generation a waiting AWAIT fixed (01 R26; 05 R67; 15 R298). -/
  arrival : Arrival
  exitKept : Option (Addr × Nat × ExitSel)
  grps : List (Nat × List Word)
  fixedGen : Option (BitVec 16)
  /-- And the exit that stands in the last frame written for its slot. -/
  framed : Option (Addr × Nat × ExitSel)
  deriving DecidableEq, Repr

inductive SlotStatus where
  | idle
  | bound
  | running
  | waiting
  /-- In the exit join, or the yield join (01 R25). -/
  | exitJoin
  | yieldJoin
  /-- Frozen; true when frozen at the rewrite of its yield (07 R113; 19 R370). -/
  | frozen (atYield : Bool)
  /-- Selected for a checkpoint: firing has stopped, and the image at the address is being written, through the translation
  taken before (19 R361, R363). -/
  | saving (image pa : Nat)
  deriving DecidableEq, Repr

/-- An entry of a task queue (15 R264, R265; 19 R363). -/
structure QEntry where
  /-- Record address, or save image address with image true. -/
  addr : Word
  image : Bool
  launch : Nat
  level : Nat
  cls : Nat
  /-- Affinity as the pusher read it: 0 any, 1 die, 2 bay, with its target. -/
  affKind : Nat
  affTgt : Nat
  pushedAt : Nat
  /-- Since when no permitted slot has been idle, or pre-emption was last considered for it (R291). -/
  waitFrom : Nat
  /-- Writes the push releases (R269). -/
  deps : List Nat
  /-- A gang queued as one unit. -/
  gang : Option Nat
  /-- The gang a single record belongs to, if it is a member's, and its place in the rectangle, by rows. -/
  member : Option Nat
  place : Nat
  deriving DecidableEq, Repr

/-- One task slot of a sequencer. -/
structure Slot where
  regs : Smap Word
  pc : Addr
  arrival : Arrival
  status : SlotStatus
  task : Option Task
  block : Option Block
  taskrec : Word
  launchid : BitVec 12
  taskidx : Word32
  /-- Group memberships, at most four: group and the die it lives on (15 R281, R282). -/
  groups : List (Nat × Nat)
  est : Word
  frame : Word
  arg : Word
  trapcause : Word
  trapframe : Addr
  ctxid : BitVec 6
  imp : List ImpRec
  impOverflow : Bool
  wCount : Nat
  tCount : Nat
  /-- Popping stopped by HALT or DISPATCH (07 R126). -/
  stopped : Bool
  resume : Option Resume
  /-- The watchdog's interval has run out: W and T as they then stood (19 R368, R369). -/
  due : Option (Nat × Nat)
  /-- A progress event has come in this cycle (19 R368). -/
  progressed : Bool
  /-- Granules of the slot that an uncorrectable error has spoilt (19 R371): a register by its number, an operand waiting in the block by
  64 + instruction * 3 + slot. -/
  badRegs : List Nat
  /-- A wait of its block's fetch on an empty line has been traced (19 R373). -/
  fetchTraced : Bool
  /-- While bound: the entry popped, by die (01 R25). -/
  popped : Option (Nat × QEntry)
  /-- The newcomer that a pre-emption is to free this slot for (15 R292). -/
  claim : Option QEntry
  /-- The exit that stands in the last frame written for the slot: its SUCC, index and kind (19 R353). -/
  framed : Option (Addr × Nat × ExitSel)
  deriving DecidableEq, Repr

def Slot.reset : Slot where
  regs := []
  pc := 0
  arrival := .normal
  status := .idle
  task := none
  block := none
  taskrec := 0
  launchid := 0
  taskidx := 0
  groups := []
  est := 0
  frame := 0
  arg := 0
  trapcause := 0
  trapframe := 0
  ctxid := 0
  imp := []
  impOverflow := false
  wCount := 0
  tCount := 0
  stopped := false
  resume := none
  due := none
  progressed := false
  badRegs := []
  fetchTraced := false
  popped := none
  claim := none
  framed := none

/-! ### Scheduling -/

/-- A gang, from its queueing until its last task is retired (15 R279, R280). -/
structure Gang where
  id : Nat
  launch : Nat
  w : Nat
  h : Nat
  /-- Chosen north-west bay on the die, or any rectangle. -/
  origin : Option Nat
  /-- Where it was placed. -/
  placed : Option Nat
  fuse : Bool
  members : List QEntry
  /-- The group GANG puts its members in. -/
  group : Option Nat
  /-- Members that have not retired (09 R134). -/
  left : Nat
  deriving DecidableEq, Repr

/-- A task or a gang held for its input keys (15 R273). -/
structure HeldUnit where
  launch : Nat
  /-- Task indices: one task, or a gang's members. -/
  tasks : List Nat
  gangIdx : Option Nat
  /-- Input keys that have become ready, each with the writes its stamp or finish released, and the step at which the last did. -/
  ready : List (Nat × List Nat)
  readyAt : Option Nat
  deriving DecidableEq, Repr

/-- A launch in its current run (15 R272-R275). -/
structure LaunchRun where
  unfinished : Nat
  /-- Its entry has been read and checked, and it waits for its groups (R271, R272). -/
  checked : Bool
  opened : Bool
  /-- It has started in this run; a loop launch that is armed again has all the same. -/
  begun : Bool
  started : Bool
  finished : Bool
  failed : Bool
  coarse : Bool
  unretired : Nat
  allReleased : Bool
  estOverride : Option Word
  /-- Bound of a loop launch: X and Y. -/
  bound : Nat × Nat
  run : Nat
  /-- Writes its finish releases (R274). -/
  deps : List Nat
  /-- The entry's sixteen words, as read at opening (R271). -/
  words : List Word
  deriving DecidableEq, Repr

def LaunchRun.reset : LaunchRun where
  unfinished := 0
  checked := false
  begun := false
  opened := false
  started := false
  finished := false
  failed := false
  coarse := false
  unretired := 0
  allReleased := false
  estOverride := none
  bound := (0, 0)
  run := 0
  deps := []
  words := []

/-- An accepted trigger (15 R277): patches as launch index, offset, value. -/
structure GraphRun where
  graph : Nat
  first : Nat
  count : Nat
  patches : List (Nat × Nat × Word)
  running : Bool
  id : Nat
  /-- Writes the trigger releases (R278). -/
  deps : List Nat
  deriving DecidableEq, Repr

/-- A rendezvous point (15 R282). -/
structure RvPoint where
  expect : BitVec 16
  arrived : BitVec 16
  phase : BitVec 16
  deps : List Nat
  deriving DecidableEq, Repr

/-- An entry of a group table (15 R281). -/
structure Group where
  launch : Nat
  points : Smap RvPoint
  deriving DecidableEq, Repr

/-- An entry of a hallmark table (15 R294). -/
structure Hallmark where
  key : Word
  gen : BitVec 16
  stamped : Bool
  launch : Nat
  run : Nat
  deps : List Nat
  /-- The stamp was made with SYS (R297). -/
  sys : Bool
  /-- An engine operation made the stamp (09 R162). -/
  byOp : Bool
  deriving DecidableEq, Repr

/-- A task of another device that waits for a key of this one (15 R300): what it named, the generation fixed for it, and the last
answer it was sent. -/
structure RemoteWait where
  chip : Nat
  key : Nat
  sel : Nat
  fixed : Option (BitVec 16)
  answer : Word
  deriving DecidableEq, Repr

/-! ### Scratchpad lines -/

/-- State of a scratchpad line (09 R131). -/
structure LineState where
  extent : BitVec 10
  alloc : Bool
  guarded : Bool
  owner : BitVec 6
  /-- Holders of the line: passes and spill images; HELD is 1 while there is one (13 R232, 19 R365). -/
  holders : Nat
  full : Bool
  /-- FULL was last set by the completion of an engine operation (09 R162). -/
  marked : Bool
  /-- Writes that FULL 1, set by a completion, releases (09 R163), with the dies of its scope. -/
  deps : List Nat
  /-- Number of the allocation whose lower guard line this is: the model's own (R150). -/
  serial : Nat
  /-- The write through the state view that FULL comes from (R163), until it is visible everywhere. -/
  release : Option Nat
  deriving DecidableEq, Repr

def LineState.reset : LineState where
  extent := 0
  alloc := false
  guarded := false
  owner := 0
  holders := 0
  full := true
  marked := false
  deps := []
  serial := 0
  release := none

/-! ### Fabric -/

/-- A bead (11 R172). -/
structure Bead where
  f0 : Word32
  f1 : Word32
  f2 : Word32
  f3 : Word32
  pred : Bool
  tag : BitVec 16
  count : Byte
  /-- Accesses issued for it, or for a bead it comes from, that may not yet be performed (11 R201). -/
  accs : List Nat
  /-- Those issued for the bead itself; and one of them has failed after it moved on, so that it is absorbed (R200). -/
  own : List Nat
  dead : Bool
  deriving DecidableEq, Repr

/-- A lane of a bead vector (11 R172, R173). A ghost keeps its tag and count. -/
inductive Lane where
  | empty
  | ghost (tag : BitVec 16) (count : Byte)
  | bead (b : Bead)
  deriving DecidableEq, Repr

/-- What travels between stages: a vector, end-of-stream, or a swap token naming the stages that exchange their registers
(11 R205, R206; 13 R241). A packet header travels with its first beat (13 R240), and the words TRLOAD writes travel ahead of
the vector that writes them, to the stage that receives them. -/
inductive Item where
  | vec (v : List Lane)
  | header (h : Word)
  | swap (mask : BitVec 6)
  | load (stg : Nat) (writes : List (Nat × Word32))
  | eos
  deriving DecidableEq, Repr

/-- A stage (11 R170). -/
structure Stage where
  word : Word32
  const : Word32
  active : Smap Word32
  loading : Smap Word32
  phase : BitVec 5
  /-- Output buffer, oldest first. -/
  out : List Item
  /-- REORD: buffered lanes by tag, expected tag, forming vector. GEN: vectors still to be sent. -/
  reord : Smap Lane
  expect : BitVec 16
  forming : List Lane
  /-- SEQTAG counter, TRSWAP vector count, PKOUT beats left, PKIN beats left. -/
  counter : Nat
  /-- GEN: lanes still to be sent, each with how many copies are left. -/
  genq : List (Lane × Nat)
  /-- ISECT: beads of side B taken from PB and not consumed. -/
  sideB : List Bead
  /-- A vector whose accesses are in flight (11 R178). -/
  busy : Option (List Lane)
  /-- FORK: the vector of children still to be sent. STEER: what goes out through PX. -/
  side : List Item
  inEnded : Bool
  pbEnded : Bool
  /-- SBARS: accesses the waiting vector needs. -/
  waitsFor : List Nat
  /-- End-of-stream has left the stage. -/
  complete : Bool
  /-- Vectors PKIN has taken of the packet in hand. -/
  beats : Nat
  /-- MERGE: the vectors that wait at its inputs in their order of arrival, those on PB true (R192). -/
  order : List Bool
  deriving DecidableEq, Repr

/-- Where an output port leads (11 R168). -/
inductive Dest where
  | pa (pipe : Nat)
  | pb (pipe : Nat)
  | tk (pipe : Nat)
  | sink (idx : Nat)
  deriving DecidableEq, Repr

/-- A pipeline of a mould with its input buffers (11 R168, R175, R191). -/
structure Pipe where
  x : Nat
  y : Nat
  stages : List Stage
  pa : List Item
  pb : List Item
  /-- Tokens waiting at TK, and tokens on their way to it: payload and kind code (R205). -/
  tk : List (Word32 × Word32)
  coming : List (Word32 × Word32)
  /-- Recirculation queues, key the lane. -/
  recirc : Smap (List Bead)
  /-- How many beads of each have come in this cycle: they wait for the next (11 R223). -/
  fresh : Smap Nat
  /-- Where PO, PX and TK lead. -/
  po : List Dest
  px : List Dest
  tko : List Dest
  /-- Room of PA and PB: 4 vectors from a source, 2 from a route (R175). -/
  paCap : Nat
  pbCap : Nat
  deriving DecidableEq, Repr

structure Source where
  idx : Nat
  pipe : Nat
  toB : Bool
  closed : Bool
  forming : List Bead
  /-- The ladle transfer that owns it (13 R252). -/
  owner : Option Nat
  deriving DecidableEq, Repr

structure Sink where
  idx : Nat
  /-- Vectors waiting, oldest first, ghosts dropped (11 R220). -/
  queue : List (List Bead)
  ended : Bool
  owner : Option Nat
  deriving DecidableEq, Repr

inductive MouldState where
  | loading
  | stopped
  | running
  | draining
  | aborting
  | failed
  | done
  deriving DecidableEq, Repr

/-- An entry of a die's mould table in use (11 R171, R214-R222; 15 R290). -/
structure Mould where
  state : MouldState
  ctx : BitVec 6
  /-- The task that loaded it, and the one that started it (09 R152; 11 R200, R217). -/
  uid : Nat
  starter : Nat
  op : Nat
  image : Word
  origin : Nat
  w : Nat
  h : Nat
  bases : List Word
  counter : BitVec 16
  pipes : List Pipe
  sources : List Source
  sinks : List Sink
  /-- Scratchpad units with reorder flag 0: package unit numbers (R211). -/
  inOrder : List Nat
  /-- MSTARTs waiting for the load: the task, and its override address (R216). -/
  startWait : List (Nat × Word)
  /-- MSTOP drain asked before the load ended. -/
  drainAsked : Bool
  loadOrder : Nat
  /-- In the fabric, or switched out (15 R290) with its spill lines (19 R365). -/
  present : Bool
  quantum : Nat
  /-- Stages have stopped, to be checkpointed (19 R364). -/
  switching : Bool
  /-- Spill allocations: lower guard line and number of data lines. -/
  spill : List (Nat × Nat)
  /-- The sinks' contents are dropped: the exit join drains it (R217). -/
  discard : Bool
  /-- Writes that INJECT released to its accesses, and that its accesses made or read (R219, R220). -/
  deps : List Nat
  deriving DecidableEq, Repr

/-- What a stage access does (11 R198, R199). -/
inductive AccKind where
  | load
  | store
  | fill
  | mark (full : Bool)
  | amo (op : BitVec 3)
  deriving DecidableEq, Repr

/-- An access a stage has issued and that is not yet performed (11 R201). -/
structure StageAcc where
  id : Nat
  die : Nat
  entry : Nat
  pipe : Nat
  stg : Nat
  lane : Nat
  /-- Stream: bay * 16 + n of a memory port, or unit * 4 + n of a scratchpad unit (R198, R199). -/
  port : Bool
  stream : Nat
  group : Nat
  kind : AccKind
  addr : Word
  size : Nat
  data : Word32
  tag : BitVec 16
  /-- Field that receives what is read. -/
  dst : Nat
  /-- KV mode (17 R319): addr is the row's address, and data is A. -/
  kv : Bool
  /-- A store, fill or mark: its bead has moved on. -/
  posted : Bool
  /-- Generation of the slice map under which its line was hashed; answered with retry: what the stream issued later to its line
  waits (09 R165). -/
  gen : BitVec 4
  retried : Bool
  /-- Its wait on FULL or HELD has been traced (19 R373). -/
  waited : Bool
  deriving DecidableEq, Repr

/-! ### Matrix tile and ladle -/

/-- A pass that has started (13 R230-R232). -/
structure Pass where
  num : Nat
  aHeld : Bool
  bHeld : Bool
  accumulated : Bool
  /-- The operand bytes as the pass found them (R232: the tile reads an operand as it stood when the pass started). -/
  aBytes : List Byte
  bBytes : List Byte
  bad : Bool
  deriving DecidableEq, Repr

/-- An armed or running entry of a tile's operation table (13 R225, R236). -/
structure MxEntry where
  op : Nat
  uid : Nat
  ctx : BitVec 6
  launch : Nat
  num : Word32
  k0 : Word
  k1 : Word
  key : Word
  rows : Word
  nextPass : Nat
  passes : List Pass
  /-- Passes whose results have reached the slots. -/
  accumulated : Nat
  deriving DecidableEq, Repr

/-- A ladle transfer, running or queued (13 R246-R258). -/
structure Transfer where
  op : Nat
  /-- Pouring task, none through the aperture. -/
  uid : Option Nat
  /-- Launch of the pouring task; 4096 through the aperture. -/
  launch : Nat
  ctx : BitVec 6
  detach : Bool
  key : Word
  tmplIdx : Nat
  tmpl : List Byte
  /-- Sequence number on the channel (R254). -/
  seq : BitVec 16
  started : Bool
  /-- Next element to move; under ROUTE, elements fed. -/
  next : Nat
  /-- ROUTE: beads drawn. -/
  drawn : Nat
  /-- Decompression: source address of the next block, its index, and the blocks that failed their checksum (R257). -/
  src : Word
  block : Nat
  bad : List Nat
  /-- The fault that stopped it. -/
  fault : Option Byte
  deriving DecidableEq, Repr

structure Channel where
  queue : List Transfer
  seq : BitVec 16
  deriving DecidableEq, Repr

/-! ### KV engines and migrations -/

/-- What a KV operation is at (17 R329-R345): not begun; waiting for absent blocks; SPLICE at a layer; REPAIR at the task of a
probe or repair layer; KATT taking blocks; all done but its completion. -/
inductive KvPhase where
  | queued
  | waiting
  | layer (n : Nat)
  | probe (n : Nat)
  | repair (n : Nat)
  | attend
  | finishing
  deriving DecidableEq, Repr

inductive KvKind where
  | splice
  | repair
  | katt
  deriving DecidableEq, Repr

/-- State (m, l, acc) of a crucible for each query head (17 R343). -/
structure Crucible where
  id : Nat
  heads : List (List Word32)
  deriving DecidableEq, Repr

/-- A splice, repair or crucible attention in progress. -/
structure KvOp where
  kind : KvKind
  phase : KvPhase
  op : Nat
  uid : Nat
  ctx : BitVec 6
  bay : Nat
  /-- Operands: s(k) to s(k+3), and R. -/
  a0 : Word
  a1 : Word
  a2 : Word
  a3 : Word
  sel : Word
  launch : Nat
  flags : BitVec 16
  detach : Bool
  /-- REPAIR: SR.RPTH at its issue (R338). -/
  threshold : Word32
  /-- Rows as read at the start, layer by layer; a document's beside them (R331, R333, R342). -/
  rows : List (List Word)
  docRows : List (List Word)
  /-- LEN as read at the start. -/
  len : Nat
  /-- The sequence record and its layout as read at the start, field by field; a SPLICE's document record or a REPAIR's
  descriptor beside them (R331, R336). -/
  seqWords : List Word
  docWords : List Word
  /-- SPLICE: block numbers reserved. -/
  reserved : List Word32
  /-- Blocks captured (R316). -/
  captured : List Word32
  /-- REPAIR: candidate positions. KATT: blocks still to take. -/
  todo : List Nat
  /-- REPAIR: marked positions, and the candidate columns. -/
  marked : List Nat
  cols : List Nat
  /-- REPAIR: the record of the task it runs, once it has been pushed. -/
  task : Option Word
  query : List Word32
  crucibles : List Crucible
  /-- KATT: the crucible a block was given to. -/
  given : List (Nat × Nat)
  /-- Blocks found absent or deferred, with the cycle. -/
  since : List (Nat × Nat)
  incomplete : Bool
  fault : Option Byte
  deriving DecidableEq, Repr

/-- A migration in progress (21 R387): the page, where it goes, the physical addresses of its first leaf and its counter, and the
steps done: write-blocked, first shootdown, copied and switched. -/
structure Migration where
  uid : Nat
  ctx : BitVec 6
  bay : Nat
  va : Word
  dest : Word
  large : Bool
  leaf : Nat
  counter : Nat
  started : Bool
  shot : Bool
  copied : Bool
  deriving DecidableEq, Repr

/-! ### Translation -/

/-- A translation a TLB holds (21 R379, R381): the leaf as read, and the page base it covers. -/
structure TlbEntry where
  vpage : Nat
  large : Bool
  leaf : Word
  /-- Physical address of the page's access counter (R384). -/
  ctr : Nat
  deriving DecidableEq, Repr

/-! ### Dies, bays, package -/

/-- What a die holds once (05 R82; 19 R349; 21 R383, R385). -/
structure Die where
  opened : Bool
  failed : Bool
  rpth : Word32
  kvepoch : BitVec 12
  hotth : BitVec 16
  trapvec : Addr
  pgtbase : Word
  wdint : Word
  slicemap : BitVec 4
  quantum : Word
  savepool : Addr
  slotctl : Word
  cecount : Word32
  noteq : Addr
  dtraf : Smap Word
  peertraf : Word
  hosttraf : Word
  relay : Word
  capbays : Word32
  capmxt : Word32
  capslice : Word
  capLow : BitVec 20
  capHigh : BitVec 20
  /-- Mapped-out scratchpad banks: bay * 416 + unit * 16 + bank, bays of the die. -/
  badBanks : List Nat
  /-- Mapped-out 64 KiB stack pages: physical page numbers. -/
  badPages : List Nat
  queue : List QEntry
  gangs : List Gang
  /-- Class last served at each level (15 R267). -/
  served : Smap Nat
  groups : Smap Group
  hallmarks : List Hallmark
  hmCounter : BitVec 16
  moulds : Smap Mould
  /-- Lines present in the die's slices; true when modified. -/
  lines : Smap Bool
  /-- Home dies, other than D0, of the pages of those lines: a peer's line leaves through them (21 R388). -/
  peerHomes : Smap Nat
  /-- Hash chain table of 17 R326: hash, column record, age. -/
  pfx : List (Word × Word × Nat)
  /-- Registers of the die that a commit of this cycle has written, with the values that SRRDs fired in it still read (05 R81). -/
  srOld : Smap Word
  deriving DecidableEq, Repr

def Die.reset : Die where
  opened := false
  failed := false
  rpth := 0x3C23D70A#32
  kvepoch := 0
  hotth := 256
  trapvec := 0
  pgtbase := 0
  wdint := 0x40000000#64
  slicemap := 0
  quantum := 0x100000#64
  savepool := 0
  slotctl := 0
  cecount := 0
  noteq := 0
  dtraf := []
  peertraf := 0
  hosttraf := 0
  relay := 0
  capbays := 0
  capmxt := 0
  capslice := 0
  capLow := 0
  capHigh := 0
  badBanks := []
  badPages := []
  queue := []
  gangs := []
  served := []
  groups := []
  hallmarks := []
  hmCounter := 0
  moulds := []
  lines := []
  peerHomes := []
  pfx := []
  srOld := []

/-- What a bay holds once. -/
structure Bay where
  tracectl : Word
  /-- Trace records written, newest at the write pointer: key the record index (19 R373). -/
  trace : Smap (Word × Word)
  /-- Trigger seen, and records still to write (19 R374). -/
  postLeft : Option Nat
  dropped : Bool
  /-- Cycle of the last record: one a cycle (19 R373). -/
  tracedAt : Option Nat
  tlb : List TlbEntry
  /-- Block cache words by physical address, or by window address for scratchpad (05 R62). -/
  bcache : Smap Word32
  mx : Smap MxEntry
  mxNext : Word32
  chans : Smap Channel
  /-- Template table bytes: key entry * 64 + byte (13 R246). -/
  templates : Smap Byte
  /-- Bays of the gang whose L1s are fused with this one (09 R134). -/
  fused : Option Nat
  /-- Lines the data L1 holds: physical line numbers (01 R18; 09 R132). -/
  l1 : List Nat
  /-- The transfer whose block the memory port's decoder has begun, and the one whose block it did last (13 R259). -/
  decoder : Option Nat
  decoded : Nat
  deriving DecidableEq, Repr

def Bay.reset : Bay where
  tracectl := 0x1F#64
  trace := []
  postLeft := none
  dropped := false
  tracedAt := none
  tlb := []
  bcache := []
  mx := []
  mxNext := 0
  chans := []
  templates := []
  fused := none
  l1 := []
  decoder := none
  decoded := 0

def Channel.reset : Channel where
  queue := []
  seq := 0

/-- What the save area of a context holds: its tasks' images, and the objects whose layout is the implementation's own (19
R366), each with where it goes back. -/
structure SavedCtx where
  ctx : BitVec 6
  images : List Nat
  /-- Die and entry. -/
  moulds : List (Nat × Nat × Mould)
  /-- Bay and entry, with the values of its slots. -/
  entries : List (Nat × Nat × MxEntry × List (Nat × Word32))
  /-- Bay and channel. -/
  transfers : List (Nat × Nat × Transfer)
  /-- What has been written for them, by offset in the area, and the directory at offset 0. -/
  runs : List (Nat × List Byte)
  deriving DecidableEq, Repr

/-- A context save or restore in progress (19 R366, R367): by a task of the die, at the area. -/
structure CtxSwitch where
  restore : Bool
  ctx : BitVec 6
  die : Nat
  area : Nat
  saved : SavedCtx
  deriving DecidableEq, Repr

/-- A record of the boot log (21 R393). -/
structure BootRec where
  step : Byte
  kind : Byte
  unit : BitVec 16
  outcome : Byte
  method : Byte
  starts : BitVec 16
  time : Word
  deriving DecidableEq, Repr

/-- Who performs the instruction exec is given: set by step, and by nothing else. -/
inductive Focus where
  | none
  | seq (slot idx : Nat)
  | stage (die entry pipe stg : Nat)
  deriving DecidableEq, Repr

structure State where
  /-- Turns to take, first first (log entry 1). -/
  agenda : List Turn
  tick : Nat
  focus : Focus
  cycle : Nat
  chipid : BitVec 18
  hostid : BitVec 18
  kvpool : Addr
  ctxsw : Word
  fqtab : Addr
  peerwin : Word
  /-- Bytes by physical address, or by window address for scratchpad (09 R130; 21 R376). -/
  mem : List Host.Cell
  /-- Writes not yet visible everywhere, in coherence order. -/
  writes : List WriteRec
  nextWrite : Nat
  /-- Writes not yet visible everywhere that a party has read, or whose release it has observed (09 R158). -/
  readFrom : List (Party × Nat)
  /-- Writes that every later write of a party must follow (FENCE, 09 R145). -/
  fenced : List (Party × Dep)
  /-- Poisoned 8-byte granules: address div 8 (19 R371). -/
  poison : List Nat
  slots : Smap Slot
  bays : Smap Bay
  dies : Smap Die
  /-- Scratchpad lines: unit number * 1024 + line. -/
  lines : Smap LineState
  /-- Accumulators: ((bay * 4 + slot) * 128 + row) * 128 + column. -/
  accs : Smap Word32
  /-- Outstanding operations of tasks, by uid. -/
  joins : Smap (List JoinOb)
  /-- Save image address to the task it holds. -/
  parked : Smap Task
  /-- Imprecise records raised against a task while it lies in an image (19 R352). -/
  lateImp : Smap (List ImpRec)
  /-- Tasks in an image against which a ninth distinct report was lost (19 R352). -/
  lateOver : List Nat
  nextUid : Nat
  nextOp : Nat
  /-- Where a fault record's owner is found once its task has left, or was never to join it (19 R360): the slot each task held
  last, by uid, and the task that forked each operation. -/
  seats : Smap Nat
  forkers : Smap Nat
  /-- The source an operation's writes come from (09 R155). -/
  opHomes : Smap Origin
  /-- Peers that have made themselves known, by chip identifier (21 R389). -/
  peers : List Nat
  /-- Pushes to queues in memory that wait for a migration, oldest first (21 R387). -/
  latePushes : List LatePush
  /-- Dependence table and graph table as 8-byte words: key offset div 8 (15 R276). -/
  sched : Smap Word
  trigPatch : Word
  trigStatus : BitVec 2
  launches : Smap LaunchRun
  runs : List GraphRun
  nextRun : Nat
  heldUnits : List HeldUnit
  /-- Requeues that wait for room in a full queue: the die, and whether the entry goes to the head (15 R265). -/
  pushes : List (Nat × Bool × QEntry)
  /-- Waiters of other devices on keys of this one (15 R300). -/
  remoteWaits : List RemoteWait
  /-- The run in which each KV key was last declared, by block (15 R273; 17 R318). -/
  kvRuns : Smap Nat
  /-- Stage-1 slots that KVFREE has cleared, by address, with the physical address it led to: one before a valid entry of its layer is a
  gap (17 R324). -/
  kvFreed : List (Nat × Nat)
  stageAccs : List StageAcc
  nextAcc : Nat
  kvops : Smap KvOp
  migs : Smap Migration
  ctxSwitch : Option CtxSwitch
  /-- Contexts saved whole, by save area (19 R366). -/
  savedCtx : Smap SavedCtx
  /-- Save images that lie in a save area: none goes to a pool when it has been restored. -/
  areaImages : List Nat
  /-- Contexts whose records are not popped (19 R366). -/
  stoppedCtx : List (BitVec 6)
  /-- Stacks that have failed (21 R397). -/
  failedStacks : List Nat
  /-- Abutted edges in service: 0 D0-D1, 1 D2-D3, 2 D0-D2, 3 D1-D3 (01 R9). -/
  edges : List Nat
  /-- Runner links in service (21 R390): die d carries 6 d to 6 d + 5. -/
  links : List Nat
  /-- Lanes of the sprue port in service (01 R31; 21 R390). -/
  sprue : List Nat
  islands : Smap (BitVec 16)
  startStep : Nat
  /-- Units tried in this start: kind and index (R392). -/
  tried : List (Nat × Nat)
  bootLog : List BootRec
  /-- The last answer to the control node or a peer, as 8-byte words: 0 first where it succeeded, a cause code where not. -/
  reply : List Word
  /-- What the last cycle's end reported to waiters of other devices: chip, key, selector and answer (15 R300). -/
  remoteTold : List (Nat × Nat × Nat × Word)
  /-- Stacks that hold a good copy of scheduler memory (21 R396). -/
  mirrors : List Nat
  deriving DecidableEq, Repr

/-- The machine right after reset: nothing started, every table at its reset contents. -/
def State.reset : State where
  agenda := []
  tick := 0
  focus := .none
  cycle := 0
  chipid := 0
  hostid := 0
  kvpool := 0
  ctxsw := 0
  fqtab := 0
  peerwin := 0
  mem := []
  writes := []
  nextWrite := 0
  readFrom := []
  fenced := []
  poison := []
  slots := []
  bays := []
  dies := []
  lines := []
  accs := []
  joins := []
  parked := []
  lateImp := []
  lateOver := []
  nextUid := 1
  nextOp := 1
  seats := []
  forkers := []
  opHomes := []
  peers := []
  latePushes := []
  sched := []
  trigPatch := 0
  trigStatus := 0
  launches := []
  runs := []
  nextRun := 1
  heldUnits := []
  pushes := []
  remoteWaits := []
  kvRuns := []
  kvFreed := []
  stageAccs := []
  nextAcc := 1
  kvops := []
  migs := []
  ctxSwitch := none
  savedCtx := []
  areaImages := []
  stoppedCtx := []
  failedStacks := []
  edges := []
  links := []
  sprue := []
  islands := []
  startStep := 0
  tried := []
  bootLog := []
  reply := []
  remoteTold := []
  mirrors := []

end Sys2Proof.Machine
end

