-- ==== Sys2Proof/Machine/Mem.lean ====
section
/-! DEFINITION. Memory: parts of the state by number, writes and their visibility on each die (09 R153-R163), translation
and the slices (21 R376-R386), and where an address leads (09 R129-R131). -/

namespace Sys2Proof.Machine

/-! ### Parts by number -/

def State.slot (s : State) (k : Nat) : Slot := Smap.getD s.slots Slot.reset k
def State.setSlot (s : State) (k : Nat) (v : Slot) : State := { s with slots := Smap.put s.slots Slot.reset k v }
def State.modSlot (s : State) (k : Nat) (f : Slot → Slot) : State := s.setSlot k (f (s.slot k))

def State.bay (s : State) (b : Nat) : Bay := Smap.getD s.bays Bay.reset b
def State.setBay (s : State) (b : Nat) (v : Bay) : State := { s with bays := Smap.put s.bays Bay.reset b v }
def State.modBay (s : State) (b : Nat) (f : Bay → Bay) : State := s.setBay b (f (s.bay b))

def State.die (s : State) (d : Nat) : Die := Smap.getD s.dies Die.reset d
def State.setDie (s : State) (d : Nat) (v : Die) : State := { s with dies := Smap.put s.dies Die.reset d v }
def State.modDie (s : State) (d : Nat) (f : Die → Die) : State := s.setDie d (f (s.die d))

def State.line (s : State) (n : Nat) : LineState := Smap.getD s.lines LineState.reset n
def State.setLine (s : State) (n : Nat) (v : LineState) : State := { s with lines := Smap.put s.lines LineState.reset n v }
def State.modLine (s : State) (n : Nat) (f : LineState → LineState) : State := s.setLine n (f (s.line n))

/-- Dies that are open and in service. -/
def State.dieUp (s : State) (d : Nat) : Bool := (s.die d).opened && !(s.die d).failed

/-- Is a bay in service (R27)? -/
def State.bayUp (s : State) (b : Nat) : Bool := s.dieUp (b / 32) && (s.die (b / 32)).capbays.getLsbD (b % 32)

/-- The value of a register held once per die, for what compares it from the cycle after a commit has written it (07 R108). -/
def Die.now (x : Die) (n : Nat) (v : Word) : Word := Smap.getD x.srOld v n

/-- The handler block's address for a trap delivered now (07 R108: TRAPVEC). -/
def Die.vec (x : Die) : Addr := (x.now 0x2003 (x.trapvec.zeroExtend 64)).truncate 56

/-! ### Writes and visibility -/

/-- Dies on which visibility is told: 0 to 3, the host as 4, the peers as 5 (R153): each peer that has made itself known counts as a
die of its own beside them, numbered from 6. -/
def allDies : List Nat := [0, 1, 2, 3, 4, 5]

/-- The die a peer counts as. -/
def peerDie (chip : Nat) : Nat := 6 + chip

/-- Every die there is, with the peers that are known. -/
def State.dieList (s : State) : List Nat := allDies ++ s.peers.map peerDie

/-- Is a die among those named, where 5 names every peer? -/
def diesHave (l : List Nat) (d : Nat) : Bool := l.contains d || (5 < d && l.contains 5)

/-- Dies that hold a party of a scope, for an issuer on die d that has forked no attention (R153). -/
def scopeDies (scope d : Nat) : List Nat :=
  if scope ≤ 2 then [d] else if scope = 3 then [0, 1, 2, 3] else allDies

def WriteRec.covers (r : WriteRec) (k : Nat) : Bool := r.addr ≤ k && k < r.addr + r.data.length

def WriteRec.overlaps (r q : WriteRec) : Bool :=
  r.addr < q.addr + q.data.length && q.addr < r.addr + r.data.length

/-- Two writes by one source to one 128-byte line, not issued together (R155). -/
def WriteRec.sameLine (r q : WriteRec) : Bool :=
  r.origin == q.origin && r.addr / 128 == q.addr / 128 && (r.group = 0 || r.group != q.group)

/-- Writes of two groups of one stream (R157). -/
def WriteRec.sameStream (r q : WriteRec) : Bool :=
  r.origin == q.origin && r.group != 0 && q.group != 0 && r.group != q.group

/-- The source a party's writes come from (R155): a task's is the slot it has, an operation's the channel, tile, engine or crucible it
runs on. -/
def State.originOf (s : State) (p : Party) : Origin :=
  match p with
  | .task u =>
    match Smap.find s.seats u with
    | some k => .slot k
    | none => .own p
  | .op o => Smap.getD s.opHomes (.own p) o
  | _ => .own p

/-! Locations and scopes (R153). -/

/-- The bay a source stands in. -/
def Origin.bay (o : Origin) : Option Nat :=
  match o with
  | .slot k => some (k / 8)
  | .chan b _ => some b
  | .tile b => some b
  | .engine b _ => some b
  | .own (.portStream b _) => some b
  | .own (.padStream b _ _) => some b
  | _ => none

/-- The die a source stands on; a crucible of this package stands on the die that owns its stack. -/
def Origin.die (o : Origin) : Option Nat :=
  match o with
  | .crucible n => if n < 128 then some (n / 32) else none
  | .own (.device d) => some d
  | _ => o.bay.map (fun b => b / 32)

/-- Is one of two parties the other, or an engine operation the other has forked? -/
def State.kin (s : State) (p q : Party) : Bool :=
  p == q || (match p, q with
    | .op o, .task u => Smap.find s.forkers o == some u
    | .task u, .op o => Smap.find s.forkers o == some u
    | _, _ => false)

/-- Does a scope of party p, whose writes come from one source, include party q, whose writes come from another (R153)? -/
def State.scopeHas (s : State) (scope : Nat) (p : Party) (po : Origin) (q : Party) (qo : Origin) : Bool :=
  p == q ||
    (match scope with
      | 0 => s.kin p q
      | 1 => po.bay.isSome && po.bay == qo.bay
      | 2 => po.die.isSome && po.die == qo.die
      | 3 => qo.die.isSome
      | _ => true)

/-- Dies that hold a party of a scope of a party on die d (R153): a task's own include those where the crucibles of the attentions it has
forked stand. -/
def State.diesOf (s : State) (p : Party) (scope d : Nat) : List Nat :=
  scopeDies scope d ++
    (if scope = 0 then
      (s.kvops.filter (fun (o : Nat × KvOp) => o.2.kind == .katt && s.kin p (.op o.1))).flatMap (fun o =>
        (o.2.crucibles.filterMap (fun c => (Origin.crucible c.id).die)).filter (fun e => e != d))
    else [])

/-- Is a write visible to a party on a die (R156)? -/
def State.sees (s : State) (d : Nat) (p : Party) (r : WriteRec) : Bool :=
  r.seen.contains d || r.src == p || s.readFrom.contains (p, r.id)

/-- The newest write, in coherence order, that covers byte k among those chosen. -/
def newestCover (ws : List WriteRec) (ok : WriteRec → Bool) (k : Nat) : Option WriteRec :=
  ws.foldl (fun acc r => if r.covers k && ok r then some r else acc) none

/-- Byte k as a party on a die reads it. -/
def State.byteFor (s : State) (d : Nat) (p : Party) (k : Nat) : Byte :=
  match newestCover s.writes (s.sees d p) k with
  | some r => r.data.getD (k - r.addr) 0
  | none => Smap.getD s.mem 0 k

/-- Byte k as the last write in coherence order leaves it. -/
def State.byteLast (s : State) (k : Nat) : Byte :=
  match newestCover s.writes (fun _ => true) k with
  | some r => r.data.getD (k - r.addr) 0
  | none => Smap.getD s.mem 0 k

/-- Does a dependency hold on a die whoever reads there? -/
def Prec.onDie (p : Prec) (d : Nat) : Bool :=
  match p with
  | .on dies => diesHave dies d
  | .scope _ => false

/-- Writes that must be visible on a die before write r (R155, R158). -/
def mustPrecede (ws : List WriteRec) (d : Nat) (r : WriteRec) : List Nat :=
  (r.deps.filter (fun e => e.2.onDie d)).map (fun e => e.1) ++
    ((ws.takeWhile (fun q => q.id != r.id)).filter (fun q => q.overlaps r || q.sameLine r || q.sameStream r)).map (fun q => q.id)

/-- Close a set of writes under mustPrecede. -/
def closeBefore (ws : List WriteRec) (d fuel : Nat) (need : List Nat) : List Nat :=
  match fuel with
  | 0 => need
  | n + 1 =>
    closeBefore ws d n (ws.foldl (fun acc r =>
      if acc.contains r.id then acc ++ (mustPrecede ws d r).filter (fun i => !acc.contains i) else acc) need)

/-- The canonical form of memory: addresses strictly rise, and no entry is 0, what an unlisted address reads as (log entry 2). -/
abbrev Memory.wf (m : List Host.Cell) : Bool := Smap.wf (0 : Byte) m

/-- Writes visible everywhere pass into memory, oldest first. -/
def foldMem (mem : List Host.Cell) (ws : List WriteRec) : List Host.Cell :=
  ws.foldl (fun m r =>
    (List.range r.data.length).foldl (fun m i => Smap.put m (0 : Byte) (r.addr + i) (r.data.getD i 0)) m) mem

/-- Has a write become visible on every die of a list? -/
def WriteRec.done (dies : List Nat) (r : WriteRec) : Bool := dies.all (fun d => r.seen.contains d)

/-- Does a write still stand for others that whoever acquires it must see (R159)? -/
def State.releases (s : State) (r : WriteRec) : Bool :=
  r.deps.any (fun e => (match e.2 with
    | .on _ => false
    | .scope _ => true) && s.writes.any (fun q => q.id == e.1))

/-- The writes that stay, and those that pass into memory: visible everywhere, with nothing left to release, and with no write to the
same bytes before them that stays. -/
def State.passing (s : State) : List WriteRec × List WriteRec :=
  s.writes.foldl (fun acc r =>
    if r.done s.dieList && !s.releases r && !acc.1.any (fun q => q.overlaps r) then (acc.1, acc.2 ++ [r])
    else (acc.1 ++ [r], acc.2)) ([], [])

/-- What a step leaves: memory changes as writes that have become visible everywhere pass into it, and in no other way. mem is
the memory before the step. -/
def State.settle (s : State) (mem : List Host.Cell) : State :=
  let ids := s.passing.2.map (fun r => r.id)
  { s with
    mem := foldMem mem s.passing.2
    writes := s.passing.1
    readFrom := s.readFrom.filter (fun e => !ids.contains e.2)
    fenced := s.fenced.filter (fun e => !ids.contains e.2.1) }

/-- Make writes visible on a die, with all that must precede them (R155, R156, R158). -/
def State.reveal (s : State) (d : Nat) (ids : List Nat) : State :=
  if ids.isEmpty then s
  else
    let need := closeBefore s.writes d s.writes.length ids
    { s with
      writes := s.writes.map (fun r =>
        if need.contains r.id && !r.seen.contains d then { r with seen := r.seen ++ [d] } else r) }

/-- Make writes visible on several dies. -/
def State.revealOn (s : State) (dies ids : List Nat) : State := dies.foldl (fun s d => s.reveal d ids) s

/-- A party has read these writes, or observed their release: they are visible to it from now on (R155, R159). -/
def State.observe (s : State) (d : Nat) (p : Party) (ids : List Nat) : State :=
  let s := s.reveal d ids
  let fresh := (ids.filter (fun i => s.writes.any (fun r => r.id == i))).filter (fun i => !s.readFrom.contains (p, i))
  { s with readFrom := s.readFrom ++ fresh.map (fun i => (p, i)) }

/-- A write, and before it those it comes down from by atomics alone (R159). -/
def chainOf (ws : List WriteRec) (r : WriteRec) : List WriteRec :=
  ((ws.takeWhile (fun q => q.id != r.id)).reverse.foldl (fun (acc : WriteRec × List WriteRec) q =>
    if acc.1.atomic && q.overlaps r then (q, acc.2 ++ [q]) else acc) (r, [r])).2

/-- What a party acquires by having read some writes, at a scope (R159): for each release among them, or that one of them comes down from
by atomics alone, the writes it releases, where the release's scope includes the reader and the reader's the releaser. -/
def State.acquired (s : State) (p : Party) (scope : Nat) (ids : List Nat) : List Nat :=
  let here := s.originOf p
  ((s.writes.filter (fun r => ids.contains r.id)).flatMap (chainOf s.writes)).flatMap (fun r =>
    if s.scopeHas scope p here r.src r.origin then
      r.deps.filterMap (fun e => match e.2 with
        | .scope n => if s.scopeHas n r.src r.origin p here then some e.1 else none
        | .on _ => none)
    else [])

/-- An acquire, at a scope, by a party that has read some writes (R158, R159). -/
def State.acquire (s : State) (d : Nat) (p : Party) (scope : Nat) (ids : List Nat) : State := s.observe d p (s.acquired p scope ids)

/-- A peer makes itself known: what the peers not yet known see, it sees, on a die of its own (R153). -/
def State.meet (s : State) (chip : Nat) : State :=
  if s.peers.contains chip then s
  else
    { s with
      peers := s.peers ++ [chip]
      writes := s.writes.map (fun r => if r.seen.contains 5 then { r with seen := r.seen ++ [peerDie chip] } else r) }

/-- Writes a release of a party covers: its own and those it has read (R158, R162). -/
def State.past (s : State) (p : Party) : List Nat :=
  (s.writes.filter (fun r => r.src == p)).map (fun r => r.id) ++
    (s.readFrom.filter (fun e => e.1 == p)).map (fun e => e.2)

/-- Read n bytes for a party on a die: the value, and the state in which it has been read (R156). -/
def State.load (s : State) (d : Nat) (p : Party) (k n : Nat) : Nat × State :=
  let ids := (List.range n).filterMap (fun i => (newestCover s.writes (s.sees d p) (k + i)).map (fun r => r.id))
  (natOf ((List.range n).map (fun i => s.byteFor d p (k + i))), if ids.isEmpty then s else s.observe d p ids)

/-- Read n bytes as an atomic does: the last write in coherence order (R143). -/
def State.loadLast (s : State) (d : Nat) (p : Party) (k n : Nat) : Nat × State :=
  let ids := (List.range n).filterMap (fun i => (newestCover s.writes (fun _ => true) (k + i)).map (fun r => r.id))
  (natOf ((List.range n).map (fun i => s.byteLast (k + i))), if ids.isEmpty then s else s.observe d p ids)

/-- How many of the newest writes a write by p may be placed before: no party has seen or read them, none is an atomic's,
none is p's own or of its source (R155, R143). -/
def State.unseenTail (s : State) (p : Party) : Nat :=
  (s.writes.reverse.takeWhile (fun r =>
    r.seen.isEmpty && !r.atomic && r.src != p && r.origin != s.originOf p && !s.readFrom.any (fun e => e.2 == r.id))).length

/-- Perform a write, of a group of a stream where the number is none of 0: it takes its place in coherence order and becomes visible
later (R155, R156). -/
def State.storeGroup (s : State) (p : Party) (group k : Nat) (data : List Byte) (deps : List Dep) (atomic : Bool) : State :=
  let all := deps ++ (s.fenced.filter (fun e => e.1 == p)).map (fun e => e.2)
  let r : WriteRec := { id := s.nextWrite, src := p, origin := s.originOf p, group := group, addr := k, data := data, seen := [],
                        deps := all, atomic := atomic }
  let back := if atomic then 0 else s.unseenTail p
  let jump := if back = 0 then 0 else Config.place s.nextWrite % (back + 1)
  { s with
    writes := s.writes.insertIdx (s.writes.length - jump) r
    nextWrite := s.nextWrite + 1
    poison := if data.length = 8 && k % 8 = 0 then s.poison.filter (fun g => g != k / 8) else s.poison }

/-- Perform a write. -/
def State.store (s : State) (p : Party) (k : Nat) (data : List Byte) (deps : List Dep) (atomic : Bool) : State :=
  s.storeGroup p 0 k data deps atomic

/-- Perform a run of writes of 8 bytes or fewer, lowest address first. -/
def State.storeRun (s : State) (p : Party) (k : Nat) (data : List Byte) : State :=
  (List.range ((data.length + 7) / 8)).foldl
    (fun s i => s.store p (k + 8 * i) ((data.drop (8 * i)).take 8) [] false) s

/-- Read n bytes in runs of at most 8. -/
def State.loadRun (s : State) (d : Nat) (p : Party) (k n : Nat) : List Byte × State :=
  (List.range ((n + 7) / 8)).foldl (fun acc i =>
    let m := min 8 (n - 8 * i)
    let r := acc.2.load d p (k + 8 * i) m
    (acc.1 ++ bytesOf m r.1, r.2)) ([], s)

/-- The dependencies of a release of the device's own, or of an engine's, at a scope: what its party has done and read is visible first on
every die that holds a party of the scope (R158). -/
def State.releaseDeps (s : State) (p : Party) (d scope : Nat) : List Dep := (s.past p).map (fun i => (i, .on (scopeDies scope d)))

/-- The dependencies of a release write of a task at a scope: they hold towards those who acquire it; to any other it is a relaxed write
(R158, R159). -/
def State.releaseAt (s : State) (p : Party) (scope : Nat) : List Dep := (s.past p).map (fun i => (i, .scope scope))

/-- Is any granule of the bytes poisoned (R371)? -/
def State.poisoned (s : State) (k n : Nat) : Bool :=
  s.poison.any (fun g => k / 8 ≤ g && g ≤ (k + n - 1) / 8)

/-! ### Physical memory (21 R376) -/

def paType (pa : Nat) : Nat := bitsOf pa 51 50
def paStack (pa : Nat) : Nat := bitsOf pa 40 38

/-- Is a package address well formed (R376, R378)? -/
def paPackageOk (pa : Nat) : Bool := bitsOf pa 49 41 = 0 && bitsOf pa 37 0 < 0xC00000000

/-- Has the memory at a physical address been lost with its stack or die (R9, R397)? -/
def State.lost (s : State) (pa : Nat) : Bool :=
  paType pa = 0 && (s.failedStacks.contains (paStack pa) || (s.die (paStack pa / 2)).failed)

/-- Is the page of a physical address mapped out (R28)? -/
def State.mappedOut (s : State) (pa : Nat) : Bool :=
  paType pa = 0 && (s.die (paStack pa / 2)).badPages.contains (pa / 0x10000)

/-- Is there a path to a physical address (R388, R390)? The host's leaves through the sprue port on D0, a peer's through any runner link
in service. -/
def State.hasPath (s : State) (pa : Nat) : Bool :=
  match paType pa with
  | 1 => !s.sprue.isEmpty
  | 2 => !s.links.isEmpty
  | _ => true

/-- The die whose stacks or links lead to a physical address (R382, R388): a peer's are those of the page's home die, and once they are out
of service those of the lowest-numbered die that has one (DESIGN CHOICE, log entry 116). -/
def State.exitDie (s : State) (pa home : Nat) : Nat :=
  match paType pa with
  | 0 => paStack pa / 2
  | 1 => 0
  | _ =>
    let dies := s.links.map (fun l => l / 6)
    if dies.contains home then home else (([0, 1, 2, 3] : List Nat).find? (fun d => dies.contains d)).getD home

/-! ### The path of a message between dies (01 R9) -/

/-- The edge between two adjacent dies: 0 D0-D1, 1 D2-D3, 2 D0-D2, 3 D1-D3; none for a diagonal pair or one die. -/
def edgeOf (a b : Nat) : Option Nat :=
  match min a b, max a b with
  | 0, 1 => some 0
  | 2, 3 => some 1
  | 0, 2 => some 2
  | 1, 3 => some 3
  | _, _ => none

/-- The die in the same row, and the die in the same column. -/
def rowMate (d : Nat) : Nat := if d % 2 = 0 then d + 1 else d - 1
def colMate (d : Nat) : Nat := if d < 2 then d + 2 else d - 2

def State.edgeUp (s : State) (a b : Nat) : Bool :=
  match edgeOf a b with
  | some e => s.edges.contains e
  | none => false

/-- Dies a message from a to b passes through, the ends left out (R9). An edge that has not been trained yet is none in service: traffic
between dies opened before their edges takes the way round (DESIGN CHOICE, log entry 117). -/
def State.via (s : State) (a b : Nat) : List Nat :=
  if a = b || 3 < a || 3 < b then []
  else if s.edgeUp a b then []
  else if edgeOf a b = none then
    if s.edgeUp a (rowMate a) && s.edgeUp (rowMate a) b then [rowMate a] else [colMate a]
  else
    let other := if rowMate a = b then colMate a else rowMate a
    [other, 3 - a]

/-! ### Slices and counters (09 R132-R133; 21 R383-R385) -/

/-- Count 128 bytes of line data between a die's slices and the memory of a physical address, of a page with a home die (R383). -/
def State.countLine (s : State) (d pa home : Nat) (fill : Bool) : State :=
  let t := paType pa
  let far := s.exitDie pa home
  let s := s.modDie d (fun v =>
    if t = 0 then { v with dtraf := Smap.put v.dtraf 0 far (Smap.getD v.dtraf 0 far + 128) }
    else if t = 1 then { v with hosttraf := v.hosttraf + 128 }
    else { v with peertraf := v.peertraf + 128 })
  (if fill then s.via far d else s.via d far).foldl (fun s x => s.modDie x (fun v => { v with relay := v.relay + 128 })) s

/-- A line leaves a die's slices; a modified line is written back (R383). -/
def State.evict (s : State) (d ln : Nat) : State :=
  match Smap.find (s.die d).lines ln with
  | none => s
  | some m =>
    let home := Smap.getD (s.die d).peerHomes 0 ln
    let s := s.modDie d (fun v => { v with lines := Smap.erase v.lines ln, peerHomes := Smap.erase v.peerHomes ln })
    if m then s.countLine d (ln * 128) home false else s

/-- Slices of a die in service. -/
def State.slicesUp (s : State) (d : Nat) : List Nat := (List.range 64).filter (fun i => (s.die d).capslice.getLsbD i)

/-- The slice a die's map hashes a line to, among those in service (09 R164; log entry 18). -/
def State.sliceOf (s : State) (d ln : Nat) : Nat :=
  let up := s.slicesUp d
  up.getD (Config.sliceHash (s.die d).slicemap.toNat ln % up.length) 0

/-- Lines a slice holds: 1 MiB (01 R7). -/
def sliceLines : Nat := 8192

/-- Make room for a line in its slice: where that is full, one of its lines leaves, which is free (log entry 9). -/
def State.makeRoom (s : State) (d ln : Nat) : State :=
  if (s.die d).lines.length < sliceLines then s
  else
    let same := (s.die d).lines.filter (fun (e : Nat × Bool) => s.sliceOf d e.1 = s.sliceOf d ln)
    if same.length < sliceLines then s
    else s.evict d ((same.getD ((Config.freeWord s.tick 0x1000).toNat % same.length) (0, false)).1)

/-- A request to a die's slices, for a page with a home die: whether it missed. write: the line is modified. -/
def State.touchHome (s : State) (d pa home : Nat) (write : Bool) : Bool × State :=
  let ln := pa / 128
  match Smap.find (s.die d).lines ln with
  | some m => (false, if write && !m then s.modDie d (fun v => { v with lines := Smap.insert v.lines ln true }) else s)
  | none =>
    let s := (s.makeRoom d ln).countLine d pa home true
    (true, s.modDie d (fun v => { v with lines := Smap.insert v.lines ln write, peerHomes := Smap.put v.peerHomes 0 ln home }))

/-- A request to a die's slices by physical address. -/
def State.touch (s : State) (d pa : Nat) (write : Bool) : Bool × State := s.touchHome d pa 0 write

/-- A run of bytes of the device's own passes through a die's slices (09 R133). -/
def State.touchRun (s : State) (d pa n : Nat) (write : Bool) : State :=
  (List.range ((pa % 128 + n + 127) / 128)).foldl (fun s i => (s.touch d (pa / 128 * 128 + 128 * i) write).2) s

/-! ### The data L1s (01 R18; 09 R132, R134) -/

/-- Lines a data L1 holds: 64 KiB. -/
def l1Lines : Nat := 512

/-- The L1 that may hold a line for a bay's sequencer: its own, or the member a hash chooses while it is fused (R134). -/
def State.l1Of (s : State) (b ln : Nat) : Nat :=
  match (s.bay b).fused with
  | none => b
  | some g =>
    let ms := ((s.bays.filter (fun (e : Nat × Bay) => e.2.fused == some g)).map (fun e => e.1))
    ms.getD (Config.fuseHash ln % ms.length) b

/-- Read a line through the L1: does it hold the line, so that no slice is asked? What it holds it may have let go, and where it is
full one line leaves for the new one: both are free (log entry 9). -/
def State.l1Read (s : State) (b ln : Nat) : Bool × State :=
  let m := s.l1Of b ln
  let l := (s.bay m).l1
  if l.contains ln && Config.freeBool s.tick 0x1001 then (true, s)
  else
    let l := l.filter (fun x => x != ln)
    let l := if l1Lines ≤ l.length then l.eraseIdx ((Config.freeWord s.tick 0x1001).toNat % l.length) else l
    (false, s.modBay m (fun y => { y with l1 := l ++ [ln] }))

/-! ### Translation (21 R377-R381) -/

/-- Is a leaf well formed (R378)? -/
def State.leafOk (s : State) (leaf : Nat) : Bool :=
  let frame := bitsOf leaf 51 16 * 0x10000
  let tier := bitsOf leaf 6 5
  bitsOf leaf 63 52 = 0 && bitsOf leaf 15 10 = 0 && tier = paType frame && tier != 3 &&
  (tier != 0 || (bitsOf leaf 8 7 = paStack frame / 2 && paPackageOk frame)) &&
  (tier != 1 || bitsOf leaf 8 7 = 0) &&
  (tier != 2 || bitsOf frame 49 32 != s.chipid.toNat) &&
  (bitsOf leaf 9 9 = 0 || bitsOf frame 20 16 = 0) &&
  !(List.range (if bitsOf leaf 9 9 = 1 then 32 else 1)).any (fun i => s.mappedOut (frame + i * 0x10000))

/-- The translation of an address by a held leaf. -/
def TlbEntry.trans (e : TlbEntry) (va : Nat) : Trans :=
  let leaf := e.leaf.toNat
  let size := if e.large then 0x200000 else 0x10000
  { pa := bitsOf leaf 51 16 * 0x10000 + va % size
    home := bitsOf leaf 8 7
    tier := bitsOf leaf 6 5
    cnt := bitsOf leaf 4 4 = 1
    wb := bitsOf leaf 3 3 = 1
    w := bitsOf leaf 2 2 = 1
    r := bitsOf leaf 1 1 = 1
    large := e.large
    ctr := e.ctr }

def TlbEntry.covers (e : TlbEntry) (va : Nat) : Bool :=
  if e.large then e.vpage / 32 = va / 0x200000 else e.vpage = va / 0x10000

/-- Is a level-1 or level-2 entry valid and well formed? -/
def tableOk (e : Nat) : Bool := e % 2 = 1 && bitsOf e 63 52 = 0 && bitsOf e 15 1 = 0

/-- Read a page table entry: a relaxed load through the die's slices, counted as a fill on a miss (R380, R383). -/
def State.readEntry (s : State) (d pa : Nat) : Nat × State :=
  let s := (s.touch d pa false).2
  s.load d (.device d) pa 8

/-- Cause codes (19 R357). -/
def cIllegalOpcode : Byte := 0x01
def cIllegalForm : Byte := 0x02
def cBlockHeader : Byte := 0x03
def cBlockMultiwrite : Byte := 0x04
def cBlockNoexit : Byte := 0x05
def cBlockMultiexit : Byte := 0x06
def cPrivilege : Byte := 0x07
def cAlign : Byte := 0x08
def cPageAbsent : Byte := 0x09
def cPageProtect : Byte := 0x0A
def cGuard : Byte := 0x0B
def cUncorrectable : Byte := 0x0C
def cWatchdog : Byte := 0x0D
def cBlockHang : Byte := 0x0E
def cTrap : Byte := 0x0F
def cDecompChecksum : Byte := 0x10
def cDecompFormat : Byte := 0x11
def cRaggedBounds : Byte := 0x12
def cMxcfgInvalid : Byte := 0x13
def cTemplateInvalid : Byte := 0x14
def cHmStale : Byte := 0x15
def cHmUndeclared : Byte := 0x16
def cKvAbsent : Byte := 0x17
def cKvStale : Byte := 0x18
def cKvEpoch : Byte := 0x19
def cKvMapInvalid : Byte := 0x1A
def cRvInvalid : Byte := 0x1B
def cGroupInvalid : Byte := 0x1C
def cMouldInvalid : Byte := 0x1D
def cRecircLimit : Byte := 0x1E
def cLinkFault : Byte := 0x1F
def cKvPoolEmpty : Byte := 0x20

/-- Walk the die's page table (R377, R378). An entry whose memory is lost or poisoned gives UNCORRECTABLE. -/
def State.walk (s : State) (d va : Nat) : Except Byte TlbEntry × State :=
  let bad (pa : Nat) : Bool := s.lost pa || s.poisoned pa 8
  let a1 := bitsOf (s.die d).pgtbase.toNat 51 17 * 0x20000 + 8 * bitsOf va 55 42
  if s.mappedOut a1 then (.error cPageAbsent, s)
  else if bad a1 then (.error cUncorrectable, s)
  else
    let e1 := s.readEntry d a1
    if !tableOk e1.1 then (.error cPageAbsent, e1.2)
    else
      let a2 := bitsOf e1.1 51 16 * 0x10000 + 8 * bitsOf va 41 29
      if s.mappedOut a2 then (.error cPageAbsent, e1.2)
      else if bad a2 then (.error cUncorrectable, e1.2)
      else
        let e2 := e1.2.readEntry d a2
        if !tableOk e2.1 then (.error cPageAbsent, e2.2)
        else
          let t := bitsOf e2.1 51 16 * 0x10000
          let i := bitsOf va 28 16
          if s.mappedOut t then (.error cPageAbsent, e2.2)
          else if bad (t + 8 * i) then (.error cUncorrectable, e2.2)
          else
            let e3 := e2.2.readEntry d (t + 8 * i)
            if e3.1 % 2 = 0 || !s.leafOk e3.1 then (.error cPageAbsent, e3.2)
            else
              let large := bitsOf e3.1 9 9 = 1
              (.ok { vpage := va / 0x10000, large := large, leaf := BitVec.ofNat 64 e3.1,
                     ctr := t + 0x10000 + 2 * (if large then i / 32 * 32 else i) }, e3.2)

/-- Translations a TLB holds, newest last; the oldest leaves when it is full (R381; log entry 10). -/
def tlbAdd (l : List TlbEntry) (e : TlbEntry) : List TlbEntry :=
  let l := if 512 ≤ l.length then l.drop 1 else l
  l ++ [e]

/-- Translate through a bay's TLB, walking on a miss (R380, R381). -/
def State.translate (s : State) (b va : Nat) : Except Byte Trans × State :=
  match (s.bay b).tlb.find? (fun e => e.covers va) with
  | some e => (.ok (e.trans va), s)
  | none =>
    match s.walk (b / 32) va with
    | (.error c, s) => (.error c, s)
    | (.ok e, s) => (.ok (e.trans va), s.modBay b (fun v => { v with tlb := tlbAdd v.tlb e }))

/-- Remove from a bay's TLB what covers an address. -/
def State.dropTlb (s : State) (b va : Nat) : State :=
  s.modBay b (fun y => { y with tlb := y.tlb.filter (fun e => !e.covers va) })

/-- Translate for an access. A write that finds the page write-blocked walks the entry again (R386). -/
def State.translateFor (s : State) (b va : Nat) (write : Bool) : Except Byte Trans × State :=
  match s.translate b va with
  | (.error c, s) => (.error c, s)
  | (.ok t, s) => if write && t.wb then (s.dropTlb b va).translate b va else (.ok t, s)

/-- Translate for the device itself, through a die's table, needing no permission (R359, R361). -/
def State.deviceTrans (s : State) (d va : Nat) : Except Byte Trans × State :=
  match s.walk d va with
  | (.error c, s) => (.error c, s)
  | (.ok e, s) => (.ok (e.trans va), s)

/-- The physical address the device translates an address to. -/
def State.deviceAddr (s : State) (d va : Nat) : Except Byte Nat × State :=
  match s.deviceTrans d va with
  | (.error c, s) => (.error c, s)
  | (.ok t, s) => (.ok t.pa, s)

/-! ### Pages being migrated (21 R386, R387) -/

/-- Bytes of a migrating page. -/
def Migration.size (m : Migration) : Nat := if m.large then 0x200000 else 0x10000

/-- The frame a migrating page is at: its first leaf's, as it now stands. -/
def State.migFrame (s : State) (m : Migration) : Nat :=
  bitsOf (natOf ((List.range 8).map (fun i => s.byteLast (m.leaf + i)))) 51 16 * 0x10000

/-- Does a physical address lie in a page that a migration is moving, which no write may reach meanwhile? -/
def State.migrating (s : State) (pa : Nat) : Bool :=
  s.migs.any (fun e => e.2.started &&
    ((s.migFrame e.2 ≤ pa && pa < s.migFrame e.2 + e.2.size) || (e.2.dest.toNat ≤ pa && pa < e.2.dest.toNat + e.2.size)))

/-- Has a write made since a write number gone to a page that is being migrated? What made it waits, as if it had not begun. -/
def State.blockedSince (s : State) (n : Nat) : Bool :=
  !s.migs.isEmpty && s.writes.any (fun r => n ≤ r.id && s.migrating r.addr)

/-! ### Scratchpad lines (09 R130, R131) -/

def isPad (va : Nat) : Bool := bitsOf va 55 32 = 0xFFFFFF
def padBay (va : Nat) : Nat := bitsOf va 28 22
def padUnit (va : Nat) : Nat := bitsOf va 21 17
def padState (va : Nat) : Bool := bitsOf va 29 29 = 1

/-- Does an address lie in one of the windows no page table has an effect on: the scratchpads', the aperture, scheduler memory, the trace
buffers, the KV pool's (R130; 13 R256; 15 R276; 17 R317; 19 R374)? -/
def isWindow (va : Nat) : Bool := bitsOf va 55 34 = 0x3FFFFF || bitsOf va 55 48 = 0xFE

/-- Number of the line a window address names: (bay * 32 + unit) * 1024 + line. -/
def padLine (va : Nat) : Nat := bitsOf va 28 7

/-- The data-view window address of a line. -/
def padAddr (ln : Nat) : Nat := 0x00FFFFFF00000000 + ln * 128

/-- Is a line's bank mapped out (R28)? -/
def State.bankOut (s : State) (ln : Nat) : Bool :=
  let b := ln / 32768
  (s.die (b / 32)).badBanks.contains (b % 32 * 416 + ln / 1024 % 32 * 16 + ln % 1024 % 16)

/-- Does a window address lead anywhere (R130)? -/
def State.padOk (s : State) (va : Nat) : Bool :=
  bitsOf va 31 30 = 0 && padUnit va < 26 && s.bayUp (padBay va) && !s.bankOut (padLine va)

/-- The state word of a line (R131). -/
def LineState.word (l : LineState) : Nat :=
  l.extent.toNat * 1024 + (if l.alloc then 512 else 0) + (if l.guarded then 256 else 0) + l.owner.toNat * 4 +
    (if l.holders = 0 then 0 else 2) + (if l.full then 1 else 0)

/-! ### Where an address leads -/

/-- Who makes an access: where, as which party, in which context and view. -/
structure Agent where
  bay : Nat
  party : Party
  ctx : BitVec 6
  priv : Bool
  deriving DecidableEq, Repr

def Agent.die (a : Agent) : Nat := a.bay / 32

/-- Check the alignment rule of every access (R129). -/
def addrOk (va size : Nat) : Bool := va < 0x100000000000000 && va % size = 0

end Sys2Proof.Machine
end

