-- ==== Sys2Proof/Machine/Operands.lean ====
section
/-! DEFINITION. The operand forms of a sequencer word (05 R63-R67), what it awaits, what it names as targets, and the
values its slots hold when it fires (05 R64, R69, R70). -/

namespace Sys2Proof.Machine

/-- OP, bits 31:25. -/
def opOf (w : Word32) : Nat := w.toNat / 0x2000000
/-- PM, bits 24:23. -/
def pmOf (w : Word32) : Nat := bitsOf w.toNat 24 23
/-- T, bits 22:14. -/
def tOf (w : Word32) : Nat := bitsOf w.toNat 22 14
/-- T2 of format F, bits 13:5. -/
def t2Of (w : Word32) : Nat := bitsOf w.toNat 13 5
/-- The L and R specifiers. -/
def lOf (w : Word32) : Nat := bitsOf w.toNat 13 7
def rOf (w : Word32) : Nat := bitsOf w.toNat 6 0

def isXF (op : Nat) : Bool := [0x2B, 0x2D, 0x2F].contains op

/-- Buffered-write opcodes (R60). -/
def isBuffered (op : Nat) : Bool := [0x4C, 0x4D, 0x4E, 0x4F, 0x50, 0x51, 0x52, 0x53].contains op

/-- Atomics (R76). -/
def isAtomic (op : Nat) : Bool := [0x51, 0x52, 0x53].contains op

/-- LD8 to LD64 and LDAQ (R146). -/
def isLoad (op : Nat) : Bool := 0x44 ≤ op && op ≤ 0x4B

/-- Exits (R73, R109). -/
def isExit (op : Nat) : Bool := [0x30, 0x31, 0x32, 0x33, 0x34, 0x35, 0x37].contains op

/-- Wait class (R84). -/
def isWait (op : Nat) : Bool := [0x5C, 0x66, 0x68, 0x6D].contains op

/-- P as a third data input (R70). -/
def threeInput (op : Nat) : Bool := [0x16, 0x17, 0x18, 0x19, 0x28, 0x53].contains op

/-- Group-operand instructions (R67, R84). -/
def isRg (op : Nat) : Bool := [0x59, 0x63, 0x67, 0x77, 0x78, 0x79].contains op

/-- Does the instruction use slot L (R63, R65, R91)? -/
def usesL (op : Nat) : Bool := !([0x2A, 0x2E, 0x30, 0x32, 0x34, 0x35, 0x36, 0x37, 0x54, 0x5E] : List Nat).contains op

/-- Does the instruction use slot R? -/
def usesR (op : Nat) : Bool :=
  !([0x1A, 0x1B, 0x1C, 0x26, 0x27, 0x29, 0x2A, 0x2B, 0x2C, 0x2D, 0x2E, 0x2F, 0x30, 0x31, 0x32, 0x33, 0x34, 0x35, 0x36,
    0x37, 0x41, 0x42, 0x43, 0x4B, 0x54, 0x55, 0x57, 0x59, 0x5B, 0x5E, 0x66, 0x68, 0x6A, 0x6B, 0x6F, 0x73, 0x75] : List Nat).contains op

/-- R66: awaited slots. -/
def awaitsL (w : Word32) : Bool := usesL (opOf w) && (isXF (opOf w) || lOf w == 0x40)
def awaitsR (w : Word32) : Bool :=
  [0x50, 0x51, 0x52, 0x53].contains (opOf w) || (usesR (opOf w) && rOf w == 0x40)
def awaitsP (w : Word32) : Bool := pmOf w == 1 || pmOf w == 2 || threeInput (opOf w)

def awaitsSlot (w : Word32) (slot : Nat) : Bool :=
  if slot = 0 then awaitsL w else if slot = 1 then awaitsR w else awaitsP w

/-- Does the word's format have a target (R63, R71)? -/
def hasT (op : Nat) : Bool :=
  !(isExit op) && !(isWait op) && !([0x36, 0x4C, 0x4D, 0x4E, 0x4F, 0x50, 0x54, 0x55, 0x56] : List Nat).contains op

/-- Target values of a word: T, and T2 of FAN. -/
def targets (w : Word32) : List Nat :=
  if opOf w == 0x2D then [tOf w, t2Of w] else if hasT (opOf w) then [tOf w] else []

/-- Slot that a target value names: instruction and slot (R66). -/
def slotTarget (t : Nat) : Option (Nat × Nat) := if t / 128 < 3 then some (t % 128, t / 128) else none

/-- Registers an instruction writes through its targets, s0 left out (R67, R72, R74). -/
def regTargets (w : Word32) : List Nat :=
  (targets w).flatMap (fun t =>
    if t / 128 = 3 && t % 128 < 64 && t != 0x180 then
      (if opOf w == 0x64 then [t % 128, t % 128 + 1, t % 128 + 2, t % 128 + 3] else [t % 128])
    else [])

/-- Registers an instruction writes, the s63 of CALL and CALLI among them (R74). -/
def writesOf (w : Word32) : List Nat := regTargets w ++ (if opOf w == 0x32 || opOf w == 0x33 then [63] else [])

/-- An immediate specifier's value, sign-extended to 64 bits (R64). -/
def immOf (spec : Nat) : Word := BitVec.ofInt 64 ((spec : Int) - 0x60)

/-- A scalar register; s0 reads as zero (R79). -/
def Slot.reg (sl : Slot) (n : Nat) : Word := if n = 0 then 0 else Smap.getD sl.regs 0 n

/-- Write a scalar register; a write of s0 is discarded (R72, R79). It clears the register's poison (19 R371). -/
def Slot.setReg (sl : Slot) (n : Nat) (v : Word) : Slot :=
  if n = 0 then sl else { sl with regs := Smap.put sl.regs 0 n v, badRegs := sl.badRegs.filter (fun g => g != n) }

def Block.word (b : Block) (i : Nat) : Word32 := b.words.getD i 0
def Block.count (b : Block) : Nat := b.words.length
def Block.isFired (b : Block) (i : Nat) : Bool := b.fired.getLsbD i
def Block.setFired (b : Block) (i : Nat) : Block :=
  { b with fired := b.fired ||| (1#128 <<< i), firedAt := Smap.insert b.firedAt i b.cycles }
def Block.token (b : Block) (i slot : Nat) : Option Word := Smap.find b.tokens (i * 3 + slot)

/-- The value of an operand specifier, if it is there (R64). -/
def operand (sl : Slot) (b : Block) (i slot spec : Nat) : Option Word :=
  if spec < 0x40 then some (sl.reg spec) else if spec = 0x40 then b.token i slot else some (immOf spec)

/-- Where an operand comes from. -/
inductive Src where
  | unused
  | spec (n : Nat)
  | awaited
  deriving DecidableEq, Repr

/-- The operand form of an instruction: its predicate mode, whether P is a third input, its L and R, and whether L names a
group of four registers (R63-R67). -/
structure Form where
  pm : Nat
  three : Bool
  l : Src
  r : Src
  rg : Bool
  deriving DecidableEq, Repr

/-- The form a word has. -/
def formOf (w : Word32) : Form :=
  let op := opOf w
  { pm := pmOf w
    three := threeInput op
    l := if awaitsL w then .awaited else if usesL op then .spec (lOf w) else .unused
    r := if awaitsR w then .awaited else if usesR op then .spec (rOf w) else .unused
    rg := isRg op }

/-- The value a source gives at instruction i, when it is there. -/
def Src.value (x : Src) (sl : Slot) (b : Block) (i slot : Nat) : Option Word :=
  match x with
  | .unused => some 0
  | .awaited => b.token i slot
  | .spec n => operand sl b i slot n

/-- The four registers of a group operand (R67). -/
def Form.group (f : Form) (sl : Slot) : List Word :=
  match f.rg, f.l with
  | true, .spec n => [sl.reg n, sl.reg (n + 1), sl.reg (n + 2), sl.reg (n + 3)]
  | _, _ => []

def groupOf (sl : Slot) (w : Word32) : List Word := (formOf w).group sl

/-- Is P awaited (R66)? -/
def Form.awaitsP (f : Form) : Bool := f.pm == 1 || f.pm == 2 || f.three

/-- The operands of instruction i as it fires, when all it awaits are there (R69). An instruction returned to the replay
queue keeps what it captured (19 R353). -/
def Block.captureForm (b : Block) (sl : Slot) (i : Nat) (f : Form) : Option Capture :=
  match b.replay.find? (fun c => c.idx == i) with
  | some c => some c
  | none =>
    if b.isFired i then none
    else
      match f.l.value sl b i 0, f.r.value sl b i 1, (if f.awaitsP then b.token i 2 else some 0) with
      | some l, some r, some p => some { idx := i, l := l, r := r, p := p, grp := f.group sl }
      | _, _, _ => none

def Block.capture (b : Block) (sl : Slot) (i : Nat) : Option Capture := b.captureForm sl i (formOf (b.word i))

/-- Granules of the slot that an operand source reads at instruction i, in one of its slots. -/
def Src.granules (x : Src) (i slot : Nat) : List Nat :=
  match x with
  | .unused => []
  | .awaited => [64 + i * 3 + slot]
  | .spec n => if n < 0x40 then [n] else if n = 0x40 then [64 + i * 3 + slot] else []

/-- Granules that an instruction reads as it fires. -/
def Form.granules (f : Form) (i : Nat) : List Nat :=
  f.l.granules i 0 ++ f.r.granules i 1 ++ (if f.awaitsP then [64 + i * 3 + 2] else []) ++
    (match f.rg, f.l with
      | true, .spec n => [n, n + 1, n + 2, n + 3]
      | _, _ => [])

/-- Does instruction i read a granule that is spoilt (19 R371)? One in the replay queue has read its operands. -/
def Block.spoilt (b : Block) (sl : Slot) (i : Nat) (f : Form) : Bool :=
  !b.replay.any (fun c => c.idx == i) && sl.badRegs.any (fun g => (f.granules i).contains g)

/-- Does predication make the instruction void (R70)? One in the replay queue has been decided already. -/
def Block.voidForm (b : Block) (i pm : Nat) (p : Word) : Bool :=
  !b.replay.any (fun c => c.idx == i) && ((pm == 1 && p == 0) || (pm == 2 && p != 0))

def Block.void (b : Block) (i : Nat) (p : Word) : Bool := b.voidForm i (pmOf (b.word i)) p

/-- Is a read of the block in flight at index i? -/
def Block.inFlight (b : Block) (i : Nat) : Bool :=
  b.reads.any (fun r => r.cap.idx == i) || b.replay.any (fun c => c.idx == i)

/-- Which instructions may still fire: each awaited slot is filled, or has a producer that may still deliver (R69, R70). -/
def Block.mayFire (b : Block) : List Bool :=
  (List.range b.count).foldl (fun acc i =>
    let w := b.word i
    let fed (slot : Nat) : Bool :=
      !awaitsSlot w slot || (b.token i slot).isSome ||
        (List.range i).any (fun j =>
          (acc.getD j false || b.inFlight j) && (targets (b.word j)).any (fun t => slotTarget t == some (i, slot)))
    let isVoid := match b.token i 2 with
      | some p => b.void i p
      | none => false
    acc ++ [!b.isFired i && !isVoid && fed 0 && fed 1 && fed 2]) []

/-- Is instruction i able to fire (R69)? -/
def Block.ready (b : Block) (sl : Slot) (i : Nat) : Bool := i < b.count && (b.capture sl i).isSome

/-- Registers that fired instructions have written or will write (R74). -/
def Block.claimed (b : Block) : List Nat :=
  b.regw.map (fun r => r.reg) ++
    ((b.reads.map (fun r => r.cap.idx) ++ b.replay.map (fun c => c.idx) ++ b.held.map (fun c => c.idx) ++
      b.stores.map (fun e => e.idx)).flatMap (fun i => regTargets (b.word i)))

/-- Would instruction i be a second exit, or the second writer of a register, beside a higher-index one that has fired in this
cycle? It fires in a later cycle then, as it may (R69): of two that fire in one cycle the higher index is the second (R74). -/
def Block.waitsTurn (b : Block) (i : Nat) : Bool :=
  (List.range b.count).any (fun j =>
    i < j && Smap.find b.firedAt j == some b.cycles && !b.isFired i &&
      ((isExit (opOf (b.word i)) && isExit (opOf (b.word j))) ||
        (writesOf (b.word i)).any (fun r => (writesOf (b.word j)).contains r)))

/-- The address of the block that follows in memory: the link of R59 and R110. -/
def Block.link (b : Block) : Addr :=
  BitVec.ofNat 56 ((b.addr.toNat + 4 * (b.count + 1) + 7) / 8 * 8)

/-- Slots an instruction captures, as the frame's bits give them (19 R353). -/
def slotBits (w : Word32) : Nat :=
  (if usesL (opOf w) then 1 else 0) + (if usesR (opOf w) || awaitsR w then 2 else 0) + (if awaitsP w then 4 else 0)

end Sys2Proof.Machine
end

