-- ==== Sys2Proof/Machine/Ops.lean ====
section
/-! DEFINITION. The named operations of the machine: accesses and where they lead, guard touches, fault queues, imprecise
records, the trace buffer, taking a trap and returning from one (09 R129-R152; 19 R349-R375). -/

namespace Sys2Proof.Machine

/-- The outcome of exec. -/
abbrev Out := Host.Outcome State Fault Refusal

/-- What a turn of the device comes to: where it would write to a page that is being migrated, it waits, as if it had not begun (21
R387). -/
def State.orWaits (s : State) (o : Out) : Out :=
  match o with
  | .next t => if t.blockedSince s.nextWrite then .next s else .next t
  | o => o

/-! ### Tasks -/

def Slot.uid (sl : Slot) : Nat :=
  match sl.task with
  | some t => t.uid
  | none => 0

/-- The slot that holds a task. -/
def State.slotOf (s : State) (uid : Nat) : Option Nat :=
  (s.slots.find? (fun e => e.2.task.isSome && e.2.uid == uid)).map (fun e => e.1)

/-- The task of a slot as the maker of an access; the view is that of its block in flight (05 R80). -/
def State.agent (s : State) (k : Nat) : Agent :=
  let sl := s.slot k
  { bay := k / 8, party := .task sl.uid, ctx := sl.ctxid
    priv := match sl.block with
      | some b => b.priv
      | none => sl.ctxid == 0 }

/-- A progress event of the task in a slot (19 R368). -/
def State.progress (s : State) (k : Nat) : State := s.modSlot k (fun sl => { sl with wCount := 0, progressed := true })

/-- A progress event of a task, where it holds a slot. -/
def State.progressOf (s : State) (uid : Nat) : State :=
  match s.slotOf uid with
  | some k => s.progress k
  | none => s

/-- Is a save of a context at the point where its engines stop (19 R366)? Its splices, repairs, attentions and migrations complete
first. -/
def State.ctxHeld (s : State) (c : BitVec 6) : Bool :=
  match s.ctxSwitch with
  | some w => !w.restore && w.ctx == c && s.kvops.all (fun o => o.2.ctx != c) && s.migs.all (fun m => m.2.ctx != c)
  | none => false

/-! ### Queues of the device: faults and page notifications (19 R358, R359; 21 R385) -/

/-- Does a queue entry wait to be pushed to a descriptor? -/
def State.pushWaits (s : State) (desc : Nat) : Bool :=
  s.latePushes.any (fun w => w.desc = desc)

/-- Push a 32-byte entry to the queue of a descriptor: the descriptor is read as the last writes left it, so that entries of
different dies interleave and none overwrites another (R359). rel names the writes the advance of TAIL releases. A push to a page
that is being migrated waits, and those to the same queue behind it (21 R387). -/
def State.pushQueue (s : State) (d desc : Nat) (entry : List Byte) (rel : List Nat) : State :=
  let wait (s : State) : State := { s with latePushes := s.latePushes ++ [{ die := d, desc := desc, entry := entry, rel := rel }] }
  if desc = 0 then s
  else if s.pushWaits desc then wait s
  else
    let p : Party := .device d
    match s.deviceAddr d desc with
    | (.error _, s) => s
    | (.ok pa, s) =>
      if s.lost pa || s.poisoned pa 32 || !s.hasPath pa then s
      else if s.migrating pa then wait s
      else
        let s := s.touchRun d pa 32 true
        let base := s.loadLast d p pa 8
        let cap := base.2.loadLast d p (pa + 8) 4
        let head := cap.2.loadLast d p (pa + 12) 4
        let tail := head.2.loadLast d p (pa + 16) 4
        let lost := tail.2.loadLast d p (pa + 20) 4
        let s := lost.2
        let drop (s : State) : State := s.store p (pa + 20) (bytesOf 4 (min (lost.1 + 1) 0xFFFFFFFF)) [] true
        if base.1 = 0 then s
        else if (tail.1 + 0x100000000 - head.1) % 0x100000000 = cap.1 then drop s
        else
          match s.deviceAddr d (base.1 + 32 * (tail.1 % cap.1)) with
          | (.error _, s) => drop s
          | (.ok ea, s) =>
            if s.lost ea || !s.hasPath ea then drop s
            else if s.migrating ea then wait s
            else
              let s := (s.touchRun d ea 32 true).storeRun p ea entry
              let deps := (s.past p ++ rel).map (fun i => (i, .on [0, 1, 2, 3]))
              s.store p (pa + 16) (bytesOf 4 ((tail.1 + 1) % 0x100000000)) deps true

/-- The 32 bytes of a queue entry or held record (19 R360). -/
def ImpRec.bytes (r : ImpRec) : List Byte :=
  [r.cause, r.source, r.flags, BitVec.ofNat 8 r.ctx.toNat] ++ bytesOf 2 (r.owner.getD 0xFFFF) ++ bytesOf 2 r.count.toNat ++
    bytesOf 8 r.addr.toNat ++ bytesOf 8 r.d1.toNat ++ bytesOf 8 r.d2.toNat

/-- Queue an entry to the fault queue of its context (19 R358, R359). -/
def State.pushFault (s : State) (d : Nat) (raiser : Party) (r : ImpRec) : State :=
  if s.fqtab = 0 then s else s.pushQueue d (s.fqtab.toNat / 64 * 64 + 32 * r.ctx.toNat) r.bytes (s.past raiser)

/-- A fault record with its three words. -/
def impRec (cause source : Byte) (ctx : BitVec 6) (addr d1 d2 : Nat) : ImpRec :=
  { cause := cause, source := source, flags := 0, ctx := ctx, owner := none, count := 1, addr := BitVec.ofNat 64 addr,
    d1 := BitVec.ofNat 64 d1, d2 := BitVec.ofNat 64 d2 }

/-- A record joins those held: a like one counts, a ninth is lost (19 R352). -/
def addImp (l : List ImpRec) (r : ImpRec) : List ImpRec × Bool :=
  if l.any (fun q => q.cause == r.cause && q.source == r.source) then
    (l.map (fun q => if q.cause == r.cause && q.source == r.source then
      { q with count := BitVec.ofNat 16 (min 65535 (q.count.toNat + r.count.toNat)) } else q), false)
  else if 8 ≤ l.length then (l, true)
  else (l ++ [r], false)

/-- The slot of a record's owning task (19 R360): where the task a fault is raised against is, or was last; where none is named,
the task that forked the operation that raises it. -/
def State.ownerOf (s : State) (uid : Nat) (raiser : Party) : Option Nat :=
  match Smap.find s.seats uid, raiser with
  | some k, _ => some k
  | none, .op n => (Smap.find s.forkers n).bind (fun u => Smap.find s.seats u)
  | none, _ => none

/-- Record an imprecise fault against a task: in its slot, beside its image, or in the queue when it is gone (19 R350, R352). -/
def State.recordImp (s : State) (d uid : Nat) (raiser : Party) (r : ImpRec) : State :=
  if s.parked.any (fun e => e.2.uid == uid) then
    let a := addImp (Smap.getD s.lateImp [] uid) r
    { s with lateImp := Smap.put s.lateImp [] uid a.1, lateOver := if a.2 then uid :: s.lateOver else s.lateOver }
  else match s.slotOf uid with
    | some k => s.modSlot k (fun sl =>
        let a := addImp sl.imp { r with owner := some k }
        { sl with imp := a.1, impOverflow := sl.impOverflow || a.2 })
    | none => s.pushFault d raiser { r with owner := s.ownerOf uid raiser }

/-- A fault of an engine operation: kept for its join, or queued when no task will join it (19 R350; 13 R251). -/
def State.opFault (s : State) (d : Nat) (uid : Option Nat) (op : Nat) (r : ImpRec) : State :=
  match uid with
  | none => s.pushFault d (.op op) { r with owner := s.ownerOf 0 (.op op) }
  | some u =>
    let l := Smap.getD s.joins [] u
    if l.any (fun j => j.op == op) then
      { s with joins := Smap.put s.joins [] u (l.map (fun j =>
        if j.op == op then { j with faults := (addImp j.faults r).1, overflow := j.overflow || (addImp j.faults r).2 } else j)) }
    else s.pushFault d (.op op) { r with owner := s.ownerOf u (.op op) }

/-! ### Page access counters (21 R384, R385) -/

/-- Is a party one of the package (R153, R384)? -/
def Party.inside (p : Party) : Bool :=
  match p with
  | .host => false
  | .peer _ => false
  | _ => true

/-- Count an access that missed the slices, and notify when the count reaches HOTTH: the push releases what the party has done. -/
def State.bump (s : State) (a : Agent) (va : Nat) (t : Trans) : State :=
  let d := a.die
  let old := s.loadLast d (.device d) t.ctr 2
  let new := min 65535 (old.1 + 1)
  let s := old.2.store (.device d) t.ctr (bytesOf 2 new) [] true
  let hot := (s.die d).hotth.toNat
  if hot = 0 || new != hot || old.1 = new then s
  else
    let page := if t.large then va / 0x200000 * 0x200000 else va / 0x10000 * 0x10000
    let frame := if t.large then t.pa / 0x200000 * 0x200000 else t.pa / 0x10000 * 0x10000
    s.pushQueue d (s.die d).noteq.toNat
      (bytesOf 8 page ++ bytesOf 8 (frame + new + a.ctx.toNat * 2 ^ 58 + d * 2 ^ 56) ++ bytesOf 16 0) (s.past a.party)

/-- An access to translated memory passes through the slices of the agent's die; a miss of a party of the package counts on the page. -/
def State.access (s : State) (a : Agent) (va : Nat) (t : Trans) (write : Bool) : State :=
  let r := s.touchHome a.die t.pa t.home write
  if r.1 && t.cnt && a.party.inside then r.2.bump a va t else r.2

/-- An atomic's access: to a peer's memory it is performed at the peer, and the die's slices keep nothing of the line (R388). -/
def State.accessAtomic (s : State) (a : Agent) (va : Nat) (t : Trans) (write : Bool) : State :=
  if paType t.pa = 2 then s.evict a.die (t.pa / 128) else s.access a va t write

/-- A read of translated memory: a task's passes through its L1 first, but for an atomic's (09 R132); what that does not hold is asked
of the slices. -/
def State.accessRead (s : State) (a : Agent) (va : Nat) (t : Trans) (atomic : Bool) : State :=
  match a.party, atomic with
  | .task _, false =>
    let r := s.l1Read a.bay (t.pa / 128)
    if r.1 then r.2 else r.2.access a va t false
  | _, true => s.accessAtomic a va t false
  | _, false => s.access a va t false

/-- A run of bytes of a page that a party works on passes through the slices of its die, line by line (09 R133; 21 R384). -/
def State.accessRun (s : State) (a : Agent) (va : Nat) (t : Trans) (n : Nat) (write : Bool) : State :=
  (List.range ((t.pa % 128 + n + 127) / 128)).foldl (fun s i =>
    s.access a (va / 128 * 128 + 128 * i) { t with pa := t.pa / 128 * 128 + 128 * i } write) s

/-- The context a party works in. -/
def State.ctxOf (s : State) (p : Party) : BitVec 6 :=
  match p with
  | .task u => ((s.slotOf u).map (fun k => (s.slot k).ctxid)).getD 0
  | .op o => ((Smap.find s.kvops o).map (fun q => q.ctx)).getD 0
  | _ => 0

/-- A run of bytes of the device's own tables that a party works on passes through the slices of a die; what misses there counts on the
page where the party is one of R153's (09 R133; 21 R384; log entry 63). -/
def State.deviceRun (s : State) (d : Nat) (p : Party) (va : Nat) (t : Trans) (n : Nat) (write : Bool) : State :=
  match p with
  | .device _ => s.touchRun d t.pa n write
  | _ => s.accessRun { bay := 32 * d, party := p, ctx := s.ctxOf p, priv := true } va t n write

/-! ### The KV window's blocks (17 R310, R311, R313, R317) -/

/-- Read a field of the device's own tables through a die's page table. -/
def State.deviceLoad (s : State) (d va n : Nat) : Except Byte Nat × State :=
  match s.deviceAddr d va with
  | (.error c, s) => (.error c, s)
  | (.ok pa, s) =>
    if s.lost pa || s.poisoned pa n then (.error cUncorrectable, s)
    else
      let r := (s.touchRun d pa n false).load d (.device d) pa n
      (.ok r.1, r.2)

/-- Address of the stage-2 entry of a block: no pool, or a number beyond it, is KV_MAP_INVALID (R310). -/
def State.kvEntryAddr (s : State) (d g : Nat) : Except Byte Nat × State :=
  let fail (c : Byte) : Byte := if c = cUncorrectable then c else cKvMapInvalid
  if s.kvpool = 0 then (.error cKvMapInvalid, s)
  else
    let pool := s.kvpool.toNat / 64 * 64
    match s.deviceLoad d (pool + 8) 4 with
    | (.error c, s) => (.error (fail c), s)
    | (.ok nblk, s) =>
      if nblk ≤ g then (.error cKvMapInvalid, s)
      else match s.deviceLoad d pool 8 with
        | (.error c, s) => (.error (fail c), s)
        | (.ok base, s) =>
          match s.deviceAddr d (base + 32 * g) with
          | (.error c, s) => (.error (fail c), s)
          | (.ok pa, s) => (if s.lost pa || s.poisoned pa 32 then .error cUncorrectable else .ok (base + 32 * g), s)

/-- Read a field of the device's own tables as the last write left it. -/
def State.deviceAtomic (s : State) (d va n : Nat) : Except Byte Nat × State :=
  match s.deviceAddr d va with
  | (.error c, s) => (.error c, s)
  | (.ok pa, s) =>
    if s.lost pa || s.poisoned pa n then (.error cUncorrectable, s)
    else
      let r := (s.touchRun d pa n false).loadLast d (.device d) pa n
      (.ok r.1, r.2)

/-- A block is stale on a die (R313). -/
def State.kvStale (s : State) (d prov : Nat) : Bool :=
  prov % 16 = 5 || bitsOf prov 63 52 != (s.die d).kvepoch.toNat

/-- Where a KV window address leads (R317). -/
def State.kvWindow (s : State) (a : Agent) (va : Nat) (wr : Bool) : Except Byte Place × State :=
  let d := a.die
  match s.kvEntryAddr d (bitsOf va 47 16) with
  | (.error c, s) => (.error (if c = cUncorrectable then c else cPageAbsent), s)
  | (.ok e, s) =>
    match s.deviceLoad d e 8 with
    | (.error _, s) => (.error cPageAbsent, s)
    | (.ok w0, s) =>
      if w0 % 2 = 0 then (.error cPageAbsent, s)
      else if wr && bitsOf w0 1 1 = 1 then (.error cPageProtect, s)
      else match s.deviceLoad d (e + 16) 8 with
        | (.error _, s) => (.error cPageAbsent, s)
        | (.ok prov, s) =>
          if s.kvStale d prov then (.error cKvStale, s)
          else (.ok (.kv (bitsOf w0 51 16 * 0x10000 + va % 0x10000)), s)

/-! ### Where an access leads (09 R129, R130, R135, R143; 13 R256; 15 R276; 19 R374) -/

/-- What kind of access asks. -/
structure Want where
  size : Nat
  rd : Bool
  wr : Bool
  atomic : Bool
  /-- An LD64: the one read the trace window takes. -/
  plainLoad : Bool
  /-- May the access be one of the state view's (R131)? -/
  wordOk : Bool
  deriving DecidableEq, Repr

/-- Is a party one that reaches scheduler memory: a task, or the control node (15 R276)? What another meets there is not stated: PAGE_PROTECT
(DESIGN CHOICE, log entry 24). -/
def Party.schedules (p : Party) : Bool :=
  match p with
  | .task _ => true
  | .host => true
  | _ => false

/-- Resolve an address for an access, in the order of R136. A state-view access of the wrong size or offset has ALIGN, whatever its address
(DESIGN CHOICE, log entry 118). -/
def State.resolve (s : State) (a : Agent) (va : Nat) (w : Want) : Except Byte Place × State :=
  if !addrOk va w.size then (.error cAlign, s)
  else if isPad va then
    if padState va && !(w.size = 8 && w.wordOk && va % 128 = 0) then (.error cAlign, s)
    else if !s.padOk va then (.error cPageAbsent, s)
    else if padState va then (.ok (.padWord (padLine va)), s)
    else (.ok (.pad va), s)
  else if bitsOf va 55 32 = 0xFFFFFE then
    if w.size != 8 then (.error cAlign, s)
    else if bitsOf va 31 29 != 0 || bitsOf va 21 13 != 0 || !s.bayUp (bitsOf va 28 22) then (.error cPageAbsent, s)
    else if bitsOf va 12 12 = 0 && 0x38 < bitsOf va 11 0 then (.error cPageAbsent, s)
    else if !a.priv then (.error cPageProtect, s)
    else if bitsOf va 12 12 = 1 then (.ok (.template (bitsOf va 28 22) (bitsOf va 11 0)), s)
    else (.ok (.doorbell (bitsOf va 28 22) (bitsOf va 11 0 / 8)), s)
  else if bitsOf va 55 32 = 0xFFFFFD then
    if w.size != 8 then (.error cAlign, s)
    else if !a.priv || !a.party.schedules then (.error cPageProtect, s)
    else (.ok (.sched (bitsOf va 31 0)), s)
  else if bitsOf va 55 32 = 0xFFFFFC then
    if w.wr then (.error cPageProtect, s)
    else if w.size != 8 then (.error cAlign, s)
    else if !w.plainLoad || !a.priv || bitsOf va 31 29 != 0 || bitsOf va 21 16 != 0 || !s.bayUp (bitsOf va 28 22) then
      (.error cPageProtect, s)
    else (.ok (.trace (bitsOf va 28 22) (bitsOf va 15 4) (bitsOf va 3 3 = 1)), s)
  else if bitsOf va 55 48 = 0xFE then s.kvWindow a va w.wr
  else
    match s.translateFor a.bay va w.wr with
    | (.error c, s) => (.error c, s)
    | (.ok t, s) =>
      if (w.rd && !t.r) || (w.wr && !t.w) then (.error cPageProtect, s)
      else if w.atomic && t.tier = 1 then (.error cPageProtect, s)
      else (.ok (.mem t), s)

def wantRead (size : Nat) : Want := ⟨size, true, false, false, size = 8, true⟩
def wantAcquire (size : Nat) : Want := ⟨size, true, false, false, false, true⟩
def wantWrite (size : Nat) : Want := ⟨size, false, true, false, false, true⟩
/-- Accesses that are none of the instructions the state view takes: of the device, its engines and the outside (R131). -/
def wantPlain (size : Nat) (wr : Bool) : Want := ⟨size, !wr, wr, false, false, false⟩
def wantAtomic (size : Nat) : Want := ⟨size, true, true, true, false, size = 8⟩

/-- The key of a place's bytes in memory. -/
def Place.key (p : Place) : Option Nat :=
  match p with
  | .mem t => some t.pa
  | .kv pa => some pa
  | .pad va => some va
  | _ => none

/-- Is the data of a place lost or poisoned (19 R371; 21 R397)? -/
def State.placeBad (s : State) (p : Place) (n : Nat) : Bool :=
  match p with
  | .mem t => s.lost t.pa || s.poisoned t.pa n
  | .kv pa => s.lost pa || s.poisoned pa n
  | .pad va => s.poisoned va n
  | _ => false

/-- Is there no path to the memory of a place (21 R390)? -/
def State.placeCut (s : State) (p : Place) : Bool :=
  match p with
  | .mem t => !s.hasPath t.pa
  | _ => false

/-- Is the place a data line with GUARD 1 (R152)? -/
def State.guardedPlace (s : State) (p : Place) : Bool :=
  match p with
  | .pad va => (s.line (padLine va)).guarded
  | _ => false

/-- Must a read wait for FULL (R136)? -/
def State.readWaits (s : State) (p : Place) : Bool :=
  match p with
  | .pad va => !(s.line (padLine va)).guarded && !(s.line (padLine va)).full
  | _ => false

/-- Must a write wait: WB, or HELD (R140; 21 R386)? -/
def State.writeWaits (s : State) (p : Place) : Bool :=
  match p with
  | .mem t => t.wb
  | .pad va => !(s.line (padLine va)).guarded && 0 < (s.line (padLine va)).holders
  | _ => false

/-- The record of a touch of a guarded line (19 R360). -/
def guardRec (source : Byte) (ctx : BitVec 6) (d1 va : Nat) : ImpRec :=
  let ln := padLine va
  impRec cGuard source ctx va d1 (ln / 1024 % 32 + ln % 16 * 2 ^ 8 + ln % 1024 / 16 * 2 ^ 12 + va % 128 * 2 ^ 24)

/-- GUARD is raised against a task by a touch of a guarded line (R152). -/
def State.touchGuard (s : State) (d uid : Nat) (raiser : Party) (source : Byte) (ctx : BitVec 6) (d1 va : Nat) : State :=
  s.recordImp d uid raiser (guardRec source ctx d1 va)

/-- Transfers running or queued on a channel. -/
def State.chanLoad (s : State) (b c : Nat) : Nat := (Smap.getD (s.bay b).chans Channel.reset c).queue.length

/-- The trace record half a window address reads (19 R373, R374). -/
def State.traceWord (s : State) (b r : Nat) (high : Bool) : Nat :=
  match Smap.find (s.bay b).trace r with
  | some e => if high then e.2.toNat else e.1.toNat
  | none => 0

/-- A word of scheduler memory (15 R276). -/
def State.schedWord (s : State) (off : Nat) : Nat :=
  if off < 0x80800 then (Smap.getD s.sched 0 (off / 8)).toNat
  else if off = 0x81010 then s.trigStatus.toNat
  else 0

/-- A read of a full line observes the completion that marked it full, and the release it was set full by (R162, R163). -/
def State.observeLine (s : State) (a : Agent) (ln : Nat) : State :=
  let seen := (s.line ln).deps ++ (s.line ln).release.toList
  if seen.isEmpty then s else s.observe a.die a.party seen

/-- Read a place: the value, and the state in which it has been read. A guarded line gives 0. last: as an atomic reads. -/
def State.readPlace (s : State) (a : Agent) (va : Nat) (p : Place) (n : Nat) (last : Bool) : Nat × State :=
  let rd (s : State) (k : Nat) : Nat × State := if last then s.loadLast a.die a.party k n else s.load a.die a.party k n
  match p with
  | .mem t => rd (s.accessRead a va t last) t.pa
  | .kv pa => rd (s.touch a.die pa false).2 pa
  | .pad va =>
    if (s.line (padLine va)).guarded then (0, s) else rd (s.observeLine a (padLine va)) va
  | .padWord ln =>
    ((s.line ln).word, match (s.line ln).release with
      | some i => s.observe a.die a.party [i]
      | none => s)
  | .template b off => (natOf ((List.range 8).map (fun i => Smap.getD (s.bay b).templates 0 (off + i))), s)
  | .doorbell b c => (s.chanLoad b c, s)
  | .sched off => (s.schedWord off, s)
  | .trace b r h => (s.traceWord b r h, s)

/-- Write a place whose conditions have been met, in a group of a stream where the number is none of 0. deps: what the write releases.
FULL changes at once for every party; what a write of the state view releases stands in a write of no bytes, which those who read the
line's FULL have read (R163). Doorbells and the trigger registers are acted on by the operations that reach them. -/
def State.writePlaceIn (s : State) (a : Agent) (group va : Nat) (p : Place) (n v : Nat) (deps : List Dep)
    (atomic : Bool) : State :=
  match p with
  | .mem t => (if atomic then s.accessAtomic a va t true else s.access a va t true).storeGroup a.party group t.pa (bytesOf n v) deps atomic
  | .kv pa => (s.touch a.die pa true).2.storeGroup a.party group pa (bytesOf n v) deps atomic
  | .pad va => if (s.line (padLine va)).guarded then s else s.storeGroup a.party group va (bytesOf n v) deps atomic
  | .padWord ln =>
    let i := s.nextWrite
    (s.storeGroup a.party group va [] deps atomic).modLine ln (fun l =>
      { l with full := v % 2 = 1, marked := false, deps := [], release := some i })
  | .template b off => s.modBay b (fun y => { y with
      templates := (List.range 8).foldl (fun m i => Smap.put m 0 (off + i) ((bytesOf 8 v).getD i 0)) y.templates })
  | .sched off => if off < 0x80800 then { s with sched := Smap.put s.sched 0 (off / 8) (BitVec.ofNat 64 v) } else s
  | _ => s

/-- Write a place outside every stream. -/
def State.writePlace (s : State) (a : Agent) (va : Nat) (p : Place) (n v : Nat) (deps : List Dep) (atomic : Bool) : State :=
  s.writePlaceIn a 0 va p n v deps atomic

/-! ### The trace buffer (19 R373, R374) -/

/-- Record an event in a bay's trace: kinds 1 exit, 2 filter, 3 memory, 4 marker, 5 trap. -/
def State.trace (s : State) (b kind slot detail : Nat) (payload : Nat) : State :=
  s.modBay b (fun y =>
    let tc := y.tracectl.toNat
    if bitsOf tc 15 15 = 1 || y.postLeft = some 0 then y
    else
      let y :=
        if bitsOf tc 4 0 / 2 ^ (kind - 1) % 2 = 0 then y
        else if y.tracedAt = some s.cycle then { y with dropped := true }
        else
          let w := bitsOf tc 27 16
          let rec0 := s.cycle % 2 ^ 48 * 65536 + kind * 4096 + (if y.dropped then 2048 else 0) + slot % 8 * 256 + detail % 256
          { y with
            trace := Smap.insert y.trace w (BitVec.ofNat 64 rec0, BitVec.ofNat 64 payload)
            tracectl := BitVec.ofNat 64 (tc - w * 65536 + (w + 1) % 4096 * 65536)
            postLeft := y.postLeft.map (fun n => n - 1)
            dropped := false
            tracedAt := some s.cycle }
      let hit := (bitsOf tc 14 13 = 1 && kind = 5 && detail % 256 = bitsOf tc 47 40) ||
        (bitsOf tc 14 13 = 2 && kind = 4 && payload % 65536 = bitsOf tc 63 48)
      if hit && bitsOf tc 12 12 = 0 then
        { y with tracectl := y.tracectl ||| 0x1000, postLeft := some (bitsOf tc 39 28) }
      else y)

/-! ### Freezing a task (19 R351, R369) -/

/-- Freeze the task of a slot and queue a cause with a flag, then every record held, each with the same flag. -/
def State.freezeTask (s : State) (k : Nat) (flag : Byte) (cause : List ImpRec) : State :=
  let sl := s.slot k
  let d := k / 64 / 4
  let p : Party := .task sl.uid
  let s := s.modSlot k (fun sl => { sl with status := .frozen false, imp := [], impOverflow := false })
  (cause.map (fun r => ({ r with ctx := sl.ctxid, owner := some k } : ImpRec)) ++ sl.imp).foldl
    (fun s q => s.pushFault d p { q with flags := q.flags ||| flag }) s

/-- The records a slot holds go to the queue of their context, when no trap of its task will deliver them (19 R350). -/
def State.flushImp (s : State) (k : Nat) : State :=
  let sl := s.slot k
  sl.imp.foldl (fun s q => s.pushFault (k / 256) (.task sl.uid) q) (s.modSlot k (fun sl => { sl with imp := [], impOverflow := false }))

/-- A sequencer's fault record (19 R360): block address, index and code, task record. -/
def State.seqRec (s : State) (k : Nat) (cause : Byte) (addr index code : Nat) : ImpRec :=
  impRec cause 0 (s.slot k).ctxid addr (index + code * 65536) (s.slot k).taskrec.toNat

/-! ### The trap frame (19 R353, R354) -/

/-- The 32 bytes of a task record, with FRAME := SR.FRAME. -/
def recordBytes (sl : Slot) : List Byte :=
  match sl.task with
  | none => List.replicate 32 0
  | some t =>
    bytesOf 8 t.entry.toNat ++ bytesOf 8 sl.frame.toNat ++ bytesOf 4 t.join.toNat ++ bytesOf 2 t.launchField.toNat ++
      bytesOf 2 t.flags.toNat ++ bytesOf 8 t.arg.toNat

def captureBytes (b : Block) (c : Capture) : List Byte :=
  bytesOf 1 c.idx ++ bytesOf 1 (slotBits (b.word c.idx)) ++ bytesOf 6 0 ++ bytesOf 8 c.l.toNat ++ bytesOf 8 c.r.toNat ++
    bytesOf 8 c.p.toNat

/-- The successor an exit chose; EXIT and YIELD stand with the link (20, first example). -/
def Block.succOf (b : Block) (e : ExitSel) : Addr :=
  match e with
  | .goto a => a
  | _ => b.link

/-- Bytes of a frame. What is fired and not finished stands in REPLAY; reads in flight are performed again (R351). -/
def frameBytes (sl : Slot) (b : Block) (cause index code mode resIdx : Nat) (imp : List ImpRec) (overflow : Bool) : List Byte :=
  let replay := b.replay ++ b.reads.map (fun r => r.cap)
  let tokens := b.tokens.filter (fun e => !b.isFired (e.1 / 3))
  let exitSel := match b.exit with
    | some _ => 1
    | none => 0
  let succ := match b.exit with
    | some e => (b.succOf e.2).toNat
    | none => 0
  bytesOf 8 b.addr.toNat ++ bytesOf 8 succ ++ bytesOf 1 cause ++ bytesOf 1 index ++ bytesOf 2 code ++
    bytesOf 1 (exitSel + mode * 2 + (if b.priv then 8 else 0) + (if overflow then 16 else 0)) ++ bytesOf 1 resIdx ++
    bytesOf 1 replay.length ++ bytesOf 1 b.held.length ++ bytesOf 2 tokens.length ++ bytesOf 1 b.stores.length ++
    bytesOf 1 b.regw.length ++ bytesOf 1 imp.length ++ bytesOf 3 0 ++
    bytesOf 16 b.fired.toNat ++ bytesOf 16 0 ++ recordBytes sl ++ bytesOf 32 0 ++
    (replay ++ b.held).flatMap (captureBytes b) ++
    tokens.flatMap (fun e => bytesOf 1 (e.1 / 3) ++ bytesOf 1 (e.1 % 3) ++ bytesOf 6 0 ++ bytesOf 8 e.2.toNat) ++
    b.stores.flatMap (fun e => bytesOf 8 e.idx ++ bytesOf 8 e.addr.toNat ++ bytesOf 8 e.data.toNat ++ bytesOf 8 e.dataP.toNat) ++
    b.regw.flatMap (fun r => bytesOf 1 r.reg ++ bytesOf 1 r.writer ++ bytesOf 6 0 ++ bytesOf 8 r.value.toNat) ++
    imp.flatMap ImpRec.bytes

/-- How a run of writes went. -/
inductive Wrote where
  | ok (s : State)
  | bad (cause : Byte) (s : State)
  /-- A page is write-blocked, or a line held: the writes wait. -/
  | wait
  deriving DecidableEq, Repr

/-- Check one 8-byte write of a task. -/
def State.checkWrite (s : State) (k va : Nat) : Wrote :=
  match s.resolve (s.agent k) va (wantPlain 8 true) with
  | (.error c, s) => .bad c s
  | (.ok p, s) =>
    match p with
    | .mem _ | .kv _ | .pad _ =>
      if s.placeCut p then .bad cLinkFault s
      else match p.key with
        | some pa => if isPad va || !s.lost pa then (if s.writeWaits p then .wait else .ok s) else .bad cUncorrectable s
        | none => .bad cPageProtect s
    | _ => .bad cPageProtect s

/-- Perform one 8-byte write of a task that has been checked. A guarded line discards it (R152). -/
def State.writeTask8 (s : State) (k va v : Nat) : State :=
  let a := s.agent k
  match s.resolve a va (wantPlain 8 true) with
  | (.error _, s) => s
  | (.ok p, s) =>
    if s.guardedPlace p then s.touchGuard a.die (s.slot k).uid a.party 0 a.ctx 0xFF va
    else s.writePlace a va p 8 v [] false

/-- Write bytes, 8 at a time, as stores of the task in a slot: all of them, or none. -/
def State.writeTask (s : State) (k va : Nat) (bytes : List Byte) : Wrote :=
  let n := (bytes.length + 7) / 8
  let checked := (List.range n).foldl (fun acc i =>
    match acc with
    | .ok s => s.checkWrite k (va + 8 * i)
    | e => e) (Wrote.ok s)
  match checked with
  | .ok s => .ok ((List.range n).foldl (fun s i => s.writeTask8 k (va + 8 * i) (natOf ((bytes.drop (8 * i)).take 8))) s)
  | e => e

/-- A task that reads a line an engine has marked full observes the completion: a progress event (09 R162, R163; 19 R368). -/
def State.noteMark (s : State) (k va : Nat) (p : Place) : State :=
  match p with
  | .pad _ => if !(s.line (padLine va)).guarded && (s.line (padLine va)).marked then s.progress k else s
  | _ => s

/-- Read n bytes as loads of the task in a slot, 8 at a time, for the instruction at an index; the first fault stops them. -/
def State.readTask (s : State) (k idx va n : Nat) : Except Byte (List Byte) × State :=
  let a := s.agent k
  (List.range ((n + 7) / 8)).foldl (fun acc i =>
    match acc with
    | (.error c, s) => (.error c, s)
    | (.ok bs, s) =>
      match s.resolve a (va + 8 * i) (wantPlain 8 false) with
      | (.error c, s) => (.error c, s)
      | (.ok p, s) =>
        if s.placeBad p 8 then (.error cUncorrectable, s)
        else if s.placeCut p then (.error cLinkFault, s)
        else
          let s := if s.guardedPlace p then s.touchGuard a.die (s.slot k).uid a.party 0 a.ctx idx (va + 8 * i) else s
          let s := s.noteMark k (va + 8 * i) p
          let r := s.readPlace a (va + 8 * i) p 8 false
          (.ok (bs ++ bytesOf (min 8 (n - 8 * i)) r.1), r.2)) (.ok [], s)

/-! ### Fetching a block (05 R59-R62, R68) -/

/-- An empty block at an address: what the frame of a fetch fault shows (R354). -/
def blockAt (addr : Addr) (handler priv : Bool) : Block :=
  { addr := addr, words := [], handler := handler, priv := priv, fired := 0, firedAt := [], tokens := [], reads := [], replay := [],
    held := [], stores := [], regw := [], exit := none, bound := [], cycles := 0, pos := .firing, holds := [], waiting := none,
    fixedGen := none }

/-- Fields of a block's header (R60). -/
def headerCount (h : Word32) : Nat := h.toNat / 2 ^ 25
def headerStores (h : Word32) : Nat := bitsOf h.toNat 24 19
def headerKind (h : Word32) : Nat := bitsOf h.toNat 18 16

/-- The header checks (R61). -/
def headerBad (h : Word32) (ws : List Word32) (arr : Arrival) : Bool :=
  32 < headerStores h || headerStores h != (ws.filter (fun w => isBuffered (opOf w))).length || 2 ≤ headerKind h ||
    h.toNat % 65536 != 0 || (headerKind h = 1 && arr == .normal) || (headerKind h != 1 && arr == .trap)

/-- Is a target value a slot that R66 does not let instruction i name? -/
def slotTargetBad (ws : List Word32) (i t : Nat) : Bool :=
  match slotTarget t with
  | some (j, slot) => ws.length ≤ j || j ≤ i || !awaitsSlot (ws.getD j 0) slot
  | none => false

/-- Does instruction i await a slot that no earlier one names? -/
def unfed (ws : List Word32) (i : Nat) : Bool :=
  ([0, 1, 2] : List Nat).any (fun slot => awaitsSlot (ws.getD i 0) slot &&
    !(List.range i).any (fun j => (targets (ws.getD j 0)).any (fun t => slotTarget t == some (i, slot))))

/-- Is instruction i a load above a FENCE of kind acq, ar or sc (R146)? -/
def fencedLoad (ws : List Word32) (i : Nat) : Bool :=
  isLoad (opOf (ws.getD i 0)) &&
    (List.range i).any (fun j => opOf (ws.getD j 0) == 0x54 && (ws.getD j 0).toNat % 4 != 1)

/-- The first check of R68 that word i fails. -/
def wordCause (handler : Bool) (ws : List Word32) (i : Nat) : Option Byte :=
  let w := ws.getD i 0
  match decodeSeq w with
  | .error .illegalOpcode => some cIllegalOpcode
  | .error _ => some cIllegalForm
  | .ok _ =>
    if (targets w).any (slotTargetBad ws i) || unfed ws i || (!handler && opOf w == 0x37) || fencedLoad ws i then some cIllegalForm
    else none

/-- The fault of a block's words, at the lowest index that fails (R68). -/
def blockCause (handler : Bool) (ws : List Word32) : Option (Byte × Nat) :=
  (List.range ws.length).findSome? (fun i => (wordCause handler ws i).map (fun c => (c, i)))

/-- How the fetch of a word goes: it may have to wait for FULL or for a path. -/
inductive FetchedWord where
  | ok (w : Word32) (s : State)
  | bad (cause : Byte) (s : State)
  | wait (s : State)
  deriving DecidableEq, Repr

/-- Words a block cache holds: 32 KiB (01 R18). -/
def cacheWords : Nat := 8192

/-- A word comes into a bay's block cache; where it is full another leaves, which is free (log entry 9). -/
def Bay.keepWord (y : Bay) (tick key : Nat) (w : Word32) : Bay :=
  let m := if cacheWords ≤ y.bcache.length then y.bcache.eraseIdx ((Config.freeWord tick 0x1002).toNat % y.bcache.length) else y.bcache
  { y with bcache := Smap.insert m key w }

/-- The word the block cache gives a fetch at a key, if it holds it and has not let it go, which is free (R62; log entry 9). -/
def State.cacheHit (s : State) (a : Agent) (i key : Nat) : Option Word32 :=
  match Smap.find (s.bay a.bay).bcache key with
  | some w => if Config.freeBool s.tick i then some w else none
  | none => none

/-- The word memory gives a fetch at a key; the block cache keeps it (R62; 01 R18). -/
def State.fillWord (s : State) (a : Agent) (key : Nat) : Word32 × State :=
  let r := s.load a.die a.party key 4
  (BitVec.ofNat 32 r.1, r.2.modBay a.bay (fun y => y.keepWord s.tick key (BitVec.ofNat 32 r.1)))

/-- Fetch word i of a block, at an address. What the block cache holds asks nothing of memory. What a fetch from the KV, template,
scheduler or trace window or from the state view meets is not stated: it finds no instruction page there, PAGE_ABSENT (DESIGN CHOICE, log
entry 30). -/
def State.fetchWord (s : State) (a : Agent) (uid i va : Nat) : FetchedWord :=
  if 2 ^ 56 ≤ va then .bad cPageAbsent s
  else if isPad va then
    if padState va || !s.padOk va then .bad cPageAbsent s
    else match s.cacheHit a i va with
      | some w => .ok w s
      | none =>
        if (s.line (padLine va)).guarded then .ok 0 (s.touchGuard a.die uid a.party 0 a.ctx i va)
        else if !(s.line (padLine va)).full then .wait s
        else if s.poisoned va 4 then .bad cUncorrectable s
        else
          let r := (if (s.line (padLine va)).marked then s.progressOf uid else s).fillWord a va
          .ok r.1 r.2
  else if isWindow va then .bad cPageAbsent s
  else match s.translate a.bay va with
    | (.error c, s) => .bad c s
    | (.ok t, s) =>
      if !t.r then .bad cPageProtect s
      else match s.cacheHit a i t.pa with
        | some w => .ok w s
        | none =>
          if s.lost t.pa || s.poisoned t.pa 4 then .bad cUncorrectable s
          else if !s.hasPath t.pa then .wait s
          else
            let r := (s.access a va t false).fillWord a t.pa
            .ok r.1 r.2

/-- How the fetch of a block goes; handler: the fault arises in a handler block. -/
inductive Fetched where
  | ok (b : Block) (s : State)
  | bad (cause : Byte) (index : Nat) (handler : Bool) (s : State)
  | wait (s : State)
  deriving DecidableEq, Repr

/-- Fetch n words from an address; the fault or wait of the first that fails. -/
def State.fetchWords (s : State) (a : Agent) (uid va n : Nat) : Except (Option Byte) (List Word32) × State :=
  (List.range n).foldl (fun acc i =>
    match acc with
    | (.error e, s) => (.error e, s)
    | (.ok ws, s) =>
      match s.fetchWord a uid i (va + 4 * i) with
      | .ok w s => (.ok (ws ++ [w]), s)
      | .bad c s => (.error (some c), s)
      | .wait s => (.error none, s)) (.ok [], s)

/-- Fetch the block at an address for a slot: every word, then the header's checks, then the words' (R61). A block of KIND 1
reached as a normal block is none: its fault arises in no handler. -/
def State.fetchBlock (s : State) (k : Nat) (addr : Addr) (arr : Arrival) : Fetched :=
  let a := s.agent k
  let uid := (s.slot k).uid
  let va := addr.toNat
  match s.fetchWords a uid va 1 with
  | (.error none, s) => .wait s
  | (.error (some c), s) => .bad c 0xFF (arr == .fromHandler) s
  | (.ok hs, s) =>
    let h := hs.getD 0 0
    let handler := headerKind h = 1 && arr != .normal
    match s.fetchWords a uid (va + 4) (headerCount h + 1) with
    | (.error none, s) => .wait s
    | (.error (some c), s) => .bad c 0xFF handler s
    | (.ok ws, s) =>
      if headerBad h ws arr then .bad cBlockHeader 0xFF handler s
      else match blockCause handler ws with
        | some (c, i) => .bad c i handler s
        | none => .ok { blockAt addr handler (handler || (s.slot k).ctxid == 0) with words := ws } s

/-! ### Taking a trap (19 R351) -/

/-- The first guarded line a run of 8-byte writes touches. -/
def State.guardHit (s : State) (va n : Nat) : Option Nat :=
  ((List.range ((n + 7) / 8)).map (fun i => va + 8 * i)).find? (fun a =>
    a < 2 ^ 56 && isPad a && !padState a && s.padOk a && (s.line (padLine a)).guarded)

/-- What a frame shows of a block's exit: SUCC, and what it leaves unsaid, the exit's index and kind (R353). -/
def Block.framedExit (b : Block) : Addr × Nat × ExitSel :=
  match b.exit with
  | some (i, e) => (b.succOf e, i, e)
  | none => (0, 0xFF, .goto 0)

/-- Take a trap in a slot, with the block as the frame is to show it: the frame is written at TRAPFRAME through the task's
own translation, TRAPCAUSE is set, and the handler block at TRAPVEC is fetched, which gives the privileged view. Where no trap
can be taken the task is frozen and the cause queued: NESTED in a handler, UNDELIVERABLE otherwise; of a report, the records
held are the causes. A frame that touches a guarded line is no frame: GUARD is recorded, and queued with the rest. A frame write or a fetch that must wait leaves the task as it is, to fault again. -/
def State.takeTrap (s : State) (k : Nat) (b : Block) (report : Bool) (cause : Byte) (index code mode resIdx : Nat) : State :=
  let sl := s.slot k
  let d := k / 256
  let r := if report then [] else [s.seqRec k cause b.addr.toNat index code]
  if b.handler then s.freezeTask k 1 r
  else if (s.die d).vec = 0 || sl.trapframe = 0 then s.freezeTask k 2 r
  else
    let frame := frameBytes sl b cause.toNat index code mode resIdx sl.imp sl.impOverflow
    match s.guardHit sl.trapframe.toNat frame.length with
    | some va => (s.touchGuard d sl.uid (.task sl.uid) 0 sl.ctxid 0xFF va).freezeTask k 2 r
    | none =>
    match s.writeTask k sl.trapframe.toNat frame with
    | .wait => s
    | .bad _ s => s.freezeTask k 2 r
    | .ok s =>
      match s.fetchBlock k (s.die d).vec .trap with
      | .wait s => s
      | .bad _ _ _ s => s.freezeTask k 2 r
      | .ok h s =>
        let s := s.modSlot k (fun sl => { sl with
          trapcause := BitVec.ofNat 64 (code * 65536 + index * 256 + cause.toNat)
          imp := []
          impOverflow := false
          block := some h
          pc := h.addr
          arrival := .fromHandler
          resume := none
          framed := some (b.framedExit)
          status := .running })
        s.trace (k / 8) 5 (k % 8) cause.toNat b.addr.toNat

/-- A precise fault at an instruction of the block in flight. With cap, the instruction stands in REPLAY as fired and not
finished; without it, it counts as fired and finished (R354: TRAP, BLOCK_MULTIWRITE, BLOCK_MULTIEXIT). -/
def State.faultAt (s : State) (k : Nat) (b : Block) (idx : Nat) (cause : Byte) (code : Nat) (cap : Option Capture) : State :=
  let b := b.setFired idx
  let b := { b with replay := b.replay.filter (fun c => c.idx != idx), reads := b.reads.filter (fun r => r.cap.idx != idx) }
  let b := match cap with
    | some c => { b with replay := b.replay ++ [c] }
    | none => b
  s.takeTrap k b false cause idx code 0 0x80

/-- A whole-block fault (R74, R354): INDEX 0xFF. -/
def State.faultBlock (s : State) (k : Nat) (b : Block) (cause : Byte) : State := s.takeTrap k b false cause 0xFF 0 0 0x80

/-- Deliver the records a slot holds at a reporting point: CAUSE is that of the first (R352, R353). -/
def State.reportAt (s : State) (k : Nat) (b : Block) (mode resIdx : Nat) : State :=
  match (s.slot k).imp with
  | [] => s
  | r :: _ => s.takeTrap k { b with held := b.held.filter (fun c => isWait (opOf (b.word c.idx)) && (mode = 1 && resIdx ≤ c.idx)),
                                    stores := [], regw := [] } true r.cause 0xFF 0 mode resIdx

/-! ### Returning from a trap (07 R115; 19 R355, R356) -/

/-- A number of n bytes at an offset of a byte list. -/
def field (bs : List Byte) (off n : Nat) : Nat := natOf ((bs.drop off).take n)

def captureOf (bs : List Byte) : Capture :=
  { idx := field bs 0 1, l := BitVec.ofNat 64 (field bs 8 8), r := BitVec.ofNat 64 (field bs 16 8),
    p := BitVec.ofNat 64 (field bs 24 8), grp := [] }

/-- n entries of a given size from an offset. -/
def entries (bs : List Byte) (off size n : Nat) : List (List Byte) :=
  (List.range n).map (fun i => (bs.drop (off + size * i)).take size)

/-- Length of a frame's sections, from its header (R353). -/
def frameLen (h : List Byte) : Nat :=
  128 + 32 * (field h 22 1 + field h 23 1) + 16 * field h 24 2 + 32 * field h 26 1 + 16 * field h 27 1 + 32 * field h 28 1

/-- A block address (05 R59). -/
def isBlockAddr (n : Nat) : Bool := n % 8 = 0 && n < 2 ^ 56

/-- The counts lie in their ranges, RESUME is not 11 (R353, R356), and the block and the successor are block addresses. -/
def frameOk (h : List Byte) : Bool :=
  isBlockAddr (field h 0 8) && (field h 20 1 % 2 = 0 || isBlockAddr (field h 8 8)) &&
  field h 22 1 + field h 23 1 ≤ 128 && field h 24 2 ≤ 256 && field h 26 1 ≤ 32 && field h 27 1 ≤ 63 && field h 28 1 ≤ 8 &&
    field h 20 1 / 2 % 4 != 3

/-- What a frame's bytes hold. -/
def parseFrame (f : List Byte) (image : Bool) : Resume :=
  let nr := field f 22 1
  let nh := field f 23 1
  let nt := field f 24 2
  let ns := field f 26 1
  let ng := field f 27 1
  let o1 := 128 + 32 * nr
  let o2 := o1 + 32 * nh
  let o3 := o2 + 16 * nt
  let o4 := o3 + 32 * ns
  { fired := BitVec.ofNat 128 (field f 32 16)
    exitSel := field f 20 1 % 2 = 1
    succ := BitVec.ofNat 56 (field f 8 8)
    mode := field f 20 1 / 2 % 4
    resIdx := field f 21 1
    replay := (entries f 128 32 nr).map captureOf
    held := (entries f o1 32 nh).map captureOf
    tokens := (entries f o2 16 nt).map (fun e => (field e 0 1, field e 1 1, BitVec.ofNat 64 (field e 8 8)))
    stores := (entries f o3 32 ns).map (fun e =>
      { idx := field e 0 1, addr := BitVec.ofNat 64 (field e 8 8), data := BitVec.ofNat 64 (field e 16 8),
        dataP := BitVec.ofNat 64 (field e 24 8), place := none, gen := none })
    regw := (entries f o4 16 ng).map (fun e =>
      { reg := field e 0 1, writer := field e 1 1, value := BitVec.ofNat 64 (field e 8 8) })
    image := image }

/-- ERET: the frame at TRAPFRAME is read back; its block is fetched next and reinstated. A frame that cannot be read, or
whose counts are out of range, freezes the task (R356). -/
def State.returnFromTrap (s : State) (k : Nat) : State :=
  let sl := s.slot k
  let b := (sl.block.getD (blockAt sl.pc true true)).addr.toNat
  let stop (s : State) (c : Byte) : State := s.freezeTask k 2 [s.seqRec k c b 0xFF 0]
  match s.readTask k 0xFF sl.trapframe.toNat 128 with
  | (.error c, s) => stop s c
  | (.ok h, s) =>
    if !frameOk h then stop s cIllegalForm
    else match s.readTask k 0xFF (sl.trapframe.toNat + 128) (frameLen h - 128) with
      | (.error c, s) => stop s c
      | (.ok rest, s) =>
        s.modSlot k (fun sl => { sl with
          block := none
          pc := BitVec.ofNat 56 (field h 0 8)
          arrival := .eret
          status := .running
          resume := some (parseFrame (h ++ rest) false) })

/-- Is a frame consistent with the block it names (R356)? -/
def Resume.consistent (r : Resume) (b : Block) : Bool :=
  let n := b.count
  r.replay.all (fun c => c.idx < n && r.fired.getLsbD c.idx) &&
  r.held.all (fun c => c.idx < n && r.fired.getLsbD c.idx) &&
  r.tokens.all (fun t => t.1 < n && !r.fired.getLsbD t.1 && t.2.1 < 3 && awaitsSlot (b.word t.1) t.2.1) &&
  r.stores.all (fun e => e.idx < n) &&
  r.regw.all (fun w => w.writer < n) &&
  (r.tokens.map (fun t => t.1 * 3 + t.2.1)).Nodup &&
  (r.regw.map (fun w => w.reg)).Nodup &&
  (r.mode != 1 || r.resIdx < n || r.resIdx = 0x80) &&
  (List.range 128).all (fun i => i < n || !r.fired.getLsbD i)

/-- The exit a frame stands for. SUCC tells EXIT and YIELD, which carry the link, from no branch: what the device knows of the frame it
wrote last says which exit it was, while SUCC stands as written; another SUCC is where the block goes (R355). Of a frame the device has
not written, the exit word that fired tells, one without a predicate before one that may have been void (log entry 20). -/
def Resume.exitOf (r : Resume) (b : Block) (kept : Option (Addr × Nat × ExitSel)) : Option (Nat × ExitSel) :=
  if !r.exitSel then none
  else match kept with
    | some (a, i, e) => if a = r.succ then some (i, e) else some (i, .goto r.succ)
    | none =>
      let fired := (List.range b.count).filter (fun i => isExit (opOf (b.word i)) && r.fired.getLsbD i)
      let i := match fired.find? (fun i => pmOf (b.word i) = 0), fired.find? (fun i => 0x34 ≤ opOf (b.word i)) with
        | some i, _ => i
        | none, some i => i
        | none, none => fired.headD 0xFF
      let op := if i < b.count then opOf (b.word i) else 0
      if r.succ != b.link then some (i, .goto r.succ)
      else if op = 0x34 then some (i, .exit)
      else if op = 0x35 then some (i, .yield)
      else if op = 0x37 then some (i, .eret)
      else some (i, .goto r.succ)

/-- Reinstate a block from what was read of its frame (R115, R355). A frame has no room for the registers of a group operand: those of
an image are kept beside it, and after ERET the group is read again, as unfired instructions read their registers (DESIGN CHOICE, log
entry 31). An AWAIT of an image keeps the generation it fixed (01 R26; 15 R298). -/
def Resume.reinstate (r : Resume) (b : Block) (sl : Slot) : Block :=
  let grps := if r.image then (sl.task.map (fun t => t.grps)).getD [] else []
  let refill (c : Capture) : Capture :=
    { c with grp := match grps.find? (fun g => g.1 = c.idx) with
      | some g => g.2
      | none => groupOf sl (b.word c.idx) }
  let kept := if r.image then sl.task.bind (fun t => t.exitKept) else sl.framed
  { b with
    fired := r.fired
    tokens := r.tokens.foldl (fun m t => Smap.insert m (t.1 * 3 + t.2.1) t.2.2) []
    replay := r.replay.map refill
    held := r.held.map refill
    stores := r.stores
    regw := r.regw
    exit := r.exitOf b kept
    pos := if r.mode = 1 then .waits (r.resIdx) else if r.mode = 2 then .leave else .firing
    waiting := if r.mode = 2 then some 128 else none
    fixedGen := if r.image then sl.task.bind (fun t => t.fixedGen) else none }

end Sys2Proof.Machine
end

