-- ==== Sys2Proof/Machine/Fire.lean ====
section
/-! DEFINITION. Firing an instruction of a block in flight (05 R69-R74): readiness, predication, delivery to targets, holding
an effect or a wait for commit, and choosing an exit. -/

namespace Sys2Proof.Machine

/-- An instruction that fires: its slot, index and block, and its operands. -/
structure Firing where
  slot : Nat
  idx : Nat
  b : Block
  cap : Capture
  deriving DecidableEq, Repr

def State.setBlock (s : State) (k : Nat) (b : Block) : State := s.modSlot k (fun sl => { sl with block := some b })

/-- May the block in a slot fire instructions? -/
def Slot.firing (sl : Slot) (b : Block) : Bool := sl.status == .running && b.pos == .firing

/-- Fire the instruction in focus, in a form: nothing happens until all it awaits is there; a void one only counts as fired
(R69, R70). One that would read a spoilt granule faults (19 R371). -/
def fire (f : Form) (act : Firing → State → State) (s : State) : Out :=
  match s.focus with
  | .seq k i =>
    match (s.slot k).block with
    | none => .fault .noFocus
    | some b =>
      if b.count ≤ i then .fault .noFocus
      else if !(s.slot k).firing b || b.waitsTurn i then .next s
      else match b.captureForm (s.slot k) i f with
        | none => .next s
        | some c =>
          if b.voidForm i f.pm c.p then .next (s.setBlock k (b.setFired i))
          else if b.spoilt (s.slot k) i f then .next (s.faultAt k b i cUncorrectable 0 (some c))
          else .next (act { slot := k, idx := i, b := b, cap := c } s)
  | _ => .fault .noFocus

/-- The block with the instruction fired and out of the replay queue. -/
def Firing.block (x : Firing) : Block :=
  let b := x.b.setFired x.idx
  { b with replay := b.replay.filter (fun c => c.idx != x.idx) }

/-- A precise fault of the instruction, left in REPLAY with its operands (19 R351, R354). -/
def Firing.fault (x : Firing) (cause : Byte) (s : State) : State := s.faultAt x.slot x.b x.idx cause 0 (some x.cap)

/-- Does a target value name a register another instruction has fired to write (R74)? -/
def Block.clash (b : Block) (t : Nat) : Bool :=
  t / 128 = 3 && t % 128 < 64 && t != 0x180 && b.claimed.contains (t % 128)

/-- Deliver a value to one target; none when it is the second (R72, R74). -/
def Block.deliver (b : Block) (i t : Nat) (v : Word) : Option Block :=
  match slotTarget t with
  | some (j, slot) =>
    if (b.token j slot).isSome then none else some { b with tokens := Smap.insert b.tokens (j * 3 + slot) v }
  | none =>
    if t = 0x180 || 0x1C0 ≤ t then some b
    else if b.clash t then none
    else some { b with regw := b.regw ++ [{ reg := t % 128, writer := i, value := v }] }

/-- Deliver a value to several targets. -/
def Block.deliverAll (b : Block) (i : Nat) (ts : List Nat) (v : Word) : Option Block :=
  ts.foldl (fun acc t => acc.bind (fun b => b.deliver i t v)) (some b)

/-- Finish an instruction with a result: delivered to its targets, or BLOCK_MULTIWRITE (R72). -/
def Firing.finish (x : Firing) (ts : List Nat) (v : Word) (s : State) : State :=
  match x.block.deliverAll x.idx ts v with
  | some b => s.setBlock x.slot b
  | none => s.faultAt x.slot x.b x.idx cBlockMultiwrite 0 none

/-- A value-class instruction: compute and deliver (R71). -/
def fireValue (f : Form) (ts : List Nat) (g : Word → Word → Word → Word) : State → Out :=
  fire f (fun x s => x.finish ts (g x.cap.l x.cap.r x.cap.p) s)

/-- Hold an effect or a wait for commit; a second writer of its register faults (R71, R74, R75). -/
def Firing.hold (x : Firing) (t : Nat) (s : State) : State :=
  if x.block.clash t then s.faultAt x.slot x.b x.idx cBlockMultiwrite 0 none
  else s.setBlock x.slot { x.block with held := x.block.held ++ [x.cap] }

/-- An effect or wait whose fire checks are a cause or none, in a state the check may have changed (a walk). One that fails its check and
is a second writer too has its check's cause: the manual does not order the two (DESIGN CHOICE, log entry 32). -/
def fireHeld (f : Form) (t : Nat) (check : Firing → State → Option Byte × State) : State → Out :=
  fire f (fun x s =>
    match check x s with
    | (some c, s) => x.fault c s
    | (none, s) => x.hold t s)

/-- Choose the block's exit; a second exit is BLOCK_MULTIEXIT (R74, R109). link: CALL and CALLI write s63. One that is a second exit and a
second writer of s63 has BLOCK_MULTIEXIT: the manual does not order the two (DESIGN CHOICE, log entry 32). -/
def Firing.leave (x : Firing) (e : ExitSel) (link : Bool) (s : State) : State :=
  match x.b.exit with
  | some _ => s.faultAt x.slot x.b x.idx cBlockMultiexit 0 none
  | none =>
    if link && x.block.claimed.contains 63 then s.faultAt x.slot x.b x.idx cBlockMultiwrite 0 none
    else
      let b := { x.block with exit := some (x.idx, e) }
      s.setBlock x.slot (if link then
        { b with regw := b.regw ++ [{ reg := 63, writer := x.idx, value := BitVec.ofNat 64 b.link.toNat }] } else b)

/-! Forms by format (R63, R65, R91). -/

/-- A specifier of format R. -/
def srcOf (spec : BitVec 7) : Src := if spec = 0x40#7 then .awaited else .spec spec.toNat

def formR (p : BitVec 2) (l r : BitVec 7) : Form := ⟨p.toNat, false, srcOf l, srcOf r, false⟩
def formL (p : BitVec 2) (l : BitVec 7) : Form := ⟨p.toNat, false, srcOf l, .unused, false⟩
def formThree (l r : BitVec 7) : Form := ⟨0, true, srcOf l, srcOf r, false⟩
def formNone (p : BitVec 2) : Form := ⟨p.toNat, false, .unused, .unused, false⟩
def formX (p : BitVec 2) : Form := ⟨p.toNat, false, .awaited, .unused, false⟩
def formRg (p : BitVec 2) (l r : BitVec 7) : Form := ⟨p.toNat, false, .spec l.toNat, srcOf r, true⟩
def formData (p : BitVec 2) (l : BitVec 7) : Form := ⟨p.toNat, false, srcOf l, .awaited, false⟩
def formCas (l : BitVec 7) : Form := ⟨0, true, srcOf l, .awaited, false⟩

end Sys2Proof.Machine
end

