-- ==== Sys2Proof/Machine/Flags.lean ====
section
/-! DEFINITION. The part has no flag register: what other machines call flags are here the 0 and 1 that a compare delivers
(07 R98, R99, R117, R118) and the truth of a predicate value (05 R70). -/

namespace Sys2Proof.Machine

/-- A relation delivered as a 64-bit value. -/
def flag (c : Bool) : Word := if c then 1 else 0

def flagEq (l r : Word) : Word := flag (l == r)
def flagNe (l r : Word) : Word := flag (l != r)
def flagLt (l r : Word) : Word := flag (l.slt r)
def flagLtu (l r : Word) : Word := flag (l.ult r)
def flagLe (l r : Word) : Word := flag (l.sle r)
def flagLeu (l r : Word) : Word := flag (l.ule r)
def flagZero (l : Word) : Word := flag (l == 0)
def flagNonzero (l : Word) : Word := flag (l != 0)

/-- f(x): the FP32 value of bits 31:0 (R90). -/
def fval (x : Word) : Nat := x.toNat % 2 ^ 32

/-- FP32 relations: false when unordered (R39, R118). -/
def flagFlt (l r : Word) : Word := flag ((fp32.decode (fval l)).lt (fp32.decode (fval r)))
def flagFeq (l r : Word) : Word := flag ((fp32.decode (fval l)).eqv (fp32.decode (fval r)))
def flagFle (l r : Word) : Word := flag ((fp32.decode (fval l)).le (fp32.decode (fval r)))

end Sys2Proof.Machine
end

