-- ==== Sys2Proof/Machine/Alu.lean ====
section
/-! DEFINITION. Integer, compare, constant and move instructions (07 R92-R104): class Value, delivered at fire. -/

namespace Sys2Proof.Machine

/-- A shift count: bits 5:0 of R (R93). -/
def count (r : Word) : Nat := r.toNat % 64

/-- Bits 127:64 of an exact product (R92). -/
def mulHigh (a b : Int) : Word := BitVec.ofInt 64 (a * b / (2 ^ 64 : Int))

/-- The quotient and remainder of R94. -/
def divSigned (l r : Word) : Word := if r = 0 then -1 else BitVec.ofInt 64 (l.toInt.tdiv r.toInt)
def remSigned (l r : Word) : Word := if r = 0 then l else BitVec.ofInt 64 (l.toInt.tmod r.toInt)
def divUnsigned (l r : Word) : Word := if r = 0 then -1 else BitVec.ofNat 64 (l.toNat / r.toNat)
def remUnsigned (l r : Word) : Word := if r = 0 then l else BitVec.ofNat 64 (l.toNat % r.toNat)

/-- Zero bits above the highest one bit among the low n bits (R96). -/
def leadingZeros (n : Nat) (x : Word) : Nat :=
  match n with
  | 0 => 0
  | m + 1 => if x.getLsbD m then 0 else 1 + leadingZeros m x

/-- Zero bits below the lowest one bit, from bit 64 - n up (R96). -/
def trailingZeros (n : Nat) (x : Word) : Nat :=
  match n with
  | 0 => 0
  | m + 1 => if x.getLsbD (63 - m) then 0 else 1 + trailingZeros m x

/-- One bits among the low n bits (R96). -/
def onesBelow (n : Nat) (x : Word) : Nat :=
  match n with
  | 0 => 0
  | m + 1 => (if x.getLsbD m then 1 else 0) + onesBelow m x

/-- Keep the low n bits, sign-extended or zero-extended (R97). -/
def extend (sign : Bool) (x : Word) (n : Nat) : Word :=
  if sign then BitVec.ofInt 64 (signedOf n x.toNat) else BitVec.ofNat 64 (x.toNat % (1 <<< n))

/-- ADD (R92). -/
def execAdd (p : BitVec 2) (t : BitVec 9) (l r : BitVec 7) (s : State) : Out :=
  fireValue (formR p l r) [t.toNat] (fun l r _ => l + r) s

/-- SUB (R92). -/
def execSub (p : BitVec 2) (t : BitVec 9) (l r : BitVec 7) (s : State) : Out :=
  fireValue (formR p l r) [t.toNat] (fun l r _ => l - r) s

/-- MUL (R92). -/
def execMul (p : BitVec 2) (t : BitVec 9) (l r : BitVec 7) (s : State) : Out :=
  fireValue (formR p l r) [t.toNat] (fun l r _ => l * r) s

/-- MULH (R92): bits 127:64 of the signed product. -/
def execMulh (p : BitVec 2) (t : BitVec 9) (l r : BitVec 7) (s : State) : Out :=
  fireValue (formR p l r) [t.toNat] (fun l r _ => mulHigh l.toInt r.toInt) s

/-- MULHU (R92): bits 127:64 of the unsigned product. -/
def execMulhu (p : BitVec 2) (t : BitVec 9) (l r : BitVec 7) (s : State) : Out :=
  fireValue (formR p l r) [t.toNat] (fun l r _ => mulHigh l.toNat r.toNat) s

/-- DIV (R94). -/
def execDiv (p : BitVec 2) (t : BitVec 9) (l r : BitVec 7) (s : State) : Out :=
  fireValue (formR p l r) [t.toNat] (fun l r _ => divSigned l r) s

/-- DIVU (R94). -/
def execDivu (p : BitVec 2) (t : BitVec 9) (l r : BitVec 7) (s : State) : Out :=
  fireValue (formR p l r) [t.toNat] (fun l r _ => divUnsigned l r) s

/-- REM (R94). -/
def execRem (p : BitVec 2) (t : BitVec 9) (l r : BitVec 7) (s : State) : Out :=
  fireValue (formR p l r) [t.toNat] (fun l r _ => remSigned l r) s

/-- REMU (R94). -/
def execRemu (p : BitVec 2) (t : BitVec 9) (l r : BitVec 7) (s : State) : Out :=
  fireValue (formR p l r) [t.toNat] (fun l r _ => remUnsigned l r) s

/-- AND (R92). -/
def execAnd (p : BitVec 2) (t : BitVec 9) (l r : BitVec 7) (s : State) : Out :=
  fireValue (formR p l r) [t.toNat] (fun l r _ => l &&& r) s

/-- OR (R92). -/
def execOr (p : BitVec 2) (t : BitVec 9) (l r : BitVec 7) (s : State) : Out :=
  fireValue (formR p l r) [t.toNat] (fun l r _ => l ||| r) s

/-- XOR (R92). -/
def execXor (p : BitVec 2) (t : BitVec 9) (l r : BitVec 7) (s : State) : Out :=
  fireValue (formR p l r) [t.toNat] (fun l r _ => l ^^^ r) s

/-- ANDN (R92). -/
def execAndn (p : BitVec 2) (t : BitVec 9) (l r : BitVec 7) (s : State) : Out :=
  fireValue (formR p l r) [t.toNat] (fun l r _ => l &&& ~~~r) s

/-- SHL (R93). -/
def execShl (p : BitVec 2) (t : BitVec 9) (l r : BitVec 7) (s : State) : Out :=
  fireValue (formR p l r) [t.toNat] (fun l r _ => l <<< count r) s

/-- SHR (R93). -/
def execShr (p : BitVec 2) (t : BitVec 9) (l r : BitVec 7) (s : State) : Out :=
  fireValue (formR p l r) [t.toNat] (fun l r _ => l >>> count r) s

/-- SAR (R93). -/
def execSar (p : BitVec 2) (t : BitVec 9) (l r : BitVec 7) (s : State) : Out :=
  fireValue (formR p l r) [t.toNat] (fun l r _ => l.sshiftRight (count r)) s

/-- ROTL (R93). -/
def execRotl (p : BitVec 2) (t : BitVec 9) (l r : BitVec 7) (s : State) : Out :=
  fireValue (formR p l r) [t.toNat] (fun l r _ => l.rotateLeft (count r)) s

/-- MIN (R92). -/
def execMin (p : BitVec 2) (t : BitVec 9) (l r : BitVec 7) (s : State) : Out :=
  fireValue (formR p l r) [t.toNat] (fun l r _ => if l.slt r then l else r) s

/-- MAX (R92). -/
def execMax (p : BitVec 2) (t : BitVec 9) (l r : BitVec 7) (s : State) : Out :=
  fireValue (formR p l r) [t.toNat] (fun l r _ => if l.slt r then r else l) s

/-- MINU (R92). -/
def execMinu (p : BitVec 2) (t : BitVec 9) (l r : BitVec 7) (s : State) : Out :=
  fireValue (formR p l r) [t.toNat] (fun l r _ => if l.ult r then l else r) s

/-- MAXU (R92). -/
def execMaxu (p : BitVec 2) (t : BitVec 9) (l r : BitVec 7) (s : State) : Out :=
  fireValue (formR p l r) [t.toNat] (fun l r _ => if l.ult r then r else l) s

/-- SHADD1 (R95): never void, P always awaited. -/
def execShadd1 (t : BitVec 9) (l r : BitVec 7) (s : State) : Out :=
  fireValue (formThree l r) [t.toNat] (fun l r p => (l <<< 1) + r + p) s

/-- SHADD2 (R95): never void, P always awaited. -/
def execShadd2 (t : BitVec 9) (l r : BitVec 7) (s : State) : Out :=
  fireValue (formThree l r) [t.toNat] (fun l r p => (l <<< 2) + r + p) s

/-- SHADD3 (R95): never void, P always awaited. -/
def execShadd3 (t : BitVec 9) (l r : BitVec 7) (s : State) : Out :=
  fireValue (formThree l r) [t.toNat] (fun l r p => (l <<< 3) + r + p) s

/-- SHADD4 (R95): never void, P always awaited. -/
def execShadd4 (t : BitVec 9) (l r : BitVec 7) (s : State) : Out :=
  fireValue (formThree l r) [t.toNat] (fun l r p => (l <<< 4) + r + p) s

/-- CLZ (R96). -/
def execClz (p : BitVec 2) (t : BitVec 9) (l _ : BitVec 7) (s : State) : Out :=
  fireValue (formL p l) [t.toNat] (fun l _ _ => BitVec.ofNat 64 (leadingZeros 64 l)) s

/-- CTZ (R96). -/
def execCtz (p : BitVec 2) (t : BitVec 9) (l _ : BitVec 7) (s : State) : Out :=
  fireValue (formL p l) [t.toNat] (fun l _ _ => BitVec.ofNat 64 (trailingZeros 64 l)) s

/-- POPC (R96). -/
def execPopc (p : BitVec 2) (t : BitVec 9) (l _ : BitVec 7) (s : State) : Out :=
  fireValue (formL p l) [t.toNat] (fun l _ _ => BitVec.ofNat 64 (onesBelow 64 l)) s

/-- SEXT (R97). -/
def execSext (p : BitVec 2) (t : BitVec 9) (l r : BitVec 7) (s : State) : Out :=
  fireValue (formR p l r) [t.toNat] (fun l r _ => extend true l (count r + 1)) s

/-- ZEXT (R97). -/
def execZext (p : BitVec 2) (t : BitVec 9) (l r : BitVec 7) (s : State) : Out :=
  fireValue (formR p l r) [t.toNat] (fun l r _ => extend false l (count r + 1)) s

/-- ADDW (R92). -/
def execAddw (p : BitVec 2) (t : BitVec 9) (l r : BitVec 7) (s : State) : Out :=
  fireValue (formR p l r) [t.toNat] (fun l r _ => ((l + r).truncate 32).signExtend 64) s

/-- CEQ (R98). -/
def execCeq (p : BitVec 2) (t : BitVec 9) (l r : BitVec 7) (s : State) : Out :=
  fireValue (formR p l r) [t.toNat] (fun l r _ => flagEq l r) s

/-- CNE (R98). -/
def execCne (p : BitVec 2) (t : BitVec 9) (l r : BitVec 7) (s : State) : Out :=
  fireValue (formR p l r) [t.toNat] (fun l r _ => flagNe l r) s

/-- CLT (R98). -/
def execClt (p : BitVec 2) (t : BitVec 9) (l r : BitVec 7) (s : State) : Out :=
  fireValue (formR p l r) [t.toNat] (fun l r _ => flagLt l r) s

/-- CLTU (R98). -/
def execCltu (p : BitVec 2) (t : BitVec 9) (l r : BitVec 7) (s : State) : Out :=
  fireValue (formR p l r) [t.toNat] (fun l r _ => flagLtu l r) s

/-- CLE (R98). -/
def execCle (p : BitVec 2) (t : BitVec 9) (l r : BitVec 7) (s : State) : Out :=
  fireValue (formR p l r) [t.toNat] (fun l r _ => flagLe l r) s

/-- CLEU (R98). -/
def execCleu (p : BitVec 2) (t : BitVec 9) (l r : BitVec 7) (s : State) : Out :=
  fireValue (formR p l r) [t.toNat] (fun l r _ => flagLeu l r) s

/-- TZ (R99). -/
def execTz (p : BitVec 2) (t : BitVec 9) (l _ : BitVec 7) (s : State) : Out :=
  fireValue (formL p l) [t.toNat] (fun l _ _ => flagZero l) s

/-- TNZ (R99). -/
def execTnz (p : BitVec 2) (t : BitVec 9) (l _ : BitVec 7) (s : State) : Out :=
  fireValue (formL p l) [t.toNat] (fun l _ _ => flagNonzero l) s

/-- NOT (R99). -/
def execNot (p : BitVec 2) (t : BitVec 9) (l _ : BitVec 7) (s : State) : Out :=
  fireValue (formL p l) [t.toNat] (fun l _ _ => ~~~l) s

/-- SEL (R100): never void. -/
def execSel (t : BitVec 9) (l r : BitVec 7) (s : State) : Out :=
  fireValue (formThree l r) [t.toNat] (fun l r p => if p != 0 then l else r) s

/-- CONST (R101). -/
def execConst (p : BitVec 2) (t : BitVec 9) (i : BitVec 14) (s : State) : Out :=
  fireValue (formNone p) [t.toNat] (fun _ _ _ => i.signExtend 64) s

/-- CONSTX (R102). -/
def execConstx (p : BitVec 2) (t : BitVec 9) (i : BitVec 14) (s : State) : Out :=
  fireValue (formX p) [t.toNat] (fun l _ _ => (l <<< 14) ||| i.zeroExtend 64) s

/-- MOV (R103). -/
def execMov (p : BitVec 2) (t : BitVec 9) (l _ : BitVec 7) (s : State) : Out :=
  fireValue (formL p l) [t.toNat] (fun l _ _ => l) s

/-- FAN (R104): L goes to both targets; the same slot, or the same register other than s0, twice is BLOCK_MULTIWRITE. -/
def execFan (p : BitVec 2) (t u : BitVec 9) (s : State) : Out :=
  fireValue (formX p) [t.toNat, u.toNat] (fun l _ _ => l) s

end Sys2Proof.Machine
end

