-- ==== Sys2Proof/Machine/Memory.lean ====
section
/-! DEFINITION. Loads, stores, atomics, fences, prefetch and scratchpad allocation (09 R135-R152): what each checks and does
at fire, and the operations they perform when a read is delivered or a block commits. -/

namespace Sys2Proof.Machine

/-- How an effect performed at commit went: done, with the value for its register target, or it must wait (R75). -/
inductive Perf where
  | done (s : State) (v : Word)
  | stall
  deriving DecidableEq, Repr

/-! ### Reads -/

/-- Is a load held back by a lower-index LDAQ that has not returned (R76)? -/
def Block.heldBack (b : Block) (i : Nat) : Bool :=
  (List.range i).any (fun j => opOf (b.word j) == 0x4B && (b.mayFire.getD j false || b.inFlight j))

/-- The key of the bytes at an address: where they lie in memory, or the address itself (R76). -/
def State.keyOf (s : State) (a : Agent) (va n : Nat) : Nat :=
  match (s.resolve a va (wantAcquire n)).1 with
  | .ok p => p.key.getD va
  | .error _ => va

/-- Bytes of a buffered write. -/
def bufferedSize (w : Word32) : Nat :=
  match opOf w with
  | 0x4C => 1
  | 0x4D => 2
  | 0x4E => 4
  | 0x50 => 1 <<< (w.toNat % 4)
  | 0x52 => 4
  | _ => 8

/-- Does a read overlap a lower-index atomic of its block (R76, R136)? -/
def State.overAtomic (s : State) (a : Agent) (b : Block) (i va n : Nat) : Bool :=
  let k := s.keyOf a va n
  b.stores.any (fun e =>
    let w := b.word e.idx
    let q := s.keyOf a e.addr.toNat (bufferedSize w)
    e.idx < i && isAtomic (opOf w) && k < q + bufferedSize w && q < k + n)

/-- Fire a load: its address checks, then its access is in flight (R135, R136). -/
def fireLoad (f : Form) (t size : Nat) (signed acquire : Bool) (addr : Capture → Nat) : State → Out :=
  fire f (fun x s =>
    if x.b.heldBack x.idx then s
    else
      let a := s.agent x.slot
      let va := addr x.cap
      match s.resolve a va (if acquire then wantAcquire size else wantRead size) with
      | (.error c, s) => x.fault c s
      | (.ok p, s) =>
        if s.overAtomic a x.b x.idx va size then x.fault cIllegalForm s
        else if x.block.clash t then s.faultAt x.slot x.b x.idx cBlockMultiwrite 0 none
        else
          let s := if s.readWaits p then s.trace (x.slot / 8) 3 x.slot (Config.traceKind 2) va else s
          let gen := (s.die (x.slot / 256)).slicemap
          let r : ReadInFlight :=
            { cap := x.cap, addr := BitVec.ofNat 64 va, size := size, signed := signed, acquire := acquire, gen := gen, retried := false }
          s.setBlock x.slot { x.block with reads := x.block.reads ++ [r] })

/-- The address of LD8 to LD64: (L + R * size) mod 2^64. -/
def loadAddr (size : Nat) (c : Capture) : Nat := (c.l + c.r * BitVec.ofNat 64 size).toNat

/-- LD8 (R135). -/
def execLd8 (p : BitVec 2) (t : BitVec 9) (l r : BitVec 7) (s : State) : Out :=
  fireLoad (formR p l r) t.toNat 1 false false (loadAddr 1) s
/-- LD8S (R135). -/
def execLd8s (p : BitVec 2) (t : BitVec 9) (l r : BitVec 7) (s : State) : Out :=
  fireLoad (formR p l r) t.toNat 1 true false (loadAddr 1) s
/-- LD16 (R135). -/
def execLd16 (p : BitVec 2) (t : BitVec 9) (l r : BitVec 7) (s : State) : Out :=
  fireLoad (formR p l r) t.toNat 2 false false (loadAddr 2) s
/-- LD16S (R135). -/
def execLd16s (p : BitVec 2) (t : BitVec 9) (l r : BitVec 7) (s : State) : Out :=
  fireLoad (formR p l r) t.toNat 2 true false (loadAddr 2) s
/-- LD32 (R135). -/
def execLd32 (p : BitVec 2) (t : BitVec 9) (l r : BitVec 7) (s : State) : Out :=
  fireLoad (formR p l r) t.toNat 4 false false (loadAddr 4) s
/-- LD32S (R135). -/
def execLd32s (p : BitVec 2) (t : BitVec 9) (l r : BitVec 7) (s : State) : Out :=
  fireLoad (formR p l r) t.toNat 4 true false (loadAddr 4) s
/-- LD64 (R135). -/
def execLd64 (p : BitVec 2) (t : BitVec 9) (l r : BitVec 7) (s : State) : Out :=
  fireLoad (formR p l r) t.toNat 8 false false (loadAddr 8) s

/-- LDAQ (R137): a load that holds back the later loads of its block. Where it reads a release, the two scopes decide whether it makes
visible what the release follows (R159). -/
def execLdaq (p : BitVec 2) (t : BitVec 9) (l : BitVec 7) (_ : BitVec 3) (x : BitVec 1) (z : BitVec 2) (s : State) : Out :=
  fireLoad (formL p l) t.toNat (1 <<< z.toNat) (x == 1#1) true (fun c => c.l.toNat) s

/-- Is every lower-index buffered write of the block settled: fired, void, or never to fire (R76)? -/
def Block.storesSettled (b : Block) (i : Nat) : Bool :=
  (List.range i).all (fun j => !isBuffered (opOf (b.word j)) || !b.mayFire.getD j false)

/-- The bytes a load of a block finds: for each, the highest lower-index store that covers it, or memory (R76). -/
def State.forwarded (s : State) (a : Agent) (b : Block) (i key n : Nat) (mem : List Byte) : List Byte :=
  (List.range n).map (fun j =>
    (b.stores.filter (fun e => e.idx < i && !isAtomic (opOf (b.word e.idx)))).foldl (fun (acc : Nat × Byte) e =>
      let q := s.keyOf a e.addr.toNat (bufferedSize (b.word e.idx))
      if acc.1 ≤ e.idx && q ≤ key + j && key + j < q + bufferedSize (b.word e.idx) then
        (e.idx, (bytesOf 8 e.data.toNat).getD (key + j - q) 0)
      else acc) (0, mem.getD j 0) |>.2)

/-- Do lower-index stores of the block give every byte a load finds, so that nothing is read from memory (R76)? -/
def State.allForwarded (s : State) (a : Agent) (b : Block) (i key n : Nat) : Bool :=
  (List.range n).all (fun j => b.stores.any (fun e =>
    let q := s.keyOf a e.addr.toNat (bufferedSize (b.word e.idx))
    e.idx < i && !isAtomic (opOf (b.word e.idx)) && q ≤ key + j && key + j < q + bufferedSize (b.word e.idx)))

/-- Dies a FENCE's, an LDAQ's or an atomic's scope field reaches. -/
def scopeField (w : Word32) : Nat := bitsOf w.toNat 6 4

/-- Does an address lead through the slices (R133)? -/
def sliced (va : Nat) : Bool := !isPad va && bitsOf va 55 34 != 0x3FFFFF

/-- Has the slice map changed since a read was fired, so that it is answered with retry (R165)? -/
def State.staleRead (s : State) (d : Nat) (r : ReadInFlight) : Bool := sliced r.addr.toNat && r.gen != (s.die d).slicemap

/-- Must a read wait for an earlier request of its slot to its line that has been answered with retry (R165)? -/
def Block.behindRetry (b : Block) (r : ReadInFlight) : Bool :=
  (b.reads.takeWhile (fun q => q.cap.idx != r.cap.idx)).any (fun q => q.retried && q.addr.toNat / 128 = r.addr.toNat / 128)

/-- What the load at an index takes its bytes from: what it has bound itself, or what a higher-index load of its block has bound of the
same 8 bytes (R155: no read returns a later write than one that follows it in program order; R129: nor bytes of two writes). -/
def Block.boundFor (b : Block) (i key : Nat) : Option BoundRead :=
  b.bound.find? (fun e => i ≤ e.idx && e.key = key / 8 * 8)

/-- The writes the aligned 8 bytes at a key come from, as a party on a die reads them. -/
def State.coversOf (s : State) (d : Nat) (p : Party) (key : Nat) : List (Option Nat) :=
  (List.range 8).map (fun j => (newestCover s.writes (s.sees d p) (key / 8 * 8 + j)).map (fun r => r.id))

/-- What a load of a key binds: the aligned 8 bytes about it. -/
def State.boundOf (s : State) (d : Nat) (p : Party) (i key : Nat) : BoundRead :=
  { idx := i
    key := key / 8 * 8
    bytes := (List.range 8).map (fun j => s.byteFor d p (key / 8 * 8 + j))
    from_ := s.coversOf d p key }

/-- The writes a read of a place takes its bytes from: those that bytes of memory come from, and the one a line's FULL comes from. -/
def State.sourcesOf (s : State) (a : Agent) (p : Place) (n : Nat) (old : Option BoundRead) : List Nat :=
  let bytes : List (Option Nat) := match old, p.key with
    | some e, some key => (e.from_.drop (key % 8)).take n
    | none, some key => ((s.coversOf a.die a.party key).drop (key % 8)).take n
    | _, none => []
  let line : Option Nat := match p with
    | .pad va => (s.line (padLine va)).release
    | .padWord ln => (s.line ln).release
    | _ => none
  bytes.filterMap id ++ line.toList

/-- The writes an atomic at a place takes its old value from: the last in coherence order, and the one a line's FULL comes from. -/
def State.lastSources (s : State) (p : Place) (n : Nat) : List Nat :=
  (match p.key with
    | some key => (List.range n).filterMap (fun j => (newestCover s.writes (fun _ => true) (key + j)).map (fun r => r.id))
    | none => []) ++
  (match p with
    | .pad va => (s.line (padLine va)).release
    | .padWord ln => (s.line ln).release
    | _ => none).toList

/-- READ_DELIVER (R136, R76): the access of a load in flight is performed and its value delivered. It waits for FULL, for a path and
for a retry; while lower-index buffered writes it may overlap have not fired, its bytes of memory are bound and no more. A load whose
bytes all come from lower-index stores reads no memory. An LDAQ acquires what it has read (R159). -/
def State.deliverRead (s : State) (k : Nat) (b : Block) (r : ReadInFlight) : State :=
  let a := s.agent k
  let i := r.cap.idx
  let va := r.addr.toNat
  let x : Firing := { slot := k, idx := i, b := b, cap := r.cap }
  let early := !b.storesSettled i
  match s.resolve a va (if r.acquire then wantAcquire r.size else wantRead r.size) with
  | (.error c, s) => if early then s else x.fault c s
  | (.ok p, s) =>
    if !early && s.overAtomic a b i va r.size then x.fault cIllegalForm s
    else if s.readWaits p || s.placeCut p || s.staleRead (k / 256) r || b.behindRetry r then s
    else if early && (p.key.isNone || s.guardedPlace p || s.placeBad p r.size || b.bound.any (fun e => e.idx = i)) then s
    else if !s.guardedPlace p && s.placeBad p r.size && !s.allForwarded a b i (p.key.getD va) r.size then x.fault cUncorrectable s
    else
      let s := if s.guardedPlace p then s.touchGuard a.die (s.slot k).uid a.party 0 a.ctx i va else s
      let s := s.noteMark k va p
      let key := p.key.getD va
      let plain := p.key.isSome && !s.guardedPlace p
      let own := plain && s.allForwarded a b i key r.size
      let s := if plain && !own && isPad va then s.observeLine a (padLine va) else s
      let old := if plain then b.boundFor i key else none
      let from_ := if own || s.guardedPlace p then [] else s.sourcesOf a p r.size old
      let mem : List Byte × State :=
        if own then (List.replicate r.size 0, s)
        else match old with
        | some e =>
          let off := key % 8
          ((e.bytes.drop off).take r.size, s.observe a.die a.party (((e.from_.drop off).take r.size).filterMap id))
        | none =>
          let now := s.boundOf a.die a.party i key
          let got := s.readPlace a va p r.size false
          (bytesOf r.size got.1, if plain then
            got.2.setBlock k { ((got.2.slot k).block.getD b) with bound := ((got.2.slot k).block.getD b).bound ++ [now] } else got.2)
      let s := mem.2
      if early then s
      else
        let s := if r.acquire then s.acquire a.die a.party (scopeField (b.word i)) from_ else s
        let b := (s.slot k).block.getD b
        let bytes := s.forwarded a b i key r.size mem.1
        let raw := match p with
          | .padWord _ => natOf mem.1 / 2 * 2 + (natOf bytes) % 2
          | _ => if s.guardedPlace p then 0 else natOf bytes
        let v : Word := if r.signed then BitVec.ofInt 64 (signedOf (8 * r.size) raw) else BitVec.ofNat 64 raw
        ({ x with b := { b with reads := b.reads.filter (fun q => q.cap.idx != i) } } : Firing).finish (targets (b.word i)) v s

/-! ### Buffered writes, at fire -/

/-- Does a buffered write at a place read what has an uncorrectable error: an atomic, which reads, or a write narrower than 8 bytes to a
poisoned granule (R136; 19 R371)? A read that would wait for FULL has not been made. -/
def State.writeBad (s : State) (p : Place) (w : Want) : Bool :=
  !s.guardedPlace p && !(w.rd && s.readWaits p) && (w.rd || w.size < 8) && s.placeBad p w.size

/-- Is the data at a place lost, and not only poisoned, which a write of the whole granule repairs (19 R371; 21 R397)? -/
def State.placeLost (s : State) (p : Place) : Bool :=
  match p with
  | .mem t => s.lost t.pa
  | .kv pa => s.lost pa
  | _ => false

/-- Does a lower-index store of the block write the whole granule a buffered write lies in, before it (R76; 19 R371)? -/
def State.overwritten (s : State) (a : Agent) (b : Block) (i key : Nat) : Bool :=
  b.stores.any (fun e => e.idx < i && !isAtomic (opOf (b.word e.idx)) && bufferedSize (b.word e.idx) = 8 &&
    s.keyOf a e.addr.toNat 8 = key / 8 * 8)

/-- Fire a buffered write: its address checks; then it stands in the store buffer, with where its address leads (R138, R140, R143). Over a
poisoned granule it waits for the lower-index stores, one of which may write the granule first. -/
def fireStore (f : Form) (t : Nat) (w : Want) (addr : Capture → Nat) : State → Out :=
  fire f (fun x s =>
    let a := s.agent x.slot
    match s.resolve a (addr x.cap) w with
    | (.error c, s) => x.fault c s
    | (.ok p, s) =>
      let bad := s.writeBad p w
      if bad && !s.placeLost p && !x.b.storesSettled x.idx then s
      else if bad && (s.placeLost p || !s.overwritten a x.b x.idx (p.key.getD (addr x.cap))) then x.fault cUncorrectable s
      else if x.block.clash t then s.faultAt x.slot x.b x.idx cBlockMultiwrite 0 none
      else s.setBlock x.slot { x.block with
        stores := x.block.stores ++ [{ idx := x.idx, addr := BitVec.ofNat 64 (addr x.cap), data := x.cap.r, dataP := x.cap.p,
                                       place := some p, gen := none }] })

/-- The address of a store: (L + sext(OFF9) * size) mod 2^64 (R138). -/
def storeAddr (size : Nat) (o : BitVec 9) (c : Capture) : Nat := (c.l + o.signExtend 64 * BitVec.ofNat 64 size).toNat

/-- ST8 (R138). -/
def execSt8 (p : BitVec 2) (o : BitVec 9) (l r : BitVec 7) (s : State) : Out :=
  fireStore (formR p l r) 0x1C0 (wantWrite 1) (storeAddr 1 o) s
/-- ST16 (R138). -/
def execSt16 (p : BitVec 2) (o : BitVec 9) (l r : BitVec 7) (s : State) : Out :=
  fireStore (formR p l r) 0x1C0 (wantWrite 2) (storeAddr 2 o) s
/-- ST32 (R138). -/
def execSt32 (p : BitVec 2) (o : BitVec 9) (l r : BitVec 7) (s : State) : Out :=
  fireStore (formR p l r) 0x1C0 (wantWrite 4) (storeAddr 4 o) s
/-- ST64 (R138). -/
def execSt64 (p : BitVec 2) (o : BitVec 9) (l r : BitVec 7) (s : State) : Out :=
  fireStore (formR p l r) 0x1C0 (wantWrite 8) (storeAddr 8 o) s

/-- STRL (R139). -/
def execStrl (p : BitVec 2) (l : BitVec 7) (_ : BitVec 3) (z : BitVec 2) (s : State) : Out :=
  fireStore (formData p l) 0x1C0 (wantWrite (1 <<< z.toNat)) (fun c => c.l.toNat) s

/-- AMO64 (R141). -/
def execAmo64 (p : BitVec 2) (t : BitVec 9) (l : BitVec 7) (_ : BitVec 3) (_ : BitVec 1) (_ : BitVec 3) (s : State) : Out :=
  fireStore (formData p l) t.toNat (wantAtomic 8) (fun c => c.l.toNat) s
/-- AMO32 (R141). -/
def execAmo32 (p : BitVec 2) (t : BitVec 9) (l : BitVec 7) (_ : BitVec 3) (_ : BitVec 1) (_ : BitVec 3) (s : State) : Out :=
  fireStore (formData p l) t.toNat (wantAtomic 4) (fun c => c.l.toNat) s
/-- CAS64 (R142): P, always awaited, is the new value. -/
def execCas64 (t : BitVec 9) (l : BitVec 7) (_ : BitVec 3) (_ : BitVec 2) (s : State) : Out :=
  fireStore (formCas l) t.toNat (wantAtomic 8) (fun c => c.l.toNat) s

/-- What an atomic writes over an old value of n bytes (R65, R141). -/
def amoValue (op n old v : Nat) : Nat :=
  let w := 8 * n
  let v := v % 2 ^ w
  match op with
  | 0 => v
  | 1 => (old + v) % 2 ^ w
  | 2 => old &&& v
  | 3 => old ||| v
  | 4 => old ^^^ v
  | 5 => if signedOf w old ≤ signedOf w v then old else v
  | 6 => if signedOf w v ≤ signedOf w old then old else v
  | _ => fpAdd .rne old v

/-! ### Fences -/

/-- FENCE (R145): held; it acts in commit steps 2 and 3 (R146). -/
def execFence (p : BitVec 2) (_ : BitVec 7) (_ : BitVec 3) (_ _ : BitVec 2) (s : State) : Out :=
  fireHeld (formNone p) 0x1C0 (fun _ s => (none, s)) s

/-- SBAR (R147): held; it acts in commit step 3. -/
def execSbar (p : BitVec 2) (l : BitVec 7) (s : State) : Out :=
  fireHeld (formL p l) 0x1C0 (fun _ s => (none, s)) s

/-- PREF (R148): a translated and readable line is fetched into the L1; anything else does nothing. It never faults. -/
def execPref (p : BitVec 2) (l r : BitVec 7) (s : State) : Out :=
  fire (formR p l r) (fun x s =>
    let va := (x.cap.l + x.cap.r).toNat
    let s := s.setBlock x.slot x.block
    let window := isPad va || bitsOf va 55 34 = 0x3FFFFF || bitsOf va 55 48 = 0xFE
    if 2 ^ 56 ≤ va || window then s
    else match s.translate (x.slot / 8) va with
      | (.error _, s) => s
      | (.ok t, s) => if t.r then s.accessRead (s.agent x.slot) va t false else s) s

/-- Does a FENCE order memory: its set names memory, or its kind is acq (R145)? -/
def fenceMemory (w : Word32) : Bool := w.toNat % 4 = 0 || bitsOf w.toNat 2 2 = 1

/-- A FENCE's part of commit step 2 (R145, R146): with kind acq, ar or sc, what the task has read is acquired at its scope; with kind
rel, ar or sc, every later write of the task releases all its accesses before. -/
def State.fenceWrites (s : State) (k : Nat) (w : Word32) : State :=
  let a := s.agent k
  let s := s.trace (k / 8) 3 k (Config.traceKind 1) (Config.freeWord s.tick 0).toNat
  if !fenceMemory w then s
  else
    let read := (s.readFrom.filter (fun e => e.1 == a.party)).map (fun e => e.2)
    let s := if w.toNat % 4 = 1 then s else s.acquire a.die a.party (scopeField w) read
    if w.toNat % 4 = 0 then s
    else { s with fenced := s.fenced ++ (s.past a.party).map (fun i => (a.party, i, .scope (scopeField w))) }

/-- Are the accesses of an engine operation over? A mould's operation is its load (11 R215). -/
def State.opOver (s : State) (j : JoinOb) : Bool :=
  j.done || (match j.kind with
    | .mould d e => !(Smap.find (s.die d).moulds e).any (fun m => m.op = j.op && m.state == .loading)
    | _ => false)

/-- Engine operations of a task that are not yet complete. -/
def State.openOps (s : State) (uid : Nat) : List Nat :=
  ((Smap.getD s.joins [] uid).filter (fun j => !j.done)).map (fun j => j.op)

/-- A FENCE's waits in step 3 (R145, R146, R160). -/
def State.fenceHolds (s : State) (k : Nat) (w : Word32) : List Hold :=
  let a := s.agent k
  let kind := w.toNat % 4
  let engines := kind != 0 && bitsOf w.toNat 3 3 = 1
  (if engines then [Hold.engines ((Smap.getD s.joins [] (s.slot k).uid).map (fun j => j.op)) (scopeField w)] else []) ++
    (if kind = 3 then [Hold.fenceSc (s.past a.party) (s.diesOf a.party (scopeField w) a.die)] else [])

/-- Accesses outstanding in the named streams of a bay's memory port (R147). -/
def State.streamAccs (s : State) (b mask : Nat) : List Nat :=
  (s.stageAccs.filter (fun c => c.port && c.stream / 16 = b && mask / 2 ^ (c.stream % 16) % 2 = 1)).map (fun c => c.id)

/-- SBAR in step 3: what it waits for (R147). -/
def State.sbarHold (s : State) (k : Nat) (c : Capture) : Hold := .streams (s.streamAccs (k / 8) (c.l.toNat % 65536))

/-- SBAR completes: the named streams' accesses and the task's are ordered with one another, at die scope (R147). -/
def State.sbarOrder (s : State) (k : Nat) (c : Capture) : State :=
  let a := s.agent k
  (List.range 16).foldl (fun s n =>
    if c.l.toNat / 2 ^ n % 2 = 1 then
      let p : Party := .portStream a.bay n
      (s.observe a.die a.party (s.past p)).observe a.die p (s.past a.party)
    else s) s

/-! ### Scratchpad allocation (R149, R150) -/

/-- SPALLOC (R149). -/
def execSpalloc (p : BitVec 2) (t : BitVec 9) (l r : BitVec 7) (s : State) : Out :=
  fireHeld (formR p l r) t.toNat (fun x s =>
    let n := x.cap.l.toNat
    let r := x.cap.r.toNat
    (if n = 0 || 130816 < n || 128 ≤ r || (bitsOf r 5 5 = 0 && 25 < bitsOf r 4 0) then some cIllegalForm else none, s)) s

/-- Can n lines and their guards be taken from line g of a unit? -/
def State.padFree (s : State) (unit g n : Nat) : Bool :=
  (List.range (n + 2)).all (fun i => !(s.line (unit * 1024 + g + i)).alloc && !s.bankOut (unit * 1024 + g + i))

/-- The lowest place for n data lines in a unit (R149). -/
def State.padPlace (s : State) (unit n : Nat) : Option Nat :=
  if 1022 < n then none else (List.range (1023 - n)).find? (fun g => s.padFree unit g n)

/-- Take n data lines and two guards at line g of a unit, and zero the data by writes of a party that stand where they are made in
coherence order (R149). What holds a line as an operand holds it still. -/
def State.padTake (s : State) (unit g n : Nat) (owner : BitVec 6) (full : Bool) (p : Party) : State :=
  let base := unit * 1024 + g
  let s := { s with nextUid := s.nextUid + 1 }
  let take (l : LineState) (guarded full : Bool) (extent serial : Nat) : LineState :=
    { LineState.reset with alloc := true, guarded := guarded, owner := owner, full := full, extent := BitVec.ofNat 10 extent,
                           holders := l.holders, serial := serial }
  let s := s.modLine base (fun l => take l true true n (s.nextUid - 1))
  let s := s.modLine (base + n + 1) (fun l => take l true true 0 0)
  let s := (List.range n).foldl (fun s i => s.modLine (base + 1 + i) (fun l => take l false full 0 0)) s
  (List.range (16 * n)).foldl (fun s i => s.store p (padAddr (base + 1) + 8 * i) (List.replicate 8 0) [] true) s

/-- SPALLOC in step 3: the address of the first data line, or 0. Units are numbered within the issuer's bay. -/
def commitSpalloc (s : State) (k : Nat) (c : Capture) : Perf :=
  let r := c.r.toNat
  let n := (c.l.toNat + 127) / 128
  let units := if bitsOf r 5 5 = 1 then List.range 26 else [bitsOf r 4 0]
  let place := units.findSome? (fun u =>
    let unit := k / 8 * 32 + u
    (s.padPlace unit n).map (fun g => (unit, g)))
  match place with
  | none => .done s 0
  | some (unit, g) =>
    let a := s.agent k
    .done (s.padTake unit g n (s.slot k).ctxid (bitsOf r 6 6 = 1) a.party) (BitVec.ofNat 64 (padAddr (unit * 1024 + g + 1)))

/-- Does an address name the first data line of an allocation (R150)? -/
def State.allocAt (s : State) (va : Nat) : Bool :=
  let ln := padLine va
  va < 2 ^ 56 && isPad va && !padState va && va % 128 = 0 && s.padOk va && 1 ≤ ln % 1024 &&
    (s.line (ln - 1)).alloc && (s.line (ln - 1)).guarded && (s.line (ln - 1)).extent != 0

/-- The checks of SPFREE at fire, in order (R150). -/
def State.spfreeCheck (s : State) (k va : Nat) : Option Byte :=
  let ctx := (s.slot k).ctxid
  if !s.allocAt va then some cIllegalForm
  else if (s.line (padLine va - 1)).owner != ctx && ctx != 0 then some cPageProtect
  else none

/-- SPFREE (R150): the allocation it has found is kept with its operand, by number. -/
def execSpfree (p : BitVec 2) (t : BitVec 9) (l _ : BitVec 7) (s : State) : Out :=
  fire (formL p l) (fun x s =>
    match s.spfreeCheck x.slot x.cap.l.toNat with
    | some c => x.fault c s
    | none =>
      ({ x with cap := { x.cap with grp := [BitVec.ofNat 64 (s.line (padLine x.cap.l.toNat - 1)).serial] } } : Firing).hold t.toNat s) s

/-- Free the n + 2 lines of an allocation whose lower guard is line g: contents stay, FULL becomes 1. -/
def State.padRelease (s : State) (g n : Nat) : State :=
  (List.range (n + 2)).foldl (fun s i => s.setLine (g + i) LineState.reset) s

/-- SPFREE in step 3: nothing if the allocation it found is gone, be there another one in its place; it waits until no line is HELD
(R150). A register target receives 0 (07 R90). After ERET the number is not known any more, and the allocation that stands there is
taken for the one it found (log entry 31). -/
def commitSpfree (s : State) (k : Nat) (c : Capture) : Perf :=
  let va := c.l.toNat
  let g := padLine va - 1
  if !s.allocAt va || (match c.grp with
      | n :: _ => n != BitVec.ofNat 64 (s.line g).serial
      | [] => false) then .done s 0
  else
    let n := (s.line g).extent.toNat
    if (List.range (n + 2)).any (fun i => 0 < (s.line (g + i)).holders) then .stall
    else
      let a := s.agent k
      .done ((s.reveal a.die (s.past a.party)).padRelease g n) 0

end Sys2Proof.Machine
end

