-- ==== Sys2Proof/Machine/Hallmark.lean ====
section
/-! DEFINITION. Hallmarks (15 R293-R301, 17 R318): keys and their homes, declaring, stamping, awaiting, testing and retiring
them, and the queries of other devices. -/

namespace Sys2Proof.Machine

/-- The base address of a key. -/
def keyBase (key : Nat) : Nat := key / 128 * 128
def keySize (key : Nat) : Nat := key % 128

/-- Is the key's base in the KV window (R318)? -/
def isKvKey (key : Nat) : Bool := bitsOf key 55 48 = 0xFE
def kvKeyBlock (key : Nat) : Nat := bitsOf key 47 16
def kvKeyOf (g : Nat) : Nat := 0x00FE000000000000 + g * 2 ^ 16 + 9

/-- Is a key well formed (R293, R318)? -/
def keyOk (key : Nat) : Bool :=
  key != 0 && key < 2 ^ 56 && keySize key ≤ 24 &&
  !(bitsOf key 55 32 = 0xFFFFFE || bitsOf key 55 32 = 0xFFFFFD || bitsOf key 55 32 = 0xFFFFFC) &&
  (!isKvKey key || (keySize key = 9 && bitsOf key 15 7 = 0))

/-- Write a field of the device's own tables, as one indivisible update that releases deps. -/
def State.deviceStore (s : State) (d : Nat) (p : Party) (va n v : Nat) (deps : List Dep) : State :=
  match s.deviceTrans d va with
  | (.error _, s) => s
  | (.ok t, s) => (s.deviceRun d p va t n true).store p t.pa (bytesOf n v) deps true

/-- Read a field of the device's own tables as the last write left it; 0 where it cannot be read. -/
def State.deviceLast (s : State) (d : Nat) (p : Party) (va n : Nat) : Nat × State :=
  match s.deviceTrans d va with
  | (.error _, s) => (0, s)
  | (.ok t, s) => (s.deviceRun d p va t n false).loadLast d p t.pa n

/-- The die a key's entry lives on, as seen from a die's page table (R293, R318). -/
def State.keyHome (s : State) (d key : Nat) : Except Byte Nat × State :=
  if isPad key then (.ok (padBay key / 32), s)
  else if isKvKey key then
    match s.kvEntryAddr d (kvKeyBlock key) with
    | (.error c, s) => (.error c, s)
    | (.ok e, s) =>
      let w := s.deviceLast d (.device d) e 8
      (.ok (paStack (bitsOf w.1 51 16 * 0x10000) / 2), w.2)
  else
    match s.walk d (keyBase key) with
    | (.error _, s) => (.error cPageAbsent, s)
    | (.ok e, s) =>
      let t := e.trans (keyBase key)
      (.ok (if t.tier = 1 then 0 else t.home), s)

/-- Age of a generation against an entry's (R294). -/
def genOlder (gen : BitVec 16) (g : BitVec 16) : Bool := 1 ≤ (gen - g).toNat && (gen - g).toNat ≤ 32767

/-- What a key's entry shows: its generation, whether stamped, the writes its stamp releases, and the scope of the stamp. -/
structure HmView where
  gen : BitVec 16
  stamped : Bool
  deps : List Nat
  sys : Bool
  run : Nat
  /-- Stamped by an engine operation's completion. -/
  byOp : Bool
  deriving DecidableEq, Repr

/-- The entry of a key on its home die, if it has one; a KV key's is its block's stage-2 entry (R318). -/
def State.hmLook (s : State) (d home key : Nat) : Option HmView × State :=
  if isKvKey key then
    match s.kvEntryAddr d (kvKeyBlock key) with
    | (.error _, s) => (none, s)
    | (.ok e, s) =>
      let w := s.deviceLast d (.device d) e 8
      if w.1 % 2 = 0 then (none, w.2)
      else
        let g := w.2.deviceLast d (.device d) (e + 10) 2
        (some { gen := BitVec.ofNat 16 g.1, stamped := bitsOf w.1 2 2 = 1, deps := g.2.past (.device d), sys := true,
                run := Smap.getD s.kvRuns 0 (kvKeyBlock key), byOp := false }, g.2)
  else
    match (s.die home).hallmarks.find? (fun h => h.key.toNat == key) with
    | some h => (some { gen := h.gen, stamped := h.stamped, deps := h.deps, sys := h.sys, run := h.run, byOp := h.byOp }, s)
    | none => (none, s)

/-- Held tasks that take a key as input, in the words of their launch's entry. -/
def launchField (ws : List Word) (off n : Nat) : Nat := (ws.getD (off / 8) 0).toNat / 2 ^ (8 * (off % 8)) % 2 ^ (8 * n)

/-- Key of tile (x, y, t) of a map (R270). -/
def mapKey (base sx sy st : Nat) (x y t : Nat) : Nat :=
  let step : Int := x * signedOf 16 sx + y * signedOf 16 sy + t * signedOf 16 st
  intBits 64 (base + step * (2 ^ (base % 128) : Nat) * 128)

/-- Input keys of task i of a launch (R270). -/
def inputKeys (ws : List Word) (shapex i : Nat) : List Nat :=
  (List.range (launchField ws 119 1)).map (fun t =>
    mapKey (launchField ws 48 8) (launchField ws 72 2) (launchField ws 74 2) (launchField ws 76 2) (i % shapex) (i / shapex) t)

/-- Output keys of task i of a launch (R270). -/
def outputKeys (ws : List Word) (shapex i : Nat) : List Nat :=
  (List.range (launchField ws 120 1)).map (fun t =>
    mapKey (launchField ws 56 8) (launchField ws 78 2) (launchField ws 80 2) (launchField ws 82 2) (i % shapex) (i / shapex) t)

def State.launch (s : State) (n : Nat) : LaunchRun := Smap.getD s.launches LaunchRun.reset n
def State.setLaunch (s : State) (n : Nat) (v : LaunchRun) : State := { s with launches := Smap.put s.launches LaunchRun.reset n v }
def State.modLaunch (s : State) (n : Nat) (f : LaunchRun → LaunchRun) : State := s.setLaunch n (f (s.launch n))

/-- SHAPEX of a launch in its current run: the bound's X for a loop launch (R275). -/
def LaunchRun.shapeX (l : LaunchRun) : Nat :=
  if launchField l.words 113 1 / 64 % 2 = 1 then l.bound.1 else launchField l.words 68 2

/-- Record area address of task i of a launch. -/
def LaunchRun.recAddr (l : LaunchRun) (i : Nat) : Nat := launchField l.words 16 8 + 32 * i

/-- The producer of a launch's input tiles. -/
def LaunchRun.inprod (l : LaunchRun) : Nat := launchField l.words 86 2 % 4096

/-- Keys a held unit waits for. -/
def LaunchRun.unitKeys (l : LaunchRun) (u : HeldUnit) : List Nat := u.tasks.flatMap (fun i => inputKeys l.words l.shapeX i)

/-- Is a key of a held unit among those that have become ready? -/
def HeldUnit.has (u : HeldUnit) (key : Nat) : Bool := u.ready.any (fun e => e.1 = key)

/-- Keys become ready for a unit, each with what its readiness released; once all have, the unit takes its place in the order (R273). -/
def HeldUnit.gain (u : HeldUnit) (l : LaunchRun) (tick : Nat) (keys : List (Nat × List Nat)) : HeldUnit :=
  let fresh := keys.filter (fun e => (l.unitKeys u).contains e.1 && !u.has e.1)
  let u := { u with ready := u.ready ++ fresh }
  if u.readyAt.isNone && (l.unitKeys u).all u.has then { u with readyAt := some tick } else u

/-- A key becomes ready, by a stamp of a generation declared in a run: for every unit held whose producer is in that run (R273). -/
def State.keyStamped (s : State) (key run : Nat) (deps : List Nat) : State :=
  { s with heldUnits := s.heldUnits.map (fun u =>
      let l := s.launch u.launch
      if (s.launch l.inprod).run = run then u.gain l s.tick [(key, deps)] else u) }

/-- A producer finishes: every key of the units held for it becomes ready (R273). -/
def State.prodFinished (s : State) (n : Nat) (deps : List Nat) : State :=
  { s with heldUnits := s.heldUnits.map (fun u =>
      let l := s.launch u.launch
      if l.inprod = n then u.gain l s.tick ((l.unitKeys u).map (fun key => (key, deps))) else u) }

/-- Held tasks waiting on a generation, one that was declared in a run, that has become older: HM_STALE is queued to their context
(R295, 19 R357). A task for which the key is ready, or whose producer's run has not declared it, waits on no such generation. -/
def State.staleHeld (s : State) (key run : Nat) : State :=
  s.heldUnits.foldl (fun s u =>
    let l := s.launch u.launch
    if u.has key || (s.launch l.inprod).run != run then s
    else u.tasks.foldl (fun s i =>
      if (inputKeys l.words l.shapeX i).contains key then
        s.pushFault 0 (.device 0) (impRec cHmStale 6 (BitVec.ofNat 6 (launchField l.words 116 1)) (l.recAddr i) u.launch 0)
      else s) s) s

/-- Declare a key (R295, R318): its generation, or none when the table is full. -/
def State.declareKey (s : State) (d home key launch run : Nat) : Option (BitVec 16) × State :=
  if isKvKey key then
    match s.kvEntryAddr d (kvKeyBlock key) with
    | (.error _, s) => (some 0, s)
    | (.ok e, s) =>
      let w := s.deviceLast d (.device d) e 12
      let g := bitsOf w.1 95 80
      let s := w.2.deviceStore d (.device d) e 12 (w.1 % 2 ^ 80 - w.1 / 4 % 2 * 4 + (g + 1) % 65536 * 2 ^ 80) []
      let n := kvKeyBlock key
      let s := if w.1 % 2 = 1 then s.staleHeld key (Smap.getD s.kvRuns 0 n) else s
      (some (BitVec.ofNat 16 (g + 1)), { s with kvRuns := Smap.insert s.kvRuns n run })
  else
    let x := s.die home
    match x.hallmarks.find? (fun h => h.key.toNat == key) with
    | some h =>
      let g := h.gen + 1
      let new : Hallmark := { h with gen := g, stamped := false, launch := launch, run := run, deps := [], sys := false, byOp := false }
      let s := s.setDie home { x with hallmarks := x.hallmarks.map (fun q => if q.key.toNat == key then new else q) }
      (some g, s.staleHeld key h.run)
    | none =>
      if 16384 ≤ x.hallmarks.length then (none, s)
      else
        let new : Hallmark := { key := BitVec.ofNat 64 key, gen := x.hmCounter, stamped := false, launch := launch, run := run,
                                deps := [], sys := false, byOp := false }
        (some x.hmCounter, s.setDie home { x with hallmarks := x.hallmarks ++ [new], hmCounter := x.hmCounter + 1 })

/-- Free a key's entry; a KV key is left as it is (R301, R318). -/
def State.retireKey (s : State) (home key : Nat) : State :=
  if isKvKey key then s
  else s.modDie home (fun x => { x with hallmarks := x.hallmarks.filter (fun h => h.key.toNat != key) })

/-- Is a party an engine operation? -/
def Party.isOp (p : Party) : Bool :=
  match p with
  | .op _ => true
  | _ => false

/-- An observed completion of an engine operation is a progress event (19 R368). -/
def State.seenBy (s : State) (k : Nat) (e : Option HmView) : State := if e.any (fun v => v.byOp) then s.progress k else s

/-- Stamp a key for a party: its generation, or none when it has no entry (R297, R318). -/
def State.stampKey (s : State) (d home key : Nat) (p : Party) (sys : Bool) : Option (BitVec 16) × State :=
  if isKvKey key then
    match s.kvEntryAddr d (kvKeyBlock key) with
    | (.error _, s) => (none, s)
    | (.ok e, s) =>
      let w := s.deviceLast d (.device d) e 8
      if w.1 % 2 = 0 then (none, w.2)
      else
        let g := w.2.deviceLast d (.device d) (e + 10) 2
        let deps := g.2.releaseDeps p d (if sys then 4 else 3)
        let s := g.2.deviceStore d (.device d) e 8 (w.1 - w.1 / 4 % 2 * 4 + 4) deps
        (some (BitVec.ofNat 16 g.1), s.keyStamped key (Smap.getD s.kvRuns 0 (kvKeyBlock key)) (deps.map (fun e => e.1)))
  else
    let x := s.die home
    match x.hallmarks.find? (fun h => h.key.toNat == key) with
    | none => (none, s)
    | some h =>
      if h.stamped then (some h.gen, s)
      else
        let new : Hallmark := { h with stamped := true, deps := s.past p, sys := sys, byOp := p.isOp }
        let s := s.setDie home { x with hallmarks := x.hallmarks.map (fun q => if q.key.toNat == key then new else q) }
        (some h.gen, s.keyStamped key h.run new.deps)

/-! ### AWAIT and HMTEST (R298, R299) -/

def selRemote (r : Nat) : Bool := bitsOf r 48 48 = 1
def selChip (r : Nat) : Nat := bitsOf r 47 30
def selProd (r : Nat) : Nat := bitsOf r 29 18
def selProdv (r : Nat) : Bool := bitsOf r 17 17 = 1
def selCur (r : Nat) : Bool := bitsOf r 16 16 = 1
def selGen (r : Nat) : BitVec 16 := BitVec.ofNat 16 r

/-- The fire checks of AWAIT and HMTEST (R298). -/
def State.awaitCheck (s : State) (d : Nat) (key r : Nat) : Option Byte × State :=
  if !keyOk key || 2 ^ 49 ≤ r || (!selRemote r && selChip r != 0) ||
      (selRemote r && (selProdv r || selChip r = s.chipid.toNat)) then (some cIllegalForm, s)
  else if selRemote r then (none, s)
  else match s.keyHome d key with
    | (.error c, s) => (some c, s)
    | (.ok _, s) => (none, s)

/-- What an evaluation of R298 says. -/
inductive HmEval where
  /-- Complete, with the writes the stamp or the finish released. -/
  | ready (deps : List Nat)
  | wait
  | stale
  | undeclared
  deriving DecidableEq, Repr

/-- Evaluate R298 for a key: the verdict, the entry seen, and the generation fixed for a CUR wait. -/
def State.awaitEval (s : State) (d key r : Nat) (fixed : Option (BitVec 16)) :
    HmEval × Option HmView × Option (BitVec 16) × State :=
  match s.keyHome d key with
  | (.error _, s) => (.undeclared, none, fixed, s)
  | (.ok home, s) =>
    match s.hmLook d home key with
    | (some e, s) =>
      let g := if selCur r then fixed.getD e.gen else selGen r
      let f := if selCur r then some g else fixed
      if genOlder e.gen g then (.stale, some e, f, s)
      else if g = e.gen && e.stamped then (.ready e.deps, some e, f, s)
      else (.wait, some e, f, s)
    | (none, s) =>
      let l := s.launch (selProd r)
      if selProdv r && l.finished then (.ready l.deps, none, fixed, s)
      else if selProdv r && l.coarse then (.wait, none, fixed, s)
      else (.undeclared, none, fixed, s)

/-- HMDECL (R296). -/
def execHmdecl (p : BitVec 2) (t : BitVec 9) (l _ : BitVec 7) (s : State) : Out :=
  fireHeld (formL p l) t.toNat (fun x s =>
    let key := x.cap.l.toNat
    if !keyOk key then (some cIllegalForm, s)
    else match s.keyHome (x.slot / 256) key with
      | (.error c, s) => (some c, s)
      | (.ok _, s) => (none, s)) s

/-- The address of the block a slot is committing, for a record of a fault met there. -/
def State.blockAddr (s : State) (k : Nat) : Nat :=
  match (s.slot k).block with
  | some b => b.addr.toNat
  | none => (s.slot k).pc.toNat

/-- An imprecise fault of an instruction met in commit (SOURCE 0). -/
def State.commitFault (s : State) (k idx : Nat) (c : Byte) : State :=
  s.recordImp (k / 256) (s.slot k).uid (s.agent k).party (s.seqRec k c (s.blockAddr k) idx 0)

/-- HMDECL in step 3: GEN, and COARSE in bit 16 when no entry was made (R296). Its target on a fault is not stated: free (log entry
16). -/
def commitHmdecl (s : State) (k : Nat) (c : Capture) : Perf :=
  let d := k / 256
  let n := (s.slot k).launchid.toNat
  match s.keyHome d c.l.toNat with
  | (.error e, s) => .done (s.commitFault k c.idx e) (Config.freeWord s.tick 0)
  | (.ok home, s) =>
    match s.declareKey d home c.l.toNat n (s.launch n).run with
    | (some g, s) => .done s (g.zeroExtend 64)
    | (none, s) => .done (s.modLaunch n (fun l => { l with coarse := true })) 0x10000

/-- STAMP (R297). -/
def execStamp (p : BitVec 2) (t : BitVec 9) (l r : BitVec 7) (s : State) : Out :=
  fireHeld (formR p l r) t.toNat (fun x s =>
    let key := x.cap.l.toNat
    if !keyOk key || 2 ≤ x.cap.r.toNat then (some cIllegalForm, s)
    else match s.keyHome (x.slot / 256) key with
      | (.error c, s) => (some c, s)
      | (.ok _, s) => (none, s)) s

/-- STAMP in step 3 (R297): a progress event (19 R368). Its target on a fault is not stated: free (log entry 16). -/
def commitStamp (s : State) (k : Nat) (c : Capture) : Perf :=
  let d := k / 256
  let open_ := Config.freeWord s.tick 0
  let n := (s.slot k).launchid.toNat
  let s := s.progress k
  match s.keyHome d c.l.toNat with
  | (.error e, s) => .done (s.commitFault k c.idx e) open_
  | (.ok home, s) =>
    match s.stampKey d home c.l.toNat (s.agent k).party (c.r.toNat % 2 = 1) with
    | (some g, s) => .done s (g.zeroExtend 64)
    | (none, s) => if (s.launch n).coarse then .done s 0x10000 else .done (s.commitFault k c.idx cHmUndeclared) open_

/-- AWAIT (R298). -/
def execAwait (p : BitVec 2) (l r : BitVec 7) (s : State) : Out :=
  fireHeld (formR p l r) 0x1C0 (fun x s => s.awaitCheck (x.slot / 256) x.cap.l.toNat x.cap.r.toNat) s

/-- How a wait-class instruction stands in step 4: complete, or still waiting. -/
inductive Waited where
  | done (s : State)
  | pending (s : State)
  deriving DecidableEq, Repr

/-- AWAIT in step 4 (R298): a fault is recorded, and the AWAIT completes. A remote key completes by its report (R300). -/
def waitAwait (s : State) (k : Nat) (c : Capture) : Waited :=
  let d := k / 256
  if selRemote c.r.toNat then .pending s
  else
    let fixed := match (s.slot k).block with
      | some b => b.fixedGen
      | none => none
    match s.awaitEval d c.l.toNat c.r.toNat fixed with
    | (.ready deps, e, _, s) => .done ((s.observe d (s.agent k).party deps).seenBy k e)
    | (.stale, _, _, s) => .done (s.commitFault k c.idx cHmStale)
    | (.undeclared, _, _, s) => .done (s.commitFault k c.idx cHmUndeclared)
    | (.wait, _, f, s) =>
      .pending (s.modSlot k (fun sl => { sl with block := sl.block.map (fun b => { b with fixedGen := f }) }))

/-- The word HMTEST delivers (R299). -/
def testWord (ready noentry : Bool) (gen : BitVec 16) : Word :=
  BitVec.ofNat 64 ((if ready then 1 else 0) + (if noentry then 2 else 0) + gen.toNat * 65536)

/-- HMTEST (R299): one evaluation at fire. A remote key leaves it unfinished until the owning device reports (R300). -/
def execHmtest (p : BitVec 2) (t : BitVec 9) (l r : BitVec 7) (s : State) : Out :=
  fire (formR p l r) (fun x s =>
    let d := x.slot / 256
    let key := x.cap.l.toNat
    let sel := x.cap.r.toNat
    match s.awaitCheck d key sel with
    | (some c, s) => x.fault c s
    | (none, s) =>
      if x.block.clash t.toNat then s.faultAt x.slot x.b x.idx cBlockMultiwrite 0 none
      else if selRemote sel then s.setBlock x.slot { x.block with replay := x.block.replay ++ [x.cap] }
      else match s.awaitEval d key sel none with
        | (.stale, _, _, s) => x.fault cHmStale s
        | (.undeclared, _, _, s) => x.fault cHmUndeclared s
        | (.ready deps, e, _, s) =>
          x.finish [t.toNat] (testWord true e.isNone ((e.map (fun v => v.gen)).getD 0)) ((s.observe d (s.agent x.slot).party deps).seenBy x.slot e)
        | (.wait, e, _, s) => x.finish [t.toNat] (testWord false e.isNone ((e.map (fun v => v.gen)).getD 0)) s) s

/-- HMRETIRE (R301). -/
def execHmretire (p : BitVec 2) (t : BitVec 9) (l _ : BitVec 7) (s : State) : Out :=
  fireHeld (formL p l) t.toNat (fun x s =>
    let key := x.cap.l.toNat
    if !keyOk key then (some cIllegalForm, s)
    else match s.keyHome (x.slot / 256) key with
      | (.error c, s) => (some c, s)
      | (.ok _, s) => (none, s)) s

/-- HMRETIRE in step 3 (R301). -/
def commitHmretire (s : State) (k : Nat) (c : Capture) : Perf :=
  match s.keyHome (k / 256) c.l.toNat with
  | (.error e, s) => .done (s.commitFault k c.idx e) 0
  | (.ok home, s) => .done (s.retireKey home c.l.toNat) 0

/-! ### Keys of other devices (R300) -/

/-- Answers of an owning device: bit 0 READY, bit 1 no entry, bit 2 stale, bit 3 no translation or path, 31:16 GEN. -/
def remoteFault (answer : Nat) : Option Byte :=
  if bitsOf answer 3 3 = 1 then some cLinkFault
  else if bitsOf answer 2 2 = 1 then some cHmStale
  else if bitsOf answer 1 1 = 1 then some cHmUndeclared
  else none

/-- Evaluate a waiter of another device: the base is translated under D0's table, the entry evaluated with PRODV 0, and a stamp made
with SYS is acquired (R300). The waiter, with the answer, and whether the wait goes on. -/
def State.remoteEval (s : State) (w : RemoteWait) : RemoteWait × Bool × State :=
  let gen (e : Option HmView) : BitVec 16 := (e.map (fun v => v.gen)).getD 0
  match s.keyHome 0 w.key with
  | (.error _, s) => ({ w with answer := 8 }, false, s)
  | (.ok _, s) =>
    match s.awaitEval 0 w.key w.sel w.fixed with
    | (.ready deps, e, f, s) =>
      let s := if (e.map (fun v => v.sys)).getD false then (s.meet w.chip).observe (peerDie w.chip) (.peer w.chip) deps else s
      ({ w with fixed := f, answer := testWord true false (gen e) }, false, s)
    | (.wait, e, f, s) => ({ w with fixed := f, answer := testWord false false (gen e) }, true, s)
    | (.stale, e, f, s) => ({ w with fixed := f, answer := 4 ||| testWord false false (gen e) }, false, s)
    | (.undeclared, _, f, s) => ({ w with fixed := f, answer := 2 }, false, s)

/-- REMOTE_HALLMARK_QUERY (R300): this device owns the key, and answers. A wait that is not over stays, and a change of the entry is
reported. Nothing comes while the device has no link. -/
def execRemoteHallmarkQuery (chip : BitVec 18) (key sel : BitVec 64) (s : State) : Out :=
  let k := key.toNat
  let r := sel.toNat % 2 ^ 17
  if s.links.isEmpty || chip = s.chipid || !keyOk k then .next s
  else
    let same (w : RemoteWait) : Bool := w.chip = chip.toNat && w.key = k && w.sel = r
    let w := (s.remoteWaits.find? same).getD { chip := chip.toNat, key := k, sel := r, fixed := none, answer := 0 }
    let e := s.remoteEval w
    let rest := s.remoteWaits.filter (fun w => !same w)
    .next { e.2.2 with remoteWaits := if e.2.1 then rest ++ [e.1] else rest, reply := [e.1.answer] }

/-- Every waiter of another device whose entry has changed is sent a report (R300). -/
def State.remoteReports (s : State) : State :=
  s.remoteWaits.foldl (fun s w =>
    if s.links.isEmpty then s
    else
      let e := s.remoteEval w
      let same (v : RemoteWait) : Bool := v.chip = w.chip && v.key = w.key && v.sel = w.sel
      { e.2.2 with
        remoteWaits := if e.2.1 then e.2.2.remoteWaits.map (fun v => if same v then e.1 else v)
          else e.2.2.remoteWaits.filter (fun v => !same v)
        remoteTold := if e.2.1 && e.1.answer = w.answer then e.2.2.remoteTold else e.2.2.remoteTold ++ [(w.chip, w.key, w.sel, e.1.answer)] })
    { s with remoteTold := [] }

end Sys2Proof.Machine
end

