-- ==== Sys2Proof/Machine/KvMap.lean ====
section
/-! DEFINITION. The two stages of the KV map (17 R305-R313, R319): layouts, sequence records, stage-1 and stage-2 entries. -/

namespace Sys2Proof.Machine

/-! ### Stage-1 entries (R308, R309) -/

def e1Valid (e : Nat) : Bool := e % 2 = 1
def e1Fill (e : Nat) : Nat := bitsOf e 5 1
def e1Gbn (e : Nat) : Nat := bitsOf e 43 12
def e1Tier (e : Nat) : Nat := bitsOf e 45 44
def e1Chip (e : Nat) : Nat := bitsOf e 63 46

/-- Is the block absent: host tier, or in transit? -/
def e1Absent (e : Nat) : Bool := e1Tier e = 1 || e1Tier e = 2

/-- The first row of R309, for an entry that must be valid. -/
def e1Bad (e : Nat) : Bool := !e1Valid e || e1Tier e = 3 || 16 < e1Fill e || bitsOf e 11 6 != 0

def e1Make (chip gbn fill : Nat) : Nat := chip * 2 ^ 46 + gbn * 2 ^ 12 + fill * 2 + 1

/-! ### Stage-2 entries (R311, R312) -/

/-- A stage-2 entry as read; addr is none when another chip, the one named, holds it. -/
structure KvBlock where
  addr : Option Nat
  chip : Nat
  gbn : Nat
  word0 : Nat
  refcnt : Nat
  hmgen : Nat
  frontier : Nat
  ctx : Nat
  prov : Nat
  deriving DecidableEq, Repr

def KvBlock.page (b : KvBlock) : Nat := bitsOf b.word0 51 16 * 0x10000
def KvBlock.valid (b : KvBlock) : Bool := b.word0 % 2 = 1
def KvBlock.cow (b : KvBlock) : Bool := bitsOf b.word0 1 1 = 1
def KvBlock.stamped (b : KvBlock) : Bool := bitsOf b.word0 2 2 = 1
def KvBlock.layer (b : KvBlock) : Nat := bitsOf b.word0 15 8
def KvBlock.state (b : KvBlock) : Nat := b.prov % 16
def KvBlock.epoch (b : KvBlock) : Nat := bitsOf b.prov 63 52

/-- Free values for what stands on another chip, by chip and block (log entry 25). -/
def State.foreign (s : State) (chip g n : Nat) : Nat := (Config.freeWord s.tick (0x2000 + (chip * 2 ^ 32 + g) * 2 ^ 14 + n)).toNat

/-- Read the stage-2 entry of a block of this chip. -/
def State.kvBlock (s : State) (d : Nat) (p : Party) (g : Nat) : Except Byte KvBlock × State :=
  match s.kvEntryAddr d g with
  | (.error c, s) => (.error c, s)
  | (.ok a, s) =>
    let w0 := s.deviceLast d p a 8
    let w1 := w0.2.deviceLast d p (a + 8) 8
    let w2 := w1.2.deviceLast d p (a + 16) 8
    (.ok { addr := some a, chip := s.chipid.toNat, gbn := g, word0 := w0.1, refcnt := w1.1 % 65536, hmgen := bitsOf w1.1 31 16,
            frontier := bitsOf w1.1 39 32, ctx := bitsOf w1.1 45 40, prov := w2.1 }, w2.2)

/-- The stage-2 entry that a stage-1 entry names, on this chip or another (R309). -/
def State.kvBlockOf (s : State) (d : Nat) (p : Party) (e : Nat) : Except Byte KvBlock × State :=
  if e1Chip e = s.chipid.toNat then s.kvBlock d p (e1Gbn e)
  else
    let f (n : Nat) : Nat := s.foreign (e1Chip e) (e1Gbn e) n
    (.ok { addr := none, chip := e1Chip e, gbn := e1Gbn e, word0 := f 0, refcnt := f 1 % 65536, hmgen := f 2 % 65536,
            frontier := f 3 % 256, ctx := f 4 % 64, prov := f 5 }, s)

/-- Is a block stale on a die (R313)? -/
def State.blockStale (s : State) (d : Nat) (b : KvBlock) : Bool := s.kvStale d b.prov

/-- The 24 bytes of a stage-2 entry (R311). -/
def KvBlock.bytes (b : KvBlock) : Nat :=
  b.word0 + (b.refcnt + b.hmgen * 2 ^ 16 + b.frontier * 2 ^ 32 + b.ctx * 2 ^ 40) * 2 ^ 64 + b.prov * 2 ^ 128

/-- Write a stage-2 entry, as one indivisible update (R315). -/
def State.writeBlock (s : State) (d : Nat) (p : Party) (b : KvBlock) (deps : List Dep) : State :=
  match b.addr with
  | none => s
  | some a => s.deviceStore d p a 24 b.bytes deps

def KvBlock.setWord (b : KvBlock) (bit : Nat) (on : Bool) : KvBlock :=
  { b with word0 := b.word0 - bitsOf b.word0 bit bit * 2 ^ bit + (if on then 2 ^ bit else 0) }
def KvBlock.setState (b : KvBlock) (st : Nat) : KvBlock := { b with prov := b.prov / 16 * 16 + st }

/-! ### MLD in KV mode (R319) -/

/-- The address of the row's entry an MLD in KV mode resolves. -/
def kvRowAddr (row a : Nat) : Nat := (row + 8 * (a / 65536)) % 2 ^ 64

/-- Where an MLD in KV mode reads: a place, or its fault. row is the row's address, a the field A. -/
def State.kvModePlace (s : State) (ag : Agent) (row a size : Nat) : Except Byte Place × State :=
  let va := kvRowAddr row a
  match s.resolve ag va (wantPlain 8 false) with
  | (.error c, s) => (.error c, s)
  | (.ok p, s) =>
    if s.placeBad p 8 then (.error cUncorrectable, s)
    else
      let r := s.readPlace ag va p 8 false
      let e := r.1
      let s := r.2
      if e1Bad e then (.error cKvMapInvalid, s)
      else if e1Absent e then (.error cKvAbsent, s)
      else if e1Chip e != s.chipid.toNat then (.error cKvMapInvalid, s)
      else match s.kvBlock ag.die ag.party (e1Gbn e) with
        | (.error c, s) => (.error c, s)
        | (.ok b, s) =>
          if !b.valid || 5 < b.state then (.error cKvMapInvalid, s)
          else if s.blockStale ag.die b then (.error cKvStale, s)
          else if 65536 < a % 65536 * size + size then (.error cAlign, s)
          else (.ok (.kv (b.page + a % 65536 * size)), s)

end Sys2Proof.Machine
end

