-- ==== Sys2Proof/Machine/Special.lean ====
section
/-! DEFINITION. The special registers (05 R80-R83; 01 R27; 17 R310; 19 R349; 21 R383, R385, R389), and SRRD and SRWR
(07 R105-R108). -/

namespace Sys2Proof.Machine

/-- The fault of a read of a number from a view, if any (R80). -/
def srReadFault (priv : Bool) (n : Nat) : Option Byte :=
  if n < 0x1100 then none
  else if n < 0x2000 then some cPrivilege
  else if priv then none else some cPrivilege

/-- Registers that programs may not write (R81, R82). -/
def srReadOnly (n : Nat) : Bool :=
  (1 ≤ n && n ≤ 7) || n == 0x0A || (0x20 ≤ n && n ≤ 0x26) || n == 0x2007 || n == 0x200E

/-- The fault of a write to a number from a view, if any (R80, R81, R106). -/
def srWriteFault (priv : Bool) (n : Nat) : Option Byte :=
  if srReadOnly n then some cPrivilege
  else if n < 0x1000 then none
  else if n < 0x2000 then some cPrivilege
  else if priv then none else some cPrivilege

/-- SR.GROUPS: memberships in ascending order, unused bytes 0xFF (R83). -/
def groupsWord (gs : List (Nat × Nat)) : Nat :=
  natOf ((List.range 4).map (fun i => BitVec.ofNat 8 ((sortBy id (gs.map (fun g => g.1))).getD i 0xFF)))

/-- Scratchpad banks in service in a bay, and units whole (R27, R28). The banks of a bay that fails in service leave SR.CAPSPAD with
it, which R29 does not name among the registers that change (DESIGN CHOICE, log entry 40). -/
def State.bankUp (s : State) (b i : Nat) : Bool :=
  s.bayUp b && !(s.die (b / 32)).badBanks.contains (b % 32 * 416 + i)
def State.bayBanks (s : State) (b : Nat) : Nat :=
  if s.bayUp b then 416 - ((s.die (b / 32)).badBanks.filter (fun i => i / 416 = b % 32)).length else 0
def State.wholeUnits (s : State) (b : Nat) : Nat :=
  ((List.range 26).map (fun u => if (List.range 16).all (fun i => s.bankUp b (u * 16 + i)) then 2 ^ u else 0)).sum

/-- SR.CAPSPAD (R27). -/
def State.capspad (s : State) (b : Nat) : Nat :=
  ((List.range 32).map (fun i => s.bayBanks (b / 32 * 32 + i))).sum * 2 ^ 35 + s.bayBanks b * 2 ^ 26 + s.wholeUnits b

/-- The value of a special register as a slot reads it; a number the table does not assign reads as zero (R81). -/
def State.readSr (s : State) (k n : Nat) : Word :=
  let sl := s.slot k
  let b := k / 8
  let y := s.bay b
  let d := s.die (b / 32)
  let word (x : Nat) : Word := BitVec.ofNat 64 x
  match n with
  | 0x0001 => sl.taskrec
  | 0x0002 => word sl.launchid.toNat
  | 0x0003 => word sl.taskidx.toNat
  | 0x0004 => word (k % 8 * 128 + b)
  | 0x0005 => word s.chipid.toNat
  | 0x0006 => word (groupsWord sl.groups)
  | 0x0007 => word s.cycle
  | 0x0008 => sl.est
  | 0x0009 => sl.frame
  | 0x000A => sl.arg
  | 0x0010 => word d.rpth.toNat
  | 0x0011 => word d.kvepoch.toNat
  | 0x0012 => word d.hotth.toNat
  | 0x0020 => Smap.getD d.dtraf 0 0
  | 0x0021 => Smap.getD d.dtraf 0 1
  | 0x0022 => Smap.getD d.dtraf 0 2
  | 0x0023 => Smap.getD d.dtraf 0 3
  | 0x0024 => d.peertraf
  | 0x0025 => d.hosttraf
  | 0x0026 => d.relay
  | 0x1000 => word d.capbays.toNat
  | 0x1001 => word (s.capspad b)
  | 0x1002 => d.capslice
  | 0x1003 => word (d.capHigh.toNat * 2 ^ 20 + d.capLow.toNat)
  | 0x1004 => word d.capmxt.toNat
  | 0x1005 => word s.hostid.toNat
  | 0x2001 => sl.trapcause
  | 0x2002 => word sl.trapframe.toNat
  | 0x2003 => word d.trapvec.toNat
  | 0x2004 => word sl.ctxid.toNat
  | 0x2005 => d.pgtbase
  | 0x2006 => d.wdint
  | 0x2007 => word d.slicemap.toNat
  | 0x2008 => d.quantum
  | 0x2009 => word d.savepool.toNat
  | 0x200A => s.ctxsw
  | 0x200B => d.slotctl
  | 0x200C => word s.fqtab.toNat
  | 0x200D => y.tracectl
  | 0x200E => word d.cecount.toNat
  | 0x2010 => word s.kvpool.toNat
  | 0x2011 => s.peerwin
  | 0x2012 => word d.noteq.toNat
  | _ => 0

/-- Registers held once per die that a program writes (R82; 19 R349; 21 R385), but for SLOTCTL, whose write acts. -/
def srOfDie (n : Nat) : Bool := [0x10, 0x11, 0x12, 0x2003, 0x2005, 0x2006, 0x2008, 0x2009, 0x2012].contains n

/-- A special register as an SRRD that fires now reads it: one held once per die that has been written in this cycle still reads as it
stood before (R81). -/
def State.seenSr (s : State) (k n : Nat) : Word := Smap.getD (s.die (k / 256)).srOld (s.readSr k n) n

/-- What a register held once per die is until the cycle ends (R81): the value kept is the one before the first write of the cycle. -/
def State.keepSr (s : State) (k n : Nat) : State :=
  if srOfDie n && !Smap.has (s.die (k / 256)).srOld n then
    s.modDie (k / 256) (fun x => { x with srOld := Smap.insert x.srOld n (s.readSr k n) })
  else s

/-- The low n bits, as a word. -/
def keep (n : Nat) (v : Word) : Word := BitVec.ofNat 64 (v.toNat % 2 ^ n)

/-- A write to a register that has no action of its own: bits it does not hold are dropped (R2, R82, R106, R108). CTXSW,
SLOTCTL and TRACECTL are written by the operations that act on them. -/
def State.writeSr (s : State) (k n : Nat) (v : Word) : State :=
  let s := s.keepSr k n
  let d := k / 256
  match n with
  | 0x0008 => s.modSlot k (fun sl => { sl with est := v })
  | 0x0009 => s.modSlot k (fun sl => { sl with frame := v })
  | 0x0010 => s.modDie d (fun x => { x with rpth := v.truncate 32 })
  | 0x0011 => s.modDie d (fun x => { x with kvepoch := v.truncate 12 })
  | 0x0012 => s.modDie d (fun x => { x with hotth := v.truncate 16 })
  | 0x2001 => s.modSlot k (fun sl => { sl with trapcause := keep 30 v })
  | 0x2002 => s.modSlot k (fun sl => { sl with trapframe := v.truncate 56 &&& ~~~0x3F })
  | 0x2003 => s.modDie d (fun x => { x with trapvec := v.truncate 56 &&& ~~~0x7 })
  | 0x2004 => s.modSlot k (fun sl => { sl with ctxid := v.truncate 6 })
  | 0x2005 => s.modDie d (fun x => { x with pgtbase := v &&& 0x000FFFFFFFFF0000 })
  | 0x2006 => s.modDie d (fun x => { x with wdint := v })
  | 0x2008 => s.modDie d (fun x => { x with quantum := v })
  | 0x2009 => s.modDie d (fun x => { x with savepool := v.truncate 56 })
  | 0x200C => { s with fqtab := v.truncate 56 }
  | 0x2010 => { s with kvpool := v.truncate 56 }
  | 0x2011 => { s with peerwin := v &&& 0x00FFFFFF00000001 }
  | 0x2012 => s.modDie d (fun x => { x with noteq := v.truncate 56 })
  | _ => s

/-- SRRD (R105): reads at fire, checking the view (R80). -/
def execSrrd (p : BitVec 2) (t : BitVec 9) (n : BitVec 14) (s : State) : Out :=
  fire (formNone p) (fun x s =>
    match srReadFault x.b.priv n.toNat with
    | some c => x.fault c s
    | none => x.finish [t.toNat] (s.seenSr x.slot n.toNat) s) s

/-- SRWR (R106): checked against the view at fire, performed in commit step 1. -/
def execSrwr (p : BitVec 2) (t : BitVec 9) (n : BitVec 14) (s : State) : Out :=
  fireHeld (formX p) t.toNat (fun x s => (srWriteFault x.b.priv n.toNat, s)) s

end Sys2Proof.Machine
end

