-- ==== Sys2Proof/Machine/Tasks.lean ====
section
/-! DEFINITION. Tasks (15 R262-R269, R279-R292; 19 R361-R363): queues, popping and binding, retirement and yield, spawning and
joining, gangs, rendezvous points, checkpoints and pre-emption. -/

namespace Sys2Proof.Machine

/-! ### Launches as tasks see them -/

def LaunchRun.prio (l : LaunchRun) : Nat := launchField l.words 112 1 % 16
def LaunchRun.policy (l : LaunchRun) (i : Nat) : Bool := launchField l.words 113 1 / 2 ^ i % 2 = 1
def LaunchRun.context (l : LaunchRun) : BitVec 6 := BitVec.ofNat 6 (launchField l.words 116 1)
/-- SHAPEY, or the bound's Y for a loop launch (R275). -/
def LaunchRun.shapeY (l : LaunchRun) : Nat := if l.policy 6 then l.bound.2 else launchField l.words 70 2
/-- COUNT of the current run. -/
def LaunchRun.tasks (l : LaunchRun) : Nat := l.shapeX * l.shapeY
def LaunchRun.estimate (l : LaunchRun) : Word := l.estOverride.getD (BitVec.ofNat 64 (launchField l.words 40 8))

/-- Raise or lower a launch's unretired count (R274). -/
def State.countTasks (s : State) (n : Nat) (up down : Nat) : State :=
  s.modLaunch n (fun l => { l with unretired := l.unretired + up - down })

/-- Queue an entry of the scheduler's to a context's fault queue: SOURCE 6 (19 R360). -/
def State.schedFault (s : State) (d : Nat) (cause : Byte) (ctx : BitVec 6) (addr launch : Nat) : State :=
  s.pushFault d (.device d) (impRec cause 6 ctx addr launch 0)

/-! ### Queues (R265-R268) -/

def QEntry.inQueue (e : QEntry) (level cls : Nat) : Bool := e.level = level && e.cls = cls

/-- A queue holds 65,536 entries (R265). -/
def State.queueFull (s : State) (d level cls : Nat) : Bool :=
  65536 ≤ ((s.die d).queue.filter (fun e => e.inQueue level cls)).length

/-- Push to the tail of a queue of a die. -/
def State.enqueue (s : State) (d : Nat) (e : QEntry) : State :=
  s.modDie d (fun x => { x with queue := x.queue ++ [{ e with pushedAt := s.cycle, waitFrom := s.cycle }] })

/-- Push to the head of a queue of a die. -/
def State.enqueueFront (s : State) (d : Nat) (e : QEntry) : State :=
  s.modDie d (fun x => { x with queue := { e with pushedAt := s.cycle, waitFrom := s.cycle } :: x.queue })

/-- A requeue, which no party waits with: to the head or to the tail, once its queue has room (R265). -/
def State.requeue (s : State) (d : Nat) (front : Bool) (e : QEntry) : State :=
  if s.queueFull d e.level e.cls then { s with pushes := s.pushes ++ [(d, front, e)] }
  else if front then s.enqueueFront d e else s.enqueue d e

/-- Requeues that wait for room are made, in their order, as far as there is room. -/
def State.makeRequeues (s : State) : State :=
  s.pushes.foldl (fun s p => s.requeue p.1 p.2.1 p.2.2) { s with pushes := [] }

/-- Where a record of an affinity goes, when pushed from a die: die and class (R265, R266). -/
def pushPlace (fromDie affKind affTgt : Nat) : Nat × Nat :=
  if affKind = 2 then (affTgt / 32, 2) else if affKind = 1 then (affTgt / 32, 1) else (fromDie, 0)

/-- A queue entry for a record. -/
def recordEntry (addr launch level cls affKind affTgt : Nat) (deps : List Nat) : QEntry :=
  { addr := BitVec.ofNat 64 addr, image := false, launch := launch, level := level, cls := cls, affKind := affKind,
    affTgt := affTgt, pushedAt := 0, waitFrom := 0, deps := deps, gang := none, member := none, place := 0 }

/-- Effective level (R268). -/
def State.effLevel (s : State) (e : QEntry) : Nat := min 15 (e.level + (s.cycle - e.pushedAt) / 2 ^ 20)

/-- Do two entries stand for one push? -/
def QEntry.same (e f : QEntry) : Bool := e.addr == f.addr && e.image == f.image && e.pushedAt = f.pushedAt && e.gang == f.gang

/-- An idle slot that may pop (R267). -/
def State.idleSlot (s : State) (k : Nat) : Bool :=
  (s.slot k).status == .idle && !(s.slot k).stopped && s.bayUp (k / 8)

/-- The first idle slot of a bay. -/
def State.idleIn (s : State) (b : Nat) : Option Nat :=
  ((List.range 8).map (fun i => b * 8 + i)).find? (fun k => s.idleSlot k)

/-! ### Rectangles (01 R14, R28; R279) -/

/-- Bays of a rectangle of a die, by rows; bays stand 8 to a row (01 R11). -/
def rectBays (d o w h : Nat) : List Nat :=
  (List.range h).flatMap (fun y => (List.range w).map (fun x => d * 32 + o + 8 * y + x))

def rectFits (o w h : Nat) : Bool := o % 8 + w ≤ 8 && o / 8 + h ≤ 4

/-- Idle slots in a rectangle. -/
def State.rectIdle (s : State) (d o w h : Nat) : Nat :=
  ((rectBays d o w h).map (fun b => ((List.range 8).filter (fun i => s.idleSlot (b * 8 + i))).length)).sum

/-- The rectangle of a gang: its own, or the one with the most idle slots, the lowest origin on a tie; never one with a bay
out of service (R279). -/
def State.gangRect (s : State) (d : Nat) (g : Gang) : Option Nat :=
  let ok (o : Nat) : Bool := rectFits o g.w g.h && (rectBays d o g.w g.h).all s.bayUp
  match g.origin with
  | some o => if ok o then some o else none
  | none =>
    ((List.range 32).filter ok).foldl (fun best o =>
      match best with
      | none => some o
      | some p => if s.rectIdle d p g.w g.h < s.rectIdle d o g.w g.h then some o else some p) none

def State.gangOf (s : State) (d g : Nat) : Option Gang := (s.die d).gangs.find? (fun x => x.id == g)

/-- Does an entry of a die's queue permit a bay (R267)? Records of a context being saved are not popped, but for those of a
REPAIR that is to complete (19 R366). -/
def State.permits (s : State) (d : Nat) (e : QEntry) (b : Nat) : Bool :=
  (!s.stoppedCtx.contains (s.launch e.launch).context || s.kvops.any (fun o => o.2.task == some e.addr)) &&
  match e.gang with
  | some g =>
    match s.gangOf d g with
    | some x => (match s.gangRect d x with
      | some o => (rectBays d o x.w x.h).contains b
      | none => false)
    | none => false
  | none =>
    if e.affKind = 1 then e.affTgt / 32 = b / 32 else if e.affKind = 2 then e.affTgt = b else true

/-- Heads of a die's queues for a bay: positions in the list. -/
def State.heads (s : State) (d b : Nat) (zeroOnly : Bool) : List Nat :=
  let q := (s.die d).queue
  let ok (e : QEntry) : Bool := s.permits d e b && (!zeroOnly || (e.cls = 0 && e.gang.isNone))
  (List.range q.length).filter (fun i =>
    match q[i]? with
    | none => false
    | some e => ok e && !(q.take i).any (fun f => ok f && f.inQueue e.level e.cls))

/-- The head taken (R267): highest effective level; within it class 3, then round-robin by queue. -/
def State.selectFrom (s : State) (d b : Nat) (zeroOnly : Bool) : Option Nat :=
  let q := (s.die d).queue
  let hs := s.heads d b zeroOnly
  let lvl (i : Nat) : Nat := (q[i]?.map s.effLevel).getD 0
  let top := (hs.map lvl).foldl max 0
  let at_ := hs.filter (fun i => lvl i = top)
  let turn (i : Nat) : Nat :=
    match q[i]? with
    | none => 1000
    | some e => if e.cls = 3 then 0 else
        1 + (4 * e.level + e.cls + 64 - (Smap.getD (s.die d).served 63 top + 1)) % 64
  at_.foldl (fun best i =>
    match best with
    | none => some i
    | some j => if turn i < turn j then some i else some j) none

/-- The selection for an idle slot of a bay: die and position (R267). -/
def State.select (s : State) (b : Nat) : Option (Nat × Nat) :=
  let d := b / 32
  match s.selectFrom d b false with
  | some i => some (d, i)
  | none => [(d + 1) % 4, (d + 2) % 4, (d + 3) % 4].findSome? (fun e => (s.selectFrom e b true).map (fun i => (e, i)))

/-- Remove an entry from a queue, noting the queue its level last served. -/
def State.dequeue (s : State) (d i : Nat) : State :=
  match (s.die d).queue[i]? with
  | none => s
  | some e =>
    let lvl := s.effLevel e
    (s.modDie d (fun x => { x with
      queue := x.queue.eraseIdx i, served := Smap.put x.served 63 lvl (4 * e.level + e.cls) })).makeRequeues

/-! ### Groups (R281, R282) -/

/-- The die a launch's group lives on. -/
def State.groupDie (s : State) (launch g : Nat) : Option Nat :=
  [0, 1, 2, 3].find? (fun d => match Smap.find (s.die d).groups g with
    | some x => x.launch = launch
    | none => false)

/-- Gang index of task i: gangs in rows of the launch's shape (log entry 22). -/
def LaunchRun.gangIndex (l : LaunchRun) (i : Nat) : Nat :=
  let gw := launchField l.words 114 1
  let gh := launchField l.words 115 1
  if gw = 0 || gh = 0 then 0 else i / l.shapeX / gh * (l.shapeX / gw) + i % l.shapeX / gw

/-- Group number of specification k for task i; none for an invalid rule. -/
def LaunchRun.groupNum (l : LaunchRun) (k i : Nat) : Option Nat :=
  let sp := launchField l.words (88 + 2 * k) 2
  let g := sp % 256
  match sp / 256 % 8 with
  | 0 => some g
  | 1 => some (g + l.gangIndex i)
  | 2 => some (g + i / l.shapeX)
  | 3 => some (g + i % l.shapeX)
  | _ => none

/-- Group numbers of a task: of its launch's specifications, where it has a place in the shape, and of its GANG (R281). -/
def LaunchRun.groupNums (l : LaunchRun) (idx extra : Option Nat) : List Nat :=
  let specs := (List.range (launchField l.words 121 1)).filterMap (fun k =>
    match idx with
    | some i => l.groupNum k i
    | none => if launchField l.words (88 + 2 * k) 2 / 256 % 8 = 0 then l.groupNum k 0 else none)
  (specs ++ extra.toList).dedup

/-- Groups of a task, each with the die it lives on. -/
def State.memberships (s : State) (n : Nat) (idx extra : Option Nat) : List (Nat × Nat) :=
  ((s.launch n).groupNums idx extra).filterMap (fun g => (s.groupDie n g).map (fun d => (g, d)))

/-- The task index of a record in its launch's record area, if it lies there (R264). -/
def LaunchRun.taskIndex (l : LaunchRun) (va : Nat) : Option Nat :=
  let area := launchField l.words 16 8
  if area ≤ va && va < area + 32 * l.tasks then some ((va - area) / 32) else none

/-! ### Popping (R264) -/

/-- Read a record through a bay's translation, with read permission: one access, to the line that holds it. -/
def State.readRecord (s : State) (a : Agent) (va : Nat) : Except Byte (List Byte) × State :=
  match s.resolve a va (wantPlain 8 false) with
  | (.error c, s) => (.error c, s)
  | (.ok p, s) =>
    if s.placeBad p 32 then (.error cUncorrectable, s)
    else match p with
      | .mem t =>
        let r := (s.accessRead a va t false).loadRun a.die a.party t.pa 32
        (.ok r.1, r.2)
      | _ => (.error cPageAbsent, s)

/-- Has the die or bay that an affinity names failed, so that it has become any (21 R397)? -/
def State.targetGone (s : State) (kind tgt : Nat) : Bool := (s.die (tgt / 32)).failed || (kind = 2 && !s.bayUp tgt)

/-- Is a record one a slot of a bay may run (R264)? anywhere: its affinity has been replaced by a rectangle (R280). -/
def State.recordOk (s : State) (bs : List Byte) (b : Nat) (anywhere : Bool) : Bool :=
  let flags := field bs 22 2
  let kind := bitsOf flags 5 4
  let tgt := bitsOf flags 12 6
  let launch := field bs 20 2
  let l := s.launch (launch % 4096)
  launch < 4096 && flags < 8192 && kind != 3 && (kind != 0 || tgt = 0) && (kind != 1 || tgt % 32 = 0) &&
  field bs 0 8 % 8 = 0 && field bs 0 8 < 2 ^ 56 && l.begun &&
  (anywhere || kind = 0 || s.targetGone kind tgt || (kind = 1 && tgt / 32 = b / 32) || (kind = 2 && tgt = b))

/-- A member of a gang has retired: after the last the gang is over, and the L1s part (09 R134). -/
def State.memberGone (s : State) (g : Nat) : State :=
  let gone := s.dies.any (fun d => d.2.gangs.any (fun q => q.id == g && q.left ≤ 1))
  let s := [0, 1, 2, 3].foldl (fun s d => s.modDie d (fun x => { x with
    gangs := (x.gangs.map (fun q => if q.id == g then { q with left := q.left - 1 } else q)).filter (fun q => q.id != g || 0 < q.left) })) s
  if gone then { s with bays := s.bays.map (fun (e : Nat × Bay) => (e.1, if e.2.fused == some g then { e.2 with fused := none } else e.2)) }
  else s

def State.memberGone? (s : State) (g : Option Nat) : State :=
  match g with
  | some g => s.memberGone g
  | none => s

/-- Bind a record in a slot (R264), or retire it at once when it cannot be run. TRAPCAUSE and TRAPFRAME, which R82 gives a reset value of 0
and no value at pop, are 0 after each pop (DESIGN CHOICE, log entry 36). -/
def State.bindRecord (s : State) (k d : Nat) (e : QEntry) (gang : Option Nat) (extra : Option Nat) : State :=
  let uid := s.nextUid
  let b := k / 8
  let p : Party := .task uid
  let g := gang.orElse (fun _ => e.member)
  let s := { s with nextUid := uid + 1 }
  let s := s.observe (b / 32) p e.deps
  let a : Agent := { bay := b, party := p, ctx := (s.launch e.launch).context, priv := false }
  let retire (s : State) (c : Byte) : State :=
    ((s.countTasks e.launch 0 1).memberGone? g).schedFault (b / 32) c (s.launch e.launch).context e.addr.toNat e.launch
  match s.readRecord a e.addr.toNat with
  | (.error c, s) => retire s c
  | (.ok bs, s) =>
    let n := field bs 20 2 % 4096
    if !s.recordOk bs b gang.isSome then retire s cIllegalForm
    else
      let l := s.launch n
      let idx := l.taskIndex e.addr.toNat
      let word (o n : Nat) : Word := BitVec.ofNat 64 (field bs o n)
      let t : Task := { uid := uid, record := e.addr.truncate 56, entry := word 0 8, join := BitVec.ofNat 32 (field bs 16 4),
                        launchField := BitVec.ofNat 16 (field bs 20 2), flags := BitVec.ofNat 16 (field bs 22 2), arg := word 24 8,
                        launch := n, qDie := d, qLevel := e.level, qClass := e.cls, gang := g, place := e.place, boundAt := s.tick,
                        arrival := .normal, exitKept := none, grps := [], fixedGen := none, framed := none }
      ({ s with seats := Smap.insert s.seats uid k } : State).setSlot k { Slot.reset with
        pc := (word 0 8).truncate 56
        status := .bound
        task := some t
        taskrec := e.addr
        launchid := BitVec.ofNat 12 n
        taskidx := match idx with
          | some i => BitVec.ofNat 32 i
          | none => 0xFFFFFFFF
        groups := s.memberships n idx extra
        est := l.estimate
        frame := word 8 8
        arg := word 24 8
        ctxid := l.context
        popped := some (d, e) }

/-! ### Save images (19 R361-R363) -/

/-- Take an image from a die's pool, indivisibly (R361): its address and the physical address its page has, or the cause that stops it;
none when the pool is empty or absent. -/
def State.takeImage (s : State) (d : Nat) : Option (Nat × Nat) × State :=
  let pool := (s.die d).savepool.toNat / 16 * 16
  let p : Party := .device d
  let fail (s : State) (c : Byte) (a : Nat) : Option (Nat × Nat) × State := (none, s.schedFault d c 0 a 0)
  if (s.die d).savepool = 0 then (none, s)
  else match s.deviceAtomic d pool 8 with
    | (.error c, s) => fail s c pool
    | (.ok stk, s) =>
      match s.deviceAtomic d (pool + 8) 4 with
      | (.error c, s) => fail s c pool
      | (.ok top, s) =>
        if top = 0 then (none, s)
        else match s.deviceAtomic d (stk + 8 * (top - 1)) 8 with
          | (.error c, s) => fail s c pool
          | (.ok img, s) =>
            let s := s.deviceStore d p (pool + 8) 4 (top - 1) []
            match s.deviceAddr d img with
            | (.error c, s) => fail s c img
            | (.ok pa, s) => (some (img, pa), s)

/-- Push an image back onto a die's pool, where the pool can be read. -/
def State.returnImage (s : State) (d img : Nat) : State :=
  let pool := (s.die d).savepool.toNat / 16 * 16
  let p : Party := .device d
  match s.deviceAtomic d pool 8 with
  | (.error _, s) => s
  | (.ok stk, s) =>
    match s.deviceAtomic d (pool + 8) 4 with
    | (.error _, s) => s
    | (.ok top, s) => (s.deviceStore d p (stk + 8 * top) 8 img []).deviceStore d p (pool + 8) 4 (top + 1) []

/-- The block a checkpoint saves: the one in flight, or an empty one at the successor (R292). -/
def Slot.savedBlock (sl : Slot) : Block :=
  match sl.block with
  | some b => b
  | none => blockAt sl.pc false (sl.ctxid == 0)

/-- The bytes of a slot's save image (R362). A task waiting in step 4 is saved with RESUME 01 at its wait (R363). -/
def imageBytes (sl : Slot) (joins : List JoinOb) : List Byte :=
  let b := sl.savedBlock
  let (mode, res) := match b.pos, b.exit with
    | .waits i, _ => (1, if i < 128 then i else 0x80)
    | .leave, some (_, .exit) => (2, 0x80)
    | .leave, some (_, .yield) => (2, 0x80)
    | .leave, _ => (1, 0x80)
    | _, _ => (0, 0x80)
  let pad (n : Nat) (l : List Byte) : List Byte := l ++ List.replicate (n - l.length) 0
  -- A handle is 0x100 and the entry's number in the package (11 R214).
  let kindOf (j : JoinOb) : Nat × Nat × Nat :=
    match j.kind with
    | .ladle y c => (1, y, c)
    | .matrix y e => (2, y, e)
    | .kv y => (3, y, 0)
    | .mould d e => (4, d * 32, 256 + d * 64 + e)
    | .migration y => (5, y, 0)
  let kinds := (joins.map kindOf).dedup
  let fr := match sl.resume, sl.block with
    | some r, none =>
      -- Between a return and the fetch of its block: what was read back is saved again.
      frameBytes sl { b with fired := r.fired, tokens := r.tokens.foldl (fun m t => Smap.insert m (t.1 * 3 + t.2.1) t.2.2) [],
                             replay := r.replay, held := r.held, stores := r.stores, regw := r.regw,
                             exit := if r.exitSel then some (0xFF, .goto r.succ) else none }
        0 0 0 r.mode r.resIdx sl.imp sl.impOverflow
    | _, _ => frameBytes sl b 0 0 0 mode res sl.imp sl.impOverflow
  pad 0x3000 fr ++ (List.range 64).flatMap (fun i => bytesOf 8 (sl.reg i).toNat) ++
    [sl.taskrec.toNat, sl.launchid.toNat, sl.taskidx.toNat, groupsWord sl.groups, sl.est.toNat, sl.frame.toNat, sl.arg.toNat,
      sl.ctxid.toNat, sl.trapcause.toNat, sl.trapframe.toNat, sl.wCount, sl.tCount].flatMap (bytesOf 8) ++
    pad 32 [] ++
    pad 2048 ((kinds.take 128).flatMap (fun x =>
      bytesOf 1 x.1 ++ bytesOf 1 x.2.1 ++ bytesOf 2 x.2.2 ++
        bytesOf 4 (joins.filter (fun j => kindOf j == x && !j.done)).length ++ bytesOf 8 0)) ++
    List.replicate 0x580 0

/-- What a task's image has no room for: how its block was reached, the exit chosen, the groups captured, the generation fixed. -/
def Slot.keep (sl : Slot) (t : Task) : Task :=
  match sl.block, sl.resume with
  | some b, _ =>
    { t with
      arrival := if b.handler then .fromHandler else .normal
      exitKept := b.exit.map (fun e => (b.succOf e.2, e))
      grps := (b.held ++ b.replay ++ b.reads.map (fun r => r.cap)).map (fun c => (c.idx, c.grp))
      fixedGen := b.fixedGen
      framed := sl.framed }
  | none, some r =>
    if r.image then { t with arrival := sl.arrival }
    else { t with arrival := sl.arrival, exitKept := sl.framed, grps := [], fixedGen := none, framed := sl.framed }
  | none, none => { t with arrival := sl.arrival, exitKept := none, grps := [], fixedGen := none, framed := sl.framed }

/-- Write a task's image, through the translation taken before, and free its slot, which keeps what it is freed for (R363, steps 1
to 3). What is spoilt in the slot is spoilt in the image, an operand with the frame's header (R371). -/
def State.saveTask (s : State) (k img pa : Nat) : State :=
  let sl := s.slot k
  match sl.task with
  | none => s
  | some t =>
    let s := (s.touchRun (k / 256) pa 0x4000 true).storeRun (.task t.uid) pa (imageBytes sl (Smap.getD s.joins [] t.uid))
    let spoilt := (sl.badRegs.map (fun g => (pa + (if g < 64 then 0x3000 + 8 * g else 0)) / 8)).filter (fun g => !s.poison.contains g)
    { s.setSlot k { Slot.reset with stopped := sl.stopped, claim := sl.claim } with
      parked := Smap.insert s.parked img (sl.keep t), poison := s.poison ++ spoilt.dedup }

/-- The queue entry of a saved image: in class 3 at the record's level, with the record's affinity (R265-R267; R363, step 4). -/
def State.imageEntry (s : State) (img : Nat) (t : Task) : QEntry :=
  let flags := t.flags.toNat
  { (recordEntry img t.launch t.qLevel 3 (bitsOf flags 5 4) (bitsOf flags 12 6) (s.past (.task t.uid))) with
    image := true, member := t.gang, place := t.place }

/-- Queue a saved image (R363, step 4): a release at package scope of the task's state. -/
def State.pushImage (s : State) (d img : Nat) : State :=
  match Smap.find s.parked img with
  | none => s
  | some t =>
    let e := s.imageEntry img t
    s.requeue (pushPlace d e.affKind e.affTgt).1 false e

/-- An image is popped: its task is bound, and will be restored when its block is fetched (01 R25). -/
def State.bindImage (s : State) (k d : Nat) (e : QEntry) (gang : Option Nat) : State :=
  match Smap.find s.parked e.addr.toNat with
  | none => s
  | some t =>
    let s := s.observe (k / 256) (.task t.uid) e.deps
    ({ s with seats := Smap.insert s.seats t.uid k } : State).setSlot k { Slot.reset with
      status := .bound
      task := some { t with qDie := d, qLevel := e.level, qClass := e.cls, gang := gang.orElse (fun _ => e.member), place := e.place,
                            boundAt := s.tick }
      taskrec := BitVec.ofNat 64 t.record.toNat
      launchid := BitVec.ofNat 12 t.launch
      ctxid := (s.launch t.launch).context
      popped := some (d, e) }

/-- Restore the image that is bound in a slot (R363): the counts of its cycles go on from the pop, EST down and W and T up (05 R82; 19
R368). One that cannot be read stays held, its cause queued to the system context, and the
slot is free. -/
def State.restoreImage (s : State) (k : Nat) (t : Task) (e : QEntry) : State :=
  let p : Party := .task t.uid
  let dk := k / 256
  let img := e.addr.toNat
  let s := s.observe dk p (e.deps ++ s.past p)
  let fail (s : State) (c : Byte) : State :=
    (s.schedFault dk c 0 img t.launch).setSlot k { Slot.reset with stopped := (s.slot k).stopped }
  match s.deviceAddr dk img with
  | (.error c, s) => fail s c
  | (.ok pa, s) =>
    if s.lost pa || s.poisoned pa 0x4000 then fail s cUncorrectable
    else
      let r := (s.touchRun dk pa 0x4000 false).loadRun dk p pa 0x4000
      let bs := r.1
      let s := r.2
      let w (o : Nat) : Word := BitVec.ofNat 64 (field bs o 8)
      let gs := ((List.range 4).map (fun i => field bs (0x3218 + i) 1)).filter (fun g => g != 0xFF)
      let nimp := field bs 28 1
      let o5 := frameLen bs - 32 * nimp
      let imps : List ImpRec := (entries bs o5 32 nimp).map (fun e =>
        { cause := BitVec.ofNat 8 (field e 0 1), source := BitVec.ofNat 8 (field e 1 1), flags := BitVec.ofNat 8 (field e 2 1 % 4),
          ctx := BitVec.ofNat 6 (field e 3 1), owner := some k, count := BitVec.ofNat 16 (field e 6 2),
          addr := BitVec.ofNat 64 (field e 8 8), d1 := BitVec.ofNat 64 (field e 16 8), d2 := BitVec.ofNat 64 (field e 24 8) })
      let late := (Smap.getD s.lateImp [] t.uid).map (fun q => { q with owner := some k })
      let held := late.foldl (fun (acc : List ImpRec × Bool) r => ((addImp acc.1 r).1, acc.2 || (addImp acc.1 r).2))
        (imps, bitsOf (field bs 20 1) 4 4 = 1 || s.lateOver.contains t.uid)
      let f := parseFrame bs true
      let empty := f.fired = 0 && !f.exitSel && f.mode = 0 && f.tokens.isEmpty
      let s := s.setSlot k { Slot.reset with
        stopped := (s.slot k).stopped
        regs := (List.range 64).foldl (fun m i => if i = 0 then m else Smap.put m 0 i (w (0x3000 + 8 * i))) []
        pc := (w 0).truncate 56
        arrival := t.arrival
        status := .running
        task := some t
        taskrec := w 0x3200
        launchid := (w 0x3208).truncate 12
        taskidx := (w 0x3210).truncate 32
        groups := gs.filterMap (fun g => (s.groupDie (field bs 0x3208 8 % 4096) g).map (fun y => (g, y)))
        est := BitVec.ofNat 64 (field bs 0x3220 8 - (s.slot k).tCount)
        frame := w 0x3228
        arg := w 0x3230
        ctxid := (w 0x3238).truncate 6
        trapcause := keep 30 (w 0x3240)
        trapframe := (w 0x3248).truncate 56 &&& ~~~0x3F
        wCount := field bs 0x3250 8 + (s.slot k).wCount
        tCount := field bs 0x3258 8 + (s.slot k).tCount
        imp := held.1
        impOverflow := held.2
        framed := t.framed
        resume := if empty then none else some f }
      let s := { s with parked := Smap.erase s.parked img, lateImp := Smap.put s.lateImp [] t.uid []
                        lateOver := s.lateOver.filter (fun u => u != t.uid) }
      if s.areaImages.contains img then { s with areaImages := s.areaImages.filter (fun i => i != img) } else s.returnImage dk img

/-- The place of an entry in a die's queue. -/
def State.placeOf (s : State) (e : QEntry) : Option (Nat × Nat) :=
  [0, 1, 2, 3].findSome? (fun d => ((s.die d).queue.findIdx? (fun f => f.same e)).map (fun i => (d, i)))

/-- What an idle slot pops: the newcomer a pre-emption freed it for, while that waits (R292), or the selection of R267. -/
def State.popChoice (s : State) (slot : Nat) : Option (Nat × Nat) :=
  match (s.slot slot).claim.bind s.placeOf with
  | some p => some p
  | none => s.select (slot / 8)

/-- TASK_POP (R267, R264): an idle slot takes its selection; a gang is placed by GANG_PLACE alone, and keeps its slots. -/
def execTaskPop (slot : Nat) (s : State) : Out :=
  if !s.idleSlot slot then .next s
  else match s.popChoice slot with
    | none => .next s
    | some (d, i) =>
      match (s.die d).queue[i]? with
      | none => .next s
      | some e =>
        if e.gang.isSome then .next s
        else
          let s := s.dequeue d i
          .next (if e.image then s.bindImage slot d e none else s.bindRecord slot d e none none)

/-- GANG_PLACE (R279): a gang that is the selection of every bay of its rectangle, with a slot idle in each, is placed whole. A bay's L1 is in
the fusion of the gang placed there last, and leaves an earlier one's (09 R134; DESIGN CHOICE, log entry 122). -/
def execGangPlace (die : Nat) (s : State) : Out :=
  let ready := (List.range (s.die die).queue.length).findSome? (fun i =>
    match (s.die die).queue[i]? with
    | none => none
    | some e =>
      match e.gang.bind (s.gangOf die) with
      | none => none
      | some g =>
        match s.gangRect die g with
        | none => none
        | some o =>
          let bays := rectBays die o g.w g.h
          if bays.all (fun b => s.selectFrom die b false = some i && (s.idleIn b).isSome) then some (i, e, g, o) else none)
  match ready with
  | none => .next s
  | some (i, e, g, o) =>
    let bays := rectBays die o g.w g.h
    let s := s.dequeue die i
    let s := s.modDie die (fun x => { x with gangs := x.gangs.map (fun q => if q.id == g.id then { q with placed := some o } else q) })
    let s := g.members.foldl (fun s m =>
      let m := { m with deps := m.deps ++ e.deps, level := e.level, cls := e.cls }
      match s.idleIn (bays.getD m.place 0) with
      | some k => if m.image then s.bindImage k die m (some g.id) else s.bindRecord k die m (some g.id) g.group
      | none => s) s
    .next (if g.fuse && s.dies.any (fun d => d.2.gangs.any (fun q => q.id == g.id)) then
      let s := { s with bays := s.bays.map (fun (e : Nat × Bay) => (e.1, if e.2.fused == some g.id then { e.2 with fused := none } else e.2)) }
      bays.foldl (fun s b => s.modBay b (fun y => { y with fused := some g.id, l1 := [] })) s
    else s)

/-! ### Retirement and yield (R289, 07 R113) -/

/-- A task leaves its join list behind: faults held in it are queued to its context, and what completes later is queued then
(13 R238, R251; 19 R350). -/
def State.dropJoins (s : State) (d uid : Nat) : State :=
  let s := (Smap.getD s.joins [] uid).foldl (fun s j => j.faults.foldl (fun s r =>
    s.pushFault d (.op j.op) { r with owner := s.ownerOf uid (.op j.op) }) s) s
  { s with joins := Smap.put s.joins [] uid [] }
/-- The task of a slot retires: its launch counts it, its accesses are released, its slot is free (R274, R289). -/
def State.retireTask (s : State) (k : Nat) : State :=
  let sl := s.slot k
  match sl.task with
  | none => s
  | some t =>
    let deps := s.past (.task t.uid)
    let s := s.modLaunch t.launch (fun l => { l with unretired := l.unretired - 1, deps := (l.deps ++ deps).dedup })
    let s := (s.flushImp k).dropJoins (k / 256) t.uid
    (s.setSlot k { Slot.reset with stopped := sl.stopped, claim := sl.claim }).memberGone? t.gang

/-- Operations the exit or yield join covers: all that were forked without DETACH and are joined at exit (07 R112). -/
def State.joinDone (s : State) (uid : Nat) : Bool :=
  (Smap.getD s.joins [] uid).all (fun j => j.done || !j.atExit)

/-- Observe the completion of operations of a slot's task: their accesses are acquired, their faults are recorded, and they
leave the join list (09 R162; 13 R251). A progress event (19 R368). -/
def State.observeOps (s : State) (k : Nat) (which : JoinOb → Bool) : State :=
  let uid := (s.slot k).uid
  let l := Smap.getD s.joins [] uid
  let fin := l.filter (fun j => which j && j.done)
  if fin.isEmpty then s
  else
    let s := { s with joins := Smap.put s.joins [] uid (l.filter (fun j => !(which j && j.done))) }
    let s := fin.foldl (fun s j =>
      let s := s.observe (k / 256) (.task uid) (s.past (.op j.op))
      let s := j.faults.foldl (fun s r => s.recordImp (k / 256) uid (.op j.op) r) s
      if j.overflow then s.modSlot k (fun sl => { sl with impOverflow := true }) else s) s
    s.progress k

/-- The exit join of a slot has completed: records are delivered, or the task retires (R289; 19 R352). -/
def State.finishExit (s : State) (k : Nat) : State :=
  let s := s.observeOps k (fun j => j.atExit)
  match (s.slot k).imp, (s.slot k).block with
  | _ :: _, some b => s.reportAt k { b with handler := false } 2 0x80
  | _, _ => s.retireTask k

/-- TASK_RETIRE (R289): the exit join of a task completes. -/
def execTaskRetire (slot : Nat) (s : State) : Out :=
  if (s.slot slot).status != .exitJoin || !s.joinDone (s.slot slot).uid then .next s else .next (s.finishExit slot)

/-- The rewrite and the push of a yield (07 R113, steps 2 to 4). A fault freezes the task, its cause queued. -/
def State.yieldPush (s : State) (k : Nat) : State :=
  let sl := s.slot k
  match sl.task, sl.block with
  | some t, some b =>
    if s.queueFull t.qDie t.qLevel t.qClass then s
    else match s.writeTask k sl.taskrec.toNat (bytesOf 8 b.link.toNat ++ bytesOf 8 sl.frame.toNat) with
      | .wait => s
      | .bad c s =>
        let s := s.modSlot k (fun sl => { sl with status := .frozen true })
        s.pushFault (k / 256) (.task t.uid)
          { impRec c 6 sl.ctxid sl.taskrec.toNat t.launch 0 with flags := 2, owner := some k }
      | .ok s =>
        let flags := t.flags.toNat
        let s := s.enqueue t.qDie { (recordEntry sl.taskrec.toNat t.launch t.qLevel t.qClass (bitsOf flags 5 4) (bitsOf flags 12 6)
          (s.past (.task t.uid))) with member := t.gang, place := t.place }
        let s := s.dropJoins (k / 256) t.uid
        s.setSlot k { Slot.reset with stopped := sl.stopped, claim := sl.claim }
  | _, _ => s

/-- The yield join of a slot has completed. -/
def State.finishYield (s : State) (k : Nat) : State :=
  let s := s.observeOps k (fun j => j.atExit)
  match (s.slot k).imp, (s.slot k).block with
  | _ :: _, some b => s.reportAt k { b with handler := false } 2 0x80
  | _, _ => s.yieldPush k

/-- YIELD_REQUEUE (07 R113): a yield join completes, the record is rewritten and pushed. -/
def execYieldRequeue (slot : Nat) (s : State) : Out :=
  if (s.slot slot).status != .yieldJoin || !s.joinDone (s.slot slot).uid then .next s else .next (s.finishYield slot)

/-! ### Spawning and joining (R286, R287) -/

/-- Fire check of a record address: aligned to 32, translated, which no window address is, readable and writable. -/
def State.recordCheck (s : State) (k va : Nat) : Option Byte × State :=
  if va % 32 != 0 || 2 ^ 56 ≤ va then (some cAlign, s)
  else if isWindow va then (some cPageAbsent, s)
  else match s.resolve (s.agent k) va { wantAtomic 8 with atomic := false, wordOk := false } with
    | (.error c, s) => (some c, s)
    | (.ok _, s) => (none, s)

/-- SPAWN (R286). -/
def execSpawn (p : BitVec 2) (t : BitVec 9) (l _ : BitVec 7) (s : State) : Out :=
  fireHeld (formL p l) t.toNat (fun x s => s.recordCheck x.slot x.cap.l.toNat) s

/-- The zero fields of FLAGS (R263). -/
def flagsOk (flags : Nat) : Bool :=
  let kind := bitsOf flags 5 4
  let tgt := bitsOf flags 12 6
  flags < 8192 && (kind != 0 || tgt = 0) && (kind != 1 || tgt % 32 = 0)

/-- What submitting a record comes to. -/
inductive Submit where
  | pushed (s : State)
  | waits
  | joinOpen (s : State)
  | bad (cause : Byte) (s : State)
  deriving DecidableEq, Repr

/-- Read a record and push it when its JOIN is 0, under R286's checks (R266, R269, R274). -/
def State.submit (s : State) (k idx va : Nat) : Submit :=
  match s.readTask k idx va 32 with
  | (.error c, s) => .bad c s
  | (.ok bs, s) =>
    let sl := s.slot k
    let n := sl.launchid.toNat
    let flags := field bs 22 2
    if field bs 20 2 != n || !flagsOk flags then .bad cIllegalForm s
    else if field bs 16 4 != 0 then .joinOpen s
    else
      let level := (s.launch n).prio
      let place := pushPlace (k / 256) (bitsOf flags 5 4) (bitsOf flags 12 6)
      if s.queueFull place.1 level place.2 then .waits
      else
        let s := s.enqueue place.1 (recordEntry va n level place.2 (bitsOf flags 5 4) (bitsOf flags 12 6) (s.past (.task sl.uid)))
        .pushed ((s.countTasks n 1 0).progress k)

/-- SPAWN in step 3 (R286). -/
def commitSpawn (s : State) (k : Nat) (c : Capture) : Perf :=
  match s.submit k c.idx c.l.toNat with
  | .pushed s => .done s 1
  | .waits => .stall
  | .joinOpen s => .done s 0
  | .bad e s => .done (s.commitFault k c.idx e) 0

/-- JOINDEC (R287). -/
def execJoindec (p : BitVec 2) (t : BitVec 9) (l r : BitVec 7) (s : State) : Out :=
  fireHeld (formR p l r) t.toNat (fun x s =>
    match s.recordCheck x.slot x.cap.l.toNat with
    | (some c, s) => (some c, s)
    | (none, s) => (if x.cap.r.toNat = 0 || 2 ^ 32 ≤ x.cap.r.toNat then some cIllegalForm else none, s)) s

/-- JOINDEC in step 3 (R287): an acq_rel update of JOIN; the decrement that leaves 0 pushes the record. Its target on a fault
is not stated: free (log entry 16). -/
def commitJoindec (s : State) (k : Nat) (c : Capture) : Perf :=
  let a := s.agent k
  let va := c.l.toNat + 16
  match s.resolve a va { wantAtomic 4 with atomic := false, wordOk := false } with
  | (.error e, s) => .done (s.commitFault k c.idx e) (Config.freeWord s.tick 0)
  | (.ok p, s) =>
    if s.writeWaits p || s.readWaits p then .stall
    else if s.placeBad p 4 then .done (s.commitFault k c.idx cUncorrectable) (Config.freeWord s.tick 0)
    else
      let old := s.readPlace a va p 4 true
      if old.1 < c.r.toNat then .done (old.2.commitFault k c.idx cIllegalForm) (Config.freeWord s.tick 0)
      else
        let left := old.1 - c.r.toNat
        let s := old.2.writePlace a va p 4 left (old.2.releaseDeps a.party a.die 3) true
        if left != 0 then .done s (BitVec.ofNat 64 left)
        else match s.submit k c.idx c.l.toNat with
          | .pushed s => .done s 0
          | .waits => .stall
          | .joinOpen s => .done s 0
          | .bad e s => .done (s.commitFault k c.idx e) 0

/-! ### Gangs (R280) -/

/-- GANG (R280): the group operand is checked at fire; GRP with group 255, which is out of the field's range, is ILLEGAL_FORM as a shape out of
range is (DESIGN CHOICE, log entry 128). -/
def execGang (p : BitVec 2) (t : BitVec 9) (l r : BitVec 7) (s : State) : Out :=
  fireHeld { formRg p l r with r := .unused } t.toNat (fun x s =>
    let g (i : Nat) : Nat := (x.cap.grp.getD i 0).toNat
    let w := bitsOf (g 1) 3 0
    let h := bitsOf (g 1) 7 4
    let bad := 2 ^ 22 ≤ g 1 || bitsOf (g 1) 15 9 != 0 || w = 0 || 8 < w || h = 0 || 4 < h || w * h < 2 || 16 < w * h ||
      2 ^ 9 ≤ g 2 || g 3 != 0 || (bitsOf (g 2) 8 8 = 1 && bitsOf (g 2) 7 0 = 255) ||
      (bitsOf (g 1) 21 21 = 0 && !rectFits (bitsOf (g 1) 20 16) w h)
    (if bad then some cIllegalForm else if g 0 % 32 != 0 || 2 ^ 56 ≤ g 0 then some cAlign else none, s)) s

/-- GANG in step 3 (R280). -/
def commitGang (s : State) (k : Nat) (c : Capture) : Perf :=
  let g (i : Nat) : Nat := (c.grp.getD i 0).toNat
  let sl := s.slot k
  let d := k / 256
  let n := sl.launchid.toNat
  let l := s.launch n
  let w := bitsOf (g 1) 3 0
  let h := bitsOf (g 1) 7 4
  let grp := if bitsOf (g 2) 8 8 = 1 then some (bitsOf (g 2) 7 0) else none
  if s.queueFull d l.prio 2 then .stall
  else
    let groupBad := match grp with
      | none => false
      | some q =>
        s.groupDie n q != some d ||
          (List.range (w * h)).any (fun i => 4 < (l.groupNums (l.taskIndex (g 0 + 32 * i)) (some q)).length)
    let read := (List.range (w * h)).foldl (fun (acc : Option Byte × State) i =>
      match acc.1 with
      | some _ => acc
      | none =>
        match acc.2.readTask k c.idx (g 0 + 32 * i) 32 with
        | (.error e, s) => (some e, s)
        | (.ok bs, s) => (if field bs 20 2 = n && field bs 16 4 = 0 then none else some cGroupInvalid, s)) (none, s)
    match read with
    | (some e, s) => .done (s.commitFault k c.idx e) 0
    | (none, s) =>
      if groupBad then .done (s.commitFault k c.idx cGroupInvalid) 0
      else
        let id := s.nextUid
        let deps := s.past (.task sl.uid)
        let gang : Gang :=
          { id := id, launch := n, w := w, h := h, origin := if bitsOf (g 1) 21 21 = 1 then none else some (bitsOf (g 1) 20 16),
            placed := none, fuse := bitsOf (g 1) 8 8 = 1,
            members := (List.range (w * h)).map (fun i => { (recordEntry (g 0 + 32 * i) n l.prio 2 0 0 []) with place := i }), group := grp,
            left := w * h }
        let s := { s with nextUid := id + 1 }
        let s := s.modDie d (fun x => { x with gangs := x.gangs ++ [gang] })
        let s := s.enqueue d { (recordEntry 0 n l.prio 2 0 0 deps) with gang := some id }
        .done ((s.countTasks n (w * h) 0).progress k) 0

/-! ### Rendezvous (R282-R285) -/

def rvGroup (l : Nat) : Nat := bitsOf l 7 0
def rvPoint (l : Nat) : Nat := bitsOf l 12 8

/-- The die on which a member finds its group. -/
def Slot.groupHome (sl : Slot) (g : Nat) : Option Nat := (sl.groups.find? (fun e => e.1 = g)).map (fun e => e.2)

def RvPoint.reset : RvPoint := { expect := 0, arrived := 0, phase := 0, deps := [] }

/-- The point an operand names. -/
def State.rvAt (s : State) (d l : Nat) : RvPoint :=
  match Smap.find (s.die d).groups (rvGroup l) with
  | some g => Smap.getD g.points RvPoint.reset (rvPoint l)
  | none => RvPoint.reset

def State.setRv (s : State) (d l : Nat) (v : RvPoint) : State :=
  s.modDie d (fun x => match Smap.find x.groups (rvGroup l) with
    | some g => { x with groups := Smap.insert x.groups (rvGroup l) { g with points := Smap.put g.points RvPoint.reset (rvPoint l) v } }
    | none => x)

/-- The fire checks of RVINIT, ARRIVE and WAIT, in order (R282). -/
def State.rvCheck (s : State) (k l : Nat) (needsExpect : Bool) : Option Byte :=
  if 2 ^ 13 ≤ l then some cIllegalForm
  else if rvGroup l = 0xFF || 23 < rvPoint l then some cRvInvalid
  else match (s.slot k).groupHome (rvGroup l) with
    | none => some cRvInvalid
    | some d => if needsExpect && (s.rvAt d l).expect = 0 then some cRvInvalid else none

/-- RVINIT (R283). -/
def execRvinit (p : BitVec 2) (t : BitVec 9) (l r : BitVec 7) (s : State) : Out :=
  fireHeld (formR p l r) t.toNat (fun x s =>
    match s.rvCheck x.slot x.cap.l.toNat false with
    | some c => (some c, s)
    | none => (if x.cap.r.toNat = 0 || 65535 < x.cap.r.toNat then some cIllegalForm else none, s)) s

def commitRvinit (s : State) (k : Nat) (c : Capture) : Perf :=
  let l := c.l.toNat
  match (s.slot k).groupHome (rvGroup l) with
  | none => .done s (Config.freeWord s.tick 0)
  | some d =>
    let v := s.rvAt d l
    let v := if v.expect = 0 then { v with expect := c.r.truncate 16 } else v
    .done (s.setRv d l v) (v.expect.zeroExtend 64)

/-- ARRIVE (R284). -/
def execArrive (p : BitVec 2) (t : BitVec 9) (l _ : BitVec 7) (s : State) : Out :=
  fireHeld (formL p l) t.toNat (fun x s => (s.rvCheck x.slot x.cap.l.toNat true, s)) s

def commitArrive (s : State) (k : Nat) (c : Capture) : Perf :=
  let l := c.l.toNat
  match (s.slot k).groupHome (rvGroup l) with
  | none => .done s (Config.freeWord s.tick 0)
  | some d =>
    let v := s.rvAt d l
    let v := { v with arrived := v.arrived + 1, deps := (v.deps ++ s.past (.task (s.slot k).uid)).dedup }
    let result := v.phase + 1
    let v := if v.arrived = v.expect then { v with arrived := 0, phase := v.phase + 1 } else v
    .done ((s.setRv d l v).progress k) (result.zeroExtend 64)

/-- WAIT (R285). -/
def execWait (p : BitVec 2) (l r : BitVec 7) (s : State) : Out :=
  fireHeld (formR p l r) 0x1C0 (fun x s =>
    match s.rvCheck x.slot x.cap.l.toNat true with
    | some c => (some c, s)
    | none => (if 65536 ≤ x.cap.r.toNat then some cIllegalForm else none, s)) s

/-- WAIT in step 4: complete when the point has reached the phase; an acquire of its arrivals. -/
def waitWait (s : State) (k : Nat) (c : Capture) : Waited :=
  let l := c.l.toNat
  match (s.slot k).groupHome (rvGroup l) with
  | none => .done s
  | some d =>
    let v := s.rvAt d l
    if (v.phase - c.r.truncate 16).toNat < 2 ^ 15 then .done (s.observe (k / 256) (.task (s.slot k).uid) v.deps)
    else .pending s

/-! ### EST and PROGRESS (R288) -/

/-- EST (R288). -/
def execEst (p : BitVec 2) (t : BitVec 9) (l r : BitVec 7) (s : State) : Out :=
  fireHeld (formR p l r) t.toNat (fun x s => (if 2 ≤ x.cap.r.toNat then some cIllegalForm else none, s)) s

def commitEst (s : State) (k : Nat) (c : Capture) : Perf :=
  let sl := s.slot k
  let s := s.modSlot k (fun sl => { sl with est := c.l })
  let s := if c.r.toNat % 2 = 1 then s.modLaunch sl.launchid.toNat (fun l => { l with estOverride := some c.l }) else s
  .done s sl.est

/-- PROGRESS (R288). -/
def execProgress (p : BitVec 2) (t : BitVec 9) (_ _ : BitVec 7) (s : State) : Out :=
  fireHeld (formNone p) t.toNat (fun _ s => (none, s)) s

def commitProgress (s : State) (k : Nat) (_ : Capture) : Perf := .done (s.progress k) 0

/-! ### Leaving a slot before its end (R292; 01 R25) -/

/-- A bound task goes back to the head of its queue, with its record or image unchanged (01 R25, R292). -/
def State.unbind (s : State) (k : Nat) : State :=
  let sl := s.slot k
  match sl.popped with
  | none => s
  | some (d, e) => (s.setSlot k { Slot.reset with stopped := sl.stopped, claim := sl.claim }).requeue d true e

/-- The requeue entry of a killed task: its record, in class 3 (R292). -/
def Task.killEntry (t : Task) : QEntry :=
  let flags := t.flags.toNat
  { (recordEntry t.record.toNat t.launch t.qLevel 3 (bitsOf flags 5 4) (bitsOf flags 12 6) []) with member := t.gang, place := t.place }

/-- Free the slot of a killed task: the block is discarded, the records held go to the queue of its context, and its forked operations
report there (R78; 19 R350). -/
def State.killSlot (s : State) (k : Nat) : State :=
  let sl := s.slot k
  ((s.flushImp k).dropJoins (k / 256) sl.uid).setSlot k { Slot.reset with stopped := sl.stopped, claim := sl.claim }

/-- Members of a slot's gang that hold slots, or the slot alone. -/
def State.together (s : State) (k : Nat) : List Nat :=
  match (s.slot k).task.bind (fun t => t.gang) with
  | none => [k]
  | some g => (s.slots.filter (fun e => (e.2.task.bind (fun t => t.gang)) == some g)).map (fun e => e.1)

/-- Requeue a gang whole, with what its members have become, at the head or the tail of a class (R292). -/
def State.requeueGang (s : State) (g : Nat) (members : List QEntry) (level cls : Nat) (front : Bool) : State :=
  match [0, 1, 2, 3].find? (fun d => (s.gangOf d g).isSome), [0, 1, 2, 3].findSome? (fun d => s.gangOf d g) with
  | some d, some x =>
    let s := s.modDie d (fun y => { y with gangs := y.gangs.map (fun q => if q.id == g then { q with members := members, placed := none } else q) })
    s.requeue d front { (recordEntry 0 x.launch level cls 0 0 (members.flatMap (fun m => m.deps))) with gang := some g }
  | _, _ => s

end Sys2Proof.Machine
end

