-- ==== Sys2Proof/Machine/Launch.lean ====
section
/-! DEFINITION. Launches, graphs and triggers (15 R270-R281), and the control node's dispatch commands (21 R391). -/

namespace Sys2Proof.Machine

/-! ### The dependence table (R270, R276) -/

/-- The sixteen words of entry n. -/
def State.entryWords (s : State) (n : Nat) : List Word := (List.range 16).map (fun i => Smap.getD s.sched 0 (16 * n + i))

/-- A graph table entry: valid, N and FIRST. -/
def State.graphEntry (s : State) (g : Nat) : Bool × Nat × Nat :=
  let w := (Smap.getD s.sched 0 (0x10000 + g)).toNat
  let n := bitsOf w 28 16
  let f := bitsOf w 11 0
  (bitsOf w 63 63 = 1 && 1 ≤ n && n ≤ 4096 && f + n ≤ 4096, n, f)

def overlapRuns (f n g m : Nat) : Bool := f < g + m && g < f + n

/-! ### Triggers (R277, R278) -/

/-- Read n bytes for a trigger: as loads of a task (its slot and the instruction's index), or of the device under D0's table. -/
def State.triggerRead (s : State) (by_ : Option (Nat × Nat)) (va n : Nat) : Except Byte (List Byte) × State :=
  match by_ with
  | some k => s.readTask k.1 k.2 va n
  | none =>
    (List.range ((n + 7) / 8)).foldl (fun acc i =>
      match acc with
      | (.error c, s) => (.error c, s)
      | (.ok bs, s) =>
        match s.deviceLoad 0 (va + 8 * i) 8 with
        | (.error c, s) => (.error c, s)
        | (.ok v, s) => (.ok (bs ++ bytesOf (min 8 (n - 8 * i)) v), s)) (.ok [], s)

/-- The patch records of a list, or none when the list fails its check. -/
def patchesOf (bs : List Byte) (c n : Nat) : Option (List (Nat × Nat × Word)) :=
  (List.range c).foldl (fun acc i =>
    match acc with
    | none => none
    | some l =>
      let r := (bs.drop (16 * i)).take 16
      let launch := field r 0 2
      let off := field r 2 1
      if launch < n && off % 8 = 0 && off ≤ 120 && field r 3 5 = 0 then
        some (l ++ [(launch, off, BitVec.ofNat 64 (field r 8 8))])
      else none) (some [])

/-- Make a trigger: its status (0 accepted, 1 busy, 2 refused) is kept in the status register (R276, R277). -/
def State.trigger (s : State) (value patch : Nat) (by_ : Option (Nat × Nat)) (deps : List Nat) : State :=
  let refuse (s : State) : State := { s with trigStatus := 2 }
  let g := s.graphEntry value
  if 256 ≤ value || !g.1 then refuse s
  else
    let n := g.2.1
    let f := g.2.2
    let accept (s : State) (ps : List (Nat × Nat × Word)) : State :=
      if 4 ≤ (s.runs.filter (fun r => !r.running && overlapRuns r.first r.count f n)).length then { s with trigStatus := 1 }
      else { s with
        trigStatus := 0
        runs := s.runs ++ [{ graph := value, first := f, count := n, patches := ps, running := false, id := s.nextRun, deps := deps }]
        nextRun := s.nextRun + 1 }
    if patch = 0 then accept s []
    else if patch % 8 != 0 || 2 ^ 56 ≤ patch then refuse s
    else match s.triggerRead by_ patch 8 with
      | (.error _, s) => refuse s
      | (.ok h, s) =>
        let c := field h 0 8
        if 4096 < c then refuse s
        else match s.triggerRead by_ (patch + 8) (16 * c) with
          | (.error _, s) => refuse s
          | (.ok bs, s) => (match patchesOf bs c n with
            | none => refuse s
            | some ps => accept s ps)

/-- TRIGGER_REGISTER_WRITE (R276, R277): the trigger register is written, with the patch pointer as it stands. -/
def execTriggerRegisterWrite (value : BitVec 64) (s : State) : Out :=
  if s.startStep < 2 then .next s else .next (s.trigger value.toNat s.trigPatch.toNat none [])

/-- SPRUE_TRIGGER (21 R391): the control node's TRIGGER acts as a write of the trigger register. -/
def execSprueTrigger (value : BitVec 64) (s : State) : Out :=
  if s.startStep < 2 then .next s else .next (s.trigger value.toNat s.trigPatch.toNat none [])

/-- GRAPHGO (R278). -/
def execGraphgo (p : BitVec 2) (t : BitVec 9) (l r : BitVec 7) (s : State) : Out :=
  fireHeld (formR p l r) t.toNat (fun x s =>
    (if 256 ≤ x.cap.l.toNat then some cIllegalForm
     else if x.cap.r.toNat % 8 != 0 || 2 ^ 56 ≤ x.cap.r.toNat then some cAlign else none, s)) s

/-- GRAPHGO in step 3: the issuer's accesses are released at package scope; the target receives the status. -/
def commitGraphgo (s : State) (k : Nat) (c : Capture) : Perf :=
  let s := s.trigger c.l.toNat c.r.toNat (some (k, c.idx)) (s.past (s.agent k).party)
  .done s (s.trigStatus.zeroExtend 64)

/-! ### Runs (R277) -/

/-- Could a launch of a run in progress still act: opened and unfinished, or able to open? -/
def State.canProceed (s : State) (n : Nat) : Bool :=
  let l := s.launch n
  if l.failed then false
  else if l.started && !l.finished then true
  else if l.opened then false
  else l.unfinished = 0 && (let ip := launchField (s.entryWords n) 86 2
    ip = 0xFFFF || (s.launch (ip % 4096)).begun)

/-- Has a run come to its end (R277)? A loop launch that is open, or that can open, still acts (log entry 23). -/
def State.runOver (s : State) (r : GraphRun) : Bool :=
  let ns := (List.range r.count).map (fun i => r.first + i)
  let loop (n : Nat) : Bool := (s.launch n).policy 6
  r.running &&
    (ns.all (fun n => if loop n then (s.launch n).unretired = 0 && !s.canProceed n else (s.launch n).finished) ||
     (ns.any (fun n => (s.launch n).failed) && !ns.any s.canProceed))

/-- Drop the runs that are over. -/
def State.endRuns (s : State) : State := { s with runs := s.runs.filter (fun r => !s.runOver r) }

/-- GRAPH_RUN_START (R277): patches are written, and every launch's unfinished count is set to its PREDCNT. -/
def execGraphRunStart (run : Nat) (s : State) : Out :=
  let s := s.endRuns
  match s.runs.find? (fun r => r.id = run && !r.running) with
  | none => .next s
  | some r =>
    let before := s.runs.takeWhile (fun q => q.id != run)
    if s.runs.any (fun q => q.running && overlapRuns q.first q.count r.first r.count) ||
        before.any (fun q => overlapRuns q.first q.count r.first r.count) then .next s
    else
      let s := r.patches.foldl (fun s p =>
        { s with sched := Smap.put s.sched 0 (16 * (r.first + p.1) + p.2.1 / 8) p.2.2 }) s
      let s := (List.range r.count).foldl (fun s i =>
        let n := r.first + i
        let ws := s.entryWords n
        s.setLaunch n { LaunchRun.reset with unfinished := launchField ws 84 2, run := run, deps := r.deps, words := ws }) s
      .next { s with runs := s.runs.map (fun q => if q.id = run then { q with running := true } else q) }

/-! ### Opening (R271, R272) -/

/-- Dies in service that hold a bay, ascending (R266). -/
def State.servingDies (s : State) : List Nat := [0, 1, 2, 3].filter (fun d => s.dieUp d && (s.die d).capbays != 0)

/-- The die a launch's record i goes to (R266). -/
def State.releaseDie (s : State) (ws : List Word) (i : Nat) : Nat :=
  let kind := launchField ws 117 1
  let tgt := launchField ws 118 1
  let ds := s.servingDies
  if kind = 1 then tgt else if kind = 2 then tgt / 32 else ds.getD (i % max 1 ds.length) 0

/-- The task index of a gang's member (0, 0) that task i belongs to. -/
def LaunchRun.gangLead (l : LaunchRun) (i : Nat) : Nat :=
  let gw := launchField l.words 114 1
  let gh := launchField l.words 115 1
  if gw = 0 || gh = 0 then i
  else i / l.shapeX / gh * gh * l.shapeX + i % l.shapeX / gw * gw

/-- Fields of an entry in their ranges (R271, first row). -/
def entryOk (ws : List Word) : Bool :=
  let f := launchField ws
  let loop := f 113 1 / 64 % 2 = 1
  let kind := f 117 1
  f 123 5 = 0 && f 113 1 < 128 && f 112 1 < 16 && f 116 1 < 64 && kind ≤ 2 &&
  (kind != 0 || f 118 1 = 0) && (kind != 1 || f 118 1 ≤ 3) && (kind != 2 || f 118 1 ≤ 127) &&
  f 119 1 ≤ 4 && f 120 1 ≤ 4 && f 121 1 ≤ 4 && f 122 1 ≤ 8 && f 84 2 ≤ 4095 &&
  (f 86 2 = 0xFFFF || f 86 2 < 4096) && (List.range 8).all (fun i => f (96 + 2 * i) 2 < 8192) &&
  f 16 8 % 32 = 0 && f 16 8 < 2 ^ 56 &&
  (if loop then f 64 4 = 0 else 1 ≤ f 64 4 && f 64 4 ≤ 1048576 && f 64 4 = f 68 2 * f 70 2) &&
  (f 119 1 = 0 || f 86 2 != 0xFFFF)

/-- The gang shape is right (R271, second row). -/
def LaunchRun.gangOk (l : LaunchRun) : Bool :=
  let gw := launchField l.words 114 1
  let gh := launchField l.words 115 1
  (gw = 0 && gh = 0) ||
    (gw != 0 && gh != 0 && gw ≤ 8 && gh ≤ 4 && 2 ≤ gw * gh && gw * gh ≤ 16 && l.shapeX % gw = 0 && l.shapeY % gh = 0)

/-- The group specifications are right (R281). -/
def LaunchRun.groupsOk (l : LaunchRun) : Bool :=
  let n := launchField l.words 121 1
  let spec (k : Nat) : Nat := launchField l.words (88 + 2 * k) 2
  let local_ := launchField l.words 117 1 != 0
  (List.range n).all (fun k => spec k < 2048 && spec k / 256 % 8 ≤ 3 && (local_ || spec k / 256 % 8 = 1)) &&
  (List.range l.tasks).all (fun i =>
    let gs := (List.range n).filterMap (fun k => l.groupNum k i)
    gs.all (fun g => g ≤ 254) && gs.Nodup)

/-- All keys of a launch. -/
def LaunchRun.keys (l : LaunchRun) : List Nat :=
  (List.range l.tasks).flatMap (fun i => inputKeys l.words l.shapeX i ++ outputKeys l.words l.shapeX i)

/-- Translate under D0's table: the first address without a translation, or without write permission. -/
def State.checkAll (s : State) (l : List Nat) (f : State → Nat → Option Byte × State) : Option Byte × State :=
  l.foldl (fun acc x =>
    match acc.1 with
    | some _ => acc
    | none => f acc.2 x) (none, s)

/-- The checks of R271 on an entry as read, in the table's order. -/
def State.launchCheck (s : State) (l : LaunchRun) : Option Byte × State :=
  if !entryOk l.words then (some cIllegalForm, s)
  else if !l.gangOk then (some cGroupInvalid, s)
  else if !l.groupsOk then (some cGroupInvalid, s)
  else if !l.keys.all keyOk then (some cIllegalForm, s)
  else match s.checkAll l.keys (fun s key => match s.keyHome 0 key with
      | (.error _, s) => (some cPageAbsent, s)
      | (.ok _, s) => (none, s)) with
    | (some c, s) => (some c, s)
    | (none, s) =>
      s.checkAll ((List.range l.tasks).map l.recAddr) (fun s va => match s.walk 0 va with
        | (.error _, s) => (some cPageAbsent, s)
        | (.ok e, s) => (if (e.trans va).w then none else some cPageProtect, s))

/-- Groups a launch needs: number and die (R281). -/
def State.groupsWanted (s : State) (l : LaunchRun) : List (Nat × Nat) :=
  ((List.range l.tasks).flatMap (fun i =>
    (List.range (launchField l.words 121 1)).filterMap (fun k =>
      (l.groupNum k i).map (fun g => (g, s.releaseDie l.words (l.gangLead i)))))).dedup

/-- Declare a launch's output keys together, or find the launch coarse (R295). -/
def State.declareOutputs (s : State) (n : Nat) (l : LaunchRun) : State :=
  let keys := ((List.range l.tasks).flatMap (fun i => outputKeys l.words l.shapeX i)).dedup
  let homes := keys.map (fun key => (key, match (s.keyHome 0 key).1 with
    | .ok h => h
    | .error _ => 0))
  let fresh (d : Nat) : Nat := (homes.filter (fun e => e.2 = d && !isKvKey e.1 &&
    !(s.die d).hallmarks.any (fun h => h.key.toNat == e.1))).length
  let coarse := [0, 1, 2, 3].any (fun d => 16384 - (s.die d).hallmarks.length < fresh d)
  if coarse then
    (homes.foldl (fun s e => s.retireKey e.2 e.1) s).modLaunch n (fun l => { l with coarse := true })
  else homes.foldl (fun s e => (s.declareKey 0 e.2 e.1 n l.run).2) s

/-- Lower a successor's count: never below zero (R274). -/
def State.lower (s : State) (n : Nat) (deps : List Nat) : State :=
  s.modLaunch n (fun l => { l with unfinished := l.unfinished - 1, deps := (l.deps ++ deps).dedup })

/-- Take the successor edges of one kind; an EARLY edge to a launch whose INPROD is this one lowers no count (R274). -/
def State.takeEdges (s : State) (n : Nat) (l : LaunchRun) (early : Bool) : State :=
  (List.range (launchField l.words 122 1)).foldl (fun s i =>
    let e := launchField l.words (96 + 2 * i) 2
    let t := e % 4096
    if (e / 4096 % 2 = 1) != early then s
    else if early && launchField (s.entryWords t) 86 2 = n then s
    else s.lower t (if early then [] else l.deps)) s

/-- FLAGS of a released record (R270). -/
def releaseFlags (ws : List Word) : Nat :=
  let pol := launchField ws 113 1
  let kind := launchField ws 117 1
  let tgt := launchField ws 118 1
  pol % 2 + pol / 2 % 2 * 2 + pol / 8 % 2 * 4 + pol / 32 % 2 * 8 + kind * 16 +
    (if kind = 1 then tgt * 2 ^ 11 else if kind = 2 then tgt * 2 ^ 6 else 0)

/-- Write the record of task i (R272, step 5): false when the write met a fault. -/
def State.writeRecord (s : State) (n : Nat) (l : LaunchRun) (i : Nat) : Bool × State :=
  let va := l.recAddr i
  let base := launchField l.words 24 8 + (if l.policy 6 then 8 else 0)
  let arg := intBits 64 ((base : Int) + i * signedOf 64 (launchField l.words 32 8))
  let bs := bytesOf 8 (launchField l.words 0 8) ++ bytesOf 8 0 ++ bytesOf 4 0 ++ bytesOf 2 n ++
    bytesOf 2 (releaseFlags l.words) ++ bytesOf 8 arg
  match s.walk 0 va with
  | (.error c, s) => (false, s.schedFault 0 c 0 va n)
  | (.ok e, s) =>
    let t := e.trans va
    if !t.w then (false, s.schedFault 0 cPageProtect 0 va n)
    else if s.lost t.pa then (false, s.schedFault 0 cUncorrectable 0 va n)
    else (true, (s.touchRun 0 t.pa 32 true).storeRun (.device 0) t.pa bs)

/-- Is a key of a held task ready (R273)? -/
def State.keyReady (s : State) (prod : Nat) (key : Nat) : Bool :=
  (s.launch prod).finished ||
    (match (s.keyHome 0 key).1 with
      | .error _ => false
      | .ok home => match (s.hmLook 0 home key).1 with
        | some v => v.stamped && v.run = (s.launch prod).run
        | none => false)

/-- Writes that the readiness of a key releases. -/
def State.keyDeps (s : State) (prod : Nat) (key : Nat) : List Nat :=
  (if (s.launch prod).finished then (s.launch prod).deps else []) ++
    (match (s.keyHome 0 key).1 with
      | .error _ => []
      | .ok home => match (s.hmLook 0 home key).1 with
        | some v => if v.stamped then v.deps else []
        | none => [])

/-- The place of task i in the rectangle of its gang, by rows (R279). -/
def LaunchRun.gangPlace (l : LaunchRun) (i : Nat) : Nat :=
  let lead := l.gangLead i
  (i / l.shapeX - lead / l.shapeX) * launchField l.words 114 1 + (i % l.shapeX - lead % l.shapeX)

/-- Push a task or a gang of a launch (R266, R279), with what made its keys ready (R273): none when its queue is full. -/
def State.releaseUnit (s : State) (u : HeldUnit) : Option State :=
  let l := s.launch u.launch
  let kind := launchField l.words 117 1
  let tgt := launchField l.words 118 1
  let lead := l.gangLead (u.tasks.headD 0)
  let d := s.releaseDie l.words lead
  let deps := (l.deps ++ s.past (.device 0) ++ u.ready.flatMap (fun e => e.2)).dedup
  if s.queueFull d l.prio kind then none
  else
    match u.gangIdx with
    | none =>
      some (s.enqueue d (recordEntry (l.recAddr (u.tasks.headD 0)) u.launch l.prio kind kind (if kind = 1 then tgt * 32 else tgt) deps))
    | some _ =>
      let id := s.nextUid
      let gw := launchField l.words 114 1
      let gh := launchField l.words 115 1
      let g : Gang :=
        { id := id, launch := u.launch, w := gw, h := gh, origin := if kind = 2 then some (tgt % 32) else none, placed := none,
          fuse := l.policy 4, group := none, left := u.tasks.length
          members := u.tasks.map (fun i => { (recordEntry (l.recAddr i) u.launch l.prio kind 0 0 []) with place := l.gangPlace i }) }
      let s := { s with nextUid := id + 1 }
      let s := s.modDie d (fun x => { x with gangs := x.gangs ++ [g] })
      some (s.enqueue d { (recordEntry 0 u.launch l.prio kind kind tgt deps) with gang := some id })

/-- The units of a launch: its tasks, or its gangs, each with member (0, 0) first and its members by rows. -/
def LaunchRun.units (l : LaunchRun) (n : Nat) : List HeldUnit :=
  let gw := launchField l.words 114 1
  let gh := launchField l.words 115 1
  if gw = 0 then (List.range l.tasks).map (fun i => { launch := n, tasks := [i], gangIdx := none, ready := [], readyAt := none })
  else (List.range (l.tasks / (gw * gh))).map (fun j =>
    let gx := l.shapeX / gw
    let lead := j / gx * gh * l.shapeX + j % gx * gw
    { launch := n, gangIdx := some j, ready := [], readyAt := none
      tasks := (List.range gh).flatMap (fun y => (List.range gw).map (fun x => lead + y * l.shapeX + x)) })

/-- May a held unit be released: its keys are ready, and no unit of its launch that became ready before it, and goes to the same queue,
is held (R273)? -/
def State.unitTurn (s : State) (u : HeldUnit) : Bool :=
  let l := s.launch u.launch
  let die (v : HeldUnit) : Nat := s.releaseDie l.words (l.gangLead (v.tasks.headD 0))
  match u.readyAt with
  | none => false
  | some t => !s.heldUnits.any (fun v => v.launch = u.launch && v.readyAt.any (fun r => r < t) && die v = die u)

/-- Release a unit whose records have been written now if nothing holds it, otherwise hold it (R272, step 6; R273). -/
def State.releaseOrHold (s : State) (u : HeldUnit) : State :=
  let l := s.launch u.launch
  let s := s.countTasks u.launch u.tasks.length 0
  let u := u.gain l s.tick (((l.unitKeys u).filter (s.keyReady l.inprod)).map (fun key => (key, s.keyDeps l.inprod key)))
  let hold (s : State) : State := { s with heldUnits := s.heldUnits ++ [u] }
  if !s.unitTurn u then hold s
  else match s.releaseUnit u with
    | some s => s
    | none => hold s

/-- A launch fails: reported to the system context, it never finishes (R271). -/
def State.failLaunch (s : State) (n : Nat) (c : Byte) : State :=
  ((s.schedFault 0 c 0 (0x00FFFFFD00000000 + 128 * n) n).modLaunch n (fun l => { l with opened := true, failed := true })).endRuns

/-- Finish a launch (R274, R275). A loop launch of PREDCNT 0 opens once: no predecessor brings its count to zero again (log entry
23). -/
def State.finishLaunch (s : State) (n : Nat) : State :=
  let l := s.launch n
  let s := s.modLaunch n (fun l => { l with finished := true })
  let s := [0, 1, 2, 3].foldl (fun s d => s.modDie d (fun x => { x with groups := x.groups.filter (fun e => e.2.launch != n) })) s
  let s := (s.takeEdges n l false).prodFinished n l.deps
  (if l.policy 6 then
    s.modLaunch n (fun l => { l with
      opened := launchField l.words 84 2 = 0, checked := false, started := false, unfinished := launchField l.words 84 2 })
  else s).endRuns

/-- Open a launch that has been checked, once no group it needs belongs to another (R272, steps 2 to 6). A record whose write meets a fault
counts as released and retired at once, and no more (R271); of its gang the others are released. -/
def State.openChecked (s : State) (n : Nat) : State :=
  let l := s.launch n
  let want := s.groupsWanted l
  let taken := want.any (fun e => match Smap.find (s.die e.2).groups e.1 with
    | some g => g.launch != n
    | none => false)
  if taken then s
  else
    let s := want.foldl (fun s e => s.modDie e.2 (fun d =>
      if Smap.has d.groups e.1 then d
      else { d with groups := Smap.insert d.groups e.1 { launch := n, points := [] } })) s
    let s := s.setLaunch n { l with opened := true }
    let s := s.declareOutputs n l
    let s := s.modLaunch n (fun l => { l with started := true, begun := true })
    let s := s.takeEdges n l true
    let s := (l.units n).foldl (fun s u =>
      let w := u.tasks.foldl (fun (acc : List Nat × State) i =>
        let r := acc.2.writeRecord n l i
        (if r.1 then acc.1 ++ [i] else acc.1, r.2)) ([], s)
      if w.1.isEmpty then w.2 else w.2.releaseOrHold { u with tasks := w.1 }) s
    s.modLaunch n (fun l => { l with allReleased := true })

/-- LAUNCH_OPEN (R272): a launch of a run in progress whose predecessors are done, and whose INPROD has started, opens. It acquires their
finish, reads its entry, and a loop launch its bound, once, and checks them (R271, R275); then it may wait for its groups. -/
def execLaunchOpen (launch : Nat) (s : State) : Out :=
  let l0 := s.launch launch
  let ws := s.entryWords launch
  let inprod := launchField ws 86 2
  let inRun := s.runs.any (fun r => r.running && r.first ≤ launch && launch < r.first + r.count)
  if !inRun || l0.opened || l0.failed then .next s
  else if l0.checked then s.orWaits (.next (s.openChecked launch))
  else if l0.unfinished != 0 || (inprod != 0xFFFF && !(s.launch (inprod % 4096)).begun) then .next s
  else
    let l := { l0 with words := ws }
    let loop := l.policy 6
    let s := s.observe 0 (.device 0) l.deps
    match (if loop && entryOk ws then s.deviceLoad 0 (launchField ws 24 8) 8 else (.ok 0, s)) with
    | (.error c, s) => .next ((s.setLaunch launch l).failLaunch launch c)
    | (.ok bound, s) =>
      let x := bound % 2 ^ 32
      let y := bound / 2 ^ 32
      if loop && 1048576 < x * y then
        let s := s.schedFault 0 cIllegalForm 0 (0x00FFFFFD00000000 + 128 * launch) launch
        .next ((s.setLaunch launch { l with
          opened := true, started := true, begun := true, finished := false, bound := (0, 0) }).finishLaunch launch)
      else
        let l := { l with bound := (x, y), finished := false }
        match s.launchCheck l with
        | (some c, s) => .next ((s.setLaunch launch l).failLaunch launch c)
        | (none, s) => s.orWaits (.next ((s.setLaunch launch { l with checked := true }).openChecked launch))

/-- Push a held task or gang whose keys are ready, in its turn, when its queue has room (R273). -/
def State.releaseHeld (s : State) (unit : Nat) : State :=
  match s.heldUnits[unit]? with
  | none => s
  | some u =>
    if !s.unitTurn u then s
    else match ({ s with heldUnits := s.heldUnits.eraseIdx unit } : State).releaseUnit u with
      | some s => s
      | none => s

/-- HELD_TASK_RELEASE (R273): a held task or gang is pushed when its last input key is ready and its queue has room. -/
def execHeldTaskRelease (unit : Nat) (s : State) : Out := .next (s.releaseHeld unit)

/-- Every held task or gang that can be pushed in this cycle is (R273, R303): the first that became ready first. -/
def State.releaseAllHeld (s : State) : State :=
  (sortBy (fun u => u.readyAt.getD 0) (s.heldUnits.filter (fun u => u.readyAt.isSome))).foldl (fun s u =>
    match s.heldUnits.findIdx? (fun v => v == u) with
    | some i => s.releaseHeld i
    | none => s) s

/-- LAUNCH_FINISH (R274): started, all records released, none unretired. One that has failed never finishes (R271; 21 R397). -/
def execLaunchFinish (launch : Nat) (s : State) : Out :=
  let l := s.launch launch
  if !l.started || l.finished || l.failed || !l.allReleased || l.unretired != 0 || s.heldUnits.any (fun u => u.launch = launch) then .next s
  else .next (s.finishLaunch launch)

/-! ### Dispatch (07 R126; 21 R391) -/

/-- Slots of a scope: 1 a bay, 2 a die, 3 the package. -/
def scopeSlots (scope unit : Nat) : List Nat :=
  if scope = 1 then (List.range 8).map (fun i => unit * 8 + i)
  else if scope = 2 then (List.range 256).map (fun i => unit * 256 + i)
  else if scope = 3 then List.range 1024
  else []

/-- Stop or restore popping in a scope. -/
def State.dispatch (s : State) (scope unit : Nat) (stop : Bool) : State :=
  (scopeSlots scope unit).foldl (fun s k => s.modSlot k (fun sl => { sl with stopped := stop })) s

/-- DISPATCH_STOP (21 R391). -/
def execDispatchStop (scope : BitVec 2) (unit : Nat) (s : State) : Out :=
  if s.startStep < 2 then .next s else .next (s.dispatch scope.toNat unit true)

/-- DISPATCH_GO (21 R391). -/
def execDispatchGo (scope : BitVec 2) (unit : Nat) (s : State) : Out :=
  if s.startStep < 2 then .next s else .next (s.dispatch scope.toNat unit false)

end Sys2Proof.Machine
end

