-- ==== Sys2Proof/Machine/Fabric.lean ====
section
/-! DEFINITION. Moulds in the fabric: beads, buffers, and how a stage takes a vector and sends one on (11 R168-R178, R191,
R204-R206). -/

namespace Sys2Proof.Machine

/-! ### Beads and vectors (R172, R173) -/

def Bead.get (b : Bead) (i : Nat) : Word32 :=
  match i % 4 with
  | 0 => b.f0
  | 1 => b.f1
  | 2 => b.f2
  | _ => b.f3

def Bead.set (b : Bead) (i : Nat) (v : Word32) : Bead :=
  match i % 4 with
  | 0 => { b with f0 := v }
  | 1 => { b with f1 := v }
  | 2 => { b with f2 := v }
  | _ => { b with f3 := v }

/-- What an absorbed bead leaves. -/
def Bead.ghost (b : Bead) : Lane := .ghost b.tag b.count

def Lane.bead? (l : Lane) : Option Bead :=
  match l with
  | .bead b => some b
  | _ => none

def Lane.isEmpty (l : Lane) : Bool :=
  match l with
  | .empty => true
  | _ => false

/-- Lane i of a vector; what a short list does not list is empty. -/
def laneAt (v : List Lane) (i : Nat) : Lane := v.getD i .empty

def beadsOf (v : List Lane) : List Bead := v.filterMap Lane.bead?

/-- Is there nothing in any lane (R173)? -/
def vecEmpty (v : List Lane) : Bool := v.all Lane.isEmpty

/-- Sixteen lanes from a function of the lane. -/
def lanes (f : Nat → Lane) : List Lane := (List.range 16).map f

/-- Beads packed from lane 0. -/
def packBeads (bs : List Bead) : List Lane := lanes (fun i => match bs[i]? with
  | some b => .bead b
  | none => .empty)

def Item.isVec (x : Item) : Bool :=
  match x with
  | .vec _ => true
  | _ => false

/-- Vectors a buffer holds. -/
def vecCount (l : List Item) : Nat := (l.filter Item.isVec).length

def Stage.blank : Stage where
  word := 0
  const := 0
  active := []
  loading := []
  phase := 0
  out := []
  reord := []
  expect := 0
  forming := []
  counter := 0
  genq := []
  sideB := []
  busy := none
  side := []
  inEnded := false
  pbEnded := false
  waitsFor := []
  complete := false
  beats := 0
  order := []

def Pipe.blank : Pipe where
  x := 0
  y := 0
  stages := []
  pa := []
  pb := []
  tk := []
  coming := []
  recirc := []
  fresh := []
  po := []
  px := []
  tko := []
  paCap := 2
  pbCap := 2

/-! ### Parts of a mould -/

def State.mould (s : State) (d e : Nat) : Option Mould := Smap.find (s.die d).moulds e

def State.modMould (s : State) (d e : Nat) (f : Mould → Mould) : State :=
  match s.mould d e with
  | some m => s.modDie d (fun x => { x with moulds := Smap.insert x.moulds e (f m) })
  | none => s

/-- Where a stage stands. -/
structure StageRef where
  die : Nat
  entry : Nat
  pipe : Nat
  stg : Nat
  deriving DecidableEq, Repr

def Mould.pipeAt (m : Mould) (p : Nat) : Pipe := m.pipes.getD p Pipe.blank
def Mould.modPipe (m : Mould) (p : Nat) (f : Pipe → Pipe) : Mould := { m with pipes := m.pipes.modify p f }
def Pipe.stageAt (p : Pipe) (k : Nat) : Stage := p.stages.getD k Stage.blank
def Pipe.modStage (p : Pipe) (k : Nat) (f : Stage → Stage) : Pipe := { p with stages := p.stages.modify k f }

def State.mouldOf (s : State) (x : StageRef) : Option Mould := s.mould x.die x.entry
def State.pipeOf (s : State) (x : StageRef) : Pipe :=
  match s.mouldOf x with
  | some m => m.pipeAt x.pipe
  | none => Pipe.blank
def State.stageOf (s : State) (x : StageRef) : Stage := (s.pipeOf x).stageAt x.stg
def State.modPipeOf (s : State) (x : StageRef) (f : Pipe → Pipe) : State := s.modMould x.die x.entry (fun m => m.modPipe x.pipe f)
def State.modStageOf (s : State) (x : StageRef) (f : Stage → Stage) : State := s.modPipeOf x (fun p => p.modStage x.stg f)

/-- The handle of a mould-table entry (R214). -/
def handleOf (d e : Nat) : Nat := 256 + d * 64 + e

/-! ### Buffers -/

/-- Has a place room for a vector (R175)? -/
def Mould.hasRoom (m : Mould) (x : Dest) : Bool :=
  match x with
  | .pa p => vecCount (m.pipeAt p).pa < (m.pipeAt p).paCap
  | .pb p => vecCount (m.pipeAt p).pb < (m.pipeAt p).pbCap
  | .tk _ => true
  | .sink i => m.discard || m.sinks.all (fun k => k.idx != i || k.queue.length < 4)

/-- A bead of which an access has failed is a ghost (R200). -/
def Bead.lane (b : Bead) : Lane := if b.dead then b.ghost else .bead b

/-- Put an item in a place. At a sink ghosts are dropped (R220). -/
def Mould.place (m : Mould) (it : Item) (x : Dest) : Mould :=
  match x with
  | .pa p => m.modPipe p (fun q => { q with pa := q.pa ++ [it] })
  | .pb p => m.modPipe p (fun q => { q with pb := q.pb ++ [it] })
  | .tk _ => m
  | .sink i =>
    { m with sinks := m.sinks.map (fun k =>
        if k.idx != i then k
        else match it with
          | .vec v => if (beadsOf v).isEmpty || m.discard then k else { k with queue := k.queue ++ [beadsOf v] }
          | .eos => { k with ended := true }
          | _ => k) }

def Dest.isSink (x : Dest) : Bool :=
  match x with
  | .sink _ => true
  | _ => false

/-- Send what a port's buffer holds along its route, as far as there is room. A bead enters a sink only when the accesses
issued for it have been performed (R201), and end-of-stream, which acquires every access of the mould, when all have (R220). live: the
mould's accesses that are not performed. -/
def Mould.send (m : Mould) (live : List Nat) (ds : List Dest) (items : List Item) : Mould × List Item :=
  match items with
  | [] => (m, [])
  | it :: rest =>
    let go := match it with
      | .vec v => ds.all m.hasRoom && (!ds.any Dest.isSink || (beadsOf v).all (fun b => !b.accs.any (fun a => live.contains a)))
      | .eos => !ds.any Dest.isSink || live.isEmpty
      | _ => true
    if go then (ds.foldl (fun m x => m.place it x) m).send live ds rest else (m, it :: rest)

/-- Accesses of a mould that are not performed. -/
def State.accsOf (s : State) (d e : Nat) : List StageAcc := s.stageAccs.filter (fun a => a.die = d && a.entry = e)

/-- Move what s5 and a STEER have put out to where PO and PX lead. -/
def State.flush (s : State) (x : StageRef) : State :=
  match s.mouldOf x with
  | none => s
  | some m =>
    let live := (s.accsOf x.die x.entry).map (fun a => a.id)
    let p := m.pipeAt x.pipe
    let a := if x.stg = 5 then m.send live p.po (p.stageAt 5).out else (m, (p.stageAt x.stg).out)
    let b := if opOf (p.stageAt x.stg).word = 0x28 then a.1.send live p.px (p.stageAt x.stg).side else (a.1, (p.stageAt x.stg).side)
    (s.modMould x.die x.entry (fun _ => b.1)).modStageOf x (fun st => { st with out := a.2, side := b.2 })

/-- Move what every port of a mould has put out. -/
def State.flushAll (s : State) (d e : Nat) : State :=
  match s.mould d e with
  | none => s
  | some m => (List.range m.pipes.length).foldl (fun s p =>
      (List.range 6).foldl (fun s k => s.flush { die := d, entry := e, pipe := p, stg := k }) s) s

/-- Does a stage's output have a request outstanding: room for a vector, of which each output buffers two (R175)? One that leads nowhere
has none. -/
def State.demanded (s : State) (x : StageRef) : Bool :=
  match s.mouldOf x with
  | none => false
  | some m =>
    let p := m.pipeAt x.pipe
    let st := p.stageAt x.stg
    vecCount st.out < 2 && (x.stg != 5 || !p.po.isEmpty) && (opOf st.word != 0x28 || (vecCount st.side < 2 && !p.px.isEmpty))

/-- Put an item behind what a stage has put out; a vector with nothing in any lane is not sent (R173). -/
def State.emit (s : State) (x : StageRef) (it : Item) : State :=
  match it with
  | .vec v => if vecEmpty v then s else s.modStageOf x (fun st => { st with out := st.out ++ [.vec v] })
  | it => s.modStageOf x (fun st => { st with out := st.out ++ [it] })

/-! ### Input (R168, R191) -/

/-- Is anything recirculating in a pipeline? -/
def Pipe.recircs (p : Pipe) : Bool := p.recirc.any (fun e => !e.2.isEmpty)
/-- The bead at the head of a lane's recirculation queue, unless it has come in this cycle (R223). -/
def Pipe.recircHead (p : Pipe) (i : Nat) : Option Bead :=
  let q := Smap.getD p.recirc [] i
  if Smap.getD p.fresh 0 i < q.length then q.head? else none
/-- Does the recirculation buffer hold a bead that s0 may take? -/
def Pipe.returns (p : Pipe) : Bool := (List.range 16).any (fun i => (p.recircHead i).isSome)

/-- What stands at a stage's input: for s0 the recirculation buffer, then TK, then PA (R191). -/
def Pipe.front (p : Pipe) (k : Nat) : Option Item :=
  match k with
  | 0 =>
    if p.returns then
      some (.vec (lanes (fun i => match p.recircHead i with
        | some b => b.lane
        | none => .empty)))
    else match p.tk with
      | t :: _ =>
        some (.vec [.bead { f0 := t.1, f1 := t.2, f2 := 0, f3 := 0, pred := true, tag := 0, count := 0, accs := [], own := [], dead := false }])
      | [] => p.pa.head?
  | j + 1 => (p.stageAt j).out.head?

/-- Take it. A token bead draws its tag from the injection counter (R205). -/
def State.takeFront (s : State) (x : StageRef) : Option Item × State :=
  let p := s.pipeOf x
  match p.front x.stg with
  | none => (none, s)
  | some it =>
    match x.stg with
    | 0 =>
      if p.returns then
        (some it, s.modPipeOf x (fun q => { q with
          recirc := (q.recirc.map (fun e => (e.1, if (q.recircHead e.1).isSome then e.2.drop 1 else e.2))).filter (fun e => !e.2.isEmpty) }))
      else match p.tk with
        | _ :: rest =>
          let c := (s.mouldOf x).map (fun m => m.counter)
          let s := s.modMould x.die x.entry (fun m => { m with counter := m.counter + 1 })
          let it := match it with
            | .vec v => .vec (v.map (fun l => match l with
              | .bead b => .bead { b with tag := c.getD 0 }
              | l => l))
            | it => it
          (some it, s.modPipeOf x (fun q => { q with tk := rest }))
        | [] => (some it, s.modPipeOf x (fun q => { q with pa := q.pa.drop 1 }))
    | j + 1 => (some it, s.modStageOf { x with stg := j } (fun st => { st with out := st.out.drop 1 }))

/-- Forming vectors are sent when s0 would otherwise be idle (R218). -/
def State.sendForming (s : State) (x : StageRef) : State :=
  s.modMould x.die x.entry (fun m =>
    let due (k : Source) : Bool := k.pipe = x.pipe && !k.forming.isEmpty &&
      m.hasRoom (if k.toB then .pb k.pipe else .pa k.pipe)
    let m2 := m.sources.foldl (fun m k => if due k then m.place (.vec (packBeads k.forming)) (if k.toB then .pb k.pipe else .pa k.pipe) else m) m
    { m2 with sources := m.sources.map (fun k => if due k then { k with forming := [] } else k) })

/-- What a stage does that can do nothing else: a forming vector of s0's pipeline is sent (R218). -/
def State.idles (s : State) (x : StageRef) : State := if x.stg = 0 then s.sendForming x else s

/-- Exchange the tile registers of a stage. -/
def Stage.exchange (st : Stage) : Stage := { st with active := st.loading, loading := st.active }

/-! ### A stage's turn -/

/-- What an operation is, beyond the common rules. -/
structure StagePlan where
  /-- Each firing takes a vector from PB as well (R177, BSEL 011). -/
  paired : Bool
  /-- The operation reads PB, in pairs or in its own way, and waits for its end. -/
  readsPb : Bool
  /-- May this vector be accepted now? -/
  ready : State → List Lane → Bool
  /-- Fire on a vector, which has been taken, and its partner. -/
  act : State → List Lane → List Lane → State
  /-- Work that needs no new primary vector, if there is some now. -/
  spare : State → Option State
  /-- A packet header arrives, which may need room at the output. -/
  header : State → Word → State
  headerOut : Bool
  /-- End-of-stream may pass. -/
  drained : State → Bool
  /-- What is done as it passes. -/
  atEnd : State → State

/-- An operation with nothing special about it. -/
def planOf (act : State → List Lane → List Lane → State) : StagePlan where
  paired := false
  readsPb := false
  ready := fun _ _ => true
  act := act
  spare := fun _ => none
  header := fun s _ => s
  headerOut := false
  drained := fun _ => true
  atEnd := fun s => s

/-- Pass end-of-stream on when it may pass (R206). -/
def State.passEnd (s : State) (x : StageRef) (plan : StagePlan) : State :=
  let st := s.stageOf x
  if st.inEnded && !st.complete && st.busy.isNone && (!plan.readsPb || st.pbEnded) && plan.drained s then
    let s := (plan.atEnd s).emit x .eos
    s.modStageOf x (fun st => { st with complete := true, side := if opOf st.word = 0x28 then st.side ++ [.eos] else st.side })
  else s

/-- Note the end of PB when it stands at the head, and drop what still arrives there once the primary input has ended
(R177). -/
def State.drainPb (s : State) (x : StageRef) (plan : StagePlan) : State :=
  if !plan.readsPb then s
  else match (s.pipeOf x).pb with
    | .eos :: rest => (s.modPipeOf x (fun p => { p with pb := rest })).modStageOf x (fun st => { st with pbEnded := true })
    | .vec _ :: rest => if plan.paired && (s.stageOf x).inEnded then s.modPipeOf x (fun p => { p with pb := rest }) else s
    | _ :: rest => s.modPipeOf x (fun p => { p with pb := rest })
    | [] => s

/-- A vector at the input: fire on it if its partner, its room and the operation allow. A stage s0 that cannot is idle (R218). -/
def State.fireVec (s : State) (x : StageRef) (plan : StagePlan) (v : List Lane) : State :=
  let t := s.takeFront x
  let v := match t.1 with
    | some (.vec v) => v
    | _ => v
  if !s.demanded x || !plan.ready s v then s.idles x
  else if plan.paired then
    match (s.pipeOf x).pb with
    | .vec w :: rest => plan.act (t.2.modPipeOf x (fun p => { p with pb := rest })) v w
    | _ => if (s.stageOf x).pbEnded then plan.act t.2 v [] else s.idles x
  else plan.act t.2 v []

/-- One turn of a stage. -/
def State.stageTurn (s : State) (x : StageRef) (plan : StagePlan) : State :=
  let s := (s.flush x).drainPb x plan
  let s := match plan.spare s with
    | some s => s
    | none =>
      if (s.stageOf x).busy.isSome then s.idles x
      else match (s.pipeOf x).front x.stg with
      | none => s.idles x
      | some .eos => (s.takeFront x).2.modStageOf x (fun st => { st with inEnded := true })
      | some (.swap mask) =>
        let s := (s.takeFront x).2.modStageOf x (fun st => if mask.getLsbD x.stg then st.exchange else st)
        if x.stg = 5 then s else s.emit x (.swap mask)
      | some (.load k ws) =>
        let s := (s.takeFront x).2
        if k = x.stg then
          s.modStageOf x (fun st => { st with loading := ws.foldl (fun (m : Smap Word32) (e : Nat × Word32) => Smap.put m 0 e.1 e.2) st.loading })
        else s.emit x (.load k ws)
      | some (.header h) => if plan.headerOut && !s.demanded x then s.idles x else plan.header (s.takeFront x).2 h
      | some (.vec v) => s.fireVec x plan v
  (s.passEnd x plan).flush x

/-! ### The end of a mould (R217, R290) -/

/-- Does any vector lie in the stages, ports or recirculation buffers of a pipeline? -/
def Pipe.occupied (p : Pipe) : Bool :=
  0 < vecCount p.pa || 0 < vecCount p.pb || !p.tk.isEmpty || p.recircs ||
    p.stages.any (fun st => 0 < vecCount st.out || 0 < vecCount st.side || st.busy.isSome || !st.reord.isEmpty ||
      !st.forming.isEmpty || !st.genq.isEmpty || !st.sideB.isEmpty)

/-- Does end-of-stream wait to leave the last stage, or a STEER's second output? -/
def Pipe.endsWaiting (p : Pipe) : Bool :=
  (p.stageAt 5).out.contains .eos || p.stages.any (fun st => opOf st.word = 0x28 && st.side.contains .eos)

def MouldState.started (x : MouldState) : Bool :=
  match x with
  | .running => true
  | .draining => true
  | _ => false

/-- Footprints of two moulds share a bay (R290). -/
def mouldBays (m : Mould) : List Nat :=
  (List.range m.h).flatMap (fun y => (List.range m.w).map (fun x => m.origin + 8 * y + x))
def sharesBay (m n : Mould) : Bool := (mouldBays m).any (fun b => (mouldBays n).contains b)

/-- Free the spill lines of a mould that resumes (19 R365). -/
def State.freeSpill (s : State) (m : Mould) : State :=
  m.spill.foldl (fun s (e : Nat × Nat) => (List.range (e.2 + 2)).foldl (fun s i => s.setLine (e.1 + i) LineState.reset) s) s

/-- Started moulds that are out of the fabric, and whose footprint no mould holds, come in, in round-robin order after the
last that held it (R290); but for one that has just been switched out: it is the turn of another. -/
def State.resumeBut (s : State) (d after : Nat) (out : Option Nat) : State :=
  let order := sortBy (fun (e : Nat × Mould) => if after < e.2.loadOrder then e.2.loadOrder else e.2.loadOrder + 2 ^ 64)
    ((s.die d).moulds.filter (fun e => e.2.state.started && !e.2.present && out != some e.1))
  order.foldl (fun s e =>
    match s.mould d e.1 with
    | none => s
    | some m =>
      if s.ctxHeld m.ctx || (s.die d).moulds.any (fun q => q.1 != e.1 && q.2.present && sharesBay q.2 m) then s
      else (s.freeSpill m).modMould d e.1 (fun m => { m with present := true, quantum := 0, switching := false, spill := [] })) s

def State.resume (s : State) (d after : Nat) : State := s.resumeBut d after none

/-- Free an entry: its operation is complete (R217). -/
def State.freeMould (s : State) (d e : Nat) : State :=
  match s.mould d e with
  | none => s
  | some m =>
    let s := s.freeSpill m
    let s := s.modDie d (fun x => { x with moulds := Smap.erase x.moulds e })
    let s := { s with joins := s.joins.map (fun (q : Nat × List JoinOb) => if q.1 = m.uid then
      (q.1, q.2.map (fun (j : JoinOb) => if j.op = m.op then ({ j with done := true } : JoinOb) else j)) else q) }
    s.resume d m.loadOrder

/-- A drain has come to its end: the stages stop, and the entry is freed once its sinks are empty; an abort frees it when the
accesses already issued have been performed (R217). -/
def State.sweep (s : State) (d e : Nat) : State :=
  let s := s.flushAll d e
  match s.mould d e with
  | none => s
  | some m =>
    let idle := (s.accsOf d e).isEmpty
    let dry := m.sinks.all (fun k => k.queue.isEmpty)
    match m.state with
    | .aborting => if idle then s.freeMould d e else s
    | .draining =>
      if idle && !m.pipes.any Pipe.occupied && !m.pipes.any Pipe.endsWaiting && m.sources.all (fun k => k.forming.isEmpty) then
        (if dry then s.freeMould d e
         else (s.modMould d e (fun m => { m with state := .done, present := false, drainAsked := true })).resume d m.loadOrder)
      else s
    | .done => if m.drainAsked && dry && idle then s.freeMould d e else s
    | _ => s

/-- Take the turn of the stage in focus. -/
def runStage (plan : StageRef → StagePlan) (s : State) : Out :=
  match s.focus with
  | .stage d e p k =>
    match s.mould d e with
    | none => .fault .noFocus
    | some m =>
      if m.pipes.length ≤ p || 6 ≤ k then .fault .noFocus
      else if !m.state.started || !m.present || m.switching then .next s
      else
        let x : StageRef := { die := d, entry := e, pipe := p, stg := k }
        .next ((s.stageTurn x (plan x)).sweep d e)
  | _ => .fault .noFocus

/-! ### Predicates and fields (R176-R178) -/

/-- PIN and POUT of CTL. -/
def pinOf (ctl : BitVec 4) : Nat := ctl.toNat / 4
def poutOf (ctl : BitVec 4) : Nat := ctl.toNat % 4

/-- Does a bead's lane act under PIN? -/
def Bead.acts (b : Bead) (pin : Nat) : Bool :=
  pin = 0 || ((pin = 1 || pin = 3) && b.pred) || (pin = 2 && !b.pred)

/-- POUT on a lane that acts; result is the lane's result (R176). -/
def Bead.after (b : Bead) (pout : Nat) (result : Word32) : Bead :=
  { b with pred := if pout = 0 then b.pred else if pout = 1 then result != 0 else if pout = 2 then true else !b.pred }

/-- The value of B for a lane (R177). -/
def Stage.operandB (st : Stage) (lane : Nat) (srca srcb bsel : Nat) (b : Bead) (partner : Lane) : Word32 :=
  match bsel with
  | 0 => b.get srcb
  | 1 => st.const
  | 2 => Smap.getD st.active 0 (16 * lane + (b.get srca).toNat % 16)
  | 3 => match partner with
    | .bead q => q.get srcb
    | _ => 0
  | _ => if b.pred then 1 else 0

/-- A vector operation with one result a lane (R178): op gets the lane number, A, B, the old destination and the predicate. -/
def mapLanes (st : Stage) (dst srca srcb bsel : Nat) (ctl : BitVec 4)
    (op : Nat → Word32 → Word32 → Word32 → Bool → Word32) (v w : List Lane) : List Lane :=
  lanes (fun i => match laneAt v i with
    | .bead b =>
      if !b.acts (pinOf ctl) then (if pinOf ctl = 3 then .bead b else b.ghost)
      else
        let r := op i (b.get srca) (st.operandB i srca srcb bsel b (laneAt w i)) (b.get dst) b.pred
        .bead ((b.set dst r).after (poutOf ctl) r)
    | l => l)

/-- The plan of an operation whose output vector is a function of the stage and of its input. -/
def planMap (x : StageRef) (bsel : Nat) (f : Stage → List Lane → List Lane → Stage × List Lane) : StagePlan :=
  { planOf (fun s v w =>
      let r := f (s.stageOf x) v w
      (s.modStageOf x (fun _ => r.1)).emit x (.vec r.2)) with
    paired := bsel = 3
    readsPb := bsel = 3 }

/-- Run an operation with one result a lane. -/
def runLanes (d a b : BitVec 2) (bs : BitVec 3) (ctl : BitVec 4) (op : Nat → Word32 → Word32 → Word32 → Bool → Word32)
    (s : State) : Out :=
  runStage (fun x => planMap x bs.toNat (fun st v w =>
    (st, mapLanes st d.toNat a.toNat b.toNat bs.toNat ctl op v w))) s

end Sys2Proof.Machine
end

