-- ==== Sys2Proof/Machine/Tb4.lean ====
section
/-! DEFINITION. The block format TB4 (03 R43-R46), CVTB4's arithmetic (R47-R50), and accumulation in the matrix tile
(R52-R54). -/

namespace Sys2Proof.Machine

/-- Twice the magnitude of an E2M1 code's bits 2:0 (R43). -/
def e2m1Twice (c : Nat) : Nat := ([0, 1, 2, 3, 4, 6, 8, 12] : List Nat).getD (c % 8) 0

/-- The scale and the spare of a scale word (R44). -/
def tb4Scale (w : Nat) : Val := bf16.decode (bitsOf w 31 16)
def tb4Spare (w : Nat) : Nat := bitsOf w 15 8

/-- Is an element nonzero under a spare (R45)? -/
def tb4Nonzero (spare c : Nat) : Bool := c % 8 != 0 || (c == 8 && spare != 0)

/-- Is a block a NaN block (R45)? -/
def tb4Nan (w : Nat) (codes : List Nat) : Bool :=
  bitsOf w 31 31 == 1 || bitsOf w 30 23 == 255 || (e4m3.decode (tb4Spare w)).isNan ||
    (bitsOf w 30 16 == 0 && codes.any (tb4Nonzero (tb4Spare w)))

/-- The value e of an element code, the scale left out (R45). -/
def tb4Elem (spare c : Nat) : Val :=
  if c == 8 && spare != 0 then e4m3.decode spare else .fin (c / 8 == 1) (e2m1Twice c) 2

/-- Element values of a block; all NaN in a NaN block. -/
def tb4Elems (w : Nat) (codes : List Nat) : List Val :=
  if tb4Nan w codes then codes.map (fun _ => Val.nan) else codes.map (tb4Elem (tb4Spare w))

/-- Element j of sixteen bytes (R46). -/
def tb4Code (bs : List Byte) (j : Nat) : Nat := (bs.getD (j / 2) 0).toNat / (if j % 2 = 0 then 1 else 16) % 16
def tb4Codes (bs : List Byte) : List Nat := (List.range 32).map (tb4Code bs)

/-- Decode a block to FP32 (R45). -/
def tb4Decode (w : Nat) (codes : List Nat) : List Nat :=
  (tb4Elems w codes).map (fun e => fp32.round .rne (Val.mul e (tb4Scale w)))

/-! ### CVTB4 (R47, R48) -/

/-- Magnitude of a finite value as a pair. -/
def magOf (v : Val) : Nat × Nat :=
  match v with
  | .fin _ n d => (n, d)
  | _ => (0, 1)

/-- Is a / b below c / d? -/
def fracLt (x y : Nat × Nat) : Bool := x.1 * y.2 < y.1 * x.2

/-- Smallest BF16 magnitude at or above a value. -/
def bf16Above (n d : Nat) : Nat := bf16.round .ru (.fin false n d)

/-- Candidate magnitudes, lowest first: the eight of E2M1, and the spare's if it is a new one (R48). -/
def tb4Candidates (spare : Nat) (neg : Bool) : List (Nat × Nat × Nat) :=
  let base := (List.range 8).map (fun c => (e2m1Twice c, 2, c))
  let m := magOf (e4m3.decode spare)
  if spare == 0 || (e4m3.decode spare).isNan || (spare / 128 == 1) != neg || base.any (fun e => e.1 * m.2 == m.1 * e.2.1) then base
  else base.filter (fun e => fracLt (e.1, e.2.1) m) ++ [(m.1, m.2, 8)] ++ base.filter (fun e => fracLt m (e.1, e.2.1))

/-- Does a tie between neighbours go up: to the even grid point, or away from the spare (R48)? -/
def tb4TieUp (lo hi : Nat) : Bool := if lo == 8 then true else if hi == 8 then false else lo % 2 == 1

/-- Choose among candidates: the code of the magnitude chosen (R48, R50). -/
def tb4Choose (m : RMode) (q : Nat × Nat) (cs : List (Nat × Nat × Nat)) : Nat :=
  match cs with
  | [] => 0
  | [(_, _, c)] => c
  | (ln, ld, lc) :: (hn, hd, hc) :: rest =>
    if !fracLt q (hn, hd) then tb4Choose m q ((hn, hd, hc) :: rest)
    else
      -- The place of q between lo and hi, as a fraction.
      let top := (q.1 * ld - ln * q.2) * hd
      let all := (hn * ld - ln * hd) * q.2
      match m with
      | .dither i phi => if top != 0 && (2 * brev5 ((i + phi) % 32) + 1) * all ≤ 64 * top then hc else lc
      | _ => if all < 2 * top || (2 * top == all && tb4TieUp lc hc) then hc else lc

/-- round_tb4 (R48). -/
def roundTb4 (x scale : Val) (spare : Nat) (m : RMode) : Nat :=
  let neg := match x with
    | .fin s _ _ => s
    | _ => false
  if (magOf scale).1 == 0 then (if neg && spare == 0 then 8 else 0)
  else
    let q := magOf (Val.div x scale)
    let c := tb4Choose m q (tb4Candidates spare neg)
    if c == 8 then 8
    else if c == 0 then (if neg && spare == 0 then 8 else 0)
    else if neg then c + 8 else c

/-- CVTB4 on 32 FP32 values: the scale word and the codes (R47). dith: DITHER; otherwise RNE. -/
def cvtB4 (xs : List Nat) (smode : Nat) (dith : Bool) (spare2 phi : Nat) : Nat × List Nat :=
  let vs := xs.map fp32.decode
  let odd (v : Val) : Bool := match v with
    | .fin _ _ _ => false
    | _ => true
  if vs.any odd then (0x7FC00000, xs.map (fun _ => 0))
  else
    let mags := vs.map magOf
    let e := (List.range 32).foldl (fun e i => if fracLt (mags.getD e (0, 1)) (mags.getD i (0, 1)) then i else e) 0
    let big := mags.getD e (0, 1)
    let amax := if smode == 1 then
        (List.range 32).foldl (fun (a : Nat × Nat) i =>
          if i != e && fracLt a (mags.getD i (0, 1)) then mags.getD i (0, 1) else a) (0, 1)
      else big
    let scale := if smode == 1 && amax.1 == 0 && big.1 != 0 then bf16Above big.1 (big.2 * 448) else bf16Above amax.1 (amax.2 * 6)
    let sv := bf16.decode scale
    let spare :=
      if smode == 0 then 0
      else if smode == 1 then (if scale == 0 then 0 else e4m3.round .rne (Val.div (vs.getD e .nan) sv))
      else spare2
    let codes := (List.range 32).map (fun i =>
      if smode == 1 && spare != 0 && i == e then 8
      else roundTb4 (vs.getD i .nan) sv spare (if dith then .dither i phi else .rne))
    (scale * 65536 + spare * 256 + (if dith then phi else 0) * 8, codes)

/-! ### Accumulation (R52, R53) -/

/-- An exact sum of products: NaN, infinities and the signs of zeros as R53 gives. acc is the sum so far; none at first. -/
def addProduct (acc : Option Val) (p : Val) : Option Val :=
  match acc with
  | none => some p
  | some a =>
    -- A zero sum is −0 only when every product was −0.
    match a, p with
    | .fin s 0 d, .fin t 0 _ => some (.fin (s && t) 0 d)
    | a, p => some (Val.add false a p)

/-- Is the value a zero? -/
def Val.isZero (v : Val) : Bool :=
  match v with
  | .fin _ n _ => n == 0
  | _ => false

/-- The exact sum of a group's products (R52, R53). -/
def groupSum (ps : List Val) : Val :=
  let s := (ps.foldl addProduct none).getD (.fin false 0 1)
  if s.isZero then .fin (ps.all (fun p => match p with
    | .fin t n _ => t && n == 0
    | _ => false)) 0 1 else s

/-- One group accumulated into an FP32 slot (R52). -/
def accFloat (clear : Bool) (acc : Nat) (s : Val) : Nat :=
  let p := fp32.round .rne s
  if clear then p else fpAdd .rne acc p

/-- One group accumulated into an INT32 slot (R52). -/
def accInt (clear : Bool) (acc : Nat) (s : Int) : Nat :=
  if clear then intBits 32 s else intBits 32 ((acc : Int) + s)

/-- Convert a slot for write-out (R54). -/
def writeOutConv (isInt : Bool) (ofmt acc : Nat) : Nat :=
  if isInt then (if ofmt == 8 then intBits 8 (saturate 8 (signedOf 32 acc)) else acc)
  else match floatOf ofmt with
    | some f => f.round .rne (fp32.decode acc)
    | none => acc

end Sys2Proof.Machine
end

