-- ==== Sys2Proof/Machine/StageAlu.lean ====
section
/-! DEFINITION. Stage operations that work on the fields of a vector's beads: PASS, integer, floating-point, conversion and
lane operations (11 R180-R189). -/

namespace Sys2Proof.Machine

/-! ### Integer operations (R181, R182) -/

def high32 (x : Int) : Word32 := BitVec.ofInt 32 (x / (2 ^ 32 : Int))
def shiftOf (b : Word32) : Nat := b.toNat % 32
def flag32 (c : Bool) : Word32 := if c then 1 else 0

/-- Conditions of ICMP. -/
def intCond (k : Nat) (a b : Word32) : Bool :=
  match k with
  | 0 => a == b
  | 1 => a != b
  | 2 => a.slt b
  | 3 => a.ult b
  | 4 => a.sle b
  | 5 => a.ule b
  | 6 => b.slt a
  | _ => b.ult a

/-- The mixing function of IHASH. -/
def mixHash (a b : Word32) : Word32 :=
  let x := a ^^^ b
  let x := (x ^^^ (x >>> 16)) * 0x85EBCA6B
  let x := (x ^^^ (x >>> 13)) * 0xC2B2AE35
  x ^^^ (x >>> 16)

def onesOf (n : Nat) (x : Word32) : Nat :=
  match n with
  | 0 => 0
  | m + 1 => (if x.getLsbD m then 1 else 0) + onesOf m x

/-- PASS (R180): its result is f0 (R176). -/
def execPass (c : BitVec 4) (s : State) : Out :=
  runLanes 0 0 0 0 c (fun _ a _ _ _ => a) s

/-- IADD (R181). -/
def execIadd (d a b : BitVec 2) (bs : BitVec 3) (c : BitVec 4) (s : State) : Out :=
  runLanes d a b bs c (fun _ a b _ _ => a + b) s

/-- ISUB (R181). -/
def execIsub (d a b : BitVec 2) (bs : BitVec 3) (c : BitVec 4) (s : State) : Out :=
  runLanes d a b bs c (fun _ a b _ _ => a - b) s

/-- IMUL (R181). -/
def execImul (d a b : BitVec 2) (bs : BitVec 3) (c : BitVec 4) (s : State) : Out :=
  runLanes d a b bs c (fun _ a b _ _ => a * b) s

/-- IMULH (R181). -/
def execImulh (d a b : BitVec 2) (bs : BitVec 3) (c : BitVec 4) (u : BitVec 1) (s : State) : Out :=
  runLanes d a b bs c (fun _ a b _ _ => if u = 1#1 then high32 ((a.toNat * b.toNat : Nat) : Int) else high32 (a.toInt * b.toInt)) s

/-- IAND (R181). -/
def execIand (d a b : BitVec 2) (bs : BitVec 3) (c : BitVec 4) (s : State) : Out :=
  runLanes d a b bs c (fun _ a b _ _ => a &&& b) s

/-- IOR (R181). -/
def execIor (d a b : BitVec 2) (bs : BitVec 3) (c : BitVec 4) (s : State) : Out :=
  runLanes d a b bs c (fun _ a b _ _ => a ||| b) s

/-- IXOR (R181). -/
def execIxor (d a b : BitVec 2) (bs : BitVec 3) (c : BitVec 4) (s : State) : Out :=
  runLanes d a b bs c (fun _ a b _ _ => a ^^^ b) s

/-- ISHL (R181). -/
def execIshl (d a b : BitVec 2) (bs : BitVec 3) (c : BitVec 4) (s : State) : Out :=
  runLanes d a b bs c (fun _ a b _ _ => a <<< shiftOf b) s

/-- ISHR (R181). -/
def execIshr (d a b : BitVec 2) (bs : BitVec 3) (c : BitVec 4) (s : State) : Out :=
  runLanes d a b bs c (fun _ a b _ _ => a >>> shiftOf b) s

/-- ISAR (R181). -/
def execIsar (d a b : BitVec 2) (bs : BitVec 3) (c : BitVec 4) (s : State) : Out :=
  runLanes d a b bs c (fun _ a b _ _ => a.sshiftRight (shiftOf b)) s

/-- IMIN (R181). -/
def execImin (d a b : BitVec 2) (bs : BitVec 3) (c : BitVec 4) (s : State) : Out :=
  runLanes d a b bs c (fun _ a b _ _ => if a.sle b then a else b) s

/-- IMAX (R181). -/
def execImax (d a b : BitVec 2) (bs : BitVec 3) (c : BitVec 4) (s : State) : Out :=
  runLanes d a b bs c (fun _ a b _ _ => if a.sle b then b else a) s

/-- IMINU (R181). -/
def execIminu (d a b : BitVec 2) (bs : BitVec 3) (c : BitVec 4) (s : State) : Out :=
  runLanes d a b bs c (fun _ a b _ _ => if a.ule b then a else b) s

/-- IMAXU (R181). -/
def execImaxu (d a b : BitVec 2) (bs : BitVec 3) (c : BitVec 4) (s : State) : Out :=
  runLanes d a b bs c (fun _ a b _ _ => if a.ule b then b else a) s

/-- ICMP (R181). -/
def execIcmp (d a b : BitVec 2) (bs : BitVec 3) (c : BitVec 4) (k : BitVec 3) (s : State) : Out :=
  runLanes d a b bs c (fun _ a b _ _ => flag32 (intCond k.toNat a b)) s

/-- IHASH (R182). -/
def execIhash (d a b : BitVec 2) (bs : BitVec 3) (c : BitVec 4) (s : State) : Out :=
  runLanes d a b bs c (fun _ a b _ _ => mixHash a b) s

/-- ISEL (R181): PIN is 00, and c is POUT. -/
def execIsel (d a b : BitVec 2) (bs : BitVec 3) (c : BitVec 2) (s : State) : Out :=
  runLanes d a b bs (c.zeroExtend 4) (fun _ a b _ p => if p then a else b) s

/-- IPOPC (R181). -/
def execIpopc (d a : BitVec 2) (c : BitVec 4) (s : State) : Out :=
  runLanes d a 0 0 c (fun _ a _ _ _ => BitVec.ofNat 32 (onesOf 32 a)) s

/-! ### Floating-point operations (R183-R186) -/

/-- A rounding mode by its code (R40). -/
def roundMode (code lane phase : Nat) : RMode :=
  match code with
  | 0 => .rne
  | 1 => .rtz
  | 2 => .ru
  | 3 => .rd
  | _ => .dither lane phase

def f32 (x : Nat) : Word32 := BitVec.ofNat 32 x

/-- Conditions of FCMP (R183, R39). -/
def fpCond (k : Nat) (a b : Word32) : Bool :=
  let x := fp32.decode a.toNat
  let y := fp32.decode b.toNat
  match k with
  | 0 => x.eqv y
  | 1 => !x.eqv y
  | 2 => x.lt y
  | 3 => x.le y
  | 4 => y.lt x
  | 5 => y.le x
  | 6 => !x.isNan && !y.isNan
  | _ => x.isNan || y.isNan

/-- A value times a power of two. -/
def Val.scale (v : Val) (k : Int) : Val :=
  match v with
  | .fin s n d => .fin s (scaleBy n d k).1 (scaleBy n d k).2
  | v => v

/-- EXT (R184): the FP32 values nearest to 2^(j/32). -/
def expTable : List Nat :=
  [0x3F800000, 0x3F82CD87, 0x3F85AAC3, 0x3F88980F, 0x3F8B95C2, 0x3F8EA43A, 0x3F91C3D3, 0x3F94F4F0, 0x3F9837F0, 0x3F9B8D3A,
    0x3F9EF532, 0x3FA27043, 0x3FA5FED7, 0x3FA9A15B, 0x3FAD583F, 0x3FB123F6, 0x3FB504F3, 0x3FB8FBAF, 0x3FBD08A4, 0x3FC12C4D,
    0x3FC5672A, 0x3FC9B9BE, 0x3FCE248C, 0x3FD2A81E, 0x3FD744FD, 0x3FDBFBB8, 0x3FE0CCDF, 0x3FE5B907, 0x3FEAC0C7, 0x3FEFE4BA,
    0x3FF5257D, 0x3FFA83B3]

/-- FEXP2 on bits (R184). -/
def fexp2 (x : Nat) : Nat :=
  match fp32.decode x with
  | .nan => fp32.nanBits
  | .inf neg => if neg then 0 else fp32.infBits
  | .fin neg n d =>
    if !neg && 128 * d ≤ n then fp32.infBits
    else if neg && 150 * d < n then 0
    else
      let a : Int := if neg then -(n : Int) else n
      let t := a * 32 / d
      let e := t / 32
      let j := (t % 32).toNat
      let q : Val := .fin false (a * 32 - t * d).toNat (32 * d)
      let c3q := fp32.round .rne (Val.mul (fp32.decode 0x3D635847) q)
      let v := fpAdd .rne 0x3E75FDF0 c3q
      let v := fp32.round .rne (Val.mul (fp32.decode v) q)
      let v := fpAdd .rne 0x3F317218 v
      let v := fp32.round .rne (Val.mul (fp32.decode v) q)
      let p := fpAdd .rne 0x3F800000 v
      let y := fpMul .rne (expTable.getD j 0) p
      fp32.round .rne ((fp32.decode y).scale e)

/-- FRCP on bits (R185). -/
def frcp (x : Nat) : Nat :=
  match fp32.decode x with
  | .nan => fp32.nanBits
  | .inf neg => fp32.round .rne (.fin neg 0 1)
  | .fin neg n d =>
    if n = 0 then fp32.round .rne (.inf neg)
    else
      let e := floorLog2 n d
      let m := scaleBy n d (-e)
      let j := (m.1 - m.2) * 32 / m.2
      let mv : Val := .fin false m.1 m.2
      let newton (y : Nat) : Nat := fpMul .rne y (fpSub .rne 0x40000000 (fp32.round .rne (Val.mul mv (fp32.decode y))))
      let y := newton (newton (fp32.round .rne (.fin false 64 (65 + 2 * j))))
      match (fp32.decode y).scale (-e) with
      | .fin _ a b => fp32.round .rne (.fin neg a b)
      | v => fp32.round .rne v

/-- FRSQ on bits (R186). -/
def frsq (x : Nat) : Nat :=
  match fp32.decode x with
  | .nan => fp32.nanBits
  | .inf neg => if neg then fp32.nanBits else 0
  | .fin neg n d =>
    if n = 0 then fp32.round .rne (.inf neg)
    else if neg then fp32.nanBits
    else
      let e := floorLog2 n d
      let odd := e % 2 != 0
      let e := if odd then e - 1 else e
      let m := scaleBy n d (-e)
      let j := (m.1 - m.2) * 32 / (3 * m.2)
      let mv : Val := .fin false m.1 m.2
      let step (y : Nat) : Nat :=
        let h := fpMul .rne y y
        let g := fp32.round .rne (Val.mul mv (fp32.decode h))
        fpMul .rne (fpMul .rne y (fpSub .rne 0x40400000 g)) 0x3F000000
      let y := step (step (fp32.round .rne (Val.sqrt (.fin false 64 (67 + 6 * j)))))
      fp32.round .rne ((fp32.decode y).scale (-(e / 2)))

/-- FADD of a stage (R183). -/
def execStageFadd (d a b : BitVec 2) (bs : BitVec 3) (c : BitVec 4) (m : BitVec 3) (s : State) : Out :=
  runLanes d a b bs c (fun _ a b _ _ => f32 (fpAdd (roundMode m.toNat 0 0) a.toNat b.toNat)) s

/-- FSUB of a stage (R183). -/
def execStageFsub (d a b : BitVec 2) (bs : BitVec 3) (c : BitVec 4) (m : BitVec 3) (s : State) : Out :=
  runLanes d a b bs c (fun _ a b _ _ => f32 (fpSub (roundMode m.toNat 0 0) a.toNat b.toNat)) s

/-- FMUL of a stage (R183). -/
def execStageFmul (d a b : BitVec 2) (bs : BitVec 3) (c : BitVec 4) (m : BitVec 3) (s : State) : Out :=
  runLanes d a b bs c (fun _ a b _ _ => f32 (fpMul (roundMode m.toNat 0 0) a.toNat b.toNat)) s

/-- FFMA (R183). -/
def execFfma (d a b : BitVec 2) (bs : BitVec 3) (c : BitVec 4) (m : BitVec 3) (s : State) : Out :=
  runLanes d a b bs c (fun _ a b c _ => f32 (fpFma (roundMode m.toNat 0 0) a.toNat b.toNat c.toNat)) s

/-- FMIN of a stage (R183). -/
def execStageFmin (d a b : BitVec 2) (bs : BitVec 3) (c : BitVec 4) (s : State) : Out :=
  runLanes d a b bs c (fun _ a b _ _ => f32 (fpMin a.toNat b.toNat)) s

/-- FMAX of a stage (R183). -/
def execStageFmax (d a b : BitVec 2) (bs : BitVec 3) (c : BitVec 4) (s : State) : Out :=
  runLanes d a b bs c (fun _ a b _ _ => f32 (fpMax a.toNat b.toNat)) s

/-- FCMP (R183). -/
def execFcmp (d a b : BitVec 2) (bs : BitVec 3) (c : BitVec 4) (k : BitVec 3) (s : State) : Out :=
  runLanes d a b bs c (fun _ a b _ _ => flag32 (fpCond k.toNat a b)) s

/-- FEXP2 (R184). -/
def execFexp2 (d a : BitVec 2) (c : BitVec 4) (s : State) : Out :=
  runLanes d a 0 0 c (fun _ a _ _ _ => f32 (fexp2 a.toNat)) s

/-- FRCP (R185). -/
def execFrcp (d a : BitVec 2) (c : BitVec 4) (s : State) : Out :=
  runLanes d a 0 0 c (fun _ a _ _ _ => f32 (frcp a.toNat)) s

/-- FRSQ (R186). -/
def execFrsq (d a : BitVec 2) (c : BitVec 4) (s : State) : Out :=
  runLanes d a 0 0 c (fun _ a _ _ _ => f32 (frsq a.toNat)) s

/-- FABSN (R183): only the sign bit changes. -/
def execFabsn (d a b : BitVec 2) (bs : BitVec 3) (c : BitVec 4) (m : BitVec 2) (s : State) : Out :=
  runLanes d a b bs c (fun _ a b _ _ =>
    let mag := a &&& 0x7FFFFFFF
    match m.toNat with
    | 0 => mag
    | 1 => a ^^^ 0x80000000
    | 2 => mag ||| 0x80000000
    | _ => mag ||| (b &&& 0x80000000)) s

/-! ### Conversions (R187, R188) -/

/-- Advance a dither phase (R49). -/
def Stage.nextPhase (st : Stage) (dith : Bool) : Stage := if dith then { st with phase := st.phase + 1 } else st

/-- CVT (R187): the initial phase h was loaded by MLOAD (R49). -/
def execCvt (d a : BitVec 2) (_ : BitVec 5) (c x y : BitVec 4) (m : BitVec 3) (s : State) : Out :=
  runStage (fun r => planMap r 0 (fun st v w =>
    (st.nextPhase (m.toNat = 4), mapLanes st d.toNat a.toNat 0 0 c
      (fun i a _ _ _ => f32 (convert (roundMode m.toNat i st.phase.toNat) x.toNat y.toNat a.toNat)) v w))) s

/-- Four bytes of elements as a lane word. -/
def codeWord (codes : List Nat) (l : Nat) : Word32 :=
  f32 (((List.range 8).map (fun j => codes.getD (8 * l + j) 0 * 16 ^ j)).sum)

/-- CVTB4 (R188, R47). -/
def execCvtb4 (d a : BitVec 2) (_ : BitVec 5) (m : BitVec 3) (s : BitVec 2) (st0 : State) : Out :=
  runStage (fun r => planMap r 0 (fun st v _ =>
    let x (k i : Nat) : Nat := match laneAt v i with
      | .bead b => (b.get (a.toNat + k)).toNat
      | _ => 0
    let dith := m.toNat = 4
    let q := cvtB4 ((List.range 16).map (x 0) ++ (List.range 16).map (x 1)) s.toNat dith (st.const.toNat % 256) st.phase.toNat
    (st.nextPhase dith, lanes (fun i => match laneAt v i with
      | .bead b => .bead (b.set d.toNat (if i < 4 then codeWord q.2 i else if i = 4 then f32 q.1 else 0))
      | l => l)))) st0

/-! ### Lane operations (R189) -/

/-- fld(SRCA) of a lane, or 0. -/
def laneField (v : List Lane) (i k : Nat) : Word32 :=
  match laneAt v i with
  | .bead b => b.get k
  | _ => 0

/-- Set a field of every bead lane. -/
def setField (v : List Lane) (d : Nat) (f : Nat → Bead → Word32) : List Lane :=
  lanes (fun i => match laneAt v i with
    | .bead b => .bead (b.set d (f i b))
    | l => l)

/-- LSHUF. -/
def execLshuf (d a b : BitVec 2) (bs : BitVec 3) (s : State) : Out :=
  runStage (fun r => planMap r bs.toNat (fun st v w =>
    (st, setField v d.toNat (fun i q =>
      laneField v ((st.operandB i a.toNat b.toNat bs.toNat q (laneAt w i)).toNat % 16) a.toNat)))) s

/-- LBCAST. -/
def execLbcast (d a : BitVec 2) (l : BitVec 4) (s : State) : Out :=
  runStage (fun r => planMap r 0 (fun st v _ => (st, setField v d.toNat (fun _ _ => laneField v l.toNat a.toNat)))) s

/-- A combination of two lane values: 0 add to 10 fmax. -/
def combine (o m : Nat) (x y : Word32) : Word32 :=
  match o with
  | 0 => x + y
  | 1 => if x.sle y then x else y
  | 2 => if x.sle y then y else x
  | 3 => if x.ule y then x else y
  | 4 => if x.ule y then y else x
  | 5 => x &&& y
  | 6 => x ||| y
  | 7 => x ^^^ y
  | 8 => f32 (fpAdd (roundMode m 0 0) x.toNat y.toNat)
  | 9 => f32 (fpMin x.toNat y.toNat)
  | _ => f32 (fpMax x.toNat y.toNat)

/-- The identity that stands for a lane without a bead. -/
def identityOf (o : Nat) : Word32 :=
  match o with
  | 1 => 0x7FFFFFFF
  | 2 => 0x80000000
  | 3 => 0xFFFFFFFF
  | 5 => 0xFFFFFFFF
  | 8 => 0x80000000
  | 9 => 0x7FC00000
  | 10 => 0x7FC00000
  | _ => 0

/-- The sixteen values a lane operation combines. -/
def laneValues (v : List Lane) (k o : Nat) : List Word32 :=
  (List.range 16).map (fun i => match laneAt v i with
    | .bead b => b.get k
    | _ => identityOf o)

/-- Inclusive prefixes, serially (R56). -/
def scanFrom (o m : Nat) (acc : Word32) (xs : List Word32) : List Word32 :=
  match xs with
  | [] => []
  | x :: rest => combine o m acc x :: scanFrom o m (combine o m acc x) rest

def scanLanes (o m : Nat) (xs : List Word32) : List Word32 :=
  match xs with
  | [] => []
  | x :: rest => x :: scanFrom o m x rest

/-- One level of the pairwise tree (R56). -/
def pairUp (o m : Nat) (xs : List Word32) : List Word32 :=
  match xs with
  | x :: y :: rest => combine o m x y :: pairUp o m rest
  | xs => xs

/-- LSCAN. -/
def execLscan (d a : BitVec 2) (m : BitVec 3) (o : BitVec 4) (s : State) : Out :=
  runStage (fun r => planMap r 0 (fun st v _ =>
    let xs := scanLanes o.toNat m.toNat (laneValues v a.toNat o.toNat)
    (st, setField v d.toNat (fun i _ => xs.getD i 0)))) s

/-- LRED. -/
def execLred (d a : BitVec 2) (m : BitVec 3) (o : BitVec 4) (s : State) : Out :=
  runStage (fun r => planMap r 0 (fun st v _ =>
    let up := pairUp o.toNat m.toNat
    let total := (up (up (up (up (laneValues v a.toNat o.toNat))))).headD 0
    (st, setField v d.toNat (fun _ _ => total)))) s

/-- LCOMPACT: beads to the lowest lanes, then ghosts, then nothing. -/
def execLcompact (s : State) : Out :=
  runStage (fun r => planMap r 0 (fun st v _ =>
    let isBead (l : Lane) : Bool := l.bead?.isSome
    let q := v.filter isBead ++ v.filter (fun l => !isBead l && !l.isEmpty)
    (st, lanes (fun i => laneAt q i)))) s

end Sys2Proof.Machine
end

