-- ==== Sys2Proof/Machine/StageFlow.lean ====
section
/-! DEFINITION. Stage operations that steer beads, and the tile stage operations (11 R190-R197, R204, R205; 13 R240-R244). -/

namespace Sys2Proof.Machine

/-! ### Sites of a bay (01 R12, R13) -/

/-- What stands at a site of a bay. -/
inductive Site where
  | pipeline
  | scratchpad
  | tile
  | hard
  deriving DecidableEq, Repr

def siteKind (col row : Nat) : Site :=
  let c := col % 8
  let r := row % 8
  if c = 7 then .hard
  else if (c = 2 || c = 3) && (r = 3 || r = 4) then .tile
  else if (c + r) % 2 = 0 then .pipeline else .scratchpad

/-- Unit number of a site among its kind in its bay (R13). -/
def unitAt (col row : Nat) : Nat :=
  ((List.range (row % 8 * 8 + col % 8)).filter (fun i => siteKind (i % 8) (i / 8) == siteKind col row)).length

/-- The bay a stage stands in. -/
def State.stageBay (s : State) (x : StageRef) : Nat :=
  match s.mouldOf x with
  | none => x.die * 32
  | some m => x.die * 32 + m.origin + 8 * ((m.pipeAt x.pipe).y / 8) + (m.pipeAt x.pipe).x / 8

/-- A stage's fault record (19 R360). -/
def State.stageRec (s : State) (x : StageRef) (cause : Byte) (addr lane tag : Nat) : ImpRec :=
  let p := s.pipeOf x
  impRec cause 1 ((s.mouldOf x).map (fun m => m.ctx) |>.getD 0) addr
    (handleOf x.die x.entry + unitAt p.x p.y * 2 ^ 16 + x.stg * 2 ^ 24 + lane * 2 ^ 32) tag

/-- Raise a fault of a stage against the task that loaded the mould (11 R200). -/
def State.stageFault (s : State) (x : StageRef) (cause : Byte) (addr lane tag : Nat) : State :=
  match s.mouldOf x with
  | none => s
  | some m => s.recordImp x.die m.starter (.op m.op) (s.stageRec x cause addr lane tag)

/-! ### Bead control (R190, R191) -/

/-- Lanes selected by predicate. -/
def selected (q : BitVec 1) (b : Bead) : Bool := b.pred == (q == 0#1)

/-- FILTER (R190): each firing is a filter event of the trace (19 R373). -/
def execFilter (q : BitVec 1) (s : State) : Out :=
  runStage (fun x => planOf (fun s v _ =>
    let gone (i : Nat) : Bool := match laneAt v i with
      | .bead b => selected q b
      | _ => false
    let p := s.pipeOf x
    let mask := ((List.range 16).map (fun i => if gone i then 2 ^ i else 0)).sum
    let s := s.trace (s.stageBay x) 2 0 0 (handleOf x.die x.entry * 2 ^ 32 + unitAt p.x p.y * 2 ^ 24 + x.stg * 2 ^ 16 + mask)
    s.emit x (.vec (lanes (fun i => match laneAt v i with
      | .bead b => if selected q b then b.ghost else .bead b
      | l => l))))) s

/-- Send what waits in side, behind what has gone, before anything else. -/
def sendSide (x : StageRef) (s : State) : Option State :=
  match (s.stageOf x).side with
  | [] => none
  | it :: rest => if s.demanded x then some ((s.modStageOf x (fun st => { st with side := rest })).emit x it) else some (s.idles x)

/-- FORK (R190): the vector, then its children. -/
def execFork (d a b : BitVec 2) (bs : BitVec 3) (q : BitVec 1) (s : State) : Out :=
  runStage (fun x =>
    { planOf (fun s v w =>
        let st := s.stageOf x
        let kids := lanes (fun i => match laneAt v i with
          | .bead c =>
            if selected q c then
              .bead { c.set d.toNat (st.operandB i a.toNat b.toNat bs.toNat c (laneAt w i)) with pred := true, own := [] }
            else .empty
          | _ => .empty)
        let s := s.emit x (.vec v)
        if vecEmpty kids then s else s.modStageOf x (fun st => { st with side := [.vec kids] })) with
      paired := bs = 3#3
      readsPb := bs = 3#3
      spare := sendSide x
      drained := fun s => (s.stageOf x).side.isEmpty }) s

/-- Beads of a stage that have been recirculated. -/
def Stage.hasRecirculated (st : Stage) : Bool :=
  let lane (l : Lane) : Bool := match l with
    | .bead b => b.count != 0
    | _ => false
  let item (it : Item) : Bool := match it with
    | .vec v => v.any lane
    | _ => false
  st.out.any item || st.side.any item || (st.busy.getD []).any lane || st.reord.any (fun e => lane e.2) || st.forming.any lane ||
    st.genq.any (fun e => lane e.1)

/-- RECIRC (R191). -/
def execRecirc (q : BitVec 1) (s : State) : Out :=
  runStage (fun x =>
    let goes (b : Bead) : Bool := selected q b && b.count != 255
    { planOf (fun s v _ =>
        let s := (List.range 16).foldl (fun s i =>
          match laneAt v i with
          | .bead b =>
            if goes b then
              s.modPipeOf x (fun p => { p with
                recirc := Smap.put p.recirc [] i (Smap.getD p.recirc [] i ++ [{ b with count := b.count + 1, pred := true }])
                fresh := Smap.put p.fresh 0 i (Smap.getD p.fresh 0 i + 1) })
            else if selected q b then s.stageFault x cRecircLimit 0 i b.tag.toNat
            else s
          | _ => s) s
        s.emit x (.vec (lanes (fun i => match laneAt v i with
          | .bead b => if goes b then .empty else if selected q b then b.ghost else .bead b
          | l => l)))) with
      ready := fun s v => (List.range 16).all (fun i => match laneAt v i with
        | .bead b => !goes b || (Smap.getD (s.pipeOf x).recirc [] i).length < 8
        | _ => true)
      drained := fun s => !(s.pipeOf x).recircs && !((s.pipeOf x).stages.take x.stg).any Stage.hasRecirculated }) s

/-- STEER (R190): selected beads leave through PX in their lanes, and leave ghosts. -/
def execSteer (q : BitVec 1) (s : State) : Out :=
  runStage (fun x => planOf (fun s v _ =>
    let px := lanes (fun i => match laneAt v i with
      | .bead b => if selected q b then .bead b else .empty
      | _ => .empty)
    let s := s.emit x (.vec (lanes (fun i => match laneAt v i with
      | .bead b => if selected q b then b.ghost else .bead b
      | l => l)))
    if vecEmpty px then s else s.modStageOf x (fun st => { st with side := st.side ++ [.vec px] }))) s

/-! ### Streams (R192-R197) -/

/-- MERGE (R192): the previous stage's vectors and PB's, in their order of arrival. -/
def execMerge (s : State) : Out :=
  runStage (fun x =>
    let next (s : State) : Option Bool := (s.stageOf x).order.head?
    let taken (s : State) : State := s.modStageOf x (fun st => { st with order := st.order.drop 1 })
    { planOf (fun s v _ => (taken s).emit x (.vec v)) with
      readsPb := true
      ready := fun s _ => next s = some false
      spare := fun s =>
        match (s.pipeOf x).pb with
        | .vec w :: rest =>
          if s.demanded x && next s = some true then
            some ((taken (s.modPipeOf x (fun p => { p with pb := rest }))).emit x (.vec w))
          else none
        | _ => none }) s

/-- Vectors waiting at a stage's primary input. -/
def Pipe.waiting (p : Pipe) (k : Nat) : Nat :=
  match k with
  | 0 => (p.recirc.map (fun e => e.2.length)).foldl max 0 + p.tk.length + vecCount p.pa
  | j + 1 => vecCount (p.stageAt j).out

/-- A cycle ends: the vectors that have come to a MERGE in it take their places, the previous stage's first (R192), and the beads that
have come back in it may be taken (R223). -/
def Pipe.noteArrivals (p : Pipe) : Pipe :=
  let p := { p with fresh := [] }
  (List.range 6).foldl (fun p k =>
    if opOf (p.stageAt k).word != 0x29 then p
    else p.modStage k (fun st =>
      let old (b : Bool) : Nat := (st.order.filter (fun o => o == b)).length
      { st with order := st.order ++ List.replicate (p.waiting k - old false) false ++ List.replicate (vecCount p.pb - old true) true })) p
def Mould.noteArrivals (m : Mould) : Mould := { m with pipes := m.pipes.map Pipe.noteArrivals }

/-- Move the beads at the expected tag into the forming vector, until it is full or the tag is not there. -/
def Stage.formOrder (st : Stage) (fuel : Nat) : Stage :=
  match fuel with
  | 0 => st
  | n + 1 =>
    if 16 ≤ st.forming.length then st
    else match Smap.find st.reord st.expect.toNat with
      | none => st
      | some l =>
        let st := { st with reord := Smap.erase st.reord st.expect.toNat, expect := st.expect + 1 }
        (match l with
          | .bead b => ({ st with forming := st.forming ++ [Lane.bead b] } : Stage)
          | _ => st).formOrder n

/-- Send a vector that REORD has formed. -/
def sendOrdered (x : StageRef) (s : State) : Option State :=
  let st := (s.stageOf x).formOrder 256
  if st.forming.isEmpty then (if st = s.stageOf x then none else some (s.modStageOf x (fun _ => st)))
  else if s.demanded x then
    some ((s.modStageOf x (fun _ => { st with forming := [] })).emit x (.vec (lanes (fun i => laneAt st.forming i))))
  else none

/-- REORD (R193). -/
def execReord (s : State) : Out :=
  runStage (fun x =>
    let tagOf (l : Lane) : Option (BitVec 16) := match l with
      | .bead b => some b.tag
      | .ghost t _ => some t
      | .empty => none
    { planOf (fun s v _ => s.modStageOf x (fun st =>
        { st with reord := v.foldl (fun m l => match tagOf l with
            | some t => Smap.insert m t.toNat l
            | none => m) st.reord })) with
      ready := fun s v => v.all (fun l => match tagOf l with
        | some t => (t - (s.stageOf x).expect).toNat < 256
        | none => true)
      spare := sendOrdered x
      drained := fun s => (s.stageOf x).reord.isEmpty && (s.stageOf x).forming.isEmpty }) s

/-- SEQTAG (R195): re-tags beads, and consumes ghosts. -/
def execSeqtag (s : State) : Out :=
  runStage (fun x => planMap x 0 (fun st v _ =>
    let r := (List.range 16).foldl (fun (acc : Nat × List Lane) i =>
      match laneAt v i with
      | .bead b => (acc.1 + 1, acc.2 ++ [.bead { b with tag := BitVec.ofNat 16 acc.1 }])
      | _ => (acc.1, acc.2 ++ [.empty])) (st.counter, [])
    ({ st with counter := r.1 % 65536 }, r.2))) s

/-- Up to n lanes from GEN's queue, and what is left (R196). A ghost that arrives is carried on in the order of the input, and takes a lane:
how ghosts meet the packing the manual does not say (DESIGN CHOICE, log entry 37). -/
def genTake (step : Word32) (d n : Nat) (q : List (Lane × Nat)) : List Lane × List (Lane × Nat) :=
  match n with
  | 0 => ([], q)
  | m + 1 =>
    match q with
    | [] => ([], [])
    | (.bead b, k) :: rest =>
      let q := if k ≤ 1 then rest else (.bead (b.set d (b.get d + step)), k - 1) :: rest
      let r := genTake step d m q
      (.bead b :: r.1, r.2)
    | (l, _) :: rest =>
      let r := genTake step d m rest
      (l :: r.1, r.2)

/-- GEN (R196): A copies of each bead, with stepped values. The last vector of an input vector's copies is sent as it is, and is not filled
with the next one's: the manual does not say (DESIGN CHOICE, log entry 119). -/
def execGen (d a b : BitVec 2) (bs : BitVec 3) (i : BitVec 12) (s : State) : Out :=
  runStage (fun x =>
    { planOf (fun s v w => s.modStageOf x (fun st =>
        { st with genq := (List.range 16).flatMap (fun j => match laneAt v j with
            | .bead c =>
              let n := (c.get a.toNat).toNat
              if n = 0 then [(c.ghost, 1)]
              else [(.bead { c.set d.toNat (st.operandB j a.toNat b.toNat bs.toNat c (laneAt w j)) with count := 0, pred := true }, n)]
            | .empty => []
            | l => [(l, 1)]) })) with
      paired := bs = 3#3
      readsPb := bs = 3#3
      spare := fun s =>
        if (s.stageOf x).genq.isEmpty then none
        else if s.demanded x then
          let r := genTake (i.signExtend 32) d.toNat 16 (s.stageOf x).genq
          some ((s.modStageOf x (fun st => { st with genq := r.2 })).emit x (.vec (lanes (fun j => laneAt r.1 j))))
        else some (s.idles x)
      drained := fun s => (s.stageOf x).genq.isEmpty }) s

/-- Side B's beads, past those below a key (R197). -/
def dropBelow (key : Word32) (bs : List Bead) : List Bead := bs.dropWhile (fun b => b.f0.ult key)

/-- Join one vector of side A with side B's beads: the lanes, and what is left of B; none when B's head is not yet known. -/
def joinLanes (d b : Nat) (ended : Bool) (v : List Lane) (bs : List Bead) : Option (List Lane × List Bead) :=
  match v with
  | [] => some ([], bs)
  | .bead a :: rest =>
    (match dropBelow a.f0 bs with
      | h :: t =>
        let l : Lane := if h.f0 = a.f0 then .bead { a.set d (h.get b) with accs := a.accs ++ h.accs } else a.ghost
        (joinLanes d b ended rest (h :: t)).map (fun r => (l :: r.1, r.2))
      | [] => if ended then (joinLanes d b ended rest []).map (fun r => (a.ghost :: r.1, r.2)) else none)
  | l :: rest => (joinLanes d b ended rest bs).map (fun r => (l :: r.1, r.2))

/-- ISECT (R197). -/
def execIsect (d b : BitVec 2) (s : State) : Out :=
  runStage (fun x =>
    let join (s : State) (v : List Lane) := joinLanes d.toNat b.toNat (s.stageOf x).pbEnded v (s.stageOf x).sideB
    { planOf (fun s v _ =>
        match join s v with
        | some r => (s.modStageOf x (fun st => { st with sideB := r.2 })).emit x (.vec r.1)
        | none => s) with
      readsPb := true
      ready := fun s v => (join s v).isSome
      spare := fun s =>
        let needs := (s.stageOf x).inEnded || (match (s.pipeOf x).front x.stg with
          | some (.vec v) => (join s v).isNone
          | _ => false)
        match (s.pipeOf x).pb with
        | .vec w :: rest =>
          if needs then
            some ((s.modPipeOf x (fun p => { p with pb := rest })).modStageOf x (fun st =>
              { st with sideB := if st.inEnded then [] else st.sideB ++ beadsOf w }))
          else none
        | _ => none
      atEnd := fun s => s.modStageOf x (fun st => { st with sideB := [] }) }) s

/-! ### Stream control (R204, R205) -/

/-- SINK (R204). -/
def execSink (s : State) : Out :=
  runStage (fun x => planMap x 0 (fun st v _ =>
    (st, lanes (fun i => match laneAt v i with
      | .bead b => .bead b
      | _ => .empty)))) s

/-- Send a token out of a pipeline's TK. -/
def State.sendToken (s : State) (x : StageRef) (payload kind : Word32) : State :=
  (s.pipeOf x).tko.foldl (fun s d => match d with
    | .tk p => s.modPipeOf { x with pipe := p } (fun q => { q with coming := q.coming ++ [(payload, kind)] })
    | _ => s) s

/-- Stages after stage k, as a mask. -/
def laterStages (k : Nat) : BitVec 6 := BitVec.ofNat 6 (64 - 2 ^ (k + 1))

/-- TOKEN (R205). -/
def execToken (k : BitVec 2) (s : State) : Out :=
  runStage (fun x =>
    { planOf (fun s v _ =>
        let s := s.emit x (.vec v)
        match k.toNat with
        | 0 => s.sendToken x (BitVec.ofNat 32 (beadsOf v).length) 0
        | 2 => if x.stg = 5 then s else s.emit x (.swap (laterStages x.stg))
        | _ => s) with
      atEnd := fun s => if k = 1#2 then s.sendToken x 0 1 else s }) s

/-! ### Tile stage operations (13 R240-R244) -/

/-- TRSWAP (R241). -/
def execTrswap (e m : BitVec 6) (s : State) : Out :=
  runStage (fun x => planOf (fun s v _ =>
    let s := s.emit x (.vec v)
    if (s.stageOf x).counter = e.toNat then (s.modStageOf x (fun st => { st with counter := 0 })).emit x (.swap m)
    else s.modStageOf x (fun st => { st with counter := st.counter + 1 }))) s

/-- TRLOAD (R241): its writes travel ahead of the vector. -/
def execTrload (a b : BitVec 2) (bs : BitVec 3) (p : BitVec 2) (q : BitVec 1) (d : BitVec 3) (s : State) : Out :=
  runStage (fun x =>
    { planOf (fun s v w =>
        let st := s.stageOf x
        let ws := (List.range 16).flatMap (fun l => match laneAt v l with
          | .bead c =>
            if !c.acts p.toNat then []
            else
              let bv := (st.operandB l a.toNat b.toNat bs.toNat c (laneAt w l)).toNat
              if q = 1#1 then (List.range 4).map (fun j => (16 * l + bv % 4 * 4 + j, c.get j))
              else [(16 * l + bv % 16, c.get a.toNat)]
          | _ => [])
        let s := if ws.isEmpty then s else s.emit x (.load (x.stg + d.toNat) ws)
        s.emit x (.vec (lanes (fun i => match laneAt v i with
          | .bead c => if c.acts p.toNat || p = 3#2 then .bead c else c.ghost
          | l => l)))) with
      paired := bs = 3#3
      readsPb := bs = 3#3 }) s

/-- TRMV (R241). -/
def execTrmv (p : BitVec 2) (l : BitVec 1) (q : BitVec 2) (s : State) : Out :=
  runStage (fun x => planMap x 0 (fun st v _ =>
    let file := if l = 1#1 then st.loading else st.active
    let word (i j : Nat) : Word32 := Smap.getD file 0 (16 * i + 4 * q.toNat + j)
    (st, lanes (fun i => match laneAt v i with
      | .bead c =>
        if c.acts p.toNat then .bead { c with f0 := word i 0, f1 := word i 1, f2 := word i 2, f3 := word i 3 }
        else if p = 3#2 then .bead c else c.ghost
      | l => l)))) s

/-- Data beats of a packet with the given header bits 63:32 (R240). -/
def packetBeats (h : Nat) : Nat :=
  let fmt := bitsOf h 31 26
  let n := bitsOf h 19 8 * bitsOf h 7 0
  let beats (bytes : Nat) : Nat := (bytes + 255) / 256
  if fmt = 5 then beats (n / 32 * 4) + beats (n / 2) else beats (n * fmtBytes fmt)

/-- Are header bits 63:32 those of a packet (R240)? -/
def packetOk (h : Nat) : Bool :=
  let fmt := bitsOf h 31 26
  let len := bitsOf h 19 8
  (fmt ≤ 5 || (8 ≤ fmt && fmt ≤ 10)) && bitsOf h 25 20 = (if fmt = 5 then 5 else 0) && 1 ≤ len &&
    (fmt != 5 || len % 32 = 0) && 1 ≤ bitsOf h 7 0

def zeroBead : Bead := { f0 := 0, f1 := 0, f2 := 0, f3 := 0, pred := true, tag := 0, count := 0, accs := [], own := [], dead := false }

/-- PKOUT (R241). -/
def execPkout (a : BitVec 2) (h : BitVec 1) (s : State) : Out :=
  runStage (fun x =>
    { planOf (fun s v _ =>
        let st := s.stageOf x
        let start := st.beats = 0
        let low : Word32 := if h = 1#1 then laneField v 0 a.toNat else 0
        let s := if start then s.emit x (.header (st.const ++ low)) else s
        let left := (if start then packetBeats st.const.toNat else st.beats) - 1
        let s := s.modStageOf x (fun st => { st with beats := left })
        s.emit x (.vec (lanes (fun i => match laneAt v i with
          | .bead c => .bead { zeroBead with f0 := c.f0, f1 := c.f1, f2 := c.f2, f3 := c.f3, accs := c.accs }
          | _ => .bead zeroBead)))) with
      spare := fun s =>
        let st := s.stageOf x
        if st.inEnded && st.beats != 0 && s.demanded x then
          some ((s.modStageOf x (fun st => { st with beats := st.beats - 1 })).emit x (.vec (lanes (fun _ => .bead zeroBead))))
        else none
      drained := fun s => (s.stageOf x).beats = 0 }) s

/-- Draw tags from the injection counter for every bead of a vector, in lane order (R171). -/
def State.drawTags (s : State) (x : StageRef) (v : List Lane) : List Lane × State :=
  match s.mouldOf x with
  | none => (v, s)
  | some m =>
    let r := v.foldl (fun (acc : BitVec 16 × List Lane) l => match l with
      | .bead b => (acc.1 + 1, acc.2 ++ [.bead { b with tag := acc.1 }])
      | l => (acc.1, acc.2 ++ [l])) (m.counter, [])
    (r.2, s.modMould x.die x.entry (fun m => { m with counter := r.1 }))

/-- PKIN (R241). -/
def execPkin (h : BitVec 1) (s : State) : Out :=
  runStage (fun x =>
    { planOf (fun s v _ =>
        let r := s.drawTags x (lanes (fun i => match laneAt v i with
          | .bead c => .bead { c with pred := true, count := 0 }
          | _ => .bead zeroBead))
        r.2.emit x (.vec r.1)) with
      header := fun s w =>
        if h = 0#1 then s
        else
          let hi := w.toNat / 2 ^ 32
          let r := s.drawTags x [.bead { zeroBead with f0 := w.truncate 32, f1 := f32 hi, f2 := f32 (packetBeats hi) }]
          r.2.emit x (.vec r.1)
      headerOut := h = 1#1 }) s

/-- One lane of TMERGE (R242): (m, l, acc) of both sides. -/
def mergeTriple (ma la ca mb lb cb : Nat) : Nat × Nat × Nat :=
  let nan (x : Nat) : Bool := (fp32.decode x).isNan
  if nan ma || nan la || nan ca || nan mb || nan lb || nan cb then (fp32.nanBits, fp32.nanBits, fp32.nanBits)
  else
    let m := fpMax ma mb
    let c (x : Nat) : Nat := if (fp32.decode x).eqv (fp32.decode m) then 0x3F800000 else fexp2 (fpSub .rne x m)
    let ra := c ma
    let rb := c mb
    (m, fpAdd .rne (fpMul .rne la ra) (fpMul .rne lb rb), fpAdd .rne (fpMul .rne ca ra) (fpMul .rne cb rb))

/-- TMERGE (R242). -/
def execTmerge (s : State) : Out :=
  runStage (fun x => planMap x 3 (fun st v w =>
    (st, lanes (fun i => match laneAt v i with
      | .bead a =>
        let q := match laneAt w i with
          | .bead b => (b.f0.toNat, b.f1.toNat, b.f2.toNat)
          | _ => (0xFF800000, 0, 0)
        let r := mergeTriple a.f0.toNat a.f1.toNat a.f2.toNat q.1 q.2.1 q.2.2
        .bead { a with f0 := f32 r.1, f1 := f32 r.2.1, f2 := f32 r.2.2 }
      | l => l)))) s

/-- B4DEC (R243). -/
def execB4dec (d a : BitVec 2) (s : State) : Out :=
  runStage (fun x => planMap x 0 (fun st v _ =>
    let bytes := (List.range 4).flatMap (fun l => bytesOf 4 (laneField v l a.toNat).toNat)
    let vals := tb4Decode (laneField v 4 a.toNat).toNat (tb4Codes bytes)
    (st, lanes (fun i => match laneAt v i with
      | .bead c => .bead ((c.set d.toNat (f32 (vals.getD i 0))).set (d.toNat + 1) (f32 (vals.getD (16 + i) 0)))
      | l => l)))) s

/-- SOFTACC (R244). -/
def execSoftacc (d a b : BitVec 2) (bs : BitVec 3) (c : BitVec 4) (n : BitVec 1) (m : BitVec 3) (s : State) : Out :=
  runStage (fun x => planMap x bs.toNat (fun st v w =>
    let r := (List.range 16).foldl (fun (acc : Stage × List Lane) i =>
      match laneAt v i with
      | .bead q =>
        if !q.acts (pinOf c) then (acc.1, acc.2 ++ [if pinOf c = 3 then .bead q else q.ghost])
        else
          let k := 16 * i + (acc.1.operandB i a.toNat b.toNat bs.toNat q (laneAt w i)).toNat % 16
          let old : Word32 := Smap.getD acc.1.active 0 k
          let new := if n = 1#1 then old + q.get a.toNat
            else f32 (fpAdd (roundMode m.toNat 0 0) old.toNat (q.get a.toNat).toNat)
          ({ acc.1 with active := Smap.put acc.1.active 0 k new }, acc.2 ++ [.bead ((q.set d.toNat new).after (poutOf c) new)])
      | l => (acc.1, acc.2 ++ [l])) (st, [])
    r)) s

end Sys2Proof.Machine
end

