-- ==== Sys2Proof/Machine/StageMem.lean ====
section
/-! DEFINITION. Memory operations of stages (11 R198-R203; 17 R319), and the accesses they issue. -/

namespace Sys2Proof.Machine

/-- The maker of a stage's access in a stream. -/
def State.stageAgent (s : State) (x : StageRef) (port : Bool) (stream : Nat) : Agent :=
  let ctx := (s.mouldOf x).map (fun m => m.ctx) |>.getD 0
  { bay := s.stageBay x, ctx := ctx, priv := ctx == 0
    party := if port then .portStream (stream / 16) (stream % 16) else .padStream (stream / 128) (stream / 4 % 32) (stream % 4) }

def AccKind.want (k : AccKind) (size : Nat) : Want :=
  match k with
  | .load => wantAcquire size
  | .amo _ => { wantAtomic size with wordOk := false }
  | _ => wantWrite size

/-- One access to issue: its lane, what it is, and where. none: the address is no local form (R198). -/
structure AccReq where
  lane : Nat
  kind : AccKind
  addr : Option Nat
  size : Nat
  data : Word32
  dst : Nat
  kv : Bool
  deriving DecidableEq, Repr

/-- The window address of a local form plus an offset (R198): none, which is PAGE_ABSENT with address 0 before any other fault, where bits 31:30
of A are nonzero; a sum past the ends of the form wraps modulo 2^32 (DESIGN CHOICE, log entry 123). -/
def localAddr (a : Word32) (off : Int) (size : Nat) : Option Nat :=
  let va := intBits 32 ((a.toNat : Int) + off * size)
  if a.toNat < 2 ^ 30 then some (0x00FFFFFF00000000 + va) else none

/-- Check an access at issue: its fault, if any (R200). What an access in KV mode meets it meets as it is performed. -/
def State.accCheck (s : State) (ag : Agent) (q : AccReq) : Option Byte × State :=
  match q.addr with
  | none => (some cPageAbsent, s)
  | some va =>
    if q.kv then (none, s)
    else
      match s.resolve ag va (q.kind.want q.size) with
      | (.error c, s) => (some c, s)
      | (.ok _, s) => (none, s)

def AccKind.posted (k : AccKind) : Bool :=
  match k with
  | .load => false
  | .amo _ => false
  | _ => true

/-- The unit stream of an address, and the port stream of an access (R198, R199). -/
def accStream (port : Bool) (bay n : Nat) (va : Nat) : Nat := if port then bay * 16 + n else va / 2 ^ 17 % 4096 * 4 + n

/-- Issue the accesses of a vector as one group (R201): lanes whose access fails at once are absorbed; the others keep the ids
of their accesses. Posted stores let the vector go on at once; loads and atomics hold it. -/
def State.issueGroup (s : State) (x : StageRef) (port : Bool) (n : Nat) (ctl : BitVec 4) (v : List Lane)
    (req : Nat → Bead → List AccReq) : State :=
  let group := s.nextAcc
  let bay := s.stageBay x
  let r := (List.range 16).foldl (fun (acc : List Lane × State) i =>
    match laneAt v i with
    | .bead b =>
      if !b.acts (pinOf ctl) then (acc.1 ++ [if pinOf ctl = 3 then .bead b else b.ghost], acc.2)
      else
        let qs := req i b
        let bad := qs.foldl (fun (f : Option (Byte × Nat) × State) q =>
          match f.1 with
          | some _ => f
          | none =>
            let st := accStream port bay n (q.addr.getD 0)
            match f.2.accCheck (f.2.stageAgent x port st) q with
            | (some c, s) => (some (c, q.addr.getD 0), s)
            | (none, s) => (none, s)) (none, acc.2)
        match bad with
        | (some (c, va), s) => (acc.1 ++ [b.ghost], s.stageFault x c va i b.tag.toNat)
        | (none, s) =>
          let s2 := qs.foldl (fun (w : List Nat × State) q =>
            let va := q.addr.getD 0
            let id := w.2.nextAcc
            let a : StageAcc := { id := id, die := x.die, entry := x.entry, pipe := x.pipe, stg := x.stg, lane := i, port := port,
                                  stream := accStream port bay n va, group := group, kind := q.kind, addr := BitVec.ofNat 64 va,
                                  size := q.size, data := q.data, tag := b.tag, dst := q.dst, kv := q.kv, posted := q.kind.posted,
                                  gen := (w.2.die x.die).slicemap, retried := false, waited := false }
            (w.1 ++ [id], { w.2 with nextAcc := id + 1, stageAccs := w.2.stageAccs ++ [a] })) ([], s)
          let b := { b with accs := b.accs ++ s2.1, own := b.own ++ s2.1 }
          let b := if qs.all (fun q => q.kind.posted) then b.after (poutOf ctl) (b.get (bitsOf (s.stageOf x).word.toNat 24 23)) else b
          (acc.1 ++ [.bead b], s2.2)
    | l => (acc.1 ++ [l], acc.2)) ([], s)
  let s := r.2
  if s.stageAccs.any (fun a => a.group = group && !a.posted) then s.modStageOf x (fun st => { st with busy := some r.1 })
  else s.emit x (.vec r.1)

/-- Run a memory operation. -/
def runMem (port : Bool) (n : Nat) (ctl : BitVec 4) (req : State → StageRef → Nat → Bead → List AccReq) (s : State) : Out :=
  runStage (fun x => planOf (fun s v _ => s.issueGroup x port n ctl v (req s x))) s

def sizeOf2 (z : BitVec 2) : Nat := 1 <<< z.toNat

/-- The low bytes of a field. -/
def lowBytes (w : Word32) (size : Nat) : Word32 := BitVec.ofNat 32 (w.toNat % 2 ^ (8 * size))

/-- SPLD (R198). b is the stream. -/
def execSpld (d a b : BitVec 2) (c : BitVec 4) (z : BitVec 2) (o : BitVec 10) (s : State) : Out :=
  runMem false b.toNat c (fun _ _ i q =>
    [{ lane := i, kind := .load, addr := localAddr (q.get a.toNat) o.toInt (sizeOf2 z), size := sizeOf2 z, data := 0,
       dst := d.toNat, kv := false }]) s

/-- SPST (R198). -/
def execSpst (d a b : BitVec 2) (c : BitVec 4) (z : BitVec 2) (o : BitVec 10) (s : State) : Out :=
  runMem false b.toNat c (fun _ _ i q =>
    [{ lane := i, kind := .store, addr := localAddr (q.get a.toNat) o.toInt (sizeOf2 z), size := sizeOf2 z,
       data := lowBytes (q.get d.toNat) (sizeOf2 z), dst := 0, kv := false }]) s

/-- SPAMO (R198). -/
def execSpamo (d a b : BitVec 2) (c : BitVec 4) (k : BitVec 3) (o : BitVec 9) (s : State) : Out :=
  runMem false b.toNat c (fun _ _ i q =>
    [{ lane := i, kind := .amo k, addr := localAddr (q.get a.toNat) o.toInt 4, size := 4, data := q.get d.toNat, dst := d.toNat,
       kv := false }]) s

/-- SPFILL (R198). -/
def execSpfill (d a b : BitVec 2) (c : BitVec 4) (z : BitVec 2) (o : BitVec 10) (s : State) : Out :=
  runMem false b.toNat c (fun _ _ i q =>
    [{ lane := i, kind := .fill, addr := localAddr (q.get a.toNat) o.toInt (sizeOf2 z), size := sizeOf2 z,
       data := lowBytes (q.get d.toNat) (sizeOf2 z), dst := 0, kv := false }]) s

/-- SPMARK (R198): offset 0, size 4. -/
def execSpmark (_ a b : BitVec 2) (c : BitVec 4) (f : BitVec 1) (s : State) : Out :=
  runMem false b.toNat c (fun _ _ i q =>
    [{ lane := i, kind := .mark (f == 1#1), addr := localAddr (q.get a.toNat) 0 4, size := 4, data := 0, dst := 0, kv := false }]) s

/-- A base register of the mould (R171). -/
def State.baseReg (s : State) (x : StageRef) (n : Nat) : Nat :=
  ((s.mouldOf x).map (fun m => (m.bases.getD n 0).toNat)).getD 0

/-- MLD (R199, 17 R319). -/
def execMld (d a : BitVec 2) (c : BitVec 4) (z : BitVec 2) (e : BitVec 4) (n : BitVec 3) (v : BitVec 1) (s : State) : Out :=
  runMem true e.toNat c (fun s x i q =>
    let base := s.baseReg x n.toNat
    [{ lane := i, kind := .load, size := sizeOf2 z, dst := d.toNat, kv := v = 1#1
       addr := some (if v = 1#1 then base else (base + (q.get a.toNat).toNat * sizeOf2 z) % 2 ^ 64)
       data := if v = 1#1 then q.get a.toNat else 0 }]) s

/-- MST (R199). -/
def execMst (d a : BitVec 2) (c : BitVec 4) (z : BitVec 2) (e : BitVec 4) (n : BitVec 3) (s : State) : Out :=
  runMem true e.toNat c (fun s x i q =>
    [{ lane := i, kind := .store, addr := some ((s.baseReg x n.toNat + (q.get a.toNat).toNat * sizeOf2 z) % 2 ^ 64), size := sizeOf2 z,
       data := lowBytes (q.get d.toNat) (sizeOf2 z), dst := 0, kv := false }]) s

/-- The four 4-byte accesses of a 16-byte gather or scatter; a misaligned address is shifted so that all four are seen to be
misaligned (R199). -/
def quad (i : Nat) (kind : AccKind) (va : Nat) (data : Nat → Word32) : List AccReq :=
  (List.range 4).map (fun j =>
    { lane := i, kind := kind, addr := some (if va % 16 = 0 then va + 4 * j else va / 4 * 4 + 1), size := 4, data := data j, dst := j,
      kv := false })

/-- MGATH (R199). -/
def execMgath (a : BitVec 2) (c e : BitVec 4) (n : BitVec 3) (s : State) : Out :=
  runMem true e.toNat c (fun s x i q =>
    quad i .load ((s.baseReg x n.toNat + (q.get a.toNat).toNat * 16) % 2 ^ 64) (fun _ => 0)) s

/-- MSCAT (R199). -/
def execMscat (a : BitVec 2) (c e : BitVec 4) (n : BitVec 3) (s : State) : Out :=
  runMem true e.toNat c (fun s x i q =>
    quad i .store ((s.baseReg x n.toNat + (q.get a.toNat).toNat * 16) % 2 ^ 64) (fun j => q.get j)) s

/-- SBARS (R203): a vector is held until the named streams' earlier accesses are performed; they are then made visible on the
die. h is bits 15:12 of the port mask, l its bits 11:0, and st names streams of every scratchpad unit. -/
def execSbars (h st : BitVec 4) (l : BitVec 12) (s : State) : Out :=
  let mask := (h ++ l).toNat
  runStage (fun x =>
    { planOf (fun s v _ =>
        let waits := (s.accsOf x.die x.entry).filter (fun a =>
          if a.port then mask / 2 ^ (a.stream % 16) % 2 = 1 else st.toNat / 2 ^ (a.stream % 4) % 2 = 1)
        s.modStageOf x (fun g => { g with busy := some v, waitsFor := waits.map (fun a => a.id) })) with
      spare := fun s =>
        let g := s.stageOf x
        match g.busy with
        | none => none
        | some v =>
          if g.waitsFor.any (fun i => s.stageAccs.any (fun a => a.id = i)) then none
          else
            let deps := ((s.mouldOf x).map (fun m => m.deps)).getD []
            let named (r : WriteRec) : Bool := match r.src with
              | .portStream _ n => mask / 2 ^ n % 2 = 1
              | .padStream _ _ n => st.toNat / 2 ^ n % 2 = 1
              | _ => false
            let s := s.reveal x.die ((s.writes.filter (fun r => deps.contains r.id && named r)).map (fun r => r.id))
            some ((s.modStageOf x (fun g => { g with busy := none, waitsFor := [] })).emit x (.vec v)) }) s

/-! ### Performing an access (R201, R202) -/

def StageAcc.ref (a : StageAcc) : StageRef := { die := a.die, entry := a.entry, pipe := a.pipe, stg := a.stg }

def StageAcc.overlaps (a b : StageAcc) : Bool := a.addr.toNat < b.addr.toNat + b.size && b.addr.toNat < a.addr.toNat + a.size

/-- Has a scratchpad unit of the package the reorder flag 0, by the mould that stands on it (R201, R211)? -/
def State.unitInOrder (s : State) (u : Nat) : Bool :=
  s.dies.any (fun d => d.2.moulds.any (fun e => e.2.present && e.2.inOrder.contains u))

/-- Must access q be performed before access a? An access answered with retry holds back what its stream issued later to its line (09
R165). -/
def State.accBefore (s : State) (q a : StageAcc) : Bool :=
  q.port == a.port && q.stream = a.stream && q.id < a.id &&
    (q.group != a.group || a.port || q.overlaps a || (q.retried && q.addr.toNat / 128 = a.addr.toNat / 128) ||
      (match a.kind with
        | .fill => true
        | .mark _ => true
        | _ => false) ||
      s.unitInOrder (a.stream / 4))

/-- A stage access whose line was hashed under an old map (09 R165). -/
def State.staleAcc (s : State) (a : StageAcc) : Bool := !isPad a.addr.toNat && a.gen != (s.die a.die).slicemap

/-- The bead of an access's lane receives a value, or is absorbed. -/
def State.accLane (s : State) (a : StageAcc) (f : Bead → Lane) : State :=
  s.modStageOf a.ref (fun st => { st with busy := st.busy.map (fun v => v.modify a.lane (fun l => match l with
    | .bead b => f b
    | l => l)) })

/-- Remove an access; the vector it held goes on when it was the last (R178). -/
def State.accDone (s : State) (a : StageAcc) : State :=
  let s := { s with stageAccs := s.stageAccs.filter (fun q => q.id != a.id) }
  let x := a.ref
  let s :=
    if a.posted || s.stageAccs.any (fun q => q.ref = x && !q.posted) then s
    else match (s.stageOf x).busy with
      | some v => (s.modStageOf x (fun st => { st with busy := none })).emit x (.vec v)
      | none => s
  (s.flush x).sweep a.die a.entry

/-- The beads of a mould that an access was issued for are absorbed, wherever they have gone: each leaves a ghost, but for one taken from
PB, and one that recirculates leaves it as it comes back (R174, R200). -/
def Mould.absorb (m : Mould) (id : Nat) : Mould :=
  let lost (b : Bead) : Bool := b.own.contains id
  let lane (l : Lane) : Lane := match l with
    | .bead b => if lost b then b.ghost else l
    | l => l
  let item (it : Item) : Item := match it with
    | .vec v => .vec (v.map lane)
    | it => it
  { m with pipes := m.pipes.map (fun p => { p with
      pa := p.pa.map item
      pb := p.pb.map item
      recirc := p.recirc.map (fun e => (e.1, e.2.map (fun b => if lost b then { b with dead := true } else b)))
      stages := p.stages.map (fun st => { st with
        out := st.out.map item
        side := st.side.map item
        busy := st.busy.map (fun v => v.map lane)
        reord := st.reord.map (fun e => (e.1, lane e.2))
        forming := st.forming.filter (fun l => match l with
          | .bead b => !lost b
          | _ => true)
        genq := st.genq.map (fun e => match e.1 with
          | .bead b => if lost b then (b.ghost, 1) else e
          | _ => e)
        sideB := st.sideB.filter (fun b => !lost b) }) }) }

/-- An access fails: its bead is absorbed, with its other accesses' results dropped (R200). A posted access's bead has moved on. -/
def State.accFail (s : State) (a : StageAcc) (c : Byte) : State :=
  let s := s.stageFault a.ref c a.addr.toNat a.lane a.tag.toNat
  let s := if a.posted then s.modMould a.die a.entry (fun m => m.absorb a.id) else s.accLane a (fun b => b.ghost)
  ({ s with stageAccs := s.stageAccs.filter (fun q => q.posted || q.group != a.group || q.lane != a.lane || q.id = a.id) } : State).accDone a

/-- A value returns to the bead; POUT is applied when the lane has all of its results. Of MGATH, which has four results where R176 speaks of
one, the word that POUT 01 tests is f0, the field DST names (DESIGN CHOICE, log entry 38). -/
def State.accReturn (s : State) (a : StageAcc) (v : Nat) : State :=
  let last := !s.stageAccs.any (fun q => q.ref = a.ref && q.lane = a.lane && q.id != a.id && !q.posted)
  let word := (s.stageOf a.ref).word.toNat
  s.accLane a (fun b =>
    let b := b.set a.dst (BitVec.ofNat 32 v)
    .bead (if last then b.after (bitsOf word 13 12) (b.get (bitsOf word 24 23)) else b))

/-- What the mould's accesses have done is remembered for those that collect its beads (R219, R220). -/
def State.accNote (s : State) (a : StageAcc) (p : Party) : State :=
  s.modMould a.die a.entry (fun m => { m with deps := (m.deps ++ s.past p).dedup })

/-- A GUARD touch of a stage's access, raised against the task that started the mould (09 R152). -/
def State.accGuard (s : State) (a : StageAcc) (ag : Agent) (va : Nat) : State :=
  match s.mouldOf a.ref with
  | some m => s.touchGuard a.die m.starter ag.party 1 m.ctx (s.stageRec a.ref 0 0 a.lane 0).d1.toNat va
  | none => s

/-- An access waits on FULL or HELD: a memory event of the trace, once (19 R373). -/
def State.accWait (s : State) (a : StageAcc) (kind va : Nat) : State :=
  if a.waited then s
  else
    { (s.trace (s.stageBay a.ref) 3 0 (Config.traceKind kind) va) with
      stageAccs := s.stageAccs.map (fun q => if q.id = a.id then { q with waited := true } else q) }

/-- The row of an MLD in KV mode, where it lies in scratchpad: a touch of a guarded line, or a wait on FULL (R199; 17 R319). -/
def State.accRow (s : State) (a : StageAcc) (ag : Agent) : Bool × State :=
  let va := kvRowAddr a.addr.toNat a.data.toNat
  if !a.kv then (true, s)
  else match s.resolve ag va (wantPlain 8 false) with
    | (.error _, s) => (true, s)
    | (.ok p, s) =>
      if s.guardedPlace p then (true, s.accGuard a ag va)
      else if s.readWaits p then (false, s.accWait a 2 va)
      else if s.placeCut p then (Config.freeBool s.tick 1, s)
      else (true, s)

/-- Perform an access whose turn has come. -/
def State.accPerform (s : State) (a : StageAcc) : State :=
  let x := a.ref
  let ag := s.stageAgent x a.port a.stream
  let va := a.addr.toNat
  let group := a.group + 1
  let s := s.observe ag.die ag.party (((s.mouldOf x).map (fun m => m.deps)).getD [])
  match s.accRow a ag with
  | (false, s) => s
  | (true, s) =>
    match (if a.kv then s.kvModePlace ag va a.data.toNat a.size else s.resolve ag va (a.kind.want a.size)) with
    | (.error c, s) => s.accFail a c
    | (.ok p, s) =>
      let isMark := match a.kind with
        | .mark _ => true
        | _ => false
      let isAmo := match a.kind with
        | .amo _ => true
        | _ => false
      let reads := !a.posted
      let writes := a.posted || isAmo
      if s.guardedPlace p then
        -- A guarded line: zero is read, a write is dropped, and GUARD is raised (09 R152).
        let s := s.accGuard a ag va
        (if reads then s.accReturn a 0 else s).accDone a
      else if s.placeCut p then (if Config.freeBool s.tick 0 then s.accFail a cLinkFault else s)
      else if reads && s.readWaits p then s.accWait a 2 va
      else if writes && !isMark && s.writeWaits p then s.accWait a 3 va
      else if !isMark && (if a.kind = .store || a.kind = .fill then a.size < 8 && s.placeBad p a.size else s.placeBad p a.size) then
        s.accFail a cUncorrectable
      else
        match a.kind with
        | .load =>
          let r := s.readPlace ag va p a.size false
          ((r.2.accNote a ag.party).accReturn a r.1).accDone a
        | .amo op =>
          let r := (s.trace (s.stageBay x) 3 0 (Config.traceKind 0) va).readPlace ag va p 4 true
          let s := r.2.writePlaceIn ag group va p 4 (amoValue op.toNat 4 r.1 a.data.toNat) [] true
          ((s.accNote a ag.party).accReturn a r.1).accDone a
        | .store => ((s.writePlaceIn ag group va p a.size a.data.toNat [] false).accNote a ag.party).accDone a
        | .fill =>
          let s := (s.writePlaceIn ag group va p a.size a.data.toNat [] false).accNote a ag.party
          (s.modLine (padLine va) (fun l => { l with full := true, deps := s.past ag.party })).accDone a
        | .mark f => (s.modLine (padLine va) (fun l => { l with full := f, deps := if f then s.past ag.party else [] })).accDone a

/-- STAGE_ACCESS_COMPLETE (R201): an access of a stage is performed when those before it in its stream have been, and returns or
fails. One whose line was hashed under an old map waits for its retry (09 R165). -/
def execStageAccessComplete (access : Nat) (s : State) : Out :=
  match s.stageAccs.find? (fun a => a.id = access) with
  | none => .next s
  | some a => if s.staleAcc a || s.stageAccs.any (fun q => s.accBefore q a) then .next s else .next (s.accPerform a)

end Sys2Proof.Machine
end

