-- ==== Sys2Proof/Machine/MouldImage.lean ====
section
/-! DEFINITION. Mould images: their layout, switch words and routes, the checks a load makes, and the mould it configures
(11 R169, R194, R207-R212; 13 R241). -/

namespace Sys2Proof.Machine

/-! ### Reading for an engine operation -/

/-- Read n bytes as loads of an operation, 8 at a time: the bytes, or the cause and the address. GUARD is raised against the
task that issued it. -/
def State.readAs (s : State) (a : Agent) (uid : Nat) (source : Byte) (d1 va n : Nat) : Except (Byte × Nat) (List Byte) × State :=
  (List.range ((n + 7) / 8)).foldl (fun acc i =>
    match acc with
    | (.error c, s) => (.error c, s)
    | (.ok bs, s) =>
      let q := va + 8 * i
      match s.resolve a q (wantPlain 8 false) with
      | (.error c, s) => (.error (c, q), s)
      | (.ok p, s) =>
        if s.placeBad p 8 then (.error (cUncorrectable, q), s)
        else if s.placeCut p then (.error (cLinkFault, q), s)
        else
          let s := if s.guardedPlace p then s.touchGuard a.die uid a.party source a.ctx d1 q else s
          let r := s.readPlace a q p 8 false
          (.ok (bs ++ bytesOf (min 8 (n - 8 * i)) r.1), r.2)) (.ok [], s)

/-- Read translated memory for an engine operation, which no window address is (R210, R215). -/
def State.readMapped (s : State) (a : Agent) (uid : Nat) (source : Byte) (d1 va n : Nat) : Except (Byte × Nat) (List Byte) × State :=
  match (List.range ((n + 7) / 8)).find? (fun i => isWindow (va + 8 * i)) with
  | some i => (.error (cPageAbsent, va + 8 * i), s)
  | none => s.readAs a uid source d1 va n

/-! ### Layout (R210, R211) -/

structure PortRec where
  off : Nat
  kind : Nat
  idx : Nat
  x : Nat
  y : Nat
  deriving DecidableEq, Repr

structure PipeRec where
  off : Nat
  x : Nat
  y : Nat
  words : List Word32
  zero : Bool
  deriving DecidableEq, Repr

structure PadRec where
  off : Nat
  x : Nat
  y : Nat
  port : Nat
  deriving DecidableEq, Repr

/-- A switch record (R208). -/
structure SwitchRec where
  off : Nat
  x : Nat
  y : Nat
  kind : Nat
  inp : Nat
  out : Nat
  inside : Nat
  outside : Nat
  rest : Nat
  portb : Nat
  reg : Nat
  deriving DecidableEq, Repr

structure ConstRec where
  off : Nat
  x : Nat
  y : Nat
  stg : Nat
  reg : Nat
  count : Nat
  zero : Bool
  words : List Word32
  /-- Offsets of nonzero padding bytes behind the words. -/
  tail : List Nat
  deriving DecidableEq, Repr

structure Image where
  w : Nat
  h : Nat
  np : Nat
  ns : Nat
  nsrc : Nat
  nsnk : Nat
  bases : List Word
  ports : List PortRec
  pipes : List PipeRec
  pads : List PadRec
  switches : List SwitchRec
  consts : List ConstRec
  /-- Offsets of failing fields found in the bytes themselves. -/
  bad : List Nat
  deriving DecidableEq, Repr

def up8 (n : Nat) : Nat := (n + 7) / 8 * 8

def words32 (bs : List Byte) (off n : Nat) : List Word32 := (List.range n).map (fun i => BitVec.ofNat 32 (field bs (off + 4 * i) 4))

/-- Offsets of the sections that follow the header. -/
def imagePorts : Nat := 80
def imagePipes (h : List Byte) : Nat := up8 (80 + 4 * (field h 12 1 + field h 13 1))
def imagePads (h : List Byte) : Nat := imagePipes h + 32 * field h 4 2
def imageSwitches (h : List Byte) : Nat := up8 (imagePads h + 4 * field h 6 2)
def imageConsts (h : List Byte) : Nat := up8 (imageSwitches h + 4 * field h 8 2)

/-- Nonzero padding bytes between two offsets. -/
def padding (bs : List Byte) (lo hi : Nat) : List Nat :=
  ((List.range (hi - lo)).map (fun i => lo + i)).filter (fun o => field bs o 1 != 0)

def switchOf (bs : List Byte) (o : Nat) : SwitchRec :=
  let w := field bs (o + 2) 2
  { off := o, x := field bs o 1, y := field bs (o + 1) 1, kind := bitsOf w 15 14, inp := bitsOf w 13 11, out := bitsOf w 10 8,
    inside := bitsOf w 7 6, outside := bitsOf w 5 4, rest := bitsOf w 3 2, portb := bitsOf w 1 1, reg := w % 2 }

/-- The header's checks (R212). -/
def imageHeaderBad (h : List Byte) : List Nat :=
  (if field h 0 2 != 0xC7A5 then [0] else []) ++ (if field h 2 1 = 0 || 8 < field h 2 1 then [2] else []) ++
    (if field h 3 1 = 0 || 4 < field h 3 1 then [3] else []) ++ (if field h 4 2 = 0 || 832 < field h 4 2 then [4] else []) ++
    (if 832 < field h 6 2 then [6] else []) ++ (if 16 < field h 12 1 then [12] else []) ++
    (if field h 13 1 = 0 || 16 < field h 13 1 then [13] else []) ++ (if field h 14 2 != 0 then [14] else []) ++
    ((List.range 8).filter (fun i => field h (23 + 8 * i) 1 != 0)).map (fun i => 23 + 8 * i)

/-- The image up to its constants, from its bytes. -/
def imageOf (bs : List Byte) : Image :=
  let np := field bs 4 2
  let ns := field bs 6 2
  let nr := field bs 8 2
  let nq := field bs 12 1 + field bs 13 1
  let o1 := imagePipes bs
  let o2 := imagePads bs
  let o3 := imageSwitches bs
  { w := field bs 2 1, h := field bs 3 1, np := np, ns := ns, nsrc := field bs 12 1, nsnk := field bs 13 1
    bases := (List.range 8).map (fun i => BitVec.ofNat 64 (field bs (16 + 8 * i) 8))
    ports := (List.range nq).map (fun i =>
      let o := imagePorts + 4 * i
      { off := o, kind := field bs o 1, idx := field bs (o + 1) 1, x := field bs (o + 2) 1, y := field bs (o + 3) 1 })
    pipes := (List.range np).map (fun i =>
      let o := o1 + 32 * i
      { off := o, x := field bs o 1, y := field bs (o + 1) 1, words := words32 bs (o + 8) 6, zero := field bs (o + 2) 6 = 0 })
    pads := (List.range ns).map (fun i =>
      let o := o2 + 4 * i
      { off := o, x := field bs o 1, y := field bs (o + 1) 1, port := field bs (o + 2) 2 })
    switches := (List.range nr).map (fun i => switchOf bs (o3 + 4 * i))
    consts := []
    bad := imageHeaderBad bs ++ padding bs (80 + 4 * nq) o1 ++ padding bs (o2 + 4 * ns) o3 ++ padding bs (o3 + 4 * nr) (imageConsts bs) }

/-! ### Routes (R207-R209) -/

/-- A track segment in one direction: direction (0 E, 1 W, 2 S, 3 N), row or column, track, index. -/
structure Seg where
  dir : Nat
  line : Nat
  track : Nat
  idx : Nat
  deriving DecidableEq, Repr

/-- Length of a track. -/
def trackLen (t : Nat) : Nat := if t < 4 then 1 else if t < 6 then 4 else 16

/-- The segment driven out of a side (0 N, 1 E, 2 S, 3 W) at a site; none where it would leave the footprint or has no end
there. -/
def outSeg (w8 h8 side t x y : Nat) : Option Seg :=
  let l := trackLen t
  match side with
  | 0 => if y % l = 0 && l ≤ y then some ⟨3, x, t, y / l - 1⟩ else none
  | 1 => if x % l = 0 && x + l < w8 then some ⟨0, y, t, x / l⟩ else none
  | 2 => if y % l = 0 && y + l < h8 then some ⟨2, x, t, y / l⟩ else none
  | _ => if x % l = 0 && l ≤ x then some ⟨1, y, t, x / l - 1⟩ else none

/-- The segment read on a side at a site. -/
def inSeg (w8 h8 side t x y : Nat) : Option Seg :=
  let l := trackLen t
  match side with
  | 0 => if y % l = 0 && l ≤ y then some ⟨2, x, t, y / l - 1⟩ else none
  | 1 => if x % l = 0 && x + l < w8 then some ⟨1, y, t, x / l⟩ else none
  | 2 => if y % l = 0 && y + l < h8 then some ⟨3, x, t, y / l⟩ else none
  | _ => if x % l = 0 && l ≤ x then some ⟨0, y, t, x / l - 1⟩ else none

/-- What drives a path: a segment, or a port of a site (0 PO, 1 PX, 2 TK). -/
inductive Node where
  | seg (s : Seg)
  | port (k x y : Nat)
  deriving DecidableEq, Repr

def Image.inNode (m : Image) (w : SwitchRec) : Option Node :=
  if w.inp = 7 then some (.port (if w.kind = 2 then 2 else w.portb) w.x w.y)
  else (inSeg (8 * m.w) (8 * m.h) w.inside w.inp w.x w.y).map Node.seg

def Image.outNode (m : Image) (w : SwitchRec) : Option Seg := outSeg (8 * m.w) (8 * m.h) w.outside w.out w.x w.y

/-- Switches reached from a node, each with the number of switches since the last register. -/
def Image.follow (m : Image) (fuel : Nat) (n : Node) (count : Nat) : List (SwitchRec × Nat) :=
  match fuel with
  | 0 => []
  | f + 1 =>
    (m.switches.filter (fun w => m.inNode w == some n)).flatMap (fun w =>
      let c := if w.reg = 1 then 0 else count + 1
      (w, c) :: (if w.out = 7 then [] else match m.outNode w with
        | some s => m.follow f (.seg s) c
        | none => []))

def Image.path (m : Image) (n : Node) : List (SwitchRec × Nat) := m.follow (m.switches.length + 1) n 0

def Image.pipeIdx (m : Image) (x y : Nat) : Option Nat := m.pipes.findIdx? (fun p => p.x = x && p.y = y)

/-- Input ports a data output leads to along its route. -/
def Image.routeDests (m : Image) (px x y : Nat) : List Dest :=
  (m.path (.port px x y)).filterMap (fun e =>
    if e.1.kind = 0 && e.1.out = 7 then
      (m.pipeIdx e.1.x e.1.y).map (fun i => if e.1.portb = 1 then Dest.pb i else Dest.pa i)
    else none)

/-- Pipelines whose TK a token reaches. -/
def Image.tokenDests (m : Image) (x y : Nat) : List Dest :=
  (m.path (.port 2 x y)).filterMap (fun e =>
    if e.1.kind = 2 && e.1.out = 7 then (m.pipeIdx e.1.x e.1.y).map Dest.tk else none)

/-- Sinks bound to a pipeline's PO or PX. -/
def Image.sinkDests (m : Image) (kind x y : Nat) : List Dest :=
  (m.ports.filter (fun p => p.kind = kind && p.x = x && p.y = y)).map (fun p => Dest.sink p.idx)

def Image.poDests (m : Image) (x y : Nat) : List Dest := m.sinkDests 2 x y ++ m.routeDests 0 x y
def Image.pxDests (m : Image) (x y : Nat) : List Dest := m.sinkDests 3 x y ++ m.routeDests 1 x y

/-- The checks of one switch word (R208, R209). -/
def Image.switchBad (m : Image) (w : SwitchRec) : Bool :=
  let site := siteKind w.x w.y
  let track (t : Nat) : Bool := t ≤ 6
  let port := w.inp = 7 || w.out = 7
  w.kind = 3 || w.rest != 0 ||
  (w.inp = 7 && w.inside != 0) || (w.out = 7 && w.outside != 0) || (w.inp = 7 && w.out = 7) ||
  (!port && w.portb != 0) || (port && site != .pipeline && site != .scratchpad) || (port && site == .scratchpad && w.portb != 0) ||
  (w.inp != 7 && (m.inNode w).isNone) || (w.out != 7 && (m.outNode w).isNone) ||
  (w.kind = 1 && (port || !track w.inp || w.inp != w.out || w.inp < 4 || w.outside != (w.inside + 2) % 4)) ||
  (w.kind = 2 && (!port || w.portb != 0 || site != .pipeline))

/-- Does a path that reaches a switch pass eight switches without a register before it (R209)? A path may start anywhere: at a port,
on a track that nothing drives, or on a ring. -/
def Image.pathLong (m : Image) (w : SwitchRec) : List Nat :=
  match m.inNode w with
  | none => []
  | some n => ((m.follow 9 n 0).filter (fun e => 8 < e.2)).map (fun e => e.1.off + 2)

/-- Does a route from a pipeline's PO reach an input port that is no PA of a pipeline with a PKIN in s0 (13 R241)? -/
def Image.strayPacket (m : Image) (x y : Nat) : Bool :=
  (m.path (.port 0 x y)).any (fun e => e.1.out = 7 && e.1.kind != 2 &&
    (e.1.portb = 1 || (match m.pipes.find? (fun p => p.x = e.1.x && p.y = e.1.y) with
      | some p => opOf (p.words.getD 0 0) != 0x3C
      | none => true)))

/-- A later switch that drives a segment or an input port that has a driver (R209). -/
def Image.doubleDriven (m : Image) (w : SwitchRec) : Bool :=
  m.switches.any (fun q => q.off < w.off &&
    (if w.out = 7 then q.out = 7 && q.x = w.x && q.y = w.y && (q.kind = 2) == (w.kind = 2) && q.portb = w.portb
     else q.out != 7 && m.outNode q == m.outNode w)) ||
  (w.out = 7 && w.kind = 0 && m.ports.any (fun p => p.kind = w.portb && p.x = w.x && p.y = w.y))

/-! ### Stage words (R169, R177, R194) -/

def stageOp (w : Word32) : Nat := opOf w

/-- Does a word read PB (R169)? -/
def wordReadsPb (w : Word32) : Bool :=
  [0x29, 0x2D, 0x3D].contains (stageOp w) || (bitsOf w.toNat 18 16 = 3 && !([0x1D, 0x1E, 0x37] : List Nat).contains (stageOp w))

/-- The checks of a word at stage k of a pipeline. -/
def wordBad (w : Word32) (k : Nat) : Bool :=
  match decodeStage w with
  | .error _ => true
  | .ok _ =>
    let imm := w.toNat % 4096
    match stageOp w with
    | 0x38 => imm % 64 % 2 ^ (k + 1) != 0
    | 0x39 => 5 < k + imm % 8
    | 0x3B => k != 5
    | 0x3C => k != 0
    | _ => false

def PipeRec.word (p : PipeRec) (k : Nat) : Word32 := p.words.getD k 0
def PipeRec.countOp (p : PipeRec) (op : Nat) : Nat := (p.words.filter (fun w => stageOp w = op)).length

/-- Where the tags at a place come from: 0 the injection counter, n + 1 the SEQTAG at stage n (6 times the pipeline plus the
stage); with true when a FORK or GEN lies on the way (R194). -/
abbrev Origins := List (Nat × Bool)

/-- The origins at the output of a stage, from those at its inputs. -/
def stageOrigins (w : Word32) (here : Nat) (main side : Origins) : Origins :=
  match stageOp w with
  | 0x2C => [(here + 1, false)]
  | 0x3C => [(0, false)]
  | 0x26 => main.map (fun o => (o.1, true))
  | 0x2B => main.map (fun o => (o.1, true))
  | 0x29 => (main ++ side).dedup
  | _ => main

/-- One round of propagation over the inputs of all stages: key 6 * pipeline + stage; PB inputs at 6 * np + pipeline. -/
def Image.originRound (m : Image) (t : List Origins) : List Origins :=
  let at_ (i : Nat) : Origins := t.getD i []
  let np := m.pipes.length
  let outOf (p k : Nat) : Origins := stageOrigins ((m.pipes.getD p ⟨0, 0, 0, [], true⟩).word k) (6 * p + k) (at_ (6 * p + k)) (at_ (6 * np + p))
  let feeding (d : Dest) : Origins := (List.range np).flatMap (fun p =>
    match m.pipes[p]? with
    | none => []
    | some r =>
      (if (m.routeDests 0 r.x r.y).contains d then outOf p 5 else []) ++
        (if (m.routeDests 1 r.x r.y).contains d then
          (List.range 6).flatMap (fun k => if stageOp (r.word k) = 0x28 then at_ (6 * p + k) else [])
        else []))
  let src (kind : Nat) (r : PipeRec) : Origins := if m.ports.any (fun q => q.kind = kind && q.x = r.x && q.y = r.y) then [(0, false)] else []
  (List.range np).flatMap (fun p =>
    match m.pipes[p]? with
    | none => []
    | some r =>
      let tk : Origins := if (List.range np).any (fun q => match m.pipes[q]? with
        | some z => (m.tokenDests z.x z.y).contains (.tk p)
        | none => false) then [(0, false)] else []
      let back := (List.range 6).flatMap (fun k => if stageOp (r.word k) = 0x27 then at_ (6 * p + k) else [])
      ((src 0 r ++ tk ++ feeding (.pa p) ++ back).dedup) :: (List.range 5).map (fun k => outOf p k)) ++
  (List.range np).map (fun p =>
    match m.pipes[p]? with
    | none => []
    | some r => (src 1 r ++ feeding (.pb p)).dedup)

def iterate {α : Type} (n : Nat) (f : α → α) (x : α) : α :=
  match n with
  | 0 => x
  | k + 1 => iterate k f (f x)

/-- REORDs whose beads have more than one origin, or meet a FORK or GEN on the way (R194). -/
def Image.orderBad (m : Image) : List Nat :=
  let t := iterate (12 * m.pipes.length + 2) m.originRound []
  (List.range m.pipes.length).flatMap (fun p =>
    match m.pipes[p]? with
    | none => []
    | some r => ((List.range 6).filter (fun k =>
        let o := t.getD (6 * p + k) []
        stageOp (r.word k) = 0x2A && (o.any (fun e => e.2) || 1 < (o.map (fun e => e.1)).dedup.length))).map (fun k => r.off + 8 + 4 * k))

/-! ### All the checks of R212 -/

/-- Every stage but the first of a pipeline for which a test holds: where a second reader of PB, STEER or RECIRC stands (R169, R190, R191). -/
def PipeRec.again (p : PipeRec) (test : Word32 → Bool) : List Nat :=
  (((List.range 6).filter (fun k => test (p.word k))).drop 1).map (fun k => p.off + 8 + 4 * k)

def dupSite (l : List (Nat × Nat × Nat)) : List Nat :=
  (l.filter (fun e => l.any (fun q => q.1 < e.1 && q.2 = e.2))).map (fun e => e.1)

/-- The failing fields of an image, in no order. origin is the north-west bay on the die. A footprint that passes the die's columns fails
at W, one that passes its rows at H, and one with a bay out of service at W (log entry 41). -/
def Image.failures (m : Image) (s : State) (d origin : Nat) : List Nat :=
  let inside (x y : Nat) : Bool := x < 8 * m.w && y < 8 * m.h
  let foot :=
    if 8 < origin % 8 + m.w then [2] else if 4 < origin / 8 + m.h then [3]
    else if (List.range m.h).all (fun y => (List.range m.w).all (fun x => s.bayUp (d * 32 + origin + 8 * y + x))) then [] else [2]
  let pipes := m.pipes.flatMap (fun p =>
    (if inside p.x p.y && siteKind p.x p.y == .pipeline then [] else [p.off]) ++ (if p.zero then [] else [p.off + 2]) ++
    ((List.range 6).filter (fun k => wordBad (p.word k) k)).map (fun k => p.off + 8 + 4 * k) ++
    p.again wordReadsPb ++ p.again (fun w => stageOp w = 0x28) ++ p.again (fun w => stageOp w = 0x27) ++
    (if (m.poDests p.x p.y).isEmpty && !m.switches.any (fun w => m.inNode w == some (.port 0 p.x p.y)) then [p.off] else []) ++
    (if 0 < p.countOp 0x28 && (m.pxDests p.x p.y).isEmpty && !m.switches.any (fun w => m.inNode w == some (.port 1 p.x p.y)) then [p.off]
     else []) ++
    (if p.words.any wordReadsPb && !m.ports.any (fun q => q.kind = 1 && q.x = p.x && q.y = p.y) &&
        !m.switches.any (fun w => w.kind = 0 && w.out = 7 && w.portb = 1 && w.x = p.x && w.y = p.y)
      then ((List.range 6).filter (fun k => wordReadsPb (p.word k))).map (fun k => p.off + 8 + 4 * k) else []) ++
    -- PKOUT leads to PKIN alone, and no source to PKIN (13 R241); its header is one of R240.
    (if stageOp (p.word 5) = 0x3B &&
        !((m.poDests p.x p.y).all (fun t => match t with
          | .pa i => (match m.pipes[i]? with
            | some q => stageOp (q.word 0) == 0x3C
            | none => false)
          | _ => false) && !m.strayPacket p.x p.y) then [p.off + 28] else []) ++
    (if stageOp (p.word 5) = 0x3B && !packetOk (((m.consts.find? (fun c => c.x = p.x && c.y = p.y && c.stg = 5 && c.reg = 0)).map
        (fun c => (c.words.headD 0).toNat)).getD 0) then [p.off + 28] else []))
  let ports := m.ports.flatMap (fun q =>
    (if 3 < q.kind then [q.off] else []) ++ (if 15 < q.idx then [q.off + 1] else []) ++
    (match m.pipeIdx q.x q.y with
      | none => [q.off + 2]
      | some i =>
        let p := m.pipes.getD i ⟨0, 0, 0, [], true⟩
        (if q.kind = 3 && p.countOp 0x28 = 0 then [q.off] else []) ++ (if q.kind = 0 && stageOp (p.word 0) = 0x3C then [q.off] else [])) ++
    (if m.ports.any (fun r => r.off < q.off && r.kind = q.kind && (r.idx = q.idx || (q.kind < 2 && r.x = q.x && r.y = q.y)))
     then [q.off] else []))
  let pads := m.pads.flatMap (fun q =>
    (if inside q.x q.y && siteKind q.x q.y == .scratchpad then [] else [q.off]) ++ (if q.port % 16 != 0 || 31 < q.port then [q.off + 2] else []))
  let switches := m.switches.flatMap (fun w =>
    (if 8 * m.w ≤ w.x || 8 * m.h ≤ w.y then [w.off] else []) ++
    (if m.switchBad w || m.doubleDriven w then [w.off + 2] else []) ++
    (if w.inp = 7 && w.kind = 0 && w.portb = 1 && siteKind w.x w.y == .pipeline &&
        (match m.pipeIdx w.x w.y with
          | some i => (m.pipes.getD i ⟨0, 0, 0, [], true⟩).countOp 0x28 = 0
          | none => true) then [w.off + 2] else []) ++
    m.pathLong w)
  let consts := m.consts.flatMap (fun c =>
    (if (m.pipeIdx c.x c.y).isNone then [c.off] else []) ++ (if 5 < c.stg then [c.off + 2] else []) ++ (if 2 < c.reg then [c.off + 3] else []) ++
    (if c.count != (if c.reg = 0 then 1 else 256) then [c.off + 4] else []) ++ (if c.zero then [] else [c.off + 6]) ++ c.tail ++
    (if m.consts.any (fun q => q.off < c.off && q.x = c.x && q.y = c.y && q.stg = c.stg && q.reg = c.reg) then [c.off] else []))
  m.bad ++ foot ++ ports ++ pipes ++ dupSite (m.pipes.map (fun p => (p.off, p.x, p.y))) ++ pads ++
    dupSite (m.pads.map (fun p => (p.off, p.x, p.y))) ++ switches ++ consts ++ m.orderBad

/-! ### The mould an image configures (R170, R171) -/

/-- A stage as MLOAD sets it. -/
def Image.stageInit (m : Image) (p : PipeRec) (k : Nat) : Stage :=
  let w := p.word k
  let rec_ (r : Nat) : List Word32 := ((m.consts.find? (fun c => c.x = p.x && c.y = p.y && c.stg = k && c.reg = r)).map (fun c => c.words)).getD []
  let file (ws : List Word32) : Smap Word32 := (List.range ws.length).foldl (fun t i => Smap.put t 0 i (ws.getD i 0)) []
  { Stage.blank with
    word := w
    const := (rec_ 0).headD 0
    active := file (rec_ 1)
    loading := file (rec_ 2)
    phase := if [0x1D, 0x1E].contains (stageOp w) then BitVec.ofNat 5 (bitsOf w.toNat 20 16) else 0 }

/-- A pipeline as MLOAD sets it. A routed PA or PB holds two vectors of its own, beside the two of the output that feeds it: R175 gives
sizes for stage outputs and for sources (DESIGN CHOICE, log entry 120). -/
def Image.pipeInit (m : Image) (p : PipeRec) : Pipe :=
  { Pipe.blank with
    x := p.x
    y := p.y
    stages := (List.range 6).map (m.stageInit p)
    po := m.poDests p.x p.y
    px := m.pxDests p.x p.y
    tko := m.tokenDests p.x p.y
    paCap := if m.ports.any (fun q => q.kind = 0 && q.x = p.x && q.y = p.y) then 4 else 2
    pbCap := if m.ports.any (fun q => q.kind = 1 && q.x = p.x && q.y = p.y) then 4 else 2 }

/-- The configured mould on a die: its image's parts in place of what the entry held while loading. -/
def Image.configure (m : Image) (d : Nat) (old : Mould) : Mould :=
  { old with
    w := m.w
    h := m.h
    bases := m.bases
    counter := 0
    pipes := m.pipes.map m.pipeInit
    sources := (m.ports.filter (fun q => q.kind ≤ 1)).map (fun q =>
      { idx := q.idx, pipe := (m.pipeIdx q.x q.y).getD 0, toB := q.kind = 1, closed := false, forming := [], owner := none })
    sinks := ((m.ports.filter (fun q => 2 ≤ q.kind)).map (fun q => q.idx)).dedup.map (fun i =>
      { idx := i, queue := [], ended := false, owner := none })
    inOrder := (m.pads.filter (fun q => q.port / 16 % 2 = 0)).map (fun q =>
      (d * 32 + old.origin + 8 * (q.y / 8) + q.x / 8) * 32 + unitAt q.x q.y)
    state := .stopped }

/-- Read an image, which stands in translated memory: its parts, or the cause and address of a fault. -/
def State.readImage (s : State) (a : Agent) (uid d1 va : Nat) : Except (Byte × Nat) Image × State :=
  match s.readMapped a uid 1 d1 va 80 with
  | (.error e, s) => (.error e, s)
  | (.ok h, s) =>
    let bad := imageHeaderBad h
    if !bad.isEmpty then (.ok { imageOf (h ++ List.replicate 0 0) with ports := [], pipes := [], pads := [], switches := [], bad := bad }, s)
    else match s.readMapped a uid 1 d1 (va + 80) (imageConsts h - 80) with
      | (.error e, s) => (.error e, s)
      | (.ok body, s) =>
        let m := imageOf (h ++ body)
        let r := (List.range (field h 10 2)).foldl (fun (acc : Except (Byte × Nat) (Nat × Bool × List ConstRec) × State) _ =>
          match acc with
          | (.error e, s) => (.error e, s)
          | (.ok (o, stop, l), s) =>
            if stop then acc
            else match s.readMapped a uid 1 d1 (va + o) 8 with
              | (.error e, s) => (.error e, s)
              | (.ok h, s) =>
                let n := field h 4 2
                let c : ConstRec := { off := o, x := field h 0 1, y := field h 1 1, stg := field h 2 1, reg := field h 3 1, count := n,
                                      zero := field h 6 2 = 0, words := [], tail := [] }
                if n != 1 && n != 256 then (.ok (o, true, l ++ [c]), s)
                else match s.readMapped a uid 1 d1 (va + o + 8) (up8 (4 * n)) with
                  | (.error e, s) => (.error e, s)
                  | (.ok ws, s) =>
                    let tail := ((List.range (up8 (4 * n) - 4 * n)).filter (fun i => field ws (4 * n + i) 1 != 0)).map (fun i => o + 8 + 4 * n + i)
                    (.ok (o + 8 + up8 (4 * n), false, l ++ [{ c with words := words32 ws 0 n, tail := tail }]), s))
          (.ok (imageConsts h, false, []), s)
        match r with
        | (.error e, s) => (.error e, s)
        | (.ok (_, _, l), s) => (.ok { m with consts := l }, s)

end Sys2Proof.Machine
end

