-- ==== Sys2Proof/Machine/Mould.lean ====
section
/-! DEFINITION. The sequencer's fabric instructions and the life of a mould (11 R214-R223; 15 R290; 19 R364, R365): what each
checks at fire, what it does at commit, and loading, starting, draining, completing and switching. -/

namespace Sys2Proof.Machine

/-! ### Forking an engine operation (09 R162) -/

/-- Take an operation number and fork it from the task in a slot: what the task has done and read is visible on the dies of the fork's
scope, where the operation works; it is no access of the operation's own, which its completion would release (R162). kind: what the task
will join, or none. -/
def State.fork (s : State) (k idx : Nat) (kind : Option JoinKind) (atExit : Bool) (dies : List Nat) : Nat × State :=
  let uid := (s.slot k).uid
  let op := s.nextOp
  let deps := s.past (.task uid)
  let s := s.revealOn dies deps
  let s := { s with nextOp := op + 1, forkers := Smap.insert s.forkers op uid }
  match kind with
  | none => (op, s)
  | some j =>
    let o : JoinOb := { kind := j, op := op, idx := idx, done := false, atExit := atExit, faults := [], overflow := false }
    (op, { s with joins := Smap.put s.joins [] uid (Smap.getD s.joins [] uid ++ [o]) })

/-- The source that an operation's writes come from (09 R155). -/
def State.homeOp (s : State) (op : Nat) (home : Origin) : State := { s with opHomes := Smap.insert s.opHomes op home }

/-- An operation has completed: its issuer may join it. -/
def State.opDone (s : State) (uid : Option Nat) (op : Nat) : State :=
  match uid with
  | none => s
  | some u =>
    let l := Smap.getD s.joins [] u
    { s with joins := Smap.put s.joins [] u (l.map (fun j => if j.op == op then { j with done := true } else j)) }

/-- Does a read of the bytes at an address wait for FULL (09 R136)? -/
def State.padWaits (s : State) (va n : Nat) : Bool :=
  isPad va && !padState va &&
    (List.range ((va % 128 + n + 127) / 128)).any (fun i => s.readWaits (.pad (va + 128 * i)))

/-! ### Handles (R214) -/

def handleOk (v : Word) : Bool := v.toNat / 256 = 1
def handleDie (v : Nat) : Nat := bitsOf v 7 6
def handleEntry (v : Nat) : Nat := v % 64

/-- The mould a handle names, unless its entry is free or another context's. -/
def State.named (s : State) (k v : Nat) : Option Mould :=
  match s.mould (handleDie v) (handleEntry v) with
  | some m => if m.ctx = (s.slot k).ctxid then some m else none
  | none => none

/-! ### MLOAD (R215) -/

/-- MLOAD: checked at fire. The header's page is translated, which no window address is. -/
def execMload (p : BitVec 2) (t : BitVec 9) (l r : BitVec 7) (s : State) : Out :=
  fireHeld (formR p l r) t.toNat (fun x s =>
    if 32 ≤ x.cap.r.toNat then (some cIllegalForm, s)
    else if !addrOk x.cap.l.toNat 8 then (some cAlign, s)
    else if isWindow x.cap.l.toNat then (some cPageAbsent, s)
    else match s.resolve (s.agent x.slot) x.cap.l.toNat (wantPlain 8 false) with
      | (.error c, s) => (some c, s)
      | (.ok _, s) => (none, s)) s

/-- MLOAD in step 3: the handle of the entry taken; it waits while none is free. -/
def commitMload (s : State) (k : Nat) (c : Capture) : Perf :=
  let d := k / 256
  match (List.range 64).find? (fun e => !Smap.has (s.die d).moulds e) with
  | none => .stall
  | some e =>
    let f := s.fork k c.idx (some (.mould d e)) true [d]
    let m : Mould :=
      { state := .loading, ctx := (s.slot k).ctxid, uid := (s.slot k).uid, starter := (s.slot k).uid, op := f.1, image := c.l, origin := c.r.toNat % 32, w := 0,
        h := 0, bases := [], counter := 0, pipes := [], sources := [], sinks := [], inOrder := [], startWait := [],
        drainAsked := false, loadOrder := f.1, present := false, quantum := 0, switching := false, spill := [], discard := false,
        deps := [] }
    .done (f.2.modDie d (fun x => { x with moulds := Smap.insert x.moulds e m })) (BitVec.ofNat 64 (handleOf d e))

/-! ### Starting (R216) -/

/-- The agent of a mould's load and starts. -/
def Mould.agent (m : Mould) (d : Nat) : Agent := { bay := d * 32 + m.origin, party := .op m.op, ctx := m.ctx, priv := m.ctx == 0 }

/-- Start a mould that has loaded: the override replaces the base registers, and the stages may fire once no other mould holds
the footprint. The override is read at once, a line with FULL 0 too, and a read that faults leaves the mould stopped (DESIGN CHOICE, log
entry 126). -/
def State.startMould (s : State) (d e uid patch : Nat) : State :=
  match s.mould d e with
  | none => s
  | some m =>
    if m.state != .stopped then s
    else
      let go (s : State) (bases : List Word) : State :=
        let held := (s.die d).moulds.any (fun q => q.1 != e && q.2.present && sharesBay q.2 m)
        s.modMould d e (fun m => { m with state := .running, starter := uid, bases := bases, present := !held, quantum := 0 })
      if patch = 0 then go s m.bases
      else match s.readAs (m.agent d) uid 1 (handleOf d e) patch 64 with
        | (.error f, s) => s.recordImp d uid (.op m.op) (impRec f.1 1 m.ctx f.2 (handleOf d e) 0)
        | (.ok bs, s) => go s ((List.range 8).map (fun i => BitVec.ofNat 64 (field bs (8 * i) 8)))

/-- MSTART (R216). -/
def execMstart (p : BitVec 2) (t : BitVec 9) (l r : BitVec 7) (s : State) : Out :=
  fireHeld (formR p l r) t.toNat (fun x s =>
    (if !handleOk x.cap.l then some cIllegalForm
     else if !addrOk x.cap.r.toNat 8 then some cAlign else none, s)) s

/-- MSTART in step 3: issued; it waits inside the entry while the load is in progress. -/
def commitMstart (s : State) (k : Nat) (c : Capture) : Perf :=
  let v := c.l.toNat
  let d := handleDie v
  let e := handleEntry v
  match s.named k v with
  | none => .done (s.commitFault k c.idx cMouldInvalid) 0
  | some m =>
    let uid := (s.slot k).uid
    let s := s.observe d (.op m.op) (s.past (.task uid))
    match m.state with
    | .failed => .done (s.commitFault k c.idx cMouldInvalid) 0
    | .loading => .done (s.modMould d e (fun m => { m with startWait := m.startWait ++ [(uid, c.r)] })) 0
    | _ => .done (s.startMould d e uid c.r.toNat) 0

/-! ### Stopping (R217) -/

/-- Close a mould's sources: what they hold is sent, then end-of-stream (R206). -/
def Mould.closeSource (m : Mould) (k : Source) : Mould :=
  let port : Dest := if k.toB then .pb k.pipe else .pa k.pipe
  let m := if k.forming.isEmpty then m else m.place (.vec (packBeads k.forming)) port
  let m := m.place .eos port
  { m with sources := m.sources.map (fun q => if q.idx = k.idx && q.toB == k.toB then { q with closed := true, forming := [] } else q) }
def Mould.closeAll (m : Mould) : Mould :=
  (m.sources.filter (fun k => !k.closed)).foldl Mould.closeSource m

/-- Drain a mould. The stages of one that was loaded and never started, where beads wait at its sources, fire until they have left: a bead
leaves a mould in no other way (R174; DEDUCED, log entry 39). -/
def State.drainMould (s : State) (d e : Nat) (discard : Bool) : State :=
  let s := if discard then s.modMould d e (fun m => { m with discard := true, sinks := m.sinks.map (fun k => { k with queue := [] }) }) else s
  match s.mould d e with
  | none => s
  | some m =>
    match m.state with
    | .loading => s.modMould d e (fun m => { m with drainAsked := true })
    | .failed => s.freeMould d e
    | .stopped =>
      if m.pipes.any Pipe.occupied || m.sources.any (fun k => !k.forming.isEmpty) then
        let held := (s.die d).moulds.any (fun q => q.1 != e && q.2.present && sharesBay q.2 m)
        s.modMould d e (fun m => { m.closeAll with state := .draining, drainAsked := true, present := !held, quantum := 0 })
      else
        (s.modMould d e (fun m => { m with
          state := .done, drainAsked := true
          sources := m.sources.map (fun k => { k with closed := true }) })).sweep d e
    | .running => (s.modMould d e (fun m => { m.closeAll with state := .draining, drainAsked := true })).sweep d e
    | .done => (s.modMould d e (fun m => { m with drainAsked := true })).sweep d e
    | _ => s.sweep d e

/-- Abort a mould: every bead and token goes at once; accesses already issued are still performed. -/
def State.abortMould (s : State) (d e : Nat) : State :=
  match s.mould d e with
  | none => s
  | some m =>
    match m.state with
    | .loading => s.freeMould d e
    | .failed => s.freeMould d e
    | _ =>
      let s := s.modMould d e (fun m => { m with
        state := .aborting, present := false, switching := false
        pipes := m.pipes.map (fun q => { q with
          pa := [], pb := [], tk := [], coming := [], recirc := [], fresh := []
          stages := q.stages.map (fun st => { st with
            order := [], out := [], reord := [], forming := [], genq := [], sideB := [], busy := none, side := [], waitsFor := [] }) })
        sources := m.sources.map (fun k => { k with closed := true, forming := [] })
        sinks := m.sinks.map (fun k => { k with queue := [] }) })
      (s.resume d m.loadOrder).sweep d e

/-- The fire checks of MSTOP. -/
def stopCheck (c : Capture) : Option Byte := if !handleOk c.l || 2 ≤ c.r.toNat then some cIllegalForm else none
/-- MSTOP with R other than the immediate 1 (R217): R gives drain or abort when it fires. -/
def execMstopDrain (p : BitVec 2) (t : BitVec 9) (l r : BitVec 7) (s : State) : Out :=
  fireHeld (formR p l r) t.toNat (fun x s => (stopCheck x.cap, s)) s
/-- MSTOP with R the immediate 1: abort (R217). -/
def execMstopAbort (p : BitVec 2) (t : BitVec 9) (l r : BitVec 7) (s : State) : Out :=
  fireHeld (formR p l r) t.toNat (fun x s => (stopCheck x.cap, s)) s
/-- MSTOP in step 3. -/
def commitMstop (s : State) (k : Nat) (c : Capture) : Perf :=
  let v := c.l.toNat
  match s.named k v with
  | none => .done (s.commitFault k c.idx cMouldInvalid) 0
  | some _ =>
    .done (if c.r.toNat % 2 = 1 then s.abortMould (handleDie v) (handleEntry v) else s.drainMould (handleDie v) (handleEntry v) false) 0

/-- The exit join drains every mould its task loaded that is still allocated, and discards their sinks (R217). -/
def State.drainTask (s : State) (uid : Nat) : State :=
  [0, 1, 2, 3].foldl (fun s d =>
    ((s.die d).moulds.filter (fun e => e.2.uid = uid)).foldl (fun s e => s.drainMould d e.1 true) s) s

/-! ### INJECT (R218, R219) -/

/-- Addresses of the beads of the strided form. -/
def beadAddrs (grp : List Word) : List Nat :=
  let g (i : Nat) : Word := grp.getD i 0
  (List.range (g 2).toNat).map (fun i => (g 0 + BitVec.ofNat 64 i * g 1).toNat)
/-- The fire checks of INJECT, in order. -/
def injectCheck (c : Capture) : Option Byte :=
  let r := c.r.toNat
  let count := (c.grp.getD 2 0).toNat
  if 2 ^ 19 ≤ r || bitsOf r 11 9 != 0 || bitsOf r 8 8 != 1 || (bitsOf r 18 18 = 1 && bitsOf r 17 17 = 0) ||
      (bitsOf r 18 18 = 1 && bitsOf r 16 16 = 1) || (bitsOf r 16 16 = 1 && (count = 0 || 16 < count)) then some cIllegalForm
  else if bitsOf r 16 16 = 1 && (beadAddrs c.grp).any (fun a => !addrOk a 16) then some cAlign
  else none
/-- INJECT: checked at fire. -/
def execInject (p : BitVec 2) (t : BitVec 9) (l r : BitVec 7) (s : State) : Out :=
  fireHeld (formRg p l r) t.toNat (fun x s => (injectCheck x.cap, s)) s

/-- A bead as an injection makes it. -/
def beadFrom (tag : BitVec 16) (ws : List Word32) : Bead :=
  { f0 := ws.getD 0 0, f1 := ws.getD 1 0, f2 := ws.getD 2 0, f3 := ws.getD 3 0, pred := true, tag := tag, count := 0, accs := [],
    own := [], dead := false }
/-- Give beads tags from the injection counter. -/
def Mould.tagBeads (m : Mould) (ws : List (List Word32)) : List Bead × Mould :=
  ((List.range ws.length).map (fun i => beadFrom (m.counter + BitVec.ofNat 16 i) (ws.getD i [])),
    { m with counter := m.counter + BitVec.ofNat 16 ws.length })
/-- Send a source's forming vector. -/
def Mould.sendSource (m : Mould) (k : Source) : Mould :=
  if k.forming.isEmpty then m
  else
    let m := m.place (.vec (packBeads k.forming)) (if k.toB then .pb k.pipe else .pa k.pipe)
    { m with sources := m.sources.map (fun q => if q.idx = k.idx && q.toB == k.toB then { q with forming := [] } else q) }
def Mould.source (m : Mould) (i : Nat) : Option Source := m.sources.find? (fun k => k.idx = i)
/-- A bead joins the forming vector of a source, which is sent when it is full. -/
def Mould.joinForming (m : Mould) (k : Source) (b : Bead) : Mould :=
  let m := { m with sources := m.sources.map (fun q => if q.idx = k.idx && q.toB == k.toB then { q with forming := q.forming ++ [b] } else q) }
  if k.forming.length + 1 < 16 then m else m.sendSource { k with forming := k.forming ++ [b] }
/-- Vectors a source's port still has room for. -/
def Mould.roomAt (m : Mould) (k : Source) : Nat :=
  let q := m.pipeAt k.pipe
  if k.toB then q.pbCap - vecCount q.pb else q.paCap - vecCount q.pa

/-- INJECT in step 3. It waits for a load in progress (DESIGN CHOICE, log entry 124), and the beads of a strided vector take lanes from 0
without a gap for one whose read fails (DESIGN CHOICE, log entry 125). -/
def commitInject (s : State) (k : Nat) (c : Capture) : Perf :=
  let r := c.r.toNat
  let d := handleDie (r % 512)
  let e := handleEntry r
  let bad : Perf := .done (s.commitFault k c.idx cMouldInvalid) 0
  match s.named k (r % 512) with
  | none => bad
  | some m =>
    if m.state == .loading then .stall
    else if m.state == .failed then bad
    else match m.source (bitsOf r 15 12) with
      | none => bad
      | some q =>
        let stride := bitsOf r 16 16 = 1
        let nodata := bitsOf r 18 18 = 1
        let need := if stride && !q.forming.isEmpty then 2 else 1
        if q.closed || q.owner.isSome then bad
        else if m.switching || m.roomAt q < need then .stall
        else if stride && (beadAddrs c.grp).any (fun a => s.padWaits a 16) then .stall
        else
          let got : List (List Word32) × State :=
            if nodata then ([], s)
            else if stride then
              (beadAddrs c.grp).foldl (fun (acc : List (List Word32) × State) a =>
                match acc.2.readTask k c.idx a 16 with
                | (.error f, s) => (acc.1, s.commitFault k c.idx f)
                | (.ok bs, s) => (acc.1 ++ [words32 bs 0 4], s)) ([], s)
            else ([c.grp.map (fun (w : Word) => (w.truncate 32 : Word32))], s)
          let s := got.2
          let deps := s.past (.task (s.slot k).uid)
          .done (s.modMould d e (fun m =>
            let t := m.tagBeads got.1
            let m := { t.2 with deps := (t.2.deps ++ deps).dedup }
            let m :=
              if stride then
                let m := m.sendSource q
                if t.1.isEmpty then m else m.place (.vec (packBeads t.1)) (if q.toB then .pb q.pipe else .pa q.pipe)
              else t.1.foldl (fun m b => m.joinForming q b) m
            if bitsOf r 17 17 = 1 then
              (match m.source q.idx with
                | some q => m.closeSource q
                | none => m)
            else m)) 0

/-! ### COLLECT (R220) -/

/-- The group a COLLECT writes for a bead. -/
def beadGroup (b : Bead) : List Word :=
  [BitVec.ofNat 64 (b.f0.toNat + 2 ^ 32 + (if b.pred then 2 ^ 35 else 0) + b.tag.toNat * 2 ^ 48), b.f1.zeroExtend 64, b.f2.zeroExtend 64,
    b.f3.zeroExtend 64]
def statusGroup (bit : Nat) : List Word := [BitVec.ofNat 64 (2 ^ bit), 0, 0, 0]
def emptyGroup : List Word := [0, 0, 0, 0]
/-- Take the oldest bead of a sink. -/
def Sink.take (k : Sink) : Option Bead × Sink :=
  match k.queue with
  | (b :: bs) :: rest => (some b, { k with queue := if bs.isEmpty then rest else bs :: rest })
  | [] :: rest => (none, { k with queue := rest })
  | [] => (none, k)
/-- What a COLLECT finds; none when it must wait. -/
def State.collect (s : State) (k v i : Nat) (wait : Bool) : Option (List Word) × State :=
  let d := handleDie v
  let e := handleEntry v
  let empty : Option (List Word) × State := (if wait then none else some emptyGroup, s)
  match s.named k v with
  | none => (some (statusGroup 34), s)
  | some m =>
    match m.state with
    | .loading => empty
    | .failed => (some (statusGroup 34), s)
    | .aborting => (some (statusGroup 34), s)
    | _ =>
      match m.sinks.find? (fun q => q.idx = i) with
      | none => (some (statusGroup 34), s)
      | some q =>
        if q.owner.isSome then empty
        else match q.take with
          | (some b, q) =>
            let s := s.modMould d e (fun m => { m with sinks := m.sinks.map (fun z => if z.idx = i then q else z) })
            let s := s.observe (k / 256) (s.agent k).party m.deps
            (some (beadGroup b), (s.progressOf m.uid).sweep d e)
          | (none, _) =>
            if q.ended then (some (statusGroup 33), s.observe (k / 256) (s.agent k).party m.deps) else empty
/-- Deliver a group to four registers, or nowhere (R67). -/
def Firing.finishGroup (x : Firing) (t : Nat) (vs : List Word) (s : State) : State :=
  s.setBlock x.slot (if t = 0x1C0 then x.block
    else { x.block with regw := x.block.regw ++ (List.range 4).map (fun i => { reg := t % 128 + i, writer := x.idx, value := vs.getD i 0 }) })
/-- COLLECT: at fire it takes a bead, or waits for one in the replay queue. -/
def execCollect (p : BitVec 2) (t : BitVec 9) (l r : BitVec 7) (s : State) : Out :=
  fire (formR p l r) (fun x s =>
    let sel := x.cap.r.toNat
    if 32 ≤ sel || !handleOk x.cap.l then x.fault cIllegalForm s
    else if (List.range 4).any (fun i => t != 0x1C0#9 && x.block.clash (t.toNat + i)) then
      s.faultAt x.slot x.b x.idx cBlockMultiwrite 0 none
    else match s.collect x.slot x.cap.l.toNat (sel % 16) (bitsOf sel 4 4 = 1) with
      | (some vs, s) => x.finishGroup t.toNat vs s
      | (none, s) => s.setBlock x.slot { x.block with replay := x.block.replay ++ [x.cap] }) s

/-! ### Events in a mould's life -/

/-- MOULD_LOAD_DONE (R215, R212): the image is read and checked, and the footprint configured; or the entry is failed. Starts and
stops that waited are then made. -/
def execMouldLoadDone (die entry : Nat) (s : State) : Out :=
  match s.mould die entry with
  | none => .next s
  | some m =>
    if m.state != .loading then .next s
    else
      let h := handleOf die entry
      let va := m.image.toNat
      let fail (s : State) (c : Byte) (addr : Nat) : State :=
        let s := s.recordImp die m.uid (.op m.op) (impRec c 1 m.ctx addr h 0)
        let s := m.startWait.foldl (fun s w => s.recordImp die w.1 (.op m.op) (impRec cMouldInvalid 1 m.ctx addr h 0)) s
        let s := s.modMould die entry (fun m => { m with state := .failed, startWait := [] })
        if m.drainAsked then s.freeMould die entry else s
      match s.readImage (m.agent die) m.uid h va with
      | (.error f, s) => .next (fail s f.1 f.2)
      | (.ok img, s) =>
        match sortBy id (img.failures s die m.origin) with
        | o :: _ => .next (fail s cMouldInvalid (va + o))
        | [] =>
          let s := s.modMould die entry (fun m => { img.configure die m with startWait := [] })
          let s := m.startWait.foldl (fun s w => s.startMould die entry w.1 w.2.toNat) s
          .next (if m.drainAsked then s.drainMould die entry m.discard else s)

/-- Is an end-of-stream on its way through a pipeline or to a sink? -/
def Pipe.carriesEos (q : Pipe) : Bool :=
  q.pa.contains .eos || q.pb.contains .eos || q.stages.any (fun st => st.out.contains .eos || st.side.contains .eos)
/-- Has a mould come to its completion (R204)? Every end-of-stream it sent has reached its sinks. -/
def State.mouldComplete (s : State) (d e : Nat) (m : Mould) : Bool :=
  let sinks := m.pipes.flatMap (fun p => p.stages.filter (fun st => opOf st.word = 0x40))
  m.state.started && m.present && !sinks.isEmpty && sinks.all (fun st => st.complete) && !m.pipes.any Pipe.occupied &&
    m.sources.all (fun k => k.forming.isEmpty) && !m.pipes.any Pipe.carriesEos && (s.accsOf d e).isEmpty
/-- A mould completes: it leaves the fabric, and the next of its sharing set comes in (R290). -/
def State.completeMould (s : State) (d e : Nat) (m : Mould) : State :=
  ((s.modMould d e (fun m => { m with state := .done, present := false, switching := false })).resume d m.loadOrder).sweep d e
/-- MOULD_COMPLETE (R204). -/
def execMouldComplete (die entry : Nat) (s : State) : Out :=
  match s.mould die entry with
  | none => .next s
  | some m => .next (if s.mouldComplete die entry m then s.completeMould die entry m else s)

/-- TOKEN_ARRIVE (R205): the next token on its way to a pipeline's TK waits there; one that reaches a mould stopped by MSTOP is
discarded. -/
def execTokenArrive (die entry pipe : Nat) (s : State) : Out :=
  match s.mould die entry with
  | none => .next s
  | some m =>
    match (m.pipeAt pipe).coming with
    | [] => .next s
    | t :: rest =>
      let stopped := m.drainAsked || m.state == .aborting
      .next (s.modMould die entry (fun m => m.modPipe pipe (fun q => { q with
        coming := rest, tk := if stopped then q.tk else q.tk ++ [t] })))

/-- Allocate n lines in a bay for the device: the lower guard line (R149). -/
def State.deviceAlloc (s : State) (d bay n : Nat) : Option (Nat × State) :=
  ((List.range 26).findSome? (fun u => (s.padPlace (bay * 32 + u) n).map (fun g => (bay * 32 + u, g)))).map
    (fun p => (p.1 * 1024 + p.2, s.padTake p.1 p.2 n 0 true (.device d)))
/-- Allocate the spill image of a mould, one allocation a bay; none when one fails (19 R365). -/
def State.spillAlloc (s : State) (d : Nat) (m : Mould) : Option (List (Nat × Nat) × State) :=
  (mouldBays m).foldl (fun acc b =>
    match acc with
    | none => none
    | some (l, s) =>
      let np := (m.pipes.filter (fun p => m.origin + 8 * (p.y / 8) + p.x / 8 = b)).length
      let n := 8 + 208 * np
      match s.deviceAlloc d (d * 32 + b) n with
      | none => none
      | some (g, s) =>
        let bytes := (List.range (16 * n)).flatMap (fun i => bytesOf 8 (Config.freeWord s.tick i).toNat)
        let s := s.storeRun (.device d) (padAddr (g + 1)) bytes
        let s := (List.range n).foldl (fun s i => s.modLine (g + 1 + i) (fun q => { q with holders := q.holders + 1 })) s
        some (l ++ [(g, n)], s)) (some ([], s))
/-- QUANTUM_EXPIRY (R290; 19 R364, R365): a mould that has run for SR.QUANTUM, and whose place another wants, stops; when its
accesses have been performed it is spilled and the next comes in. Its completion in the same cycle wins. -/
def execQuantumExpiry (die entry : Nat) (s : State) : Out :=
  match s.mould die entry with
  | none => .next s
  | some m =>
    let wanted := (s.die die).moulds.any (fun q => q.1 != entry && q.2.state.started && !q.2.present && sharesBay q.2 m)
    if !m.present || !m.state.started then .next s
    else if s.mouldComplete die entry m then .next (s.completeMould die entry m)
    else if !m.switching then
      .next (if wanted && ((s.die die).now 0x2008 (s.die die).quantum).toNat ≤ m.quantum then s.modMould die entry (fun m => { m with switching := true }) else s)
    else if !(s.accsOf die entry).isEmpty then .next s
    else match s.spillAlloc die m with
      | none => .next (s.modMould die entry (fun m => { m with switching := false, quantum := 0 }))
      | some (l, s) =>
        .next ((s.modMould die entry (fun m => { m with present := false, switching := false, spill := l })).resumeBut die m.loadOrder (some entry))

end Sys2Proof.Machine
end

