-- ==== Sys2Proof/Machine/Matrix.lean ====
section
/-! DEFINITION. The matrix tile (13 R225-R239; 03 R51-R54): the operation table, arming, firing passes, accumulation,
release of operands, write-out, and MXJOIN. -/

namespace Sys2Proof.Machine

/-! ### Fields of an entry (R226, R236) -/

def isIntFmt (f : Nat) : Bool := f = 0x08
def inFmtOk (f : Nat) : Bool := (1 ≤ f && f ≤ 5) || f = 8
def outFmtOk (i o : Nat) : Bool := if isIntFmt i then o = 0x0A || o = 0x08 else o ≤ 4
/-- Lines of an A tile, a B tile and a D tile. -/
def aLines (f : Nat) : Nat := if f = 5 then 40 else if f ≤ 2 then 128 else 64
def bLines (f n : Nat) : Nat := if f = 5 then 5 * n / 16 else if f ≤ 2 then n else n / 2
def outBytes (f : Nat) : Nat := fmtBytes f
def dLines (f n : Nat) : Nat := outBytes f * n

/-- The operands of an entry, as MXCFG gives them. -/
structure MxForm where
  k0 : Nat
  k1 : Nat
  key : Nat
  rows : Nat
  deriving DecidableEq, Repr

def MxEntry.form (e : MxEntry) : MxForm := { k0 := e.k0.toNat, k1 := e.k1.toNat, key := e.key.toNat, rows := e.rows.toNat }
def MxForm.aline (x : MxForm) : Nat := bitsOf x.k0 9 0
def MxForm.aunit (x : MxForm) : Nat := bitsOf x.k0 14 10
def MxForm.acons (x : MxForm) : Bool := bitsOf x.k0 15 15 = 1
def MxForm.bline (x : MxForm) : Nat := bitsOf x.k0 25 16
def MxForm.bunit (x : MxForm) : Nat := bitsOf x.k0 30 26
def MxForm.bcons (x : MxForm) : Bool := bitsOf x.k0 31 31 = 1
def MxForm.dline (x : MxForm) : Nat := bitsOf x.k1 9 0
def MxForm.dunit (x : MxForm) : Nat := bitsOf x.k1 14 10
def MxForm.n (x : MxForm) : Nat := bitsOf x.k1 25 16
def MxForm.ifmt (x : MxForm) : Nat := bitsOf x.k1 31 26
def MxForm.ofmt (x : MxForm) : Nat := bitsOf x.k1 37 32
def MxForm.writes (x : MxForm) : Bool := bitsOf x.k1 38 38 = 1
def MxForm.clears (x : MxForm) : Bool := bitsOf x.k1 39 39 = 0
def MxForm.slot (x : MxForm) : Nat := bitsOf x.k1 41 40
def MxForm.repeats (x : MxForm) : Nat := bitsOf x.k1 49 42
def MxForm.join (x : MxForm) : Bool := bitsOf x.k1 50 50 = 1
def MxForm.groups (x : MxForm) : Nat := bitsOf x.k1 54 51
/-- Slots an entry uses (R229). -/
def MxForm.slots (x : MxForm) : Nat := (x.n + 127) / 128
/-- Row count of each group; the one group of an ungrouped entry has all 128 rows (R234). -/
def MxForm.counts (x : MxForm) : List Nat :=
  if x.groups = 0 then [128] else (List.range x.groups).map (fun g => x.rows / 2 ^ (8 * g) % 256)
def MxForm.rowCount (x : MxForm) : Nat := x.counts.sum
/-- The group of a row. -/
def groupAt (cs : List Nat) (i : Nat) : Nat :=
  match cs with
  | [] => 0
  | c :: rest => if i < c then 0 else 1 + groupAt rest (i - c)
/-- Numbers of the lines of a pass's A tile, and of each B tile it reads (R230, R234), in a bay. -/
def MxForm.aTile (x : MxForm) (bay p : Nat) : List Nat :=
  (List.range (aLines x.ifmt)).map (fun i => (bay * 32 + x.aunit) * 1024 + x.aline + p * aLines x.ifmt + i)
def MxForm.bTile (x : MxForm) (bay p g : Nat) : List Nat :=
  let m := bLines x.ifmt x.n
  (List.range m).map (fun i => (bay * 32 + x.bunit) * 1024 + x.bline + (p * max 1 x.groups + g) * m + i)
def MxForm.bTiles (x : MxForm) (bay p : Nat) : List Nat :=
  (List.range x.counts.length).flatMap (fun g => if x.counts.getD g 0 = 0 then [] else x.bTile bay p g)
def MxForm.dTile (x : MxForm) (bay : Nat) : List Nat :=
  (List.range (dLines x.ofmt x.n)).map (fun i => (bay * 32 + x.dunit) * 1024 + x.dline + i)

/-! ### MXCFG (R235-R237) -/

def overlapLines (u f n v g m : Nat) : Bool := u = v && f < g + m && g < f + n
/-- The checks of R237 after the first, as one. -/
def State.mxBad (s : State) (bay : Nat) (x : MxForm) : Bool :=
  let passes := x.repeats + 1
  let an := passes * aLines x.ifmt
  let bn := passes * max 1 x.groups * bLines x.ifmt x.n
  let dn := dLines x.ofmt x.n
  let out (u f n : Nat) : Bool := (List.range n).any (fun i => s.bankOut ((bay * 32 + u) * 1024 + f + i))
  !(s.die (bay / 32)).capmxt.getLsbD (bay % 32) ||
  2 ^ 32 ≤ x.k0 || 2 ^ 55 ≤ x.k1 || bitsOf x.k1 15 15 = 1 || 25 < x.aunit || 25 < x.bunit || 25 < x.dunit ||
  !inFmtOk x.ifmt || (x.writes && !outFmtOk x.ifmt x.ofmt) ||
  x.n < 16 || 512 < x.n || x.n % 16 != 0 || 4 < x.slot + x.slots ||
  8 < x.groups || (if x.groups = 0 then x.rows != 0 else 2 ^ (8 * x.groups) ≤ x.rows) ||
  1024 < x.aline + an || 1024 < x.bline + bn || out x.aunit x.aline an || out x.bunit x.bline bn ||
  (if x.writes then
    1024 < x.dline + dn || out x.dunit x.dline dn || overlapLines x.dunit x.dline dn x.aunit x.aline an ||
      overlapLines x.dunit x.dline dn x.bunit x.bline bn
   else x.dunit != 0 || x.dline != 0 || x.ofmt != 0 || x.key != 0)
def formOfGroup (grp : List Word) : MxForm :=
  { k0 := (grp.getD 0 0).toNat, k1 := (grp.getD 1 0).toNat, key := (grp.getD 2 0).toNat, rows := (grp.getD 3 0).toNat }
/-- MXCFG: checked at fire. -/
def execMxcfg (p : BitVec 2) (t : BitVec 9) (l r : BitVec 7) (s : State) : Out :=
  fireHeld (formRg p l r) t.toNat (fun x s =>
    (if 16 ≤ x.cap.r.toNat then some cIllegalForm
     else if s.mxBad (x.slot / 8) (formOfGroup x.cap.grp) then some cMxcfgInvalid else none, s)) s

/-- Is configuration number a lower than b (R225)? -/
def numLower (a b : Word32) : Bool := 1 ≤ (b - a).toNat && (b - a).toNat < 2 ^ 31
/-- MXCFG in step 3: it waits for its entry, and for the window of configuration numbers (R225, R235). -/
def commitMxcfg (s : State) (k : Nat) (c : Capture) : Perf :=
  let b := k / 8
  let y := s.bay b
  let e := c.r.toNat % 16
  if Smap.has y.mx e || y.mx.any (fun q => !numLower q.2.num y.mxNext) then .stall
  else
    let x := formOfGroup c.grp
    let f := s.fork k c.idx (some (.matrix b e)) x.join [b / 32]
    let sl := s.slot k
    let new : MxEntry :=
      { op := f.1, uid := sl.uid, ctx := sl.ctxid, launch := sl.launchid.toNat, num := y.mxNext, k0 := c.grp.getD 0 0,
        k1 := c.grp.getD 1 0, key := c.grp.getD 2 0, rows := c.grp.getD 3 0, nextPass := 0, passes := [], accumulated := 0 }
    .done ((f.2.homeOp f.1 (.tile b)).modBay b (fun y => { y with mx := Smap.insert y.mx e new, mxNext := y.mxNext + 1 })) 0

/-! ### Passes (R230-R234) -/

def State.mxEntry (s : State) (b e : Nat) : Option MxEntry := Smap.find (s.bay b).mx e
def State.modMx (s : State) (b e : Nat) (f : MxEntry → MxEntry) : State :=
  match s.mxEntry b e with
  | some x => s.modBay b (fun y => { y with mx := Smap.insert y.mx e (f x) })
  | none => s
def State.mxAgent (b : Nat) (e : MxEntry) : Agent := { bay := b, party := .op e.op, ctx := e.ctx, priv := e.ctx == 0 }
/-- D1 of a fault of an entry (19 R360). -/
def MxEntry.d1 (e : MxEntry) (i : Nat) : Nat := i + e.num.toNat * 2 ^ 32
/-- An entry ends: it is free, and its operation is complete. -/
def State.mxEnd (s : State) (b i : Nat) (e : MxEntry) : State :=
  (s.modBay b (fun y => { y with mx := Smap.erase y.mx i })).opDone (some e.uid) e.op
def State.mxFault (s : State) (b i : Nat) (e : MxEntry) (c : Byte) : State :=
  s.opFault (b / 32) (some e.uid) e.op (impRec c 3 e.ctx 0 (e.d1 i) 0)
/-- Does an entry come before another that uses one of its slots (R230, condition 3)? -/
def MxEntry.blocks (q e : MxEntry) : Bool :=
  numLower q.num e.num && q.form.slot < e.form.slot + e.form.slots && e.form.slot < q.form.slot + q.form.slots
/-- Lines that started passes of a bay hold and will consume. -/
def State.consuming (s : State) (b : Nat) : List Nat :=
  (s.bay b).mx.flatMap (fun q => q.2.passes.flatMap (fun p =>
    (if p.aHeld && q.2.form.acons then q.2.form.aTile b p.num else []) ++
      (if p.bHeld && q.2.form.bcons then q.2.form.bTiles b p.num else [])))
/-- May an entry's next pass start (R230)? -/
def State.mxReady (s : State) (b : Nat) (e : MxEntry) : Bool :=
  let x := e.form
  let p := e.nextPass
  let tiles := x.aTile b p ++ x.bTiles b p
  p ≤ x.repeats && !s.ctxHeld e.ctx && !(s.bay b).mx.any (fun q => q.2.blocks e) && tiles.all (fun n => (s.line n).full) &&
    (p != 0 || !x.writes || (x.dTile b).all (fun n => !(s.line n).full)) && !tiles.any (fun n => (s.consuming b).contains n)
/-- GUARD of an entry is raised against the task that configured it (09 R152). -/
def State.mxGuard (s : State) (b i : Nat) (e : MxEntry) (ln : Nat) : State :=
  s.touchGuard (b / 32) e.uid (.op e.op) 3 e.ctx (e.d1 i) (padAddr ln)
/-- Read a whole line for an entry: zeros and GUARD from a guarded line (R237). -/
def State.readLine (s : State) (b i : Nat) (e : MxEntry) (ln : Nat) : List Byte × State :=
  let a := State.mxAgent b e
  let q := s.line ln
  if q.guarded then (List.replicate 128 0, s.mxGuard b i e ln)
  else (s.observe a.die a.party q.deps).loadRun a.die a.party (padAddr ln) 128
def State.readLines (s : State) (b i : Nat) (e : MxEntry) (lns : List Nat) : List Byte × State :=
  lns.foldl (fun (acc : List Byte × State) n =>
    let r := acc.2.readLine b i e n
    (acc.1 ++ r.1, r.2)) ([], s)
def State.holdLines (s : State) (lns : List Nat) : State :=
  lns.foldl (fun s n => s.modLine n (fun q => { q with holders := q.holders + 1 })) s
/-- A pass releases lines: consumed ones become empty (R232). -/
def State.releaseLines (s : State) (lns : List Nat) (consume : Bool) : State :=
  lns.foldl (fun s n => s.modLine n (fun q =>
    { q with holders := q.holders - 1, full := q.full && !consume, deps := if consume then [] else q.deps })) s
/-- PASS_START (R230): of the passes of a tile able to start, the one of the lowest configuration number. -/
def execPassStart (bay entry : Nat) (s : State) : Out :=
  match s.mxEntry bay entry with
  | none => .next s
  | some e =>
    let x := e.form
    let p := e.nextPass
    if !s.mxReady bay e || (s.bay bay).mx.any (fun q => numLower q.2.num e.num && s.mxReady bay q.2) then .next s
    else if p = 0 && 128 < x.rowCount then .next ((s.mxFault bay entry e cRaggedBounds).mxEnd bay entry e)
    else
      let tiles := x.aTile bay p ++ x.bTiles bay p
      let bad := tiles.any (fun n => !(s.line n).guarded && s.poisoned (padAddr n) 128)
      let ra := s.readLines bay entry e (x.aTile bay p)
      let rb := (List.range x.counts.length).foldl (fun (acc : List Byte × State) g =>
        if x.counts.getD g 0 = 0 then (acc.1 ++ List.replicate (128 * bLines x.ifmt x.n) 0, acc.2)
        else
          let r := acc.2.readLines bay entry e (x.bTile bay p g)
          (acc.1 ++ r.1, r.2)) ([], ra.2)
      let s := rb.2.holdLines tiles
      .next (s.modMx bay entry (fun e => { e with
        nextPass := p + 1
        passes := e.passes ++ [{ num := p, aHeld := true, bHeld := true, accumulated := false, aBytes := ra.1, bBytes := rb.1, bad := bad }] }))

/-- Release one tile of a pass. -/
def State.passRelease (s : State) (b i : Nat) (e : MxEntry) (p : Pass) (isA : Bool) : State :=
  let x := e.form
  let s := if isA then s.releaseLines (x.aTile b p.num) (x.acons && !p.bad) else s.releaseLines (x.bTiles b p.num) (x.bcons && !p.bad)
  s.modMx b i (fun e => { e with passes := e.passes.map (fun q =>
    if q.num = p.num then (if isA then { q with aHeld := false } else { q with bHeld := false }) else q) })
/-- OPERAND_RELEASE (R232): a pass has made its last read of a tile. Which of the two tiles comes first is not given. -/
def execOperandRelease (bay entry pass : Nat) (s : State) : Out :=
  match s.mxEntry bay entry with
  | none => .next s
  | some e =>
    match e.passes.find? (fun p => p.num = pass) with
    | none => .next s
    | some p =>
      if p.aHeld && (!p.bHeld || Config.freeBool s.tick 0) then .next (s.passRelease bay entry e p true)
      else if p.bHeld then .next (s.passRelease bay entry e p false)
      else .next s

/-! ### Arithmetic (R52, R227, R228) -/

/-- The exact value of element n of an array in a format. -/
def elemVal (f : Nat) (bs : List Byte) (n : Nat) : Val :=
  match floatOf f with
  | some g => g.decode (field bs (n * fmtBytes f) (fmtBytes f))
  | none => Val.ofInt (signedOf 8 (field bs n 1))
/-- Block g of row or column i of a TB4 tile whose scales start at an offset: scale word and element codes. -/
def tb4Block (bs : List Byte) (scales i g : Nat) : Nat × List Nat :=
  (field bs (scales + 8 * i + 4 * g) 4, tb4Codes ((bs.drop (32 * i + 16 * g)).take 16))
/-- Values of A row i in half g, and their scale. -/
def rowHalf (f : Nat) (a : List Byte) (i g : Nat) : List Val × Val :=
  if f = 5 then
    let q := tb4Block a 4096 i g
    (tb4Elems q.1 q.2, tb4Scale q.1)
  else ((List.range 32).map (fun k => elemVal f a (128 * (32 * g + k) + i)), Val.ofInt 1)
/-- Values of B column j in half g, and their scale. -/
def colHalf (f n : Nat) (b : List Byte) (j g : Nat) : List Val × Val :=
  if f = 5 then
    let q := tb4Block b (32 * n) j g
    (tb4Elems q.1 q.2, tb4Scale q.1)
  else ((List.range 32).map (fun k => elemVal f b (n * (32 * g + k) + j)), Val.ofInt 1)
/-- The exact sum of a half: products, summed and scaled. -/
def halfSum (f : Nat) (a b : List Val × Val) : Val :=
  let s := groupSum ((a.1.zip b.1).map (fun p => Val.mul p.1 p.2))
  if f = 5 then Val.mul s (Val.mul a.2 b.2) else s
/-- An integer sum. -/
def Val.asInt (v : Val) : Int :=
  match v with
  | .fin s n d => if s then -((n / d : Nat) : Int) else (n / d : Nat)
  | _ => 0
/-- One half added to a slot. -/
def accHalf (f : Nat) (clear : Bool) (acc : Nat) (s : Val) : Nat :=
  if isIntFmt f then accInt clear acc s.asInt else accFloat clear acc s
/-- The new value of one slot after a pass. -/
def passElem (f n : Nat) (clear : Bool) (a b : List Byte) (i j acc : Nat) : Nat :=
  let h0 := halfSum f (rowHalf f a i 0) (colHalf f n b j 0)
  let h1 := halfSum f (rowHalf f a i 1) (colHalf f n b j 1)
  accHalf f false (accHalf f clear acc h0) h1
/-- Index of the slot of D's element (i, j) (R229). -/
def accIndex (bay slot i j : Nat) : Nat := ((bay * 4 + slot + j / 128) * 128 + i) * 128 + j % 128
/-- Change the slots of the computed rows. -/
def State.mapSlots (s : State) (b : Nat) (x : MxForm) (f : Nat → Nat → Nat → Nat) : State :=
  { s with accs := (List.range x.rowCount).foldl (fun m i =>
      (List.range x.n).foldl (fun m j =>
        let k := accIndex b x.slot i j
        Smap.put m 0 k (BitVec.ofNat 32 (f i j (Smap.getD m 0 k).toNat))) m) s.accs }
/-- Release what started passes of an entry still hold, consuming nothing. -/
def State.abandon (s : State) (b i : Nat) (e : MxEntry) : State :=
  e.passes.foldl (fun s p =>
    let s := if p.aHeld then s.passRelease b i e { p with bad := true } true else s
    if p.bHeld then s.passRelease b i e { p with bad := true } false else s) s
/-- PASS_ACCUMULATE (R231): the results of an entry's passes reach its slots in order. A pass that met an uncorrectable error
ends the entry (R237). -/
def execPassAccumulate (bay entry pass : Nat) (s : State) : Out :=
  match s.mxEntry bay entry with
  | none => .next s
  | some e =>
    match e.passes.find? (fun p => p.num = pass) with
    | none => .next s
    | some p =>
      let x := e.form
      if e.accumulated != pass || p.aHeld || p.bHeld then .next s
      else if p.bad then
        let s := (s.abandon bay entry e).mapSlots bay x (fun _ _ _ => 0x7FC00000)
        .next ((s.mxFault bay entry e cUncorrectable).mxEnd bay entry e)
      else
        let m := 128 * bLines x.ifmt x.n
        let s := s.mapSlots bay x (fun i j acc =>
          passElem x.ifmt x.n (x.clears && pass = 0) p.aBytes ((p.bBytes.drop (m * groupAt x.counts i)).take m) i j acc)
        let s := s.modMx bay entry (fun e => { e with accumulated := pass + 1, passes := e.passes.filter (fun q => q.num != pass) })
        .next (if pass = x.repeats && !x.writes then s.mxEnd bay entry e else s)

/-! ### Write-out (R231) -/

/-- Stamp a key on behalf of a task, as an operation's completion (15 R297): its fault, if any. -/
def State.opStamp (s : State) (d launch op key : Nat) (sys : Bool) : Option Byte × State :=
  if !keyOk key then (some cIllegalForm, s)
  else match s.keyHome d key with
    | (.error c, s) => (some c, s)
    | (.ok home, s) =>
      match s.stampKey d home key (.op op) sys with
      | (some _, s) => (none, s)
      | (none, s) => (if (s.launch launch).coarse then none else some cHmUndeclared, s)
/-- Mark lines full, guarded ones too, as a completion action of an operation (09 R151, R163). -/
def State.markFull (s : State) (op : Nat) (lns : List Nat) : State :=
  lns.foldl (fun s n => s.modLine n (fun q => { q with full := true, marked := true, deps := s.past (.op op) })) s
/-- WRITE_OUT (R231): after its last pass a write entry writes D, marks it full and stamps its key. It waits while another
pass holds a line of D. -/
def execWriteOut (bay entry : Nat) (s : State) : Out :=
  match s.mxEntry bay entry with
  | none => .next s
  | some e =>
    let x := e.form
    let lns := x.dTile bay
    if !x.writes || e.accumulated != x.repeats + 1 || lns.any (fun n => 0 < (s.line n).holders) then .next s
    else
      let o := outBytes x.ofmt
      let bytes := (List.range x.rowCount).flatMap (fun i => (List.range x.n).flatMap (fun j =>
        bytesOf o (writeOutConv (isIntFmt x.ifmt) x.ofmt (Smap.getD s.accs 0 (accIndex bay x.slot i j)).toNat)))
      let used := (bytes.length + 127) / 128
      let s := (List.range used).foldl (fun s i =>
        let n := lns.getD i 0
        if (s.line n).guarded then s.mxGuard bay entry e n
        else s.storeRun (.op e.op) (padAddr n) ((bytes.drop (128 * i)).take 128)) s
      let s := s.markFull e.op lns
      let st := if x.key = 0 then (none, s) else s.opStamp (bay / 32) e.launch e.op x.key false
      let s := match st with
        | (some c, s) => s.mxFault bay entry e c
        | (none, s) => s
      .next (s.mxEnd bay entry e)

/-! ### MXJOIN (R238) -/

/-- MXJOIN. -/
def execMxjoin (p : BitVec 2) (l _ : BitVec 7) (s : State) : Out :=
  fireHeld (formL p l) 0x1C0 (fun x s => (if 2 ^ 16 ≤ x.cap.l.toNat then some cIllegalForm else none, s)) s
/-- Operations a wait at an index names. -/
def waitOps (which : JoinOb → Bool) (idx : Nat) (j : JoinOb) : Bool := which j && j.idx ≤ idx
/-- Wait for the operations named, then observe their completion and report their faults. -/
def State.joinOps (s : State) (k idx : Nat) (which : JoinOb → Bool) : Waited :=
  let f := waitOps which idx
  if (Smap.getD s.joins [] (s.slot k).uid).any (fun j => f j && !j.done) then .pending s else .done (s.observeOps k f)
/-- Is an operation an arming of an entry a mask names? -/
def maskedEntry (mask : Nat) (j : JoinOb) : Bool :=
  match j.kind with
  | .matrix _ e => mask / 2 ^ e % 2 = 1
  | _ => false
/-- MXJOIN in step 4. -/
def waitMxjoin (s : State) (k : Nat) (c : Capture) : Waited := s.joinOps k c.idx (maskedEntry c.l.toNat)

end Sys2Proof.Machine
end

