-- ==== Sys2Proof/Machine/Ladle.lean ====
section
/-! DEFINITION. The ladle (13 R246-R260): templates, channels and transfers, routed transfers, inline decompression, POUR,
PJOIN and the doorbells. -/

namespace Sys2Proof.Machine

/-! ### Templates (R247) -/

structure Tmpl where
  bytes : List Byte
  deriving DecidableEq, Repr
def Tmpl.f (t : Tmpl) (off n : Nat) : Nat := field t.bytes off n
def Tmpl.src (t : Tmpl) : Nat := t.f 0 8
def Tmpl.dst (t : Tmpl) : Nat := t.f 8 8
def Tmpl.len (t : Tmpl) (i : Nat) : Nat := t.f (16 + 2 * i) 2
def Tmpl.flag (t : Tmpl) (i : Nat) : Bool := t.f 49 1 / 2 ^ i % 2 = 1
def Tmpl.decomp (t : Tmpl) : Bool := t.flag 0
def Tmpl.markfull (t : Tmpl) : Bool := t.flag 1
def Tmpl.token (t : Tmpl) : Bool := t.flag 2
def Tmpl.stamp (t : Tmpl) : Bool := t.flag 3
def Tmpl.route (t : Tmpl) : Bool := t.flag 4
def Tmpl.conv (t : Tmpl) : Bool := t.flag 5
def Tmpl.sfmt (t : Tmpl) : Nat := t.f 50 1
def Tmpl.dfmt (t : Tmpl) : Nat := t.f 51 1
/-- Bytes of an element, at the source and at the destination. -/
def Tmpl.e (t : Tmpl) : Nat := 1 <<< t.f 48 1
def Tmpl.e' (t : Tmpl) : Nat := if t.conv then fmtBytes t.dfmt else t.e
/-- Elements of the transfer (R248). -/
def Tmpl.count (t : Tmpl) : Nat := t.len 0 * t.len 1 * t.len 2 * t.len 3
/-- Stride of level 1, 2 or 3 on the source (side 0) or destination (side 1). -/
def Tmpl.step (t : Tmpl) (level side : Nat) : Int := signedOf 32 (t.f (24 + 8 * (level - 1) + 4 * side) 4)
/-- The address of element n on a side: i0 moves fastest (R248). -/
def Tmpl.addr (t : Tmpl) (side n : Nat) : Nat :=
  let i0 := n % t.len 0
  let i1 := n / t.len 0 % t.len 1
  let i2 := n / (t.len 0 * t.len 1) % t.len 2
  let i3 := n / (t.len 0 * t.len 1 * t.len 2)
  let base : Int := if side = 0 then t.src else t.dst
  let size := if side = 0 then t.e else t.e'
  intBits 64 (base + i0 * size + i1 * t.step 1 side + i2 * t.step 2 side + i3 * t.step 3 side)
/-- Beads a routed transfer draws (R252). -/
def Tmpl.outBeads (t : Tmpl) : Nat := t.count * t.f 57 1 / t.f 56 1
def Tmpl.handle (t : Tmpl) : Nat := bitsOf (t.f 52 4) 8 0
def Tmpl.source (t : Tmpl) : Nat := bitsOf (t.f 52 4) 12 9
def Tmpl.sink (t : Tmpl) : Nat := bitsOf (t.f 52 4) 16 13
def Tmpl.tokHandle (t : Tmpl) : Nat := bitsOf (t.f 60 2) 8 0
def Tmpl.tokX (t : Tmpl) : Nat := bitsOf (t.f 58 2) 5 0
def Tmpl.tokY (t : Tmpl) : Nat := bitsOf (t.f 58 2) 10 6
def Transfer.t (x : Transfer) : Tmpl := ⟨x.tmpl⟩
/-- Is x a multiple of n, taken as an address or a stride? -/
def aligned (x : Int) (n : Nat) : Bool := x % (n : Int) = 0
/-- The checks of R249 on the fields themselves; an entry of zeros fails them (R246). -/
def Tmpl.ok (t : Tmpl) (key : Nat) : Bool :=
  let fmtOk (f : Nat) : Bool := f ≤ 4 || (8 ≤ f && f ≤ 10)
  t.bytes.any (fun b => b != 0) && t.f 48 1 ≤ 4 && t.f 49 1 < 64 && t.f 52 4 < 2 ^ 17 && t.f 58 2 < 2 ^ 11 && t.f 60 2 < 2 ^ 9 && t.f 62 2 = 0 &&
  (if t.conv then fmtOk t.sfmt && fmtOk t.dfmt && fmtBytes t.sfmt = t.e else t.sfmt = 0 && t.dfmt = 0) &&
  aligned t.src t.e && aligned t.dst t.e' &&
  ([1, 2, 3] : List Nat).all (fun i => aligned (t.step i 0) t.e && aligned (t.step i 1) t.e') &&
  (!t.decomp || (!t.route && !t.conv && ([1, 2, 3] : List Nat).all (fun i => t.step i 0 = 0) && t.src % 16 = 0 &&
    t.count * t.e % 4096 = 0)) &&
  (if t.route then t.e = 16 && ([1, 2, 3] : List Nat).all (fun i => t.step i 1 = 0) && t.f 56 1 != 0 && t.f 57 1 != 0 &&
      t.count * t.f 57 1 % t.f 56 1 = 0
   else t.f 52 4 = 0 && t.f 56 2 = 0) &&
  (t.token || (t.f 58 2 = 0 && t.f 60 2 = 0)) && (!t.stamp || key != 0)

/-! ### Channels (R246) -/

def State.chan (s : State) (b c : Nat) : Channel := Smap.getD (s.bay b).chans Channel.reset c
def State.setChan (s : State) (b c : Nat) (v : Channel) : State := s.modBay b (fun y => { y with chans := Smap.put y.chans Channel.reset c v })
/-- Change the transfer at the head of a channel. -/
def State.modHead (s : State) (b c : Nat) (f : Transfer → Transfer) : State :=
  let v := s.chan b c
  match v.queue with
  | [] => s
  | t :: rest => s.setChan b c { v with queue := f t :: rest }
/-- A channel runs one transfer and holds four more. -/
def State.chanFull (s : State) (b c : Nat) : Bool := 5 ≤ (s.chan b c).queue.length
/-- The template table entry i of a bay. -/
def State.template (s : State) (b i : Nat) : List Byte := (List.range 64).map (fun j => Smap.getD (s.bay b).templates 0 (64 * i + j))
/-- Put a transfer behind those of its channel; it takes the channel's next sequence number. -/
def State.queueTransfer (s : State) (b c : Nat) (t : Transfer) : State :=
  let v := s.chan b c
  s.setChan b c { queue := v.queue ++ [{ t with seq := v.seq }], seq := v.seq + 1 }
def newTransfer (op : Nat) (uid : Option Nat) (launch : Nat) (ctx : BitVec 6) (detach : Bool) (key : Word) (i : Nat)
    (tmpl : List Byte) : Transfer :=
  { op := op, uid := uid, launch := launch, ctx := ctx, detach := detach, key := key, tmplIdx := i, tmpl := tmpl, seq := 0,
    started := false, next := 0, drawn := 0, src := BitVec.ofNat 64 (field tmpl 0 8), block := 0, bad := [], fault := none }
/-- A doorbell write (R256): a detached transfer of context 0. -/
def State.doorbell (s : State) (b c v : Nat) : State :=
  let i := v % 64
  let t := newTransfer s.nextOp none 4096 0 true 0 i (s.template b i)
  let wrong := 64 ≤ v || (Tmpl.mk t.tmpl).stamp
  (({ s with nextOp := s.nextOp + 1 } : State).homeOp t.op (.chan b c)).queueTransfer b c { t with fault := if wrong then some cTemplateInvalid else none }
/-- LADLE_DOORBELL_WRITE (R256): a doorbell is written by the host or a peer; it waits while the channel's queue is full. -/
def execLadleDoorbellWrite (bay chan : Nat) (data : BitVec 64) (s : State) : Out :=
  if !s.bayUp bay || 8 ≤ chan || s.chanFull bay chan then .next s else .next (s.doorbell bay chan data.toNat)
/-- Perform a write to a place whose conditions have been met, acting on doorbells and on the trigger registers as well
(13 R256; 15 R276). -/
def State.performAt (s : State) (a : Agent) (va : Nat) (p : Place) (n v : Nat) (deps : List Dep) (atomic : Bool) : State :=
  match p with
  | .doorbell b c => s.doorbell b c v
  | .sched off =>
    if off = 0x81000 then { s with trigPatch := BitVec.ofNat 64 v }
    else if off = 0x81008 then s.trigger v s.trigPatch.toNat none (s.past a.party)
    else s.writePlace a va p n v deps atomic
  | _ => s.writePlace a va p n v deps atomic
/-- Must a write to a place wait: as any write, or for room on a channel? -/
def State.performWaits (s : State) (p : Place) : Bool :=
  s.writeWaits p || (match p with
    | .doorbell b c => s.chanFull b c
    | _ => false)

/-! ### POUR and PJOIN (R250, R251) -/

/-- The fire checks of POUR. -/
def State.pourCheck (s : State) (k : Nat) (c : Capture) : Option Byte × State :=
  let r := c.r.toNat
  if 2 ^ 11 ≤ r || (bitsOf r 9 9 = 1 && (r % 8 != 0 || bitsOf r 10 10 = 1)) then (some cIllegalForm, s)
  else if bitsOf r 9 9 = 0 then (none, s)
  else if !addrOk c.l.toNat 64 then (some cAlign, s)
  else match s.resolve (s.agent k) c.l.toNat (wantPlain 8 false) with
    | (.error e, s) => (some e, s)
    | (.ok _, s) => (none, s)
/-- POUR whose selector is a register or awaited: it may load a template or start a transfer (R250). -/
def execPourLoadt (p : BitVec 2) (t : BitVec 9) (l r : BitVec 7) (s : State) : Out :=
  fireHeld (formR p l r) t.toNat (fun x s => s.pourCheck x.slot x.cap) s
/-- POUR whose selector is an immediate: it starts a transfer (R250). -/
def execPourStart (p : BitVec 2) (t : BitVec 9) (l r : BitVec 7) (s : State) : Out :=
  fireHeld (formR p l r) t.toNat (fun x s => s.pourCheck x.slot x.cap) s
/-- May the task in a slot pour with DETACH (15 R264)? Without DETACHOK the operation is joined as if DETACH were 0. -/
def State.detachOk (s : State) (k : Nat) : Bool :=
  match (s.slot k).task with
  | some t => t.flags.getLsbD 3
  | none => false
/-- POUR in step 3. -/
def commitPour (s : State) (k : Nat) (c : Capture) : Perf :=
  let r := c.r.toNat
  let b := k / 8
  let i := bitsOf r 8 3
  let ch := r % 8
  if bitsOf r 9 9 = 1 then
    if s.padWaits c.l.toNat 64 then .stall
    else match s.readTask k c.idx c.l.toNat 64 with
      | (.error e, s) => .done (s.commitFault k c.idx e) 0
      | (.ok bs, s) =>
        .done (s.modBay b (fun y => { y with
          templates := (List.range 64).foldl (fun m j => Smap.put m 0 (64 * i + j) (bs.getD j 0)) y.templates })) 0
  else if s.chanFull b ch then .stall
  else
    let detach := bitsOf r 10 10 = 1 && s.detachOk k
    let f := s.fork k c.idx (if detach then none else some (.ladle b ch)) true [b / 32]
    let sl := s.slot k
    .done ((f.2.homeOp f.1 (.chan b ch)).queueTransfer b ch (newTransfer f.1 (some sl.uid) sl.launchid.toNat sl.ctxid detach c.l i (s.template b i))) 0
/-- PJOIN. -/
def execPjoin (p : BitVec 2) (l _ : BitVec 7) (s : State) : Out :=
  fireHeld (formL p l) 0x1C0 (fun x s => (if 2 ^ 9 ≤ x.cap.l.toNat then some cIllegalForm else none, s)) s
/-- Is an operation one a PJOIN mask names? -/
def poured (mask : Nat) (j : JoinOb) : Bool :=
  match j.kind with
  | .ladle _ c => mask / 2 ^ c % 2 = 1
  | .kv _ => bitsOf mask 8 8 = 1
  | _ => false
/-- PJOIN in step 4. -/
def waitPjoin (s : State) (k : Nat) (c : Capture) : Waited := s.joinOps k c.idx (poured c.l.toNat)

/-! ### Faults of a transfer (R255) -/

def Transfer.agent (t : Transfer) (b : Nat) : Agent := { bay := b, party := .op t.op, ctx := t.ctx, priv := t.ctx == 0 }
/-- The task its faults go to; none when no task will join it. -/
def Transfer.owner (t : Transfer) : Option Nat := if t.detach then none else t.uid
def Transfer.d1 (t : Transfer) (c : Nat) : Nat := c + t.tmplIdx * 8 + t.seq.toNat * 65536
/-- Record a fault of a transfer. -/
def State.ladleFault (s : State) (b c : Nat) (t : Transfer) (cause : Byte) (addr elem count : Nat) : State :=
  s.opFault (b / 32) t.owner t.op
    { impRec cause 2 t.ctx addr (t.d1 c) elem with count := BitVec.ofNat 16 (min 65535 count) }
/-- A fault that stops the transfer at the head of a channel. -/
def State.stopTransfer (s : State) (b c : Nat) (t : Transfer) (cause : Byte) (addr elem : Nat) : State :=
  (s.ladleFault b c t cause addr elem 1).modHead b c (fun t => { t with fault := some cause })
/-- A touch of a guarded line by a transfer is raised against the task that poured it, detached or not (R255; 09 R152). -/
def State.ladleGuard (s : State) (b c : Nat) (t : Transfer) (va : Nat) : State :=
  s.touchGuard (b / 32) (t.uid.getD 0) (.op t.op) 2 t.ctx (t.d1 c) va

/-! ### Starting a transfer (R249, R252) -/

/-- The mould of a context that a handle names. -/
def State.mouldFor (s : State) (ctx : BitVec 6) (h : Nat) : Option Mould :=
  if h / 256 != 1 then none
  else match s.mould (handleDie h) (handleEntry h) with
    | some m => if m.ctx = ctx then some m else none
    | none => none
/-- Does the check wait for the load of a mould the template names? -/
def State.tmplWaits (s : State) (ctx : BitVec 6) (t : Tmpl) : Bool :=
  let loading (h : Nat) : Bool := match s.mouldFor ctx h with
    | some m => m.state == .loading
    | none => false
  (t.route && loading t.handle) || (t.token && loading t.tokHandle)
/-- The checks of R249 that look at moulds. -/
def State.tmplMoulds (s : State) (d : Nat) (ctx : BitVec 6) (t : Tmpl) : Bool :=
  (!t.route || (handleDie t.handle = d && (match s.mouldFor ctx t.handle with
    | some m => m.state != .failed && (m.source t.source).isSome && m.sinks.any (fun k => k.idx = t.sink)
    | none => false))) &&
  (!t.token || (match s.mouldFor ctx t.tokHandle with
    | some m => m.state != .failed && m.pipes.any (fun p => p.x = t.tokX && p.y = t.tokY)
    | none => false))
/-- Is the source or the sink of a routed transfer another transfer's? -/
def State.routeTaken (s : State) (ctx : BitVec 6) (t : Tmpl) : Bool :=
  t.route && (match s.mouldFor ctx t.handle with
    | some m => m.sources.any (fun k => k.idx = t.source && k.owner.isSome) || m.sinks.any (fun k => k.idx = t.sink && k.owner.isSome)
    | none => false)
/-- Give the source and sink of a routed transfer to it, or back. -/
def State.setRoute (s : State) (ctx : BitVec 6) (t : Tmpl) (op : Nat) (own : Bool) : State :=
  if !t.route || (s.mouldFor ctx t.handle).isNone then s
  else
    let o := if own then some op else none
    s.modMould (handleDie t.handle) (handleEntry t.handle) (fun m => { m with
      sources := m.sources.map (fun k => if k.idx = t.source && (own || k.owner == some op) then { k with owner := o } else k)
      sinks := m.sinks.map (fun k => if k.idx = t.sink && (own || k.owner == some op) then { k with owner := o } else k) })
/-- LADLE_TRANSFER_START (R249): a channel starts the transfer at its head and checks its template. -/
def execLadleTransferStart (bay chan : Nat) (s : State) : Out :=
  match (s.chan bay chan).queue with
  | [] => .next s
  | x :: _ =>
    let t := x.t
    if x.started || s.ctxHeld x.ctx || s.tmplWaits x.ctx t then .next s
    else
      let begin_ (s : State) : State := s.modHead bay chan (fun x => { x with started := true })
      if x.fault.isSome || !t.ok (if x.uid.isNone then 1 else x.key.toNat) || !s.tmplMoulds (bay / 32) x.ctx t then
        .next ((begin_ s).stopTransfer bay chan x cTemplateInvalid 0 0)
      else if s.routeTaken x.ctx t then .next s
      else .next ((begin_ s).setRoute x.ctx t x.op true)

/-! ### Moving elements (R248, R255) -/

/-- How one access of a transfer went. -/
inductive Moved where
  | ok (v : Nat) (s : State)
  | bad (cause : Byte) (s : State)
  | wait
  deriving DecidableEq, Repr
/-- Read n bytes at an address for a transfer, 8 at a time: an element of 16 is two accesses (DESIGN CHOICE, log entry 127). -/
def State.ladleRead (s : State) (b c : Nat) (x : Transfer) (va n : Nat) : Moved :=
  if !addrOk va n then .bad cAlign s
  else
    let a := x.agent b
    (List.range ((n + 7) / 8)).foldl (fun acc i =>
      match acc with
      | .ok v s =>
        let q := va + 8 * i
        let m := min 8 n
        match s.resolve a q (wantPlain m false) with
        | (.error e, s) => .bad e s
        | (.ok p, s) =>
          if s.guardedPlace p then .ok v (s.ladleGuard b c x q)
          else if s.readWaits p then .wait
          else if s.placeBad p m then .bad cUncorrectable s
          else if s.placeCut p then (if Config.freeBool s.tick 0 then .bad cLinkFault s else .wait)
          else
            let r := s.readPlace a q p m false
            .ok (v + r.1 * 2 ^ (64 * i)) r.2
      | e => e) (Moved.ok 0 s)
/-- Write n bytes at an address for a transfer, 8 at a time. -/
def State.ladleWrite (s : State) (b c : Nat) (x : Transfer) (va n v : Nat) : Moved :=
  if !addrOk va n then .bad cAlign s
  else
    let a := x.agent b
    (List.range ((n + 7) / 8)).foldl (fun acc i =>
      match acc with
      | .ok _ s =>
        let q := va + 8 * i
        let m := min 8 n
        match s.resolve a q (wantPlain m true) with
        | (.error e, s) => .bad e s
        | (.ok p, s) =>
          if s.guardedPlace p then .ok 0 (s.ladleGuard b c x q)
          else if s.performWaits p then .wait
          else if (match p.key with
            | some k => s.lost k && !isPad q
            | none => false) || (m < 8 && s.placeBad p m) then .bad cUncorrectable s
          else if s.placeCut p then (if Config.freeBool s.tick 0 then .bad cLinkFault s else .wait)
          else .ok 0 (s.performAt a q p m (v / 2 ^ (64 * i) % 2 ^ (8 * m)) [] false)
      | e => e) (Moved.ok 0 s)
/-- Move element n of a transfer: read, converted under CONV, written. What it reads, where source and destination overlap, is what an earlier
element has written (DESIGN CHOICE, log entry 127). -/
def State.moveElement (s : State) (b c : Nat) (x : Transfer) (n : Nat) : State :=
  let t := x.t
  let sa := t.addr 0 n
  let da := t.addr 1 n
  match s.ladleRead b c x sa t.e with
  | .wait => s
  | .bad e s => s.stopTransfer b c x e sa n
  | .ok v s2 =>
    let v := if t.conv then convert .rne t.sfmt t.dfmt v % 2 ^ (8 * t.e') else v
    match s2.ladleWrite b c x da t.e' v with
    | .wait => s
    | .bad e s => s.stopTransfer b c x e da n
    | .ok _ s => s.modHead b c (fun x => { x with next := n + 1 })

/-! ### Routed transfers (R252) -/

/-- Feed the next element as a bead; the state is unchanged when there is no room, or the source has been closed. -/
def State.routeFeed (s : State) (b c : Nat) (x : Transfer) : State :=
  let t := x.t
  let d := handleDie t.handle
  let e := handleEntry t.handle
  match (s.mouldFor x.ctx t.handle).bind (fun m => (m.source t.source).map (fun q => (m, q))) with
  | none => s
  | some (m, q) =>
    if q.closed || m.switching || m.roomAt q = 0 then s
    else
      let sa := t.addr 0 x.next
      match s.ladleRead b c x sa 16 with
      | .wait => s
      | .bad f s => s.stopTransfer b c x f sa x.next
      | .ok v s =>
        let s := s.modMould d e (fun m =>
          let g := m.tagBeads [(List.range 4).map (fun i => BitVec.ofNat 32 (v / 2 ^ (32 * i)))]
          let m := { g.2 with deps := (g.2.deps ++ s.past (.op x.op)).dedup }
          g.1.foldl (fun m z => m.joinForming q z) m)
        s.modHead b c (fun x => { x with next := x.next + 1 })
/-- Draw the next bead from the sink; end-of-stream before the last, or the end of the mould, is TEMPLATE_INVALID. -/
def State.routeDraw (s : State) (b c : Nat) (x : Transfer) : State :=
  let t := x.t
  let d := handleDie t.handle
  let e := handleEntry t.handle
  match (s.mouldFor x.ctx t.handle).bind (fun m => (m.sinks.find? (fun k => k.idx = t.sink && k.owner == some x.op)).map (fun q => (m, q))) with
  | none => s.stopTransfer b c x cTemplateInvalid 0 x.drawn
  | some (m, q) =>
    match q.take with
    | (none, _) => if q.ended then s.stopTransfer b c x cTemplateInvalid 0 x.drawn else s
    | (some z, q) =>
      let s0 := s.observe (b / 32) (.op x.op) m.deps
      let da := (t.dst + 16 * x.drawn) % 2 ^ 64
      match s0.ladleWrite b c x da 16 (z.f0.toNat + z.f1.toNat * 2 ^ 32 + z.f2.toNat * 2 ^ 64 + z.f3.toNat * 2 ^ 96) with
      | .wait => s
      | .bad f s => s.stopTransfer b c x f da x.drawn
      | .ok _ s =>
        let s := s.modMould d e (fun m => { m with sinks := m.sinks.map (fun k => if k.idx = t.sink then q else k) })
        ((s.progressOf m.uid).sweep d e).modHead b c (fun x => { x with drawn := x.drawn + 1 })

/-! ### Inline decompression (R257, R258) -/

/-- One bit of CRC-32C. -/
def crcBit (c : Nat) : Nat := if c % 2 = 1 then c / 2 ^^^ 0x82F63B78 else c / 2
/-- CRC-32C of bytes (RFC 3720). -/
def crc32c (bs : List Byte) : Nat :=
  bs.foldl (fun c b => (List.range 8).foldl (fun c _ => crcBit c) (c ^^^ b.toNat)) 0xFFFFFFFF ^^^ 0xFFFFFFFF
/-- Canonical codes: length, code and symbol (R258). -/
def canonical (lens : List Nat) : List (Nat × Nat × Nat) :=
  let syms := (List.range 15).flatMap (fun l => ((List.range 16).filter (fun s => lens.getD s 0 = l + 1)).map (fun s => (l + 1, s)))
  (syms.foldl (fun (acc : List (Nat × Nat × Nat) × Nat × Nat) e =>
    let code := acc.2.1 <<< (e.1 - acc.2.2)
    (acc.1 ++ [(e.1, code, e.2)], code + 1, e.1)) ([], 0, 0)).1
/-- Is a code complete, or a single symbol of length 1? -/
def codeOk (lens : List Nat) : Bool :=
  let used := lens.filter (fun l => l != 0)
  (used.map (fun l => 2 ^ (15 - l))).sum = 2 ^ 15 || used == [1]
def bitsOfBytes (bs : List Byte) : List Bool := bs.flatMap (fun b => (List.range 8).map (fun i => b.getLsbD i))
/-- Decode codes from a bit stream: the symbols, last first, codes still to come, and the bits left. -/
def decodeBits (codes : List (Nat × Nat × Nat)) (bits : List Bool) (len code left : Nat) (acc : List Nat) : List Nat × Nat × List Bool :=
  match bits with
  | [] => (acc, left, [])
  | b :: rest =>
    if left = 0 then (acc, 0, b :: rest)
    else
      let code := 2 * code + (if b then 1 else 0)
      match codes.find? (fun e => e.1 = len + 1 && e.2.1 = code) with
      | some e => decodeBits codes rest 0 0 (left - 1) (e.2.2 :: acc)
      | none => decodeBits codes rest (len + 1) code left acc
/-- Pair nibbles into bytes, the even one low. -/
def joinNibbles (ns : List Nat) : List Byte :=
  match ns with
  | a :: b :: rest => BitVec.ofNat 8 (a + 16 * b) :: joinNibbles rest
  | _ => []
/-- Why a block failed. -/
inductive BlockEnd where
  | good
  | checksum
  | format
  deriving DecidableEq, Repr
/-- Decode a block from its header and payload: how it ended, and the raw bytes decoded. -/
def decodeBlock (h payload : List Byte) : BlockEnd × List Byte :=
  let plen := field h 2 2
  let lens := (List.range 16).map (fun i => field h 4 8 / 2 ^ (4 * i) % 16)
  let check (raw : List Byte) : BlockEnd × List Byte := (if crc32c raw = field h 12 4 then .good else .checksum, raw)
  if field h 0 2 != 0xC7B4 || plen = 0 || 4096 < plen then (.format, [])
  else if lens.all (fun l => l = 0) then (if plen = 4096 then check payload else (.format, []))
  else if !codeOk lens then (.format, [])
  else
    let r := decodeBits (canonical lens) (bitsOfBytes payload) 0 0 8192 []
    let raw := joinNibbles r.1.reverse
    if r.2.1 != 0 || 8 ≤ r.2.2.length || r.2.2.any (fun b => b) then (.format, raw) else check raw
/-- Write raw bytes of block n to the destination pattern: none when a write must wait. -/
def State.putBlock (s : State) (b c : Nat) (x : Transfer) (n : Nat) (raw : List Byte) : Moved :=
  let t := x.t
  let per := 4096 / t.e
  (List.range (raw.length / t.e)).foldl (fun acc i =>
    match acc with
    | .ok _ s =>
      let j := n * per + i
      (match s.ladleWrite b c x (t.addr 1 j) t.e (field raw (i * t.e) t.e) with
        | .ok _ s => .ok 0 s
        | .bad e s => .bad e (s.ladleFault b c x e (t.addr 1 j) j 1)
        | .wait => .wait)
    | e => e) (Moved.ok 0 s)
/-- Is a transfer at the head of a channel one that the decoder may take? -/
def State.decodes (s : State) (x : Transfer) : Bool :=
  x.started && !s.ctxHeld x.ctx && x.t.decomp && x.fault.isNone && x.block < x.t.count * x.t.e / 4096
/-- The transfer whose block a memory port's decoder does: the one whose block it has begun, or the next of those that run, in their
order of issue (R259). -/
def State.decoderTurn (s : State) (b : Nat) : Option Nat :=
  let ops := ((List.range 8).filterMap (fun c => (s.chan b c).queue.head?.filter s.decodes)).map (fun x => x.op)
  match (s.bay b).decoder.filter (fun o => ops.contains o) with
  | some o => some o
  | none => match ((ops.filter (fun o => (s.bay b).decoded < o)).min?) with
    | some o => some o
    | none => ops.min?
/-- The decoder has begun a block and must wait: it holds it. -/
def State.decoderHolds (s : State) (b op : Nat) : State := s.modBay b (fun y => { y with decoder := some op })
/-- The decoder is done with a block. -/
def State.decoderFree (s : State) (b op : Nat) : State := s.modBay b (fun y => { y with decoder := none, decoded := op })
/-- DECOMP_BLOCK (R257-R259): in the decoder's turn, the block at a transfer's source is decoded, checked and written. A failed block's destination
bytes hold old or decoded values: which is free. -/
def execDecompBlock (bay chan : Nat) (s : State) : Out :=
  match (s.chan bay chan).queue with
  | [] => .next s
  | x :: _ =>
    let t := x.t
    let n := x.block
    let a := x.agent bay
    let u := x.uid.getD 0
    if !s.decodes x || s.decoderTurn bay != some x.op then .next s
    else if s.padWaits x.src.toNat 16 then .next (s.decoderHolds bay x.op)
    else match s.readAs a u 2 (x.d1 chan) x.src.toNat 16 with
      | (.error f, s) => .next ((s.stopTransfer bay chan x f.1 f.2 n).decoderFree bay x.op)
      | (.ok h, s1) =>
        let plen := field h 2 2
        let size := if field h 0 2 = 0xC7B4 && 1 ≤ plen && plen ≤ 4096 then plen else 0
        if 0 < size && s1.padWaits (x.src.toNat + 16) size then .next (s.decoderHolds bay x.op)
        else match s1.readAs a u 2 (x.d1 chan) (x.src.toNat + 16) size with
          | (.error f, s) => .next ((s.stopTransfer bay chan x f.1 f.2 n).decoderFree bay x.op)
          | (.ok body, s1) =>
            let r := decodeBlock h body
            let raw := if r.1 = .good || (!r.2.isEmpty && Config.freeBool s.tick 0) then r.2 else []
            match s1.putBlock bay chan x n raw with
            | .wait => .next (s.decoderHolds bay x.op)
            | .bad e s => .next ((s.modHead bay chan (fun x => { x with fault := some e })).decoderFree bay x.op)
            | .ok _ s =>
              let s := s.decoderFree bay x.op
              match r.1 with
              | .format => .next (s.stopTransfer bay chan x cDecompFormat x.src.toNat n)
              | e =>
                .next (s.modHead bay chan (fun x => { x with
                  block := n + 1, next := (n + 1) * (4096 / t.e)
                  src := BitVec.ofNat 64 (x.src.toNat + (16 + plen + 15) / 16 * 16)
                  bad := if e = .checksum then x.bad ++ [n] else x.bad }))

/-! ### Completion (R253-R255) -/

/-- Has a transfer moved all it has to move? -/
def Transfer.moved (x : Transfer) : Bool :=
  let t := x.t
  x.fault.isSome || (t.count ≤ x.next && (!t.route || t.outBeads ≤ x.drawn))
/-- Scratchpad lines an element's write reaches. -/
def Tmpl.linesOf (t : Tmpl) (n : Nat) : List Nat :=
  let va := if t.route then (t.dst + 16 * n) % 2 ^ 64 else t.addr 1 n
  if isPad va && !padState va then [padLine va] else []
/-- Lines MARKFULL marks: of a decompression, those that only good blocks wrote (R257). -/
def Transfer.marks (x : Transfer) : List Nat :=
  let t := x.t
  if !t.markfull then []
  else if t.decomp then
    let per := 4096 / t.e
    let lns (n : Nat) : List Nat := (List.range per).flatMap (fun i => t.linesOf (n * per + i))
    let total := t.count * t.e / 4096
    let good (n : Nat) : Bool := n < x.block && !x.bad.contains n
    let spoilt := ((List.range total).filter (fun n => !good n)).flatMap lns
    ((((List.range total).filter good).flatMap lns).dedup).filter (fun l => !spoilt.contains l)
  else if x.fault.isSome then []
  else ((List.range (if t.route then t.outBeads else t.count)).flatMap t.linesOf).dedup
/-- A completion token goes to its TK port; the operation's accesses become visible to the mould (09 R162). -/
def State.opToken (s : State) (ctx : BitVec 6) (h tx ty op payload kind : Nat) : State :=
  match s.mouldFor ctx h with
  | none => s
  | some m =>
    if m.drainAsked || m.state == .aborting || m.state == .failed then s
    else s.modMould (handleDie h) (handleEntry h) (fun m => { m with
      deps := (m.deps ++ s.past (.op op)).dedup
      pipes := m.pipes.map (fun p => if p.x = tx && p.y = ty then
        { p with coming := p.coming ++ [(BitVec.ofNat 32 payload, BitVec.ofNat 32 kind)] } else p) })
/-- The completion actions of a transfer, in order, and its end. -/
def State.endTransfer (s : State) (b c : Nat) (x : Transfer) : State :=
  let t := x.t
  let s := match x.bad with
    | [] => s
    | n :: _ => s.ladleFault b c x cDecompChecksum 0 n x.bad.length
  let failed := x.fault.isSome || !x.bad.isEmpty
  let s := s.markFull x.op x.marks
  let payload := x.seq.toNat * 65536 + (if failed then 512 else 0) + x.tmplIdx * 8 + c
  let s := if t.token then s.opToken x.ctx t.tokHandle t.tokX t.tokY x.op payload 4 else s
  let s := if t.stamp && !failed && x.uid.isSome then
      (match s.opStamp (b / 32) x.launch x.op x.key.toNat false with
        | (some e, s) => s.ladleFault b c x e 0 x.next 1
        | (none, s) => s)
    else s
  let s := s.setRoute x.ctx t x.op false
  let v := s.chan b c
  (s.setChan b c { v with queue := v.queue.drop 1 }).opDone x.owner x.op
/-- LADLE_TRANSFER_COMPLETE (R248, R252, R254): the transfer at the head of a channel moves its next element, as far as it need
not wait; when none is left it takes its completion actions. -/
def execLadleTransferComplete (bay chan : Nat) (s : State) : Out :=
  match (s.chan bay chan).queue with
  | [] => .next s
  | x :: _ =>
    let t := x.t
    if !x.started || s.ctxHeld x.ctx then .next s
    else if x.moved then .next (s.endTransfer bay chan x)
    else if t.decomp then .next s
    else if !t.route then .next (s.moveElement bay chan x x.next)
    else if x.next < t.count && (t.outBeads ≤ x.drawn || Config.freeBool s.tick 0) then .next (s.routeFeed bay chan x)
    else .next (s.routeDraw bay chan x)

end Sys2Proof.Machine
end

