-- ==== Sys2Proof/Machine/Kv.lean ====
section
/-! DEFINITION. KV memory (17 R305-R328): layouts and sequence records, the block pool, reference counts, the map
instructions and the prefix table. -/

namespace Sys2Proof.Machine

/-! ### Reading records -/

/-- Who reads KV records: the maker of the accesses, and where a guard touch is reported. last: it reads what the last writes left, as
instructions performed one after the other do (R323, R347). -/
structure Reader where
  a : Agent
  uid : Nat
  source : Byte
  d1 : Nat
  last : Bool
  deriving DecidableEq, Repr
def Reader.newest (r : Reader) : Reader := { r with last := true }

/-- Read n bytes in accesses of unit bytes. -/
def State.rdUnits (s : State) (r : Reader) (va n unit : Nat) : Except Byte (List Byte) × State :=
  (List.range ((n + unit - 1) / unit)).foldl (fun acc i =>
    match acc with
    | (.error c, s) => (.error c, s)
    | (.ok bs, s) =>
      let q := va + unit * i
      match s.resolve r.a q (wantPlain unit false) with
      | (.error c, s) => (.error c, s)
      | (.ok p, s) =>
        if s.guardedPlace p then (.ok (bs ++ List.replicate unit 0), s.touchGuard r.a.die r.uid r.a.party r.source r.a.ctx r.d1 q)
        else if s.placeBad p unit then (.error cUncorrectable, s)
        else if s.placeCut p then (.error cLinkFault, s)
        else
          let v := s.readPlace r.a q p unit r.last
          (.ok (bs ++ bytesOf unit v.1), v.2)) (.ok [], s)
/-- Read n bytes, 8 at a time. -/
def State.rd (s : State) (r : Reader) (va n : Nat) : Except Byte (List Byte) × State := s.rdUnits r va n 8
/-- Read one 8-byte word. -/
def State.rdWord (s : State) (r : Reader) (va : Nat) : Except Byte Nat × State :=
  match s.rd r va 8 with
  | (.error c, s) => (.error c, s)
  | (.ok bs, s) => (.ok (natOf bs), s)
/-- Write n bytes as one access that releases deps. An instruction or an engine writes in the order in which it is performed: no write
made before comes after (R320, R329, R333). -/
def State.wr (s : State) (r : Reader) (va n v : Nat) (deps : List Dep) : Except Byte Unit × State :=
  match s.resolve r.a va (wantPlain n true) with
  | (.error c, s) => (.error c, s)
  | (.ok p, s) =>
    if s.guardedPlace p then (.ok (), s.touchGuard r.a.die r.uid r.a.party r.source r.a.ctx r.d1 va)
    else if s.placeCut p then (.error cLinkFault, s)
    else (.ok (), s.performAt r.a va p n v deps true)
/-- Must a write at an address wait? -/
def State.wrWaits (s : State) (r : Reader) (va n : Nat) : Bool :=
  match (s.resolve r.a va (wantPlain n true)).1 with
  | .ok p => s.performWaits p
  | .error _ => false
/-- Store bytes of a page in units, each releasing deps, through the slices of a die (09 R133). -/
def State.storeUnits (s : State) (d : Nat) (p : Party) (pa unit : Nat) (bs : List Byte) (deps : List Dep) : State :=
  (List.range ((bs.length + unit - 1) / unit)).foldl (fun s i => s.store p (pa + unit * i) ((bs.drop (unit * i)).take unit) deps false)
    (s.touchRun d pa bs.length true)
/-- Load bytes of a page, through the slices of a die. -/
def State.loadPage (s : State) (d : Nat) (p : Party) (pa n : Nat) : List Byte × State := (s.touchRun d pa n false).loadRun d p pa n
/-- The writes made since a write number become visible together, as one indivisible step. -/
def State.jointSince (s : State) (n : Nat) : State :=
  let ids := (List.range (s.nextWrite - n)).map (fun i => (n + i, Prec.on allDies))
  { s with writes := s.writes.map (fun r => if n ≤ r.id then { r with deps := r.deps ++ ids } else r) }

/-! ### Layouts and sequences (R305-R307) -/

structure Layout where
  heads : Nat
  hdim : Nat
  fmt : Nat
  rot : Bool
  rottab : Nat
  rotpos : Nat
  layers : Nat
  deriving DecidableEq, Repr
/-- A layout descriptor, if it is valid. -/
def layoutOf (bs : List Byte) : Option Layout :=
  let l : Layout := { heads := field bs 0 2, hdim := field bs 2 2, fmt := field bs 4 1, rot := field bs 5 1 = 1, rottab := field bs 8 8,
                      rotpos := field bs 16 4, layers := field bs 20 2 }
  if 1 ≤ l.heads && l.heads ≤ 256 && 2 ≤ l.hdim && l.hdim ≤ 512 && l.hdim % 2 = 0 && l.fmt ≤ 4 && field bs 5 1 ≤ 1 &&
      field bs 6 2 < 4096 && l.rottab % 8 = 0 && (l.rot || (l.rottab = 0 && l.rotpos = 0)) && 1 ≤ l.layers && l.layers ≤ 255 &&
      field bs 22 10 = 0 && 16 * l.heads * l.hdim * fmtBytes l.fmt ≤ 32768 then some l else none
/-- Bytes of an element. -/
def Layout.e (l : Layout) : Nat := fmtBytes l.fmt
/-- Offsets in a page of K(t, h, d) and V(t, h, d) (R306). -/
def Layout.kOff (l : Layout) (t h d : Nat) : Nat := ((h * 16 + t) * l.hdim + d) * l.e
def Layout.vOff (l : Layout) (t h d : Nat) : Nat := 32768 + l.kOff t h d
structure SeqRec where
  addr : Nat
  map : Nat
  len : Nat
  maxblk : Nat
  lay : Layout
  deriving DecidableEq, Repr
/-- Address of a stage-1 slot. -/
def SeqRec.slotAt (q : SeqRec) (layer b : Nat) : Nat := q.map + (layer * q.maxblk + b) * 8
/-- A layout and a sequence record as words, and back: how an operation keeps what it read. -/
def Layout.words (l : Layout) : List Word :=
  [l.heads, l.hdim, l.fmt, if l.rot then 1 else 0, l.rottab, l.rotpos, l.layers].map (fun (n : Nat) => BitVec.ofNat 64 n)
def layoutOfWords (ws : List Word) : Layout :=
  let w (i : Nat) : Nat := (ws.getD i 0).toNat
  { heads := w 0, hdim := w 1, fmt := w 2, rot := w 3 = 1, rottab := w 4, rotpos := w 5, layers := w 6 }
def SeqRec.words (q : SeqRec) : List Word :=
  [q.addr, q.map, q.len, q.maxblk].map (fun (n : Nat) => BitVec.ofNat 64 n) ++ q.lay.words
def seqOfWords (ws : List Word) : SeqRec :=
  let w (i : Nat) : Nat := (ws.getD i 0).toNat
  { addr := w 0, map := w 1, len := w 2, maxblk := w 3, lay := layoutOfWords (ws.drop 4) }
/-- Read the bytes of a layout descriptor; none stands off a 32-byte boundary, and no bytes make no valid one. -/
def State.rdLayoutBytes (s : State) (r : Reader) (va : Nat) : Except Byte (List Byte) × State :=
  if va % 32 != 0 then (.ok [], s) else s.rd r va 32
/-- A sequence record from its bytes and its layout's, if both are valid (R305, R307). -/
def seqOf (va : Nat) (bs lay : List Byte) : Option SeqRec :=
  if field bs 8 8 % 8 != 0 || field bs 20 4 = 0 || 2 ^ 24 < field bs 20 4 || field bs 24 40 != 0 then none
  else (layoutOf lay).map (fun l => { addr := va, map := field bs 8 8, len := field bs 16 4, maxblk := field bs 20 4, lay := l })
/-- Is an entry valid, as a reader sees it? -/
def State.slotValid (s : State) (r : Reader) (va : Nat) : Bool :=
  match (s.rdWord r.newest va).1 with
  | .ok e => e1Valid e
  | .error _ => false
/-- Is a slot that KVFREE cleared still empty before a valid entry of its layer, whose slots end at stop (R324)? -/
def State.gapAt (s : State) (r : Reader) (stop fuel va : Nat) : Bool :=
  match fuel with
  | 0 => false
  | n + 1 =>
    !s.slotValid r va && va + 8 < stop &&
      (s.slotValid r (va + 8) || (s.kvFreed.any (fun f => f.1 = va + 8) && s.gapAt r stop n (va + 8)))
/-- The physical address a slot leads to. -/
def State.slotKey (s : State) (r : Reader) (va : Nat) : Option Nat :=
  match (s.resolve r.a va (wantPlain 8 false)).1 with
  | .ok p => p.key
  | .error _ => none
/-- Has a sequence a gap that KVFREE left (R324)? Other entries behind a layer's prefix nothing looks for (R307; log entry 43). -/
def State.seqGap (s : State) (r : Reader) (q : SeqRec) : Bool :=
  s.kvFreed.any (fun f =>
    q.map ≤ f.1 && f.1 < q.map + q.lay.layers * q.maxblk * 8 && s.slotKey r f.1 == some f.2 &&
      s.gapAt r (q.map + ((f.1 - q.map) / 8 / q.maxblk + 1) * q.maxblk * 8) s.kvFreed.length f.1)
/-- A sequence record that has been read: valid, and with no gap. -/
def State.seqChecked (s : State) (r : Reader) (va : Nat) (bs lay : List Byte) : Except Byte SeqRec :=
  match seqOf va bs lay with
  | none => .error cKvMapInvalid
  | some q => if s.seqGap r q then .error cKvMapInvalid else .ok q
/-- Read a sequence record and its layout. map: the sequence's map is looked at too. -/
def State.rdSeqMap (s : State) (r : Reader) (va : Nat) (map : Bool) : Except Byte SeqRec × State :=
  match s.rd r va 64 with
  | (.error c, s) => (.error c, s)
  | (.ok bs, s) =>
    match s.rdLayoutBytes r (field bs 0 8) with
    | (.error c, s) => (.error c, s)
    | (.ok lay, s) =>
      (if map then s.seqChecked r va bs lay else match seqOf va bs lay with
        | none => .error cKvMapInvalid
        | some q => .ok q, s)
/-- Read a sequence record and its layout. -/
def State.rdSeq (s : State) (r : Reader) (va : Nat) : Except Byte SeqRec × State := s.rdSeqMap r va true
/-- Read the valid prefix of a row from an index, at most fuel entries; each entry is checked (R307, R309). -/
def State.rdRowFrom (s : State) (r : Reader) (base fuel i : Nat) (acc : List Nat) : Except Byte (List Nat) × State :=
  match fuel with
  | 0 => (.ok acc, s)
  | n + 1 =>
    match s.rdWord r (base + 8 * i) with
    | (.error c, s) => (.error c, s)
    | (.ok e, s) =>
      if !e1Valid e then (.ok acc, s)
      else if e1Bad e then (.error cKvMapInvalid, s)
      else s.rdRowFrom r base n (i + 1) (acc ++ [e])
/-- The valid entries of a layer. -/
def State.rdRow (s : State) (r : Reader) (q : SeqRec) (layer : Nat) : Except Byte (List Nat) × State :=
  s.rdRowFrom r (q.slotAt layer 0) q.maxblk 0 []
def rowLen (row : List Nat) : Nat := (row.map e1Fill).sum
/-- First position of block b of a row. -/
def rowStart (row : List Nat) (b : Nat) : Nat := rowLen (row.take b)

/-! ### The pool (R310, R314) -/

/-- Blocks the free stack holds. -/
def State.kvFreeCount (s : State) (d : Nat) : Except Byte Nat × State :=
  s.deviceAtomic d (s.kvpool.toNat / 64 * 64 + 24) 4
/-- Pop a block number: KV_POOL_EMPTY when the stack is empty. -/
def State.kvPop (s : State) (d : Nat) : Except Byte Nat × State :=
  let pool := s.kvpool.toNat / 64 * 64
  match s.kvFreeCount d with
  | (.error c, s) => (.error (if c = cUncorrectable then c else cKvMapInvalid), s)
  | (.ok top, s) =>
    if top = 0 then (.error cKvPoolEmpty, s)
    else match s.deviceAtomic d (pool + 16) 8 with
      | (.error c, s) => (.error c, s)
      | (.ok stk, s) =>
        match s.deviceAtomic d (stk + 4 * (top - 1)) 4 with
        | (.error c, s) => (.error (if c = cUncorrectable then c else cKvMapInvalid), s)
        | (.ok g, s) => (.ok g, s.deviceStore d (.device d) (pool + 24) 4 (top - 1) [])
/-- Push a block number; a stack that cannot be reached keeps what it holds. -/
def State.kvPush (s : State) (d g : Nat) : State :=
  let pool := s.kvpool.toNat / 64 * 64
  match s.kvFreeCount d with
  | (.error _, s) => s
  | (.ok top, s) =>
    match s.deviceAtomic d (pool + 16) 8 with
    | (.error _, s) => s
    | (.ok stk, s) => (s.deviceStore d (.device d) (stk + 4 * top) 4 g []).deviceStore d (.device d) (pool + 24) 4 (top + 1) []
/-- Allocate a fresh block for a party: its page zeroed, its entry written (R314). Its generation is one that no run has declared (15
R273). -/
def State.kvAlloc (s : State) (d : Nat) (p : Party) (ctx : BitVec 6) (layer : Nat) : Except Byte KvBlock × State :=
  if s.kvpool = 0 then (.error cKvMapInvalid, s)
  else match s.kvPop d with
    | (.error c, s) => (.error c, s)
    | (.ok g, s) =>
      match s.kvBlock d p g with
      | (.error c, s) => (.error c, s)
      | (.ok b, s) =>
        let s := s.storeUnits d p b.page 8 (List.replicate 65536 0) (s.releaseDeps p d 3)
        let b := { b with
          word0 := b.page + layer % 256 * 256 + 1, refcnt := 1, hmgen := (b.hmgen + 1) % 65536, frontier := 255, ctx := ctx.toNat,
          prov := (s.die d).kvepoch.toNat * 2 ^ 52 }
        (.ok b, { s.writeBlock d p b (s.releaseDeps p d 4) with kvRuns := Smap.erase s.kvRuns g })
/-- Blocks that a splice or an attention in progress has captured (R316). -/
def State.kvCaptured (s : State) (g : Nat) : Bool := s.kvops.any (fun o => o.2.captured.contains (BitVec.ofNat 32 g))
/-- Free a block (R314). -/
def State.kvFreeBlock (s : State) (d : Nat) (p : Party) (b : KvBlock) : State :=
  let b' := { ((b.setWord 0 false).setWord 2 false) with refcnt := 0 }
  (s.writeBlock d p b' (s.releaseDeps p d 4)).kvPush d b.gbn
/-- Drop a reference (R315, R316): the new count. -/
def State.kvDrop (s : State) (d : Nat) (p : Party) (b : KvBlock) : Nat × State :=
  let n := b.refcnt - 1
  if n = 0 then
    (0, if b.addr.isSome && s.kvCaptured b.gbn then s.writeBlock d p { b with refcnt := 0 } (s.releaseDeps p d 4)
        else if b.addr.isSome then s.kvFreeBlock d p b else s)
  else
    let b := if n = 1 then b.setWord 1 false else b
    (n, s.writeBlock d p { b with refcnt := n } (s.releaseDeps p d 4))
/-- The bytes of a block's page, as a party reads them; those of another chip's block are free (log entry 25). -/
def State.pageBytes (s : State) (d : Nat) (p : Party) (b : KvBlock) : List Byte × State :=
  match b.addr with
  | some _ => s.loadPage d p b.page 65536
  | none => ((List.range 8192).flatMap (fun i => bytesOf 8 (s.foreign b.chip b.gbn (100 + i))), s)
/-- Copy a block into a fresh one on this chip, with its PROV, FRONTIER and STAMPED (R315). -/
def State.kvClone (s : State) (d : Nat) (p : Party) (ctx : BitVec 6) (b : KvBlock) : Except Byte KvBlock × State :=
  if b.addr.isSome && (s.lost b.page || s.poisoned b.page 65536) then (.error cUncorrectable, s)
  else match s.kvAlloc d p ctx b.layer with
  | (.error c, s) => (.error c, s)
  | (.ok f, s) =>
    let bytes := s.pageBytes d p b
    let s := bytes.2.storeUnits d p f.page 8 bytes.1 (bytes.2.releaseDeps p d 3)
    let f := { (f.setWord 2 b.stamped) with prov := b.prov, frontier := b.frontier }
    (.ok f, s.writeBlock d p f (s.releaseDeps p d 4))
/-- A new reference to the block an entry names, as KVFORK makes it (R322): the entry to install. -/
def State.kvFork (s : State) (d : Nat) (p : Party) (ctx : BitVec 6) (e : Nat) : Except Byte Nat × State :=
  if e1Bad e then (.error cKvMapInvalid, s)
  else match s.kvBlockOf d p e with
    | (.error c, s) => (.error c, s)
    | (.ok b, s) =>
      if !b.valid || 5 < b.state || (1 ≤ b.state && b.state ≤ 3) then (.error cKvMapInvalid, s)
      else if s.blockStale d b then (.error cKvStale, s)
      else if b.refcnt = 65535 then
        (if e1Tier e != 0 then (.error cKvAbsent, s)
         else match s.kvClone d p ctx b with
          | (.error c, s) => (.error c, s)
          | (.ok f, s) => (.ok (e1Make s.chipid.toNat f.gbn (e1Fill e)), s))
      else (.ok e, s.writeBlock d p { (b.setWord 1 true) with refcnt := b.refcnt + 1 } (s.releaseDeps p d 4))
/-- The entries of a sequence's column, as its map holds them now. -/
def State.columnNow (s : State) (r : Reader) (q : SeqRec) (b : Nat) : List Nat × State :=
  (List.range q.lay.layers).foldl (fun (acc : List Nat × State) l =>
    match acc.2.rdWord r (q.slotAt l b) with
    | (.error _, s) => (acc.1 ++ [0], s)
    | (.ok e, s) => (acc.1 ++ [e], s)) ([], s)
/-- A column, by its entries, turns out stale by its epoch: STATE := 5 on every layer's block, as one write of the column (R311, R313). -/
def State.markStale (s : State) (d : Nat) (p : Party) (es : List Nat) : State :=
  (es.foldl (fun s e =>
    if !e1Valid e || e1Chip e != s.chipid.toNat then s
    else match s.kvBlock d p (e1Gbn e) with
      | (.ok k, s) => if k.valid then s.writeBlock d p (k.setState 5) [] else s
      | (.error _, s) => s) s).jointSince s.nextWrite
/-- Note a stale block of a column, where its epoch made it so. -/
def State.noteStale (s : State) (d : Nat) (p : Party) (es : List Nat) (k : KvBlock) : State :=
  if k.state = 5 then s else s.markStale d p es

/-! ### The map instructions (R320-R324) -/

/-- Fire check of an address operand: alignment, then translation with read and write permission. An address of a window is not
translated: PAGE_ABSENT. -/
def State.kvOperand (s : State) (k va align : Nat) : Option Byte × State :=
  if !addrOk va align then (some cAlign, s)
  else if isWindow va then (some cPageAbsent, s)
  else match s.resolve (s.agent k) va { wantAtomic 8 with atomic := false, wordOk := false } with
    | (.error c, s) => (some c, s)
    | (.ok _, s) => (none, s)
/-- The reader a map instruction is. -/
def State.kvReader (s : State) (k : Nat) (c : Capture) : Reader := { a := s.agent k, uid := (s.slot k).uid, source := 0, d1 := c.idx, last := false }
/-- A step-3 fault of a map instruction: nothing has changed, and the target receives all ones (R320). -/
def State.kvFail (s : State) (k : Nat) (c : Capture) (cause : Byte) : Perf := .done (s.commitFault k c.idx cause) 0xFFFFFFFFFFFFFFFF
/-- What a map instruction has done up to a fault is undone, save the guard touches it raised (R320; 09 R152). -/
def State.kvUndo (s : State) (k : Nat) (s1 : State) : State :=
  s.modSlot k (fun sl => { sl with imp := (s1.slot k).imp, impOverflow := (s1.slot k).impOverflow })

/-- KVMAP (R321). -/
def execKvmap (p : BitVec 2) (t : BitVec 9) (l r : BitVec 7) (s : State) : Out :=
  fireHeld (formR p l r) t.toNat (fun x s =>
    match s.kvOperand x.slot x.cap.l.toNat 8 with
    | (some c, s) => (some c, s)
    | (none, s) => (if 2 ^ 13 ≤ x.cap.r.toNat then some cIllegalForm else none, s)) s
/-- KVMAP in step 3. -/
def commitKvmap (s : State) (k : Nat) (c : Capture) : Perf :=
  let rd := s.kvReader k c
  let va := c.l.toNat
  let fill := bitsOf c.r.toNat 12 8
  if s.wrWaits rd va 8 then .stall
  else match s.rdWord rd.newest va with
    | (.error e, s1) => (s.kvUndo k s1).kvFail k c e
    | (.ok old, s1) =>
      if e1Valid old || 16 < fill then (s.kvUndo k s1).kvFail k c cKvMapInvalid
      else match s1.kvAlloc rd.a.die rd.a.party rd.a.ctx (c.r.toNat % 256) with
        | (.error e, s1) => (s.kvUndo k s1).kvFail k c e
        | (.ok b, s1) =>
          let e := e1Make s.chipid.toNat b.gbn fill
          match s1.wr rd va 8 e (s1.releaseDeps rd.a.party rd.a.die 3) with
          | (.error f, s1) => (s.kvUndo k s1).kvFail k c f
          | (.ok _, s1) => .done s1 (BitVec.ofNat 64 e)

/-- KVFORK (R322). -/
def execKvfork (p : BitVec 2) (t : BitVec 9) (l r : BitVec 7) (s : State) : Out :=
  fireHeld (formR p l r) t.toNat (fun x s =>
    match s.kvOperand x.slot x.cap.l.toNat 8 with
    | (some c, s) => (some c, s)
    | (none, s) => s.kvOperand x.slot x.cap.r.toNat 8) s
/-- KVFORK in step 3. -/
def commitKvfork (s : State) (k : Nat) (c : Capture) : Perf :=
  let rd := s.kvReader k c
  if s.wrWaits rd c.r.toNat 8 then .stall
  else match s.rdWord rd.newest c.l.toNat with
    | (.error e, s1) => (s.kvUndo k s1).kvFail k c e
    | (.ok src, s1) =>
      match s1.rdWord rd.newest c.r.toNat with
      | (.error e, s1) => (s.kvUndo k s1).kvFail k c e
      | (.ok dst, s1) =>
        if e1Valid dst then (s.kvUndo k s1).kvFail k c cKvMapInvalid
        else match s1.kvFork rd.a.die rd.a.party rd.a.ctx src with
          | (.error e, s1) => (s.kvUndo k s1).kvFail k c e
          | (.ok e, s1) =>
            match s1.wr rd c.r.toNat 8 e (s1.releaseDeps rd.a.party rd.a.die 3) with
            | (.error f, s1) => (s.kvUndo k s1).kvFail k c f
            | (.ok _, s1) => .done s1 (BitVec.ofNat 64 e)

/-- KVAPPEND (R323). -/
def execKvappend (p : BitVec 2) (t : BitVec 9) (l r : BitVec 7) (s : State) : Out :=
  fireHeld (formR p l r) t.toNat (fun x s =>
    match s.kvOperand x.slot x.cap.l.toNat 64 with
    | (some c, s) => (some c, s)
    | (none, s) => s.kvOperand x.slot x.cap.r.toNat 32) s
/-- The block a KVAPPEND writes: its index, the block, and the FILL before. The state is kept on a fault but for a column found
stale. -/
def State.appendBlock (s : State) (rd : Reader) (q : SeqRec) (layer : Nat) (row : List Nat) : Except Byte (Nat × KvBlock × Nat) × State :=
  let d := rd.a.die
  let p := rd.a.party
  let n := row.length
  let last := row.getD (n - 1) 0
  if n = 0 || e1Fill last = 16 then
    (if q.maxblk ≤ n then (.error cKvMapInvalid, s)
     else match s.kvAlloc d p rd.a.ctx layer with
      | (.error c, _) => (.error c, s)
      | (.ok b, s) => (.ok (n, b, 0), s))
  else if e1Absent last then (.error cKvAbsent, s)
  else if e1Chip last != s.chipid.toNat then (.error cKvMapInvalid, s)
  else match s.kvBlock d p (e1Gbn last) with
    | (.error c, s) => (.error c, s)
    | (.ok b, s) =>
      if !b.valid || 5 < b.state then (.error cKvMapInvalid, s)
      else if s.blockStale d b then
        (let col := s.columnNow rd q (n - 1)
         (.error cKvStale, col.2.noteStale d p col.1 b))
      else if 1 ≤ b.state && b.state ≤ 3 then (.error cKvMapInvalid, s)
      else if !b.cow then (.ok (n - 1, b, e1Fill last), s)
      else match s.kvClone d p rd.a.ctx b with
        | (.error c, _) => (.error c, s)
        | (.ok f, s) => (.ok (n - 1, f, e1Fill last), (s.kvDrop d p b).2)
/-- Write one token's keys or values into a page, as part of the instruction's release (R320). -/
def State.putToken (s : State) (d : Nat) (p : Party) (l : Layout) (page t : Nat) (value : Bool) (bs : List Byte) : State :=
  let deps := s.releaseDeps p d 3
  (List.range l.heads).foldl (fun s h =>
    s.storeUnits d p (page + (if value then l.vOff t h 0 else l.kOff t h 0)) l.e ((bs.drop (h * l.hdim * l.e)).take (l.hdim * l.e)) deps) s
/-- KVAPPEND in step 3. It waits while a SPLICE of its sequence is in progress (R329). -/
def commitKvappend (s : State) (k : Nat) (c : Capture) : Perf :=
  let rd := s.kvReader k c
  let d := rd.a.die
  let p := rd.a.party
  if s.kvops.any (fun o => o.2.kind == .splice && o.2.a0 == c.l) then .stall
  else match s.rdSeq rd.newest c.l.toNat with
    | (.error e, s1) => (s.kvUndo k s1).kvFail k c e
    | (.ok q, s1) =>
      match s1.rd rd c.r.toNat 32 with
      | (.error e, s1) => (s.kvUndo k s1).kvFail k c e
      | (.ok ar, s1) =>
        let layer := field ar 0 2
        if q.lay.layers ≤ layer || 1 < field ar 2 1 || field ar 3 5 != 0 || field ar 24 8 != 0 then (s.kvUndo k s1).kvFail k c cKvMapInvalid
        else match s1.rdRow rd.newest q layer with
          | (.error e, s1) => (s.kvUndo k s1).kvFail k c e
          | (.ok row, s1) =>
            let n := q.lay.heads * q.lay.hdim * q.lay.e
            match s1.rdUnits rd (field ar 8 8) n q.lay.e with
            | (.error e, s1) => (s.kvUndo k s1).kvFail k c e
            | (.ok ks, s1) =>
              match s1.rdUnits rd (field ar 16 8) n q.lay.e with
              | (.error e, s1) => (s.kvUndo k s1).kvFail k c e
              | (.ok vs, s1) =>
                match s1.appendBlock rd q layer row with
                | (.error e, s1) => (if e = cKvStale then s1 else s.kvUndo k s1).kvFail k c e
                | (.ok (b, blk, fill), s1) =>
                  if s1.wrWaits rd (q.slotAt layer b) 8 then .stall
                  else
                    let s1 := s1.putToken d p q.lay blk.page fill false ks
                    let s1 := s1.putToken d p q.lay blk.page fill true vs
                    let e := e1Make s.chipid.toNat blk.gbn (fill + 1)
                    match s1.wr rd (q.slotAt layer b) 8 e (s1.releaseDeps p d 4) with
                    | (.error f, s1) => (s.kvUndo k s1).kvFail k c f
                    | (.ok _, s1) =>
                      let pos := rowLen row
                      let s1 := if field ar 2 1 = 1 then (s1.wr rd (q.addr + 16) 4 (pos + 1) (s1.releaseDeps p d 3)).2 else s1
                      .done s1 (BitVec.ofNat 64 pos)

/-- KVFREE (R324). -/
def execKvfree (p : BitVec 2) (t : BitVec 9) (l _ : BitVec 7) (s : State) : Out :=
  fireHeld (formL p l) t.toNat (fun x s => s.kvOperand x.slot x.cap.l.toNat 8) s
/-- KVFREE in step 3. -/
def commitKvfree (s : State) (k : Nat) (c : Capture) : Perf :=
  let rd := s.kvReader k c
  let va := c.l.toNat
  if s.wrWaits rd va 8 then .stall
  else match s.rdWord rd.newest va with
    | (.error e, s1) => (s.kvUndo k s1).kvFail k c e
    | (.ok e, s1) =>
      if e1Bad e then (s.kvUndo k s1).kvFail k c cKvMapInvalid
      else match s1.kvBlockOf rd.a.die rd.a.party e with
        | (.error f, s1) => (s.kvUndo k s1).kvFail k c f
        | (.ok b, s1) =>
          if !b.valid then (s.kvUndo k s1).kvFail k c cKvMapInvalid
          else
            let n := s1.kvDrop rd.a.die rd.a.party b
            let freed := (va, (s1.slotKey rd va).getD 0)
            let n := (n.1, { n.2 with kvFreed := if n.2.kvFreed.contains freed then n.2.kvFreed else freed :: n.2.kvFreed })
            match n.2.wr rd va 8 0 (n.2.releaseDeps rd.a.party rd.a.die 3) with
            | (.error f, s1) => (s.kvUndo k s1).kvFail k c f
            | (.ok _, s1) => .done s1 (BitVec.ofNat 64 n.1)

/-! ### Prefix sharing (R325-R328) -/

/-- One link of the chain hash. -/
def chainHash (l r : Word) : Word := l.rotateLeft 13 ^^^ r
/-- PFXH (R325). -/
def execPfxh (p : BitVec 2) (t : BitVec 9) (l r : BitVec 7) (s : State) : Out :=
  fireValue (formR p l r) [t.toNat] (fun l r _ => chainHash l r) s
/-- PFXLOOK (R327). -/
def execPfxlook (p : BitVec 2) (t : BitVec 9) (l _ : BitVec 7) (s : State) : Out :=
  fireHeld (formL p l) t.toNat (fun x s => s.kvOperand x.slot x.cap.l.toNat 32) s
/-- Does a layer entry of a column let the walk go on (R327)? -/
def State.pfxEntryOk (s : State) (rd : Reader) (e : Nat) : Bool × State :=
  if e1Bad e || e1Absent e then (false, s)
  else match s.kvBlockOf rd.a.die rd.a.party e with
    | (.error _, s) => (false, s)
    | (.ok b, s) => (b.valid && b.state ≤ 5 && !(1 ≤ b.state && b.state ≤ 3) && !s.blockStale rd.a.die b, s)
/-- Pin a column at index b of a sequence: each layer's entry, as KVFORK installs one. A layer that faults is not pinned; those before it
are. -/
def State.pinColumn (s : State) (rd : Reader) (q : SeqRec) (b : Nat) (es : List Nat) : Except Byte Unit × State :=
  (List.range es.length).foldl (fun acc l =>
    match acc with
    | (.error c, s) => (.error c, s)
    | (.ok _, s) =>
      match s.kvFork rd.a.die rd.a.party rd.a.ctx (es.getD l 0) with
      | (.error c, _) => (.error c, s)
      | (.ok e, t) =>
        match t.wr rd (q.slotAt l b) 8 e (t.releaseDeps rd.a.party rd.a.die 3) with
        | (.error c, _) => (.error c, s)
        | r => r) (.ok (), s)
/-- Does a slot of a sequence's column hold a valid entry? -/
def State.columnTaken (s : State) (rd : Reader) (q : SeqRec) (b : Nat) : Except Byte Bool × State :=
  (List.range q.lay.layers).foldl (fun (acc : Except Byte Bool × State) l =>
    match acc with
    | (.error c, s) => (.error c, s)
    | (.ok v, s) =>
      match s.rdWord rd (q.slotAt l b) with
      | (.error c, s) => (.error c, s)
      | (.ok e, s) => (.ok (v || e1Valid e), s)) (.ok false, s)
/-- The walk of PFXLOOK from hash number i: the count reached, or the fault that stopped it. -/
def State.pfxWalk (s : State) (rd : Reader) (q : SeqRec) (hashes n : Nat) (pin : Bool) (fuel i : Nat) : Except Byte Nat × State :=
  match fuel with
  | 0 => (.ok i, s)
  | f + 1 =>
    match s.rdWord rd (hashes + 8 * i) with
    | (.error c, s) => (.error c, s)
    | (.ok h, s) =>
      match (s.die rd.a.die).pfx.find? (fun x => x.1.toNat = h) with
      | none => (.ok i, s)
      | some x =>
        match s.rd rd (x.2.1.toNat + 64) (8 * q.lay.layers) with
        | (.error c, s) => (.error c, s)
        | (.ok bs, s) =>
          let es := (List.range q.lay.layers).map (fun l => field bs (8 * l) 8)
          let good := es.foldl (fun (acc : Bool × State) e => if acc.1 then acc.2.pfxEntryOk rd e else acc) (true, s)
          let s := good.2
          if !good.1 then (.ok i, s)
          else
            let pinned : Except Byte Unit × State :=
              if !pin then (.ok (), s)
              else if q.maxblk ≤ i then (.error cKvMapInvalid, s)
              else match s.columnTaken rd q i with
                | (.error c, s) => (.error c, s)
                | (.ok true, s) => (.error cKvMapInvalid, s)
                -- the blocks its clones need are reserved first (R314); any other fault leaves the pins made before it
                | (.ok false, s) => (match s.pinColumn rd q i es with
                  | (.error c, t) => (.error c, if c = cKvPoolEmpty then s else t)
                  | r => r)
            match pinned with
            | (.error c, s) => (.error c, s)
            | (.ok _, s) =>
              let s := s.modDie rd.a.die (fun d => { d with pfx := d.pfx.map (fun y => if y.1 = x.1 then (y.1, y.2.1, 4096 * s.tick + i) else y) })
              s.pfxWalk rd q hashes n pin f (i + 1)
/-- PFXLOOK in step 3. -/
def commitPfxlook (s : State) (k : Nat) (c : Capture) : Perf :=
  let rd := s.kvReader k c
  match s.rd rd c.l.toNat 32 with
    | (.error e, s1) => (s.kvUndo k s1).kvFail k c e
    | (.ok bs, s1) =>
      let n := field bs 8 4
      let sq := field bs 16 8
      if n = 0 || 4096 < n || 1 < field bs 12 4 || field bs 24 8 != 0 || sq = 0 || sq % 64 != 0 then (s.kvUndo k s1).kvFail k c cKvMapInvalid
      else match s1.rdSeqMap rd sq (field bs 12 4 = 1) with
        | (.error e, s1) => (s.kvUndo k s1).kvFail k c e
        | (.ok q, s1) =>
          match s1.pfxWalk rd q (field bs 0 8) n (field bs 12 4 = 1) n 0 with
          | (.error e, s1) => s1.kvFail k c e
          | (.ok i, s1) => .done s1 (BitVec.ofNat 64 i)

/-- PFXINS (R328). -/
def execPfxins (p : BitVec 2) (t : BitVec 9) (l r : BitVec 7) (s : State) : Out :=
  fireHeld (formR p l r) t.toNat (fun x s => if x.cap.r = 0 then (none, s) else s.kvOperand x.slot x.cap.r.toNat 8) s
/-- The entry of a prefix table used longest ago. -/
def pfxOldest (l : List (Word × Word × Nat)) : Option (Word × Word × Nat) :=
  l.foldl (fun acc x =>
    match acc with
    | none => some x
    | some y => if x.2.2 < y.2.2 then some x else some y) none
/-- PFXINS in step 3. -/
def commitPfxins (s : State) (k : Nat) (c : Capture) : Perf :=
  let d := k / 256
  let l := (s.die d).pfx
  let set (l : List (Word × Word × Nat)) : State := s.modDie d (fun x => { x with pfx := l })
  let new : Word × Word × Nat := (c.l, c.r, 4096 * s.tick)
  if c.r = 0 then .done (set (l.filter (fun x => x.1 != c.l))) 0
  else if l.any (fun x => x.1 == c.l) then .done (set (l.map (fun x => if x.1 == c.l then new else x))) 1
  else if l.length < 256 then .done (set (l ++ [new])) 1
  else .done (set (l.filter (fun x => some x.1 != (pfxOldest l).map (fun y => y.1)) ++ [new])) 2

end Sys2Proof.Machine
end

