-- ==== Sys2Proof/Machine/Splice.lean ====
section
/-! DEFINITION. Engine operations on KV memory, and SPLICE (17 R329-R335). -/

namespace Sys2Proof.Machine

/-! ### Steps that may fail -/

/-- Go on with a result, unless it is a fault. -/
def andThen {ε α β : Type} (x : Except ε α × State) (f : α → State → Except ε β × State) : Except ε β × State :=
  match x with
  | (.error e, s) => (.error e, s)
  | (.ok a, s) => f a s
/-- Fault unless a condition holds. -/
def need {ε β : Type} (c : Bool) (e : ε) (s : State) (f : State → Except ε β × State) : Except ε β × State :=
  if c then f s else (.error e, s)
/-- Do something for each element, stopping at the first fault. -/
def eachOf {ε α β : Type} (l : List α) (s : State) (f : α → State → Except ε β × State) : Except ε (List β) × State :=
  l.foldl (fun acc x =>
    match acc with
    | (.error e, s) => (.error e, s)
    | (.ok bs, s) =>
      match f x s with
      | (.error e, s) => (.error e, s)
      | (.ok b, s) => (.ok (bs ++ [b]), s)) (.ok [], s)
/-- A fault of a KV operation: cause, block index, layer (19 R360). -/
abbrev KvFault := Byte × Nat × Nat
/-- Give a fault its block and layer. -/
def at_ {α : Type} (b l : Nat) (x : Except Byte α × State) : Except KvFault α × State :=
  match x with
  | (.error c, s) => (.error (c, b, l), s)
  | (.ok a, s) => (.ok a, s)

/-! ### Operations in progress (R329) -/

def State.kvop (s : State) (n : Nat) : Option KvOp := Smap.find s.kvops n
def State.setKvop (s : State) (o : KvOp) : State := { s with kvops := Smap.insert s.kvops o.op o }
def KvOp.die (o : KvOp) : Nat := o.bay / 32
def KvOp.source (o : KvOp) : Byte := if o.kind = .katt then 5 else 4
def KvOp.agent (o : KvOp) : Agent := { bay := o.bay, party := .op o.op, ctx := o.ctx, priv := o.ctx == 0 }
def KvOp.owner (o : KvOp) : Option Nat := if o.detach then none else some o.uid
/-- Who reads for an operation: a guard touch is its issuer's, detached or not (09 R152). -/
def KvOp.reader (o : KvOp) : Reader := { a := o.agent, uid := o.uid, source := o.source, d1 := 0, last := false }
def KvOp.row (o : KvOp) (l : Nat) : List Nat := (o.rows.getD l []).map (fun w => w.toNat)
def KvOp.docRow (o : KvOp) (l : Nat) : List Nat := (o.docRows.getD l []).map (fun w => w.toNat)
/-- Record a fault of an operation. -/
def State.kvFault (s : State) (o : KvOp) (f : KvFault) : State :=
  s.opFault o.die o.owner o.op (impRec f.1 o.source o.ctx o.a0.toNat f.2.1 f.2.2)
/-- Fields of R that are common to SPLICE, REPAIR and KATT. -/
def kvSelOk (r : Nat) : Bool := if bitsOf r 1 1 = 1 then bitsOf r 10 10 = 1 else bitsOf r 21 2 = 0
/-- Issue a KV operation in step 3: forked at package scope. -/
def State.issueKv (s : State) (k : Nat) (c : Capture) (kind : KvKind) : KvOp × State :=
  let sl := s.slot k
  let detach := c.r.toNat % 2 = 1 && s.detachOk k
  let f := s.fork k c.idx (if detach then none else some (.kv (k / 8))) true [0, 1, 2, 3]
  let f := (f.1, if kind = .katt then f.2 else f.2.homeOp f.1 (.engine (k / 8) f.1))
  let o : KvOp :=
    { kind := kind, phase := .queued, op := f.1, uid := sl.uid, ctx := sl.ctxid, bay := k / 8, a0 := c.grp.getD 0 0,
      a1 := c.grp.getD 1 0, a2 := c.grp.getD 2 0, a3 := c.grp.getD 3 0, sel := c.r, launch := sl.launchid.toNat,
      flags := (sl.task.map (fun t => t.flags)).getD 0, detach := detach, threshold := (s.die (k / 256)).rpth, rows := [],
      docRows := [], len := 0, seqWords := [], docWords := [], reserved := [], captured := [], todo := [], marked := [], cols := [], task := none, query := [],
      crucibles := [], given := [], since := [], incomplete := false, fault := none }
  (o, f.2.setKvop o)
/-- Is it an operation's turn among those that name its sequence record? -/
def State.kvTurn (s : State) (o : KvOp) : Bool :=
  !s.kvops.any (fun q => q.2.kind != .katt && q.2.a0 == o.a0 && q.1 < o.op)
/-- Free the captured blocks that have no reference left, once no operation holds them (R316). -/
def State.releaseCaptured (s : State) (o : KvOp) : State :=
  o.captured.dedup.foldl (fun s g =>
    if s.kvCaptured g.toNat then s
    else match s.kvBlock o.die (.op o.op) g.toNat with
      | (.ok b, s) => if b.valid && b.refcnt = 0 then s.kvFreeBlock o.die (.op o.op) b else s
      | (.error _, s) => s) s
/-- An operation completes: its token goes out, what it captured is let go, and it may be joined. -/
def State.kvEnd (s : State) (o : KvOp) : State :=
  let r := o.sel.toNat
  let kind := match o.kind with
    | .splice => 0
    | .repair => 1
    | .katt => 2
  let payload := (if o.fault.isSome || o.incomplete then 512 else 0) + kind
  let s := if bitsOf r 1 1 = 1 then s.opToken o.ctx (bitsOf r 10 2) (bitsOf r 16 11) (bitsOf r 21 17) o.op payload 5 else s
  let s := { s with kvops := Smap.erase s.kvops o.op }
  let s := o.reserved.foldl (fun s g => s.kvPush o.die g.toNat) s
  (s.releaseCaptured o).opDone o.owner o.op
/-- An operation faults and completes. -/
def State.kvStop (s : State) (o : KvOp) (f : KvFault) : State := (s.kvFault o f).kvEnd { o with fault := some f.1 }

/-! ### Tokens in pages (R306) and re-rotation (R334) -/

/-- One token of a block: for each head, its key bytes and its value bytes. -/
structure Tok where
  k : List (List Byte)
  v : List (List Byte)
  deriving DecidableEq, Repr
def tokenOf (l : Layout) (page : List Byte) (t : Nat) : Tok :=
  let cut (o : Nat) : List Byte := (page.drop o).take (l.hdim * l.e)
  { k := (List.range l.heads).map (fun h => cut (l.kOff t h 0)), v := (List.range l.heads).map (fun h => cut (l.vOff t h 0)) }
/-- A page that holds tokens in slots 0 upward, and zeros. -/
def pageOf (l : Layout) (toks : List Tok) : List Byte :=
  let zero : List Byte := List.replicate (l.hdim * l.e) 0
  let side (f : Tok → List (List Byte)) : List Byte :=
    (List.range l.heads).flatMap (fun h => (List.range 16).flatMap (fun t =>
      match toks[t]? with
      | some x => (f x).getD h zero
      | none => zero))
  let fill (bs : List Byte) : List Byte := bs ++ List.replicate (32768 - bs.length) 0
  fill (side (fun x => x.k)) ++ fill (side (fun x => x.v))
/-- Re-rotate one pair from a source entry (c, s) to a destination entry. -/
def rotatePair (fmt x y cs ss cd sd : Nat) : Nat × Nat :=
  let x := convert .rne fmt 0 x
  let y := convert .rne fmt 0 y
  let ns := ss ^^^ 0x80000000
  let u := fpSub .rne (fpMul .rne x cs) (fpMul .rne y ns)
  let v := fpAdd .rne (fpMul .rne x ns) (fpMul .rne y cs)
  let x2 := fpSub .rne (fpMul .rne u cd) (fpMul .rne v sd)
  let y2 := fpAdd .rne (fpMul .rne u sd) (fpMul .rne v cd)
  (convert .rne 0 fmt x2, convert .rne 0 fmt y2)
/-- Re-rotate a head's keys; the tables hold (cosine, sine) for each pair. -/
def rotateHead (l : Layout) (bs : List Byte) (src dst : List Byte) : List Byte :=
  (List.range (l.hdim / 2)).flatMap (fun j =>
    let el (i : Nat) : Nat := field bs (i * l.e) l.e
    let r := rotatePair l.fmt (el (2 * j)) (el (2 * j + 1)) (field src (8 * j) 4) (field src (8 * j + 4) 4) (field dst (8 * j) 4)
      (field dst (8 * j + 4) 4)
    bytesOf l.e r.1 ++ bytesOf l.e r.2)
/-- The table entries of a position. -/
def State.rotEntry (s : State) (r : Reader) (l : Layout) (p : Nat) : Except Byte (List Byte) × State :=
  s.rd r (l.rottab + p * (l.hdim / 2) * 8) (l.hdim / 2 * 8)
/-- A token moved from position ps of a layout's table to position pd of another's. -/
def State.moveToken (s : State) (r : Reader) (ls ld : Layout) (t : Tok) (ps pd : Nat) : Except Byte Tok × State :=
  if !ld.rot then (.ok t, s)
  else andThen (s.rotEntry r ls ps) (fun src s => andThen (s.rotEntry r ld pd) (fun dst s =>
    (.ok { t with k := t.k.map (fun bs => rotateHead ld bs src dst) }, s)))

/-! ### SPLICE at fire and in step 3 (R329, R330) -/

/-- SPLICE. -/
def execSplice (p : BitVec 2) (t : BitVec 9) (l r : BitVec 7) (s : State) : Out :=
  fireHeld (formRg p l r) t.toNat (fun x s =>
    let g (i : Nat) : Nat := (x.cap.grp.getD i 0).toNat
    let r := x.cap.r.toNat
    (if 2 ^ 22 ≤ r || !kvSelOk r || 2 ^ 32 ≤ g 1 || g 3 = 0 || 2 ^ 24 < g 3 then some cIllegalForm
     else if !addrOk (g 0) 64 || !addrOk (g 2) 32 then some cAlign else none, s)) s
def commitSplice (s : State) (k : Nat) (c : Capture) : Perf := .done (s.issueKv k c .splice).2 0

/-! ### What a SPLICE reads and checks (R331) -/

/-- The document record. -/
structure DocRec where
  lay : Layout
  tokens : Nat
  docid : Nat
  map : Nat
  deriving DecidableEq, Repr
def DocRec.nb (d : DocRec) : Nat := (d.tokens + 15) / 16
def DocRec.words (d : DocRec) : List Word := [d.tokens, d.docid, d.map].map (fun (n : Nat) => BitVec.ofNat 64 n) ++ d.lay.words
def docOfWords (ws : List Word) : DocRec :=
  let w (i : Nat) : Nat := (ws.getD i 0).toNat
  { lay := layoutOfWords (ws.drop 3), tokens := w 0, docid := w 1, map := w 2 }
def KvOp.seq (o : KvOp) : SeqRec := seqOfWords o.seqWords
def KvOp.doc (o : KvOp) : DocRec := docOfWords o.docWords
/-- A document record from its bytes and its layout's, if both are valid. Its reserved field is ignored (00 R2). -/
def docOf (bs lay : List Byte) : Except Byte DocRec :=
  match layoutOf lay with
  | none => .error cKvMapInvalid
  | some l =>
    if field bs 16 8 % 8 = 0 then .ok { lay := l, tokens := field bs 8 4, docid := field bs 12 4, map := field bs 16 8 }
    else .error cKvMapInvalid
/-- What the operands of a splice come to: T, P, the split block j and the offset a in it, for a row. -/
def KvOp.t (o : KvOp) : Nat := o.a3.toNat
def KvOp.p (o : KvOp) : Nat := o.a1.toNat
/-- The block that holds a position, or the row's length at its end. -/
def blockAtPos (row : List Nat) (pos : Nat) : Nat :=
  ((List.range row.length).find? (fun b => pos < rowStart row b + e1Fill (row.getD b 0))).getD row.length
def KvOp.j (o : KvOp) (row : List Nat) : Nat := blockAtPos row o.p
def KvOp.a (o : KvOp) (row : List Nat) : Nat := if o.p < rowLen row then o.p - rowStart row (o.j row) else 0
/-- Has a splice of a row a tail block? -/
def KvOp.tail (o : KvOp) (row : List Nat) : Bool := 0 < o.a row && o.a row < e1Fill (row.getD (o.j row) 0)
/-- First block that is moved whole. -/
def KvOp.moveFrom (o : KvOp) (row : List Nat) : Nat := if 0 < o.a row then o.j row + 1 else o.j row
/-- Blocks of a row whose contents the splice reads. -/
def KvOp.reads (o : KvOp) (row : List Nat) : List Nat :=
  (if o.tail row then [o.j row] else []) ++ (List.range row.length).filter (fun b => o.moveFrom row ≤ b)
def KvOp.docBlocks (o : KvOp) : Nat := (o.t + 15) / 16
/-- Fresh blocks a layer needs. -/
def KvOp.fresh (o : KvOp) (row : List Nat) : Nat := o.docBlocks + (o.reads row).length
/-- Are two layouts alike (R331)? -/
def Layout.like (l m : Layout) : Bool := l.heads = m.heads && l.hdim = m.hdim && l.fmt = m.fmt && l.rot == m.rot && l.layers = m.layers
/-- Does a document's row keep to R330: sixteen tokens in every block but the last? -/
def DocRec.rowOk (d : DocRec) (row : List Nat) : Bool :=
  (List.range row.length).all (fun b => !e1Bad (row.getD b 0) &&
    e1Fill (row.getD b 0) = (if b + 1 = d.nb then d.tokens - 16 * b else 16))
/-- The block of an entry that is present, if it passes R309; of one that is absent, whatever its entry on this chip shows. -/
def State.spliceBlock (s : State) (o : KvOp) (e : Nat) : Except Byte KvBlock × State :=
  if e1Chip e != s.chipid.toNat then (.error cKvMapInvalid, s) else s.kvBlock o.die (.op o.op) (e1Gbn e)
/-- The checks of a block's map entry: KV_MAP_INVALID where it is present and its block is not one. -/
def State.entryOk (s : State) (o : KvOp) (e b l : Nat) : Except KvFault Unit × State :=
  if e1Absent e then (.ok (), s)
  else match s.spliceBlock o e with
    | (.ok k, s) => if k.valid && k.state ≤ 5 then (.ok (), s) else (.error (cKvMapInvalid, b, l), s)
    | (.error c, s) => (.error (c, b, l), s)
/-- Entries a splice reads: whether of the document, layer, block, entry. -/
def KvOp.needs (o : KvOp) (layers : Nat) : List (Bool × Nat × Nat × Nat) :=
  (List.range layers).flatMap (fun l =>
    (List.range (o.docRow l).length).map (fun b => (true, l, b, (o.docRow l).getD b 0)) ++
      (o.reads (o.row l)).map (fun b => (false, l, b, (o.row l).getD b 0)))
def needKey (e : Bool × Nat × Nat × Nat) : Nat := e.2.1 * 2 ^ 26 + e.2.2.1 * 2 + (if e.1 then 1 else 0)
/-- Block numbers named by entries present on this chip. -/
def State.presentGbns (s : State) (es : List Nat) : List Word32 :=
  (es.filter (fun e => !e1Absent e && e1Chip e = s.chipid.toNat)).map (fun e => BitVec.ofNat 32 (e1Gbn e))
/-- Check an epoch or staleness of the blocks a splice reads. -/
def State.checkBlocks (s : State) (o : KvOp) (q : SeqRec) (l : List (Bool × Nat × Nat × Nat)) (stale : Bool) : Except KvFault Unit × State :=
  andThen (eachOf l s (fun e s =>
    match s.spliceBlock o e.2.2.2 with
    | (.error _, s) => (.ok (), s)
    | (.ok k, s) =>
      let col := (List.range q.lay.layers).map (fun l => (o.row l).getD e.2.2.1 0)
      if !stale then
        (if e.1 && k.epoch != (s.die o.die).kvepoch.toNat then (.error (cKvEpoch, e.2.2.1, e.2.1), s) else (.ok (), s))
      else if s.blockStale o.die k then
        (.error (cKvStale, e.2.2.1, e.2.1), if e.1 then s else s.noteStale o.die (.op o.op) col k)
      else (.ok (), s))) (fun _ s => (.ok (), s))
/-- The first reading of a splice: records, rows, and the checks down to staleness (R331). -/
def State.spliceRead (s : State) (o : KvOp) : Except KvFault KvOp × State :=
  let r := o.reader.newest
  let bad : KvFault := (cKvMapInvalid, 0, 0)
  andThen (at_ 0 0 (s.rd r o.a0.toNat 64)) (fun sb s =>
  andThen (at_ 0 0 (s.rd r o.a2.toNat 32)) (fun db s =>
  andThen (at_ 0 0 (s.rdLayoutBytes r (field sb 0 8))) (fun sl s =>
  andThen (at_ 0 0 (s.rdLayoutBytes r (field db 0 8))) (fun dl s =>
  andThen (at_ 0 0 (s.seqChecked r o.a0.toNat sb sl, s)) (fun q s =>
  andThen (at_ 0 0 (docOf db dl, s)) (fun d s =>
  need (q.lay.like d.lay && o.t ≤ d.tokens && o.p ≤ q.len) bad s (fun s =>
  andThen (eachOf (List.range q.lay.layers) s (fun l s => at_ 0 l (s.rdRow r q l))) (fun rows s =>
  andThen (eachOf (List.range q.lay.layers) s (fun l s => at_ 0 l (andThen (s.rd r (d.map + l * d.nb * 8) (8 * o.docBlocks)) (fun bs s =>
    (.ok ((List.range o.docBlocks).map (fun b => field bs (8 * b) 8)), s))))) (fun docs s =>
  let word (x : List Nat) : List Word := x.map (fun e => BitVec.ofNat 64 e)
  let o := { o with rows := rows.map word, docRows := docs.map word, len := q.len, seqWords := q.words, docWords := d.words }
  let es := o.needs q.lay.layers
  let kept := rows.flatten
  need (rows.all (fun row => rowLen row = q.len) && docs.all d.rowOk &&
      kept.all (fun e => e1Absent e || e1Chip e = s.chipid.toNat)) bad s (fun s =>
  andThen (eachOf es s (fun e s => s.entryOk o e.2.2.2 e.2.2.1 e.2.1)) (fun _ s =>
  andThen (s.checkBlocks o q es false) (fun _ s =>
  andThen (s.checkBlocks o q es true) (fun _ s =>
    let absent := es.filter (fun e => e1Absent e.2.2.2)
    (.ok { o with captured := s.presentGbns (kept ++ es.map (fun e => e.2.2.2))
                  since := absent.map (fun e => (needKey e, s.cycle)) }, s))))))))))))))
/-- Rotary positions a splice uses lie in their tables (R331). -/
def KvOp.rotOk (o : KvOp) (q : SeqRec) (d : DocRec) : Bool :=
  !q.lay.rot || (o.t ≤ d.lay.rotpos && o.p + o.t ≤ q.lay.rotpos && (o.len = o.p || o.len + o.t ≤ q.lay.rotpos))
/-- The checks made when every block is present; then all fresh blocks are reserved (R331). -/
def State.spliceReserve (s : State) (o : KvOp) (q : SeqRec) (d : DocRec) : Except KvFault KvOp × State :=
  let total := ((List.range q.lay.layers).map (fun l => o.fresh (o.row l))).sum
  let count (row : List Nat) : Nat := o.moveFrom row + o.fresh row
  need (o.rotOk q d) (cKvMapInvalid, 0, 0) s (fun s =>
  need ((List.range q.lay.layers).all (fun l => count (o.row l) ≤ q.maxblk)) (cKvMapInvalid, 0, 0) s (fun s =>
  need (s.kvpool != 0) (cKvMapInvalid, 0, 0) s (fun s =>
  andThen (at_ 0 0 (s.kvFreeCount o.die)) (fun free s =>
  need (total ≤ free) (cKvPoolEmpty, 0, 0) s (fun s =>
    -- a number that cannot be popped, or that the pool has not, faults, and those popped before it stay in the pool
    match eachOf (List.range total) s (fun _ s => andThen (s.kvPop o.die) (fun g s =>
        andThen (s.kvBlock o.die (.op o.op) g) (fun _ s => (.ok (BitVec.ofNat 32 g), s)))) with
    | (.error c, _) => (.error (c, 0, 0), s)
    | (.ok gs, s) => (.ok { o with reserved := gs, phase := .layer 0 }, s))))))
/-- Where the entry of a block waited for stands. -/
def KvOp.needAt (o : KvOp) (key : Nat) : Nat :=
  let l := key / 2 ^ 26
  let b := key / 2 % 2 ^ 25
  if key % 2 = 1 then o.doc.map + (l * o.doc.nb + b) * 8 else o.seq.slotAt l b
/-- Is a block waited for absent still? -/
def State.stillAbsent (s : State) (o : KvOp) (key : Nat) : Bool :=
  match (s.rdWord o.reader.newest (o.needAt key)).1 with
  | .ok e => !e1Bad e && e1Absent e
  | .error _ => false
/-- Read again the entries of blocks still absent (R331). -/
def State.spliceAgain (s : State) (o : KvOp) : Except KvFault KvOp × State :=
  o.since.foldl (fun acc w =>
    match acc with
    | (.error e, s) => (.error e, s)
    | (.ok o, s) =>
      let l := w.1 / 2 ^ 26
      let b := w.1 / 2 % 2 ^ 25
      let doc := w.1 % 2 = 1
      match at_ b l (s.rdWord o.reader (o.needAt w.1)) with
      | (.error e, s) => (.error e, s)
      | (.ok e, s) =>
        if e1Bad e then (.error (cKvMapInvalid, b, l), s)
        else if e1Absent e then (.ok o, s)
        else andThen (s.entryOk o e b l) (fun _ s =>
          let put (rows : List (List Word)) : List (List Word) := rows.modify l (fun row => row.set b (BitVec.ofNat 64 e))
          let o := if doc then { o with docRows := put o.docRows } else { o with rows := put o.rows }
          (.ok { o with captured := o.captured ++ s.presentGbns [e], since := o.since.filter (fun x => x.1 != w.1) }, s))) (.ok o, s)

/-! ### Writing a layer (R332, R335) -/

/-- The device has stamped a block: its key is ready for tasks held on it (R318; 15 R273). -/
def State.blockStamped (s : State) (g : Nat) (deps : List Dep) : State :=
  s.keyStamped (kvKeyOf g) (Smap.getD s.kvRuns 0 g) (deps.map (fun e => e.1))

/-- The page of a fresh block from the reserve is written. -/
def State.freshPage (s : State) (o : KvOp) (g : Nat) (page : List Byte) : State :=
  match s.kvBlock o.die o.agent.party g with
  | (.error _, s) => s
  | (.ok b, s) => s.storeUnits o.die o.agent.party b.page 8 page []
/-- The entry of a fresh block from the reserve is written. A block stamped so is stamped by the device (15 R297; R318). -/
def State.freshEntry (s : State) (o : KvOp) (layer g prov frontier : Nat) (stamped : Bool) (deps : List Dep) : State :=
  match s.kvBlock o.die o.agent.party g with
  | (.error _, s) => s
  | (.ok b, s) =>
    let b := { b with
      word0 := b.page + layer * 256 + (if stamped then 4 else 0) + 1, refcnt := 1, hmgen := (b.hmgen + 1) % 65536, frontier := frontier,
      ctx := o.ctx.toNat, prov := prov }
    let s := { s.writeBlock o.die o.agent.party b deps with kvRuns := Smap.erase s.kvRuns g }
    if stamped then s.blockStamped g deps else s
/-- What is to be written as a block of the new row: source page, slots with their old and new positions, and its provenance. -/
structure NewBlock where
  src : KvBlock
  doc : Bool
  slots : List (Nat × Nat × Nat)
  prov : Nat
  frontier : Nat
  stamped : Bool
  deriving DecidableEq, Repr
/-- Provenance of a tail or a moved copy (R335). -/
def movedProv (b : KvBlock) : Nat × Bool := if b.state = 0 || b.state = 4 then (b.prov, true) else (b.prov / 16 * 16 + 5, false)
/-- The fresh blocks of a layer's new row, in order. -/
def State.newBlocks (s : State) (o : KvOp) (d : DocRec) (l : Nat) : List NewBlock × State :=
  let row := o.row l
  let inserted := (List.range o.docBlocks).foldl (fun (acc : List NewBlock × State) q =>
    match acc.2.spliceBlock o ((o.docRow l).getD q 0) with
    | (.error _, s) => (acc.1, s)
    | (.ok b, s) =>
      (acc.1 ++ [{ src := b, doc := true
                   slots := (List.range (min 16 (o.t - 16 * q))).map (fun t => (t, 16 * q + t, o.p + 16 * q + t))
                   prov := b.epoch * 2 ^ 52 + d.docid * 2 ^ 20 + q % 65536 * 16 + 1, frontier := 0, stamped := false }], s)) ([], s)
  (o.reads row).foldl (fun (acc : List NewBlock × State) b =>
    let from_ := if b = o.j row then o.a row else 0
    let start := rowStart row b
    match acc.2.spliceBlock o (row.getD b 0) with
    | (.error _, s) => (acc.1, s)
    | (.ok k, s) =>
      let pv := movedProv k
      (acc.1 ++ [{ src := k, doc := false
                   slots := (List.range (e1Fill (row.getD b 0) - from_)).map (fun t => (from_ + t, start + from_ + t, start + from_ + t + o.t))
                   prov := pv.1, frontier := k.frontier, stamped := pv.2 }], s)) inserted
/-- Make a fresh block's page. -/
def State.makePage (s : State) (o : KvOp) (q : SeqRec) (d : DocRec) (n : NewBlock) : Except Byte (List Byte) × State :=
  if s.poisoned n.src.page 65536 || s.lost n.src.page then (.error cUncorrectable, s)
  else
    let bytes := s.loadPage o.die o.agent.party n.src.page 65536
    let ls := if n.doc then d.lay else q.lay
    andThen (eachOf n.slots bytes.2 (fun x s => s.moveToken o.reader ls q.lay (tokenOf q.lay bytes.1 x.1) x.2.1 x.2.2)) (fun toks s =>
      (.ok (pageOf q.lay toks), s))
/-- Physical pieces of a row of words, page by page. -/
def State.rowPieces (s : State) (r : Reader) (va : Nat) (ws : List Nat) : Except Byte (List (Nat × List Byte)) × State :=
  eachOf (List.range ws.length) s (fun i s =>
    match s.resolve r.a (va + 8 * i) (wantPlain 8 true) with
    | (.error c, s) => (.error c, s)
    | (.ok p, s) =>
      let s := if s.guardedPlace p then s.touchGuard r.a.die r.uid r.a.party r.source r.a.ctx r.d1 (va + 8 * i) else s
      match p.key with
      | some k =>
        let s := match p with
          | .mem t => s.access r.a (va + 8 * i) t true
          | .kv pa => (s.touch r.a.die pa true).2
          | _ => s
        (.ok (k, if s.guardedPlace p then [] else bytesOf 8 (ws.getD i 0)), s)
      | none => (.error cPageProtect, s))
/-- The new row of a layer, from the numbers of its fresh blocks. -/
def State.newRow (s : State) (o : KvOp) (l : Nat) (ns : List NewBlock) : List Nat :=
  let row := o.row l
  let j := o.j row
  let kept := row.take j ++ (if 0 < o.a row then [(fun e => e - e1Fill e * 2 + o.a row * 2) (row.getD j 0)] else [])
  kept ++ (List.range ns.length).map (fun i =>
    e1Make s.chipid.toNat ((o.reserved.getD i 0).toNat) ((ns.map (fun n => n.slots.length)).getD i 0))
/-- Make the row step of a layer. -/
def State.spliceLayer (s : State) (o : KvOp) (q : SeqRec) (d : DocRec) (l : Nat) : Except KvFault KvOp × State :=
  let r := o.reader
  let p := o.agent.party
  let row := o.row l
  let nb := s.newBlocks o d l
  andThen (at_ 0 l (eachOf nb.1 nb.2 (fun n s => s.makePage o q d n))) (fun pages s =>
  let ws := s.newRow o l nb.1
  andThen (at_ 0 l (s.rowPieces r (q.slotAt l 0) ws)) (fun pieces s =>
    let each (s : State) (f : State → Nat → NewBlock → State) : State :=
      (List.range nb.1.length).foldl (fun s i =>
        match nb.1[i]? with
        | none => s
        | some n => f s i n) s
    let block (i : Nat) : Nat := (o.reserved.getD i 0).toNat
    let s := each s (fun s i _ => s.freshPage o (block i) (pages.getD i []))
    let deps := s.releaseDeps p o.die 3
    -- the row and the stamps become visible together on each die
    let stamps := each s (fun s i n => s.freshEntry o l (block i) n.prov n.frontier n.stamped deps)
    let s := ((pieces.filter (fun e => !e.2.isEmpty)).foldl (fun s e => s.store p e.1 e.2 deps true) stamps).jointSince s.nextWrite
    let s := ((List.range row.length).filter (fun b => o.moveFrom row ≤ b)).foldl (fun s b =>
      match s.spliceBlock o (row.getD b 0) with
      | (.ok k, s) => (s.kvDrop o.die p k).2
      | (.error _, s) => s) s
    (.ok { o with reserved := o.reserved.drop nb.1.length, phase := .layer (l + 1) }, s)))
/-- The row step waits while a page of the row is write-blocked, or a line held. -/
def State.rowWaits (s : State) (o : KvOp) (q : SeqRec) (l : Nat) : Bool :=
  (List.range (o.moveFrom (o.row l) + o.fresh (o.row l))).any (fun i => s.wrWaits o.reader (q.slotAt l i) 8)
/-- SPLICE_RUN (R331, R332): a splice whose turn has come reads and checks, waits for absent blocks, reserves, writes each layer in
turn, and at last LEN. -/
def execSpliceRun (op : Nat) (s : State) : Out :=
  match s.kvop op with
  | none => .next s
  | some o =>
    if o.kind != .splice || !s.kvTurn o then .next s
    else s.orWaits <| match o.phase with
      | .queued =>
        (match s.spliceRead o with
          | (.error f, s) => .next (s.kvStop o f)
          | (.ok x, s) => .next (s.setKvop { x with phase := .waiting }))
      | .waiting =>
        (match andThen (s.spliceAgain o) (fun o s => if o.since.isEmpty then s.spliceReserve o o.seq o.doc else (.ok o, s)) with
          | (.error f, s) => .next (s.kvStop o f)
          | (.ok o, s) => .next (s.setKvop o))
      | .layer l =>
        if l < o.seq.lay.layers then
          (if s.rowWaits o o.seq l then .next s
           else match s.spliceLayer o o.seq o.doc l with
            | (.error f, s) => .next (s.kvStop o f)
            | (.ok o, s) => .next (s.setKvop o))
        else if s.wrWaits o.reader (o.seq.addr + 16) 4 then .next s
        else match s.wr o.reader (o.seq.addr + 16) 4 (o.len + o.t) (s.releaseDeps o.agent.party o.die 3) with
          | (.error c, s) => .next (s.kvStop o (c, 0, 0))
          | (.ok _, s) => .next (s.kvEnd o)
      | _ => .next s
/-- SPLICE_ABSENT_TIMEOUT (R331, R336): a splice or repair has waited 2^20 cycles for a block that is absent still. -/
def execSpliceAbsentTimeout (op : Nat) (s : State) : Out :=
  match s.kvop op with
  | none => .next s
  | some o =>
    match o.since.find? (fun w => w.2 + 2 ^ 20 ≤ s.cycle && s.stillAbsent o w.1) with
    | none => .next s
    | some w => if o.phase = .waiting && o.kind != .katt then .next (s.kvStop o (cKvAbsent, w.1 / 2 % 2 ^ 25, w.1 / 2 ^ 26)) else .next s

end Sys2Proof.Machine
end

