-- ==== Sys2Proof/Machine/Repair.lean ====
section
/-! DEFINITION. REPAIR (17 R336-R341): the tasks it runs, the comparison of their keys, and the frontier it advances. -/

namespace Sys2Proof.Machine

/-! ### Columns (R311) -/

/-- Change the stage-2 entries of columns, layer by layer, in one release at package scope; a layer's block that turns
stamped is stamped by the device (R318). -/
def State.writeColumns (s : State) (o : KvOp) (cols : List Nat) (f : Nat → Nat → KvBlock → KvBlock) : State :=
  let p := o.agent.party
  let deps := s.releaseDeps p o.die 3
  let n := s.nextWrite
  State.jointSince (cols.foldl (fun s b => (List.range o.rows.length).foldl (fun s l =>
    match s.spliceBlock o ((o.row l).getD b 0) with
    | (.ok k, s) =>
      let s := s.writeBlock o.die p (f b l k) deps
      if (f b l k).stamped && !k.stamped then s.blockStamped k.gbn deps else s
    | (.error _, s) => s) s) s) n
/-- The engine's read of a candidate block, as the KV window takes it: PAGE_ABSENT where it has been freed or the pool has it not (R317, R341). -/
def State.windowBlock (s : State) (o : KvOp) (e : Nat) : Except Byte KvBlock × State :=
  match s.spliceBlock o e with
  | (.error c, s) => (.error (if c = cUncorrectable || e1Chip e != s.chipid.toNat then c else cPageAbsent), s)
  | (.ok k, s) => need k.valid cPageAbsent s (fun s => (.ok k, s))
/-- Stop where a block of a column has been freed, or has become stale, as its entry shows of an absent one too (R313, R341). -/
def State.columnsFresh (s : State) (o : KvOp) (cols : List Nat) : Except KvFault Unit × State :=
  andThen (eachOf (cols.flatMap (fun b => (List.range o.rows.length).map (fun l => (b, l)))) s (fun (e : Nat × Nat) s =>
    let at1 := (o.row e.2).getD e.1 0
    let block : Except Byte (Option KvBlock) × State :=
      if e1Chip at1 != s.chipid.toNat then (.ok none, s)
      else if e1Absent at1 then (match s.spliceBlock o at1 with
        | (.error _, s) => (.ok none, s)
        | (.ok k, s) => (.ok (some k), s))
      else andThen (s.windowBlock o at1) (fun k s => (.ok (some k), s))
    andThen (at_ e.1 e.2 block) (fun k s =>
      match k with
      | none => (.ok (), s)
      | some k =>
      if s.blockStale o.die k then
        (.error (cKvStale, e.1, e.2), s.noteStale o.die o.agent.party ((List.range o.rows.length).map (fun l => (o.row l).getD e.1 0)) k)
      else (.ok (), s))))
    (fun _ s => (.ok (), s))

/-! ### At fire and in step 3 (R329, R336) -/

/-- REPAIR. -/
def execRepair (p : BitVec 2) (t : BitVec 9) (l r : BitVec 7) (s : State) : Out :=
  fireHeld (formRg p l r) t.toNat (fun x s =>
    let g (i : Nat) : Nat := (x.cap.grp.getD i 0).toNat
    let r := x.cap.r.toNat
    (if 2 ^ 22 ≤ r || !kvSelOk r || g 1 / 2 ^ 32 = 0 || 256 ≤ g 2 then some cIllegalForm
     else if !addrOk (g 0) 64 || !addrOk (g 3) 64 then some cAlign else none, s)) s
def commitRepair (s : State) (k : Nat) (c : Capture) : Perf := .done (s.issueKv k c .repair).2 0

/-! ### Start (R336) -/

def KvOp.first (o : KvOp) : Nat := o.a1.toNat % 2 ^ 32
def KvOp.count (o : KvOp) : Nat := o.a1.toNat / 2 ^ 32
def KvOp.probes (o : KvOp) : Nat := o.a2.toNat
/-- The descriptor: PROBE, REPENT, KPROBE, WORK. -/
def KvOp.desc (o : KvOp) (i : Nat) : Nat := (o.docWords.getD i 0).toNat
/-- Blocks of a row that hold a position of the range. -/
def KvOp.rangeCols (o : KvOp) (row : List Nat) : List Nat :=
  (List.range row.length).filter (fun b =>
    rowStart row b < o.first + o.count && o.first < rowStart row b + e1Fill (row.getD b 0))
/-- May a column hold candidates: STATE 1, or not known on this chip? -/
def State.candidate (s : State) (o : KvOp) (b : Nat) : Bool :=
  match (s.spliceBlock o ((o.row 0).getD b 0)).1 with
  | .ok k => k.state = 1
  | .error _ => true
/-- The first reading of a repair: records, rows, and the checks that precede any change. -/
def State.repairRead (s : State) (o : KvOp) : Except KvFault KvOp × State :=
  let r := o.reader.newest
  let bad : KvFault := (cKvMapInvalid, 0, 0)
  andThen (at_ 0 0 (s.rdSeq r o.a0.toNat)) (fun q s =>
  andThen (at_ 0 0 (s.rd r o.a3.toNat 64)) (fun d s =>
  need (o.first + o.count ≤ q.len && o.probes ≤ q.lay.layers && field d 24 8 % 32 = 0 && field d 32 32 = 0) bad s (fun s =>
  andThen (eachOf (List.range q.lay.layers) s (fun l s => at_ 0 l (s.rdRow r q l))) (fun rows s =>
  need (rows.all (fun row => rowLen row = q.len)) bad s (fun s =>
  let word (x : List Nat) : List Word := x.map (fun e => BitVec.ofNat 64 e)
  let o := { o with rows := rows.map word, len := q.len, seqWords := q.words,
                    docWords := (List.range 4).map (fun i => BitVec.ofNat 64 (field d (8 * i) 8)) }
  let cols := o.rangeCols (o.row 0)
  need (rows.all (fun row => cols.all (fun b => b < row.length))) bad s (fun s =>
  let sites := cols.flatMap (fun b => (List.range q.lay.layers).map (fun l => (b, l)))
  andThen (eachOf sites s (fun (e : Nat × Nat) s => s.entryOk o ((o.row e.2).getD e.1 0) e.1 e.2)) (fun _ s =>
  andThen (s.columnsFresh o cols) (fun _ s =>
    let absent := sites.filter (fun (e : Nat × Nat) => e1Absent ((o.row e.2).getD e.1 0) && s.candidate o e.1)
    (.ok { o with cols := cols, since := absent.map (fun (e : Nat × Nat) => (e.2 * 2 ^ 26 + e.1 * 2, s.cycle)) }, s)))))))))
/-- Read again the entries of blocks still absent. -/
def State.repairAgain (s : State) (o : KvOp) : Except KvFault KvOp × State :=
  o.since.foldl (fun acc w =>
    match acc with
    | (.error e, s) => (.error e, s)
    | (.ok o, s) =>
      let l := w.1 / 2 ^ 26
      let b := w.1 / 2 % 2 ^ 25
      match at_ b l (s.rdWord o.reader (o.seq.slotAt l b)) with
      | (.error e, s) => (.error e, s)
      | (.ok e, s) =>
        if e1Bad e then (.error (cKvMapInvalid, b, l), s)
        else if e1Absent e then (.ok o, s)
        else andThen (s.entryOk o e b l) (fun _ s =>
          let o := { o with rows := o.rows.modify l (fun row => row.set b (BitVec.ofNat 64 e)) }
          andThen (s.columnsFresh o [b]) (fun _ s => (.ok { o with since := o.since.filter (fun x => x.1 != w.1) }, s)))) (.ok o, s)

/-! ### Tasks (R337) -/

/-- Positions of a column. -/
def columnPositions (row : List Nat) (b : Nat) : List Nat :=
  (List.range (e1Fill (row.getD b 0))).map (fun t => rowStart row b + t)
/-- The task a repair runs next: its entry block, layer, phase and positions. -/
def KvOp.taskNow (o : KvOp) : Option (Nat × Nat × Nat × List Nat) :=
  match o.phase with
  | .probe l => some (o.desc 0, l, 0, o.todo)
  | .repair l => some (o.desc 1, l, 1, o.marked)
  | _ => none
/-- Bytes of the work area. -/
def KvOp.workBytes (o : KvOp) (x : Nat × Nat × Nat × List Nat) : List Byte :=
  bytesOf 8 x.1 ++ bytesOf 8 0 ++ bytesOf 4 0 ++ bytesOf 2 o.launch ++ bytesOf 2 o.flags.toNat ++ bytesOf 8 (o.desc 3) ++
    bytesOf 2 x.2.1 ++ bytesOf 1 x.2.2.1 ++ bytesOf 5 0 ++ bytesOf 4 x.2.2.2.length ++ bytesOf 4 0 ++
    x.2.2.2.flatMap (fun n => bytesOf 4 n)
/-- Push the next task: its area written, its record queued and counted (R266, R274). It waits while the area cannot be written or
the queue is full. -/
def State.pushRepair (s : State) (o : KvOp) : Except KvFault KvOp × State :=
  match o.taskNow with
  | none => (.ok o, s)
  | some x =>
    let bs := o.workBytes x
    let va := o.desc 3
    let n := (bs.length + 3) / 4
    let flags := o.flags.toNat
    let place := pushPlace o.die (bitsOf flags 5 4) (bitsOf flags 12 6)
    let level := (s.launch o.launch).prio
    if s.queueFull place.1 level place.2 || (List.range n).any (fun i => s.wrWaits o.reader (va + 4 * i) 4) then (.ok o, s)
    else andThen (at_ 0 x.2.1 (eachOf (List.range n) s (fun i s => s.wr o.reader (va + 4 * i) 4 (field bs (4 * i) 4) []))) (fun _ s =>
      let s := s.enqueue place.1 (recordEntry va o.launch level place.2 (bitsOf flags 5 4) (bitsOf flags 12 6) (s.past o.agent.party))
      (.ok { o with task := some (BitVec.ofNat 64 va) }, s.countTasks o.launch 1 0))
/-- Is a record of a launch queued, held in a slot or in an image? -/
def State.recordAlive (s : State) (launch : Nat) (addr : Word) : Bool :=
  [0, 1, 2, 3].any (fun d => (s.die d).queue.any (fun e => !e.image && e.launch = launch && e.addr = addr)) ||
  s.pushes.any (fun p => !p.2.2.image && p.2.2.launch = launch && p.2.2.addr = addr) ||
  s.slots.any (fun e => e.2.task.isSome && e.2.taskrec = addr && e.2.launchid.toNat = launch) ||
  s.parked.any (fun e => e.2.record.zeroExtend 64 = addr && e.2.launch = launch)

/-! ### Comparison (R338) -/

/-- D of one key: probe and spliced elements. -/
def keyDistance (probe spliced : List Nat) : Nat :=
  let r := (probe.zip spliced).foldl (fun (acc : Nat × Nat) x =>
    let e := fpSub .rne x.1 x.2
    (fpAdd .rne acc.1 (fpMul .rne e e), fpAdd .rne acc.2 (fpMul .rne x.1 x.1))) (0, 0)
  if r.2 = 0 then (if r.1 = 0 then 0 else fp32.infBits) else fpDiv .rne r.1 r.2
/-- Does a distance mark its candidate? -/
def marks (threshold d : Nat) : Bool := (fp32.decode d).isNan || (fp32.decode threshold).lt (fp32.decode d)
/-- Is candidate i, at a position, marked by layer l? -/
def State.markedAt (s : State) (o : KvOp) (i pos l : Nat) : Except KvFault Bool × State :=
  let lay := o.seq.lay
  let row := o.row l
  let b := blockAtPos row pos
  let t := pos - rowStart row b
  match s.windowBlock o (row.getD b 0) with
  | (.error c, s) => (.error (c, b, l), s)
  | (.ok k, s) =>
    andThen (eachOf (List.range lay.heads) s (fun h s =>
      let va := o.desc 2 + ((l * o.todo.length + i) * lay.heads + h) * lay.hdim * 4
      let ka := k.page + lay.kOff t h 0
      andThen (at_ b l (s.rdUnits o.reader va (4 * lay.hdim) 4)) (fun pb s =>
        need (!(s.lost ka || s.poisoned ka (lay.hdim * lay.e))) (cUncorrectable, b, l) s (fun s =>
          let kb := s.loadPage o.die o.agent.party ka (lay.hdim * lay.e)
          let d := keyDistance ((List.range lay.hdim).map (fun j => field pb (4 * j) 4))
            ((List.range lay.hdim).map (fun j => convert .rne lay.fmt 0 (field kb.1 (lay.e * j) lay.e)))
          (.ok (marks o.threshold.toNat d), kb.2))))) (fun ds s => (.ok (ds.any id), s))
/-- The marked candidates. -/
def State.repairMarks (s : State) (o : KvOp) : Except KvFault (List Nat) × State :=
  andThen (eachOf (List.range o.todo.length) s (fun i s =>
    let pos := o.todo.getD i 0
    andThen (eachOf (List.range o.probes) s (fun l s => s.markedAt o i pos l)) (fun ds s => (.ok (pos, ds.any id), s))))
    (fun l s => (.ok ((l.filter (fun (x : Nat × Bool) => x.2)).map (fun x => x.1)), s))

/-! ### Classification and the frontier (R339, R340) -/

/-- Columns that hold a marked position. -/
def KvOp.markedCols (o : KvOp) : List Nat :=
  o.cols.filter (fun b => (columnPositions (o.row 0) b).any (fun p => o.marked.contains p))
/-- Classify every candidate column. With nothing marked the repair is done. -/
def State.classify (s : State) (o : KvOp) : KvOp × State :=
  let hit := o.markedCols
  let s := s.writeColumns o o.cols (fun b _ k =>
    if hit.contains b then { (k.setState 2) with frontier := 0 }
    else { ((k.setState 4).setWord 2 true) with frontier := 255 })
  if hit.isEmpty then ({ o with phase := .finishing }, s)
  else ({ o with phase := .repair 0, task := none }, s.writeColumns o hit (fun _ _ k => k.setState 3))
/-- Go on from where no task is outstanding: compare and classify after the probes, and push the next task. -/
def State.repairOn (s : State) (o : KvOp) : Except KvFault KvOp × State :=
  let go (x : KvOp × State) : Except KvFault KvOp × State :=
    if x.1.phase = .finishing then (.ok x.1, x.2) else x.2.pushRepair x.1
  match o.phase with
  | .probe l =>
    if l < o.probes then s.pushRepair o
    else andThen (s.repairMarks o) (fun m s => go (s.classify { o with marked := m }))
  | _ => s.pushRepair o
/-- Keep an operation that goes on, end one that is done, stop one that has met a fault. -/
def kvGo (o : KvOp) (x : Except KvFault KvOp × State) : State :=
  match x with
  | (.error f, _) => x.2.kvStop ((x.2.kvop o.op).getD o) f
  | (.ok o, s) => if o.phase = .finishing then s.kvEnd o else s.setKvop o
/-- Begin once every block is present: list the candidates. -/
def State.repairBegin (s : State) (o : KvOp) : Except KvFault KvOp × State :=
  let cols := o.cols.filter (fun b => s.candidate o b)
  let todo := cols.flatMap (columnPositions (o.row 0))
  if todo.isEmpty then (.ok { o with phase := .finishing }, s)
  else s.repairOn { o with cols := cols, todo := todo, phase := .probe 0, task := none }
/-- REPAIR_START (R336): a repair whose turn has come reads its records, waits for absent blocks, lists its candidates and pushes
its first task. -/
def execRepairStart (op : Nat) (s : State) : Out :=
  match s.kvop op with
  | none => .next s
  | some o =>
    if o.kind != .repair || !s.kvTurn o then .next s
    else s.orWaits <| match o.phase with
      | .queued =>
        .next (kvGo o (andThen (s.repairRead o) (fun o s =>
          if o.since.isEmpty then s.repairBegin o else (.ok { o with phase := .waiting }, s))))
      | .waiting =>
        .next (kvGo o (andThen (s.repairAgain o) (fun o s => if o.since.isEmpty then s.repairBegin o else (.ok o, s))))
      | _ => .next s
/-- A layer of a repair has been recomputed: the frontier of every marked column moves past it (R340, step 3). -/
def State.layerDone (s : State) (o : KvOp) (l : Nat) : KvOp × State :=
  let hit := o.markedCols
  let s := s.writeColumns o hit (fun _ m k => { (if m = l then k.setWord 2 true else k) with frontier := l + 1 })
  if l + 1 < o.rows.length then ({ o with phase := .repair (l + 1), task := none }, s)
  else ({ o with phase := .finishing, task := none }, s.writeColumns o hit (fun _ _ k => { (k.setState 4) with frontier := 255 }))
/-- REPAIR_TASK_RETIRED (R337-R340): the task of a repair has retired; the engine acquires it, checks for staleness, and classifies,
advances the frontier or pushes the next task. A task that could not be pushed before is pushed now. -/
def execRepairTaskRetired (op : Nat) (s : State) : Out :=
  match s.kvop op with
  | none => .next s
  | some o =>
    let after (s : State) (f : State → Except KvFault KvOp × State) (cols : List Nat) : State :=
      let s := s.observe o.die o.agent.party (s.launch o.launch).deps
      kvGo o (andThen (s.columnsFresh o cols) (fun _ s => f s))
    s.orWaits <| match o.phase, o.task with
    | .probe l, some w =>
      if s.recordAlive o.launch w then .next s
      else .next (after s (fun s => s.repairOn { o with phase := .probe (l + 1), task := none }) o.cols)
    | .repair l, some w =>
      if s.recordAlive o.launch w then .next s
      else .next (after s (fun s =>
        let x := s.layerDone o l
        if x.1.phase = .finishing then (.ok x.1, x.2) else x.2.pushRepair x.1) o.markedCols)
    | .probe _, none => .next (kvGo o (s.repairOn o))
    | .repair _, none => .next (kvGo o (s.repairOn o))
    | _, _ => .next s

end Sys2Proof.Machine
end

