-- ==== Sys2Proof/Machine/Katt.lean ====
section
/-! DEFINITION. KATT, attention in the crucibles (17 R342-R345). -/

namespace Sys2Proof.Machine

/-! ### Operands (R342) -/

def KvOp.scale (o : KvOp) : Nat := o.a1.toNat % 2 ^ 32
/-- LIMIT, or the layer's length where it is 0. -/
def KvOp.limit (o : KvOp) : Nat :=
  let l := o.a1.toNat / 2 ^ 32
  if l = 0 then rowLen (o.row 0) else l
def kattHeads (r : Nat) : Nat := bitsOf r 38 31 + 1
def KvOp.qheads (o : KvOp) : Nat := kattHeads o.sel.toNat
/-- The layer attended; the snapshot of its row stands in rows. -/
def KvOp.kattLayer (o : KvOp) : Nat := bitsOf o.sel.toNat 30 23
/-- NPMAX + 1: crucibles that may be used. -/
def KvOp.maxParts (o : KvOp) : Nat := bitsOf o.sel.toNat 49 39 + 1
def KvOp.out (o : KvOp) : Nat := o.a3.toNat
/-- Bytes from one partial to the next (R345). -/
def KvOp.psz (o : KvOp) : Nat := (o.qheads * (8 + 4 * o.seq.lay.hdim) + 15) / 16 * 16
/-- KATT. -/
def execKatt (p : BitVec 2) (t : BitVec 9) (l r : BitVec 7) (s : State) : Out :=
  fireHeld (formRg p l r) t.toNat (fun x s =>
    let g (i : Nat) : Nat := (x.cap.grp.getD i 0).toNat
    let r := x.cap.r.toNat
    (if 2 ^ 50 ≤ r || !kvSelOk r then some cIllegalForm
     else if !addrOk (g 0) 64 || !addrOk (g 2) 4 || !addrOk (g 3) 16 then some cAlign else none, s)) s
/-- Read the records and the query, at issue. -/
def State.kattRead (s : State) (o : KvOp) : Except KvFault KvOp × State :=
  let layer := o.kattLayer
  andThen (at_ 0 layer (s.rdSeq o.reader o.a0.toNat)) (fun q s =>
  need (o.qheads % q.lay.heads = 0 && layer < q.lay.layers) (cKvMapInvalid, 0, layer) s (fun s =>
  let n := o.qheads * q.lay.hdim
  andThen (at_ 0 layer (s.rdUnits o.reader o.a2.toNat (4 * n) 4)) (fun bs s =>
    (.ok { o with seqWords := q.words, len := q.len, query := (List.range n).map (fun i => BitVec.ofNat 32 (field bs (4 * i) 4)) }, s))))
/-- KATT in step 3. It waits while a line it reads at issue is not full. -/
def commitKatt (s : State) (k : Nat) (c : Capture) : Perf :=
  let g (i : Nat) : Nat := (c.grp.getD i 0).toNat
  if s.padWaits (g 0) 64 || s.padWaits (g 2) 4 then .stall
  else
    let x := s.issueKv k c .katt
    match x.2.kattRead x.1 with
    | (.error f, s) => .done (s.kvStop x.1 f) 0
    | (.ok o, s) => if s.padWaits (g 2) (4 * o.query.length) then .stall else .done (s.setKvop o) 0

/-! ### The snapshot (R342) -/

/-- The block an entry of a KATT names, where it is present. -/
def State.kattBlock (s : State) (o : KvOp) (b : Nat) : Option KvBlock × State :=
  let e := (o.docRow 0).getD b 0
  if e1Absent e then (none, s)
  else match s.kvBlockOf o.die o.agent.party e with
    | (.error _, s) => (none, s)
    | (.ok k, s) => (some k, s)
/-- Is an entry that is present one that R309 lets be used? -/
def State.kattEntry (s : State) (o : KvOp) (e b : Nat) : Except KvFault Unit × State :=
  if e1Absent e then (.ok (), s)
  else match s.kvBlockOf o.die o.agent.party e with
    | (.ok k, s) => (if k.valid && k.state ≤ 5 then .ok () else .error (cKvMapInvalid, b, o.kattLayer), s)
    | (.error c, s) => (.error (c, b, o.kattLayer), s)
/-- The stack that holds a block; the stacks and crucibles of another chip are numbered behind this one's, by its number (R309, R342). -/
def KvBlock.stack (b : KvBlock) : Nat := if b.addr.isSome then paStack b.page else 8 * (b.chip + 1) + paStack b.page % 8
/-- Crucible c of the chip that holds a block. -/
def KvBlock.crucible (b : KvBlock) (c : Nat) : Nat := if b.addr.isSome then c else 128 * (b.chip + 1) + c
/-- Stacks that hold the present blocks among some. -/
def State.kattStacks (s : State) (o : KvOp) (bs : List Nat) : List Nat :=
  (bs.filterMap (fun b => (s.kattBlock o b).1.map KvBlock.stack)).dedup
/-- Take the snapshot: the row, the blocks it names, and those to attend. A fault here writes nothing, save one that is no fault
of the map. -/
def State.kattOpen (s : State) (o : KvOp) : Except KvFault KvOp × State :=
  if o.phase != .queued then (.ok o, s)
  else
    let layer := o.kattLayer
    andThen (at_ 0 layer (s.rdRow o.reader o.seq layer)) (fun row s =>
    let word (x : List Nat) : List Word := x.map (fun e => BitVec.ofNat 64 e)
    -- the columns of its blocks, as they stand at the snapshot, lie behind the row (R311, R313)
    let cols := (List.range row.length).foldl (fun (acc : List (List Word) × State) b =>
      let c := acc.2.columnNow o.reader o.seq b
      (acc.1 ++ [word c.1], c.2)) ([], s)
    let s := cols.2
    let o := { o with rows := [word row], docRows := word row :: cols.1, phase := .attend }
    andThen (eachOf (List.range row.length) s (fun b s => s.kattEntry o (row.getD b 0) b)) (fun _ s =>
    let todo := (List.range row.length).filter (fun b => e1Fill (row.getD b 0) != 0 && rowStart row b < o.limit)
    let absent := todo.filter (fun b => e1Absent (row.getD b 0))
    need ((s.kattStacks o todo).length ≤ o.maxParts) (cKvMapInvalid, 0, layer) s (fun s =>
      (.ok { o with todo := todo, since := absent.map (fun b => (b, s.cycle)), captured := s.presentGbns row }, s))))
/-- A fault after issue: nothing more is attended, and the output area will say FAULT (R345). -/
def State.kattFail (s : State) (o : KvOp) (f : KvFault) : State :=
  (s.kvFault o f).setKvop { o with fault := some f.1, phase := .finishing, todo := [], since := [] }
/-- How a step of a KATT went: a fault of the map, at the snapshot or at a revisit, ends it with nothing written (R342). -/
def kattGo (o : KvOp) (x : Except KvFault KvOp × State) : State :=
  match x with
  | (.ok o, s) => s.setKvop o
  | (.error f, s) => if f.1 = cKvMapInvalid then s.kvStop o f else s.kattFail o f

/-! ### Crucibles (R342, R343) -/

/-- Crucibles are numbered sixteen to a stack. -/
def crucibleStack (c : Nat) : Nat := c / 16
/-- The identity state of a crucible. -/
def KvOp.identity (o : KvOp) : List (List Word32) :=
  List.replicate o.qheads ([0xFF800000, 0] ++ List.replicate o.seq.lay.hdim 0)
/-- May a block of a stack go to a crucible? One in use may take it; a new one only while every stack that still holds a present
block can have one too (R342). late: the block was absent in the snapshot. c is numbered as
KvBlock.crucible does. -/
def State.crucibleOk (s : State) (o : KvOp) (k : KvBlock) (c : Nat) (late : Bool) : Bool :=
  let used := o.crucibles.map (fun x => x.id)
  let onStack (x : Nat) : Bool := crucibleStack x = k.stack
  let rest := (s.kattStacks o (o.todo.filter (fun b => !o.given.any (fun g => g.1 = b) && !e1Absent ((o.row 0).getD b 0)))).filter
    (fun h => !used.any (fun x => crucibleStack x = h) && h != crucibleStack c)
  onStack c &&
    (used.contains c || (used.length + 1 + rest.length ≤ o.maxParts && !(late && used.any onStack)))
/-- One token merged into the state of a head. -/
def attendToken (q : List Nat) (scale : Nat) (st : List Word32) (key val : List Nat) : List Word32 :=
  let dot := (q.zip key).foldl (fun acc x => fpAdd .rne acc (fpMul .rne x.1 x.2)) 0
  let sc := fpMul .rne dot scale
  let w (i : Nat) : Nat := (st.getD i 0).toNat
  let nan (x : Nat) : Bool := (fp32.decode x).isNan
  if nan sc || st.any (fun x => nan x.toNat) || val.any nan then st.map (fun _ => 0x7FC00000)
  else
    let head := mergeTriple (w 0) (w 1) 0 sc 0x3F800000 0
    [BitVec.ofNat 32 head.1, BitVec.ofNat 32 head.2.1] ++
      (List.range val.length).map (fun d => BitVec.ofNat 32 (mergeTriple (w 0) (w 1) (w (2 + d)) sc 0x3F800000 (val.getD d 0)).2.2)
/-- One block merged into a crucible's state: its slots in ascending order. -/
def KvOp.attendBlock (o : KvOp) (page : List Byte) (fill start : Nat) (heads : List (List Word32)) : List (List Word32) :=
  let lay := o.seq.lay
  let group := o.qheads / lay.heads
  let elems (off : Nat) : List Nat := (List.range lay.hdim).map (fun d => convert .rne lay.fmt 0 (field page (off + lay.e * d) lay.e))
  (List.range heads.length).map (fun q =>
    let h := q / group
    let qs := (List.range lay.hdim).map (fun d => (o.query.getD (q * lay.hdim + d) 0).toNat)
    ((List.range fill).filter (fun t => start + t < o.limit)).foldl (fun st t =>
      attendToken qs o.scale st (elems (lay.kOff t h 0)) (elems (lay.vOff t h 0))) (heads.getD q []))
/-- The die of a crucible: the one that owns its stack (09 R153). -/
def KvBlock.die (b : KvBlock) (d : Nat) : Nat := if b.addr.isSome then b.stack / 2 else d
/-- The bytes of a block's page, as a crucible reads them inside the stack: they pass through no slice (01 R22; 21 R383). -/
def State.crucibleBytes (s : State) (d : Nat) (p : Party) (b : KvBlock) : List Byte × State :=
  match b.addr with
  | some _ => s.loadRun d p b.page 65536
  | none => s.pageBytes d p b
/-- Give a block to a crucible, which takes it or, while its column's FRONTIER is not above the layer, defers it (R344). The crucible
reads as a party of its own die: its FRONTIER read acquires the repair's release there. -/
def State.giveBlock (s : State) (o : KvOp) (b c : Nat) (k0 : KvBlock) : Except KvFault KvOp × State :=
  let layer := o.kattLayer
  let p := o.agent.party
  let d := k0.die o.die
  let e := (o.docRow 0).getD b 0
  andThen (at_ b layer (s.kvBlockOf d p e)) (fun k s =>
  if s.blockStale d k then
    (.error (cKvStale, b, layer), s.noteStale d p ((o.docRow (b + 1)).set layer e) k)
  else
    let o := if o.crucibles.any (fun x => x.id = c) then o
      else { o with crucibles := o.crucibles ++ [{ id := c, heads := o.identity }] }
    if k.frontier ≤ layer then
      (.ok { o with given := if o.given.any (fun g => g.1 = b) then o.given else o.given ++ [(b, c)]
                    since := if o.since.any (fun x => x.1 = b) then o.since else o.since ++ [(b, s.cycle)] }, s)
    else
      let lost := k.addr.isSome && (s.lost k.page || s.poisoned k.page 65536)
      need (!lost) (cUncorrectable, b, layer) s (fun s =>
        let bytes := s.crucibleBytes d p k
        let start := rowStart (o.row 0) b
        (.ok { o with
          crucibles := o.crucibles.map (fun x => if x.id = c then { x with heads := o.attendBlock bytes.1 (e1Fill e) start x.heads } else x)
          todo := o.todo.filter (fun x => x != b)
          since := o.since.filter (fun x => x.1 != b) }, bytes.2)))
/-- Offer a block to a crucible of the chip that holds it, by its number there. -/
def State.offerBlock (s : State) (o : KvOp) (b c : Nat) (late : Bool) : Except KvFault KvOp × State :=
  match s.kattBlock o b with
  | (none, s) => (.ok o, s)
  | (some k, s) => if s.crucibleOk o k (k.crucible c) late then s.giveBlock o b (k.crucible c) k else (.ok o, s)
/-- The entry of a block of the layer, as the map holds it now. -/
def State.kattNow (s : State) (o : KvOp) (b : Nat) : Except Byte Nat × State := s.rdWord o.reader.newest (o.seq.slotAt o.kattLayer b)
/-- Is a block that is waited for out of reach still (R344): its entry absent, no crucible able to take it within the bound, or, once a
crucible has deferred it, its FRONTIER not above the layer? -/
def State.kattAway (s : State) (o : KvOp) (b : Nat) : Bool :=
  match o.given.find? (fun g => g.1 = b) with
  | some _ => (match (s.kattBlock o b).1 with
    | some k => k.frontier ≤ o.kattLayer
    | none => true)
  | none => match (s.kattNow o b).1 with
    | .error _ => false
    | .ok e =>
      if e1Bad e then false
      else if e1Absent e then true
      else
        let o2 := { o with docRows := o.docRows.modify 0 (fun row => row.set b (BitVec.ofNat 64 e)) }
        match (s.kattBlock o2 b).1 with
        | none => false
        | some k => !(List.range 128).any (fun c => s.crucibleOk o2 k (k.crucible c) true)
/-- CRUCIBLE_BLOCK (R342, R343): a crucible of the stack that holds a block takes it, or defers it. -/
def execCrucibleBlock (op blk crucible : Nat) (s : State) : Out :=
  match s.kvop op with
  | none => .next s
  | some o =>
    if o.kind != .katt || o.phase = .finishing then .next s
    else s.orWaits <| .next (kattGo o (andThen (s.kattOpen o) (fun o s =>
      if !o.todo.contains blk || o.given.any (fun g => g.1 = blk) then (.ok o, s)
      else s.offerBlock o blk crucible (o.since.any (fun x => x.1 = blk)))))
/-- KATT_REVISIT (R342, R344): an absent block's entry is read again, and the block goes to a crucible if it is present; a block
that a crucible deferred is looked at again by that crucible. -/
def execKattRevisit (op blk crucible : Nat) (s : State) : Out :=
  match s.kvop op with
  | none => .next s
  | some o =>
    if o.kind != .katt || o.phase = .finishing then .next s
    else if o.phase = .queued then s.orWaits (.next (kattGo o (s.kattOpen o)))
    else s.orWaits <| .next (kattGo o (
      if !o.since.any (fun x => x.1 = blk) then (.ok o, s)
      else match o.given.find? (fun g => g.1 = blk) with
        | some g =>
          (match s.kattBlock o blk with
            | (none, s) => (.ok o, s)
            | (some k, s) => s.giveBlock o blk g.2 k)
        | none =>
          andThen (at_ blk o.kattLayer (s.kattNow o blk)) (fun e s =>
            if e1Bad e then (.error (cKvMapInvalid, blk, o.kattLayer), s)
            else if e1Absent e then (.ok o, s)
            else andThen (s.kattEntry o e blk) (fun _ s =>
              andThen (s.offerBlock { o with docRows := o.docRows.modify 0 (fun row => row.set blk (BitVec.ofNat 64 e))
                                             captured := o.captured ++ s.presentGbns [e] } blk crucible true) (fun o2 s =>
                -- taken or deferred by a crucible, it is captured; otherwise it stays as it was
                (.ok (if o2.given.any (fun g => g.1 = blk) || !o2.todo.contains blk then o2 else o), s))))))
/-- KATT_ABSENT_TIMEOUT (R344): a block absent or deferred for 2^20 cycles, and so still, is left out, with KV_ABSENT; one deferred for its
FRONTIER waits without limit while a REPAIR of the sequence is incomplete. -/
def execKattAbsentTimeout (op blk : Nat) (s : State) : Out :=
  match s.kvop op with
  | none => .next s
  | some o =>
    let due := o.since.any (fun x => x.1 = blk && x.2 + 2 ^ 20 ≤ s.cycle)
    let repaired := s.kvops.any (fun q => q.2.kind = .repair && q.2.a0 = o.a0)
    if o.kind != .katt || o.phase != .attend || !due || !s.kattAway o blk || (o.given.any (fun g => g.1 = blk) && repaired) then .next s
    else .next ((s.kvFault o (cKvAbsent, blk, o.kattLayer)).setKvop { o with
      incomplete := true, todo := o.todo.filter (fun b => b != blk), since := o.since.filter (fun x => x.1 != blk) })

/-! ### The output area (R345) -/

/-- Words to write: address and 4-byte value, the partials first and the header last. -/
def KvOp.outWords (o : KvOp) : List (Nat × Nat) :=
  let parts := if o.fault.isSome then [] else if o.crucibles.isEmpty then [o.identity] else o.crucibles.map (fun x => x.heads)
  let status := if o.fault.isSome then 2 else if o.incomplete then 1 else 0
  (List.range parts.length).flatMap (fun n =>
    let ws := (parts.getD n []).flatten
    (List.range ws.length).map (fun i => (o.out + 16 + n * o.psz + 4 * i, (ws.getD i 0).toNat))) ++
  [(o.out + 8, 0), (o.out + 12, 0), (o.out + 4, status), (o.out, parts.length)]
/-- Lines of scratchpad that words lie in. -/
def outLines (ws : List (Nat × Nat)) : List Nat :=
  (ws.filterMap (fun e => if isPad e.1 && !padState e.1 then some (padLine e.1) else none)).dedup
/-- Where output word i comes from: the crucible whose partial it belongs to, and for the header the last one used; with none, the
issuer's bay (09 R153, R155). -/
def KvOp.outHome (o : KvOp) (i : Nat) : Origin :=
  match o.crucibles[min (i / (o.qheads * (2 + o.seq.lay.hdim))) (o.crucibles.length - 1)]? with
  | some x => .crucible x.id
  | none => .engine o.bay o.op
/-- Write an operation's output words in order. -/
def State.writeOut (s : State) (o : KvOp) (ws : List (Nat × Nat)) : Except KvFault Unit × State :=
  let head := ws.length - 4
  andThen (eachOf (List.range ws.length) s (fun i s =>
    let e := ws.getD i (0, 0)
    let s := s.homeOp o.op (o.outHome i)
    at_ 0 o.kattLayer (s.wr o.reader e.1 4 e.2 (if head ≤ i then s.releaseDeps o.agent.party o.die 3 else [])))) (fun _ s => (.ok (), s))
/-- KATT_COMPLETE (R345): every block attended or left out, the partials are written, then the header; then MARKFULL and the
token. A fault met in writing them leaves NP = 0 and FAULT. -/
def execKattComplete (op : Nat) (s : State) : Out :=
  match s.kvop op with
  | none => .next s
  | some o =>
    if o.kind != .katt then .next s
    else s.orWaits <| match s.kattOpen o with
      | (.error f, s) => .next (kattGo o (.error f, s))
      | (.ok o, s) =>
        let ws := o.outWords
        if !o.todo.isEmpty || ws.any (fun e => s.wrWaits o.reader e.1 4) then .next (s.setKvop o)
        else match s.writeOut o ws with
          | (.error f, s) => if o.fault.isSome then .next (s.kvEnd o) else .next (s.kattFail o f)
          | (.ok _, s) =>
            let s := if bitsOf o.sel.toNat 22 22 = 1 then s.markFull o.op (outLines ws) else s
            .next (s.kvEnd o)

end Sys2Proof.Machine
end

