-- ==== Sys2Proof/Machine/System.lean ====
section
/-! DEFINITION. CACHEOP, TLBOP, TRACE, MIGRATE and HALT (07 R121-R126), and the steps of a migration (21 R387). -/

namespace Sys2Proof.Machine

/-- Hold the exit of the block a slot is committing. -/
def State.addHold (s : State) (k : Nat) (h : Hold) : State :=
  s.modSlot k (fun sl => { sl with block := sl.block.map (fun b => { b with holds := b.holds ++ [h] }) })
/-- The checks that come first: the view, where the instruction is privileged, and the operation code (R80, R121). -/
def sysCheck (x : Firing) (priv : Bool) (codes : Nat) : Option Byte :=
  if priv && !x.b.priv then some cPrivilege else if codes ≤ x.cap.r.toNat then some cIllegalForm else none
/-- May BINV name an address? It is translated, and needs no permission; a word of a scratchpad, which no page table has an effect on, needs
only to exist (R122; 09 R130; log entry 34). An address with a bit above 55 is unmapped, not misaligned: BINV makes no access to be
aligned (DESIGN CHOICE, log entry 34). -/
def State.mapped (s : State) (k va : Nat) : Option Byte × State :=
  if 2 ^ 56 ≤ va then (some cPageAbsent, s)
  else if isPad va then (if padState va || !s.padOk va then some cPageAbsent else none, s)
  else if isWindow va then (some cPageAbsent, s)
  else match s.translate (k / 8) va with
    | (.error c, s) => (some c, s)
    | (.ok _, s) => (none, s)

/-! ### CACHEOP (R122) -/

def State.cacheopCheck (s : State) (x : Firing) : Option Byte × State :=
  match sysCheck x false 2 with
  | some c => (some c, s)
  | none => if x.cap.r = 0 then s.mapped x.slot x.cap.l.toNat else (none, s)
/-- CACHEOP with R other than the immediate 1: R gives BINV or BINVDIE when it fires. -/
def execCacheopBinv (p : BitVec 2) (t : BitVec 9) (l r : BitVec 7) (s : State) : Out :=
  fireHeld (formR p l r) t.toNat (fun x s => s.cacheopCheck x) s
/-- CACHEOP with R the immediate 1: BINVDIE. -/
def execCacheopBinvdie (p : BitVec 2) (t : BitVec 9) (l r : BitVec 7) (s : State) : Out :=
  fireHeld (formR p l r) t.toNat (fun x s => s.cacheopCheck x) s
/-- The key under which the block caches hold the words at an address, where it is translated. -/
def State.blockKey (s : State) (b va : Nat) : Option Nat × State :=
  if isPad va then (some va, s)
  else match s.translate b va with
    | (.error _, s) => (none, s)
    | (.ok t, s) => (some t.pa, s)
/-- CACHEOP in step 3: the exit is held until the invalidation is complete. A page that has lost its translation since the fire
has no word to fetch. -/
def commitCacheop (s : State) (k : Nat) (c : Capture) : Perf :=
  if c.r.toNat = 1 then .done (s.addHold k (.invalidate none)) 0
  else match s.blockKey (k / 8) c.l.toNat with
    | (none, s) => .done s 0
    | (some key, s) => .done (s.addHold k (.invalidate (some (key / 128)))) 0
/-- Invalidate a granule in every block cache, or a whole die's. -/
def State.invalidate (s : State) (d : Nat) (g : Option Nat) : State :=
  match g with
  | some g => (List.range 128).foldl (fun s b => s.modBay b (fun y => { y with bcache := y.bcache.filter (fun (e : Nat × Word32) => e.1 / 128 != g) })) s
  | none => (List.range 32).foldl (fun s b => s.modBay (d * 32 + b) (fun y => { y with bcache := [] })) s

/-! ### TLBOP (R123) -/

def State.tlbopCheck (s : State) (x : Firing) : Option Byte × State := (sysCheck x true 2, s)
/-- TLBOP with R other than the immediate 1: R gives PAGE or ALL when it fires. -/
def execTlbopPage (p : BitVec 2) (t : BitVec 9) (l r : BitVec 7) (s : State) : Out :=
  fireHeld (formR p l r) t.toNat (fun x s => s.tlbopCheck x) s
/-- TLBOP with R the immediate 1: ALL. -/
def execTlbopAll (p : BitVec 2) (t : BitVec 9) (l r : BitVec 7) (s : State) : Out :=
  fireHeld (formR p l r) t.toNat (fun x s => s.tlbopCheck x) s
/-- TLBOP in step 3: the exit is held until the shootdown is complete. PAGE takes bits 55:16 of L, and ignores those above, which no rule
gives a meaning (DESIGN CHOICE, log entry 35). -/
def commitTlbop (s : State) (k : Nat) (c : Capture) : Perf :=
  .done (s.addHold k (.shootdown (if c.r.toNat = 1 then none else some (bitsOf c.l.toNat 55 16)))) 0
/-- Was a buffered write translated, when it fired, through an entry that a TLBOP of a page, or of all, removes? -/
def StoreEntry.through (e : StoreEntry) (page : Option Nat) : Bool :=
  match e.place with
  | some (.mem t) => page.all (fun n => if t.large then e.addr.toNat / 0x200000 = n / 32 else e.addr.toNat / 0x10000 = n)
  | _ => false
/-- Has a block that runs buffered writes, translated when they fired, that have yet to land (R123)? One that waits at commit walks the
entry again (21 R386), and is none of them. -/
def State.unlanded (s : State) (page : Option Nat) : Bool :=
  s.slots.any (fun e => e.2.status == .running && e.2.block.any (fun b => b.waiting.isNone && b.stores.any (fun q => q.through page)))
/-- Remove the translations that cover a page, or all, from every TLB of the package, and from the writes that frozen tasks hold. Every
other access translates as it is performed, so none that used a removed translation is left (R123). -/
def State.shootdown (s : State) (page : Option Nat) : State :=
  let s := (List.range 128).foldl (fun s b =>
    s.modBay b (fun y => { y with tlb := match page with
      | some n => y.tlb.filter (fun e => !e.covers (n * 0x10000))
      | none => [] })) s
  { s with slots := s.slots.map (fun (e : Nat × Slot) => (e.1, { e.2 with block := e.2.block.map (fun b => { b with
      stores := b.stores.map (fun q => if q.through page then { q with place := none } else q) }) })) }

/-- Addresses of the entries a walk reads from a die's table: one of each upper level, and the leaves of the 2 MiB range. -/
def State.entrySpans (s : State) (d va : Nat) : List (Nat × Nat) :=
  let get (a : Nat) : Nat := natOf ((List.range 8).map (fun i => s.byteLast (a + i)))
  let a1 := bitsOf (s.die d).pgtbase.toNat 51 17 * 0x20000 + 8 * bitsOf va 55 42
  let a2 := bitsOf (get a1) 51 16 * 0x10000 + 8 * bitsOf va 41 29
  let a3 := bitsOf (get a2) 51 16 * 0x10000 + bitsOf va 28 21 * 256
  [(a1, 8), (a2, 8), (a3, 256)]
/-- Complete a TLBOP of a party: what it has written to the entries before is seen by every walk from now on (R123). -/
def State.shootdownBy (s : State) (p : Party) (page : Option Nat) : State :=
  let own (f : WriteRec → Bool) : List Nat := (s.writes.filter (fun r => r.src == p && f r)).map (fun r => r.id)
  let ids (d : Nat) : List Nat := match page with
    | none => own (fun _ => true)
    | some n => own (fun r => (s.entrySpans d (n * 0x10000)).any (fun (e : Nat × Nat) => r.addr < e.1 + e.2 && e.1 < r.addr + r.data.length))
  ([0, 1, 2, 3].foldl (fun s d => s.reveal d (ids d)) s).shootdown page
/-- Complete a CACHEOP of a party: its stores to the words are seen by every fetch that begins from now on (R122). -/
def State.invalidateBy (s : State) (p : Party) (d : Nat) (g : Option Nat) : State :=
  let own (f : WriteRec → Bool) : List Nat := (s.writes.filter (fun r => r.src == p && f r)).map (fun r => r.id)
  (match g with
    | some n => s.revealOn [0, 1, 2, 3] (own (fun r => r.addr / 128 = n))
    | none => s.reveal d (own (fun _ => true))).invalidate d g

/-! ### TRACE (R124; 19 R374) -/

/-- Freeze a bay's trace buffer. -/
def State.freezeTrace (s : State) (b : Nat) : State :=
  s.modBay b (fun y => { y with tracectl := (y.tracectl ||| 0x8000) &&& ~~~(0x1000 : Word), postLeft := none })
/-- Let a bay's trace buffer record again, after its last record. -/
def State.thawTrace (s : State) (b : Nat) : State :=
  s.modBay b (fun y => if bitsOf y.tracectl.toNat 15 15 = 1 then
    { y with tracectl := y.tracectl &&& ~~~(0x9000 : Word), postLeft := none } else y)
/-- TRACE with R neither of the immediates 1 and 2: R gives MARK, FREEZE or THAW when it fires. -/
def execTraceMark (p : BitVec 2) (t : BitVec 9) (l r : BitVec 7) (s : State) : Out :=
  fireHeld (formR p l r) t.toNat (fun x s => (sysCheck x false 3, s)) s
/-- TRACE with R the immediate 1: FREEZE. -/
def execTraceFreeze (p : BitVec 2) (t : BitVec 9) (l r : BitVec 7) (s : State) : Out :=
  fireHeld (formR p l r) t.toNat (fun x s => (sysCheck x false 3, s)) s
/-- TRACE with R the immediate 2: THAW. -/
def execTraceThaw (p : BitVec 2) (t : BitVec 9) (l r : BitVec 7) (s : State) : Out :=
  fireHeld (formR p l r) t.toNat (fun x s => (sysCheck x false 3, s)) s
/-- TRACE in step 3. -/
def commitTrace (s : State) (k : Nat) (c : Capture) : Perf :=
  let b := k / 8
  .done (if c.r = 0 then s.trace b 4 (k % 8) 0 c.l.toNat else if c.r = 1 then s.freezeTrace b else s.thawTrace b) 0

/-! ### HALT (R126) -/

def haltCheck (x : Firing) : Option Byte :=
  match sysCheck x true 2 with
  | some c => some c
  | none => if x.cap.l.toNat = 0 || 3 < x.cap.l.toNat then some cIllegalForm else none
/-- HALT with R other than the immediate 1: R gives STOP or GO when it fires. -/
def execHaltStop (p : BitVec 2) (t : BitVec 9) (l r : BitVec 7) (s : State) : Out :=
  fireHeld (formR p l r) t.toNat (fun x s => (haltCheck x, s)) s
/-- HALT with R the immediate 1: GO. -/
def execHaltGo (p : BitVec 2) (t : BitVec 9) (l r : BitVec 7) (s : State) : Out :=
  fireHeld (formR p l r) t.toNat (fun x s => (haltCheck x, s)) s
/-- HALT in step 3. -/
def commitHalt (s : State) (k : Nat) (c : Capture) : Perf :=
  let scope := c.l.toNat
  .done (s.dispatch scope (if scope = 1 then k / 8 else k / 256) (c.r = 0)) 0

/-! ### MIGRATE (R125; 21 R386, R387) -/

/-- MIGRATE: the view, the translation, then the frame. A window address has no translation (09 R130), nor has one with a bit above 55
(DESIGN CHOICE, log entry 34). -/
def execMigrate (p : BitVec 2) (t : BitVec 9) (l r : BitVec 7) (s : State) : Out :=
  fireHeld (formR p l r) t.toNat (fun x s =>
    let va := x.cap.l.toNat
    let r := x.cap.r.toNat
    if !x.b.priv then (some cPrivilege, s)
    else if 2 ^ 56 ≤ va || isWindow va then (some cPageAbsent, s)
    else match s.translate (x.slot / 8) va with
      | (.error c, s) => (some c, s)
      | (.ok t, s) => (if 2 ^ 52 ≤ r || r % 0x10000 != 0 || (t.large && r % 0x200000 != 0) then some cIllegalForm else none, s)) s
def Migration.leaves (m : Migration) : Nat := if m.large then 32 else 1
def Migration.die (m : Migration) : Nat := m.bay / 32
/-- Do two migrations move pages that overlap? -/
def Migration.overlaps (m n : Migration) : Bool := m.va.toNat < n.va.toNat + n.size && n.va.toNat < m.va.toNat + m.size
def State.mig (s : State) (op : Nat) : Option Migration := Smap.find s.migs op
def State.setMig (s : State) (op : Nat) (m : Migration) : State := { s with migs := Smap.insert s.migs op m }
/-- A migration completes. -/
def State.endMig (s : State) (op : Nat) (m : Migration) : State := { s with migs := Smap.erase s.migs op }.opDone (some m.uid) op
/-- A fault of a migration. -/
def State.migFault (s : State) (op : Nat) (m : Migration) (c : Byte) : State :=
  s.opFault m.die (some m.uid) op (impRec c 10 m.ctx m.va.toNat m.dest.toNat 0)
/-- Is the destination one that R387's first step refuses? -/
def State.badDest (s : State) (m : Migration) : Bool :=
  let pa := m.dest.toNat
  paType pa = 3 || (paType pa = 0 && !paPackageOk pa) || !s.hasPath pa ||
    (List.range m.leaves).any (fun i => s.mappedOut (pa + 0x10000 * i))
/-- Rewrite every leaf of a migrating page. -/
def State.mapLeaves (s : State) (op : Nat) (m : Migration) (f : Nat → Nat) : State :=
  (List.range m.leaves).foldl (fun s i =>
    let s := s.touchRun m.die (m.leaf + 8 * i) 8 true
    let old := s.loadLast m.die (.op op) (m.leaf + 8 * i) 8
    old.2.store (.op op) (m.leaf + 8 * i) (bytesOf 8 (f old.1)) (old.2.releaseDeps (.op op) m.die 3) true) s
def setWb (on : Bool) (leaf : Nat) : Nat := leaf - bitsOf leaf 3 3 * 8 + (if on then 8 else 0)
/-- The leaf of a page at its new frame, write-blocked. -/
def Migration.newLeaf (m : Migration) (leaf : Nat) : Nat :=
  let pa := m.dest.toNat
  let home := if paType pa = 0 then paStack pa / 2 else if paType pa = 1 then 0 else m.die
  bitsOf leaf 63 52 * 2 ^ 52 + bitsOf pa 51 16 * 2 ^ 16 + bitsOf leaf 15 9 * 2 ^ 9 + home * 2 ^ 7 + paType pa * 2 ^ 5 +
    bitsOf (setWb true leaf) 4 0
/-- Steps 1 and 2: check, and write-block. It waits while an earlier migration of the page is in progress. -/
def State.beginMig (s : State) (op : Nat) : State :=
  match s.mig op with
  | none => s
  | some m =>
    if m.started || s.migs.any (fun q => q.1 < op && q.2.overlaps m) then s
    else match s.walk m.die m.va.toNat with
      | (.error c, s) => (s.migFault op m c).endMig op m
      | (.ok e, s) =>
        if s.badDest m then (s.migFault op m cPageAbsent).endMig op m
        else
          let i := bitsOf m.va.toNat 28 16
          let i0 := if e.large then i / 32 * 32 else i
          let m := { m with started := true, counter := e.ctr, leaf := e.ctr - 0x10000 + 6 * i0 }
          (s.setMig op m).mapLeaves op m (setWb true)
/-- MIGRATE in step 3. -/
def commitMigrate (s : State) (k : Nat) (c : Capture) : Perf :=
  let f := s.fork k c.idx (some (.migration (k / 8))) true [0, 1, 2, 3]
  let va := c.l.toNat
  match f.2.walk (k / 256) va with
  | (.error e, s) =>
    let m : Migration := { uid := (s.slot k).uid, ctx := (s.slot k).ctxid, bay := k / 8, va := c.l, dest := c.r, large := false, leaf := 0,
                           counter := 0, started := false, shot := false, copied := false }
    .done ((s.migFault f.1 m e).endMig f.1 m) 0
  | (.ok e, s) =>
    let base := if e.large then va / 0x200000 * 0x200000 else va / 0x10000 * 0x10000
    let m : Migration := { uid := (s.slot k).uid, ctx := (s.slot k).ctxid, bay := k / 8, va := BitVec.ofNat 64 base, dest := c.r,
                           large := e.large, leaf := 0, counter := 0, started := false, shot := false, copied := false }
    .done (((s.homeOp f.1 (.engine (k / 8) f.1)).setMig f.1 m).beginMig f.1) 0
/-- Have the writes that TLBOP PAGE of a migrating page waits for landed (R123)? -/
def State.migLanded (s : State) (m : Migration) : Bool :=
  (List.range m.leaves).all (fun i => !s.unlanded (some (m.va.toNat / 0x10000 + i)))
/-- Remove the translations of a migrating page everywhere. -/
def State.migShoot (s : State) (op : Nat) (m : Migration) : State :=
  let s := s.revealOn [0, 1, 2, 3] (s.past (.op op))
  (List.range m.leaves).foldl (fun s i => s.shootdown (some (m.va.toNat / 0x10000 + i))) s
/-- A migration's engine as the maker of accesses. -/
def Migration.agent (m : Migration) (op : Nat) : Agent := { bay := m.bay, party := .op op, ctx := m.ctx, priv := true }
/-- Copy a page by physical addresses, through the slices of the issuer's die (09 R133); what misses there counts on the page while it is
counted (R384). -/
def State.copyPage (s : State) (op : Nat) (m : Migration) (src : Nat) : State :=
  let leaf : Nat := natOf ((List.range 8).map (fun i => s.byteLast (m.leaf + i)))
  let t : Trans := { (({ vpage := 0, large := m.large, leaf := BitVec.ofNat 64 leaf, ctr := m.counter } : TlbEntry).trans 0) with pa := src }
  let s := (s.accessRun (m.agent op) m.va.toNat t m.size false).touchRun m.die m.dest.toNat m.size true
  (List.range (m.size / 8)).foldl (fun s i =>
    let v := s.loadLast m.die (.op op) (src + 8 * i) 8
    v.2.store (.op op) (m.dest.toNat + 8 * i) (bytesOf 8 v.1) [] false) s
/-- MIGRATION_COPY_DONE (R387): a migration that has waited begins; its first shootdown completes; then the copy ends, the leaves are
switched and the counter is cleared. Each shootdown waits for the writes that R123 names. A copy that meets lost or poisoned memory ends
the migration at the old frame (log entry 29); one without a path waits, and fails so once it has had none for 10 ms (21 R390; log entry
59). -/
def execMigrationCopyDone (op : Nat) (s : State) : Out :=
  match s.mig op with
  | none => .next s
  | some m =>
    if !m.started then .next (s.beginMig op)
    else if !m.shot then .next (if s.migLanded m then (s.migShoot op m).setMig op { m with shot := true } else s)
    else if m.copied then .next s
    else
      let leaf := s.loadLast m.die (.op op) m.leaf 8
      let s := leaf.2
      let src := bitsOf leaf.1 51 16 * 0x10000
      if !s.hasPath src || !s.hasPath m.dest.toNat then
        .next (if Config.freeBool s.tick 0x1003 then ((s.migFault op m cLinkFault).mapLeaves op m (setWb false)).endMig op m else s)
      else if s.lost src || s.poisoned src m.size || s.lost m.dest.toNat then
        .next (((s.migFault op m cUncorrectable).mapLeaves op m (setWb false)).endMig op m)
      else
        let s := s.copyPage op m src
        let s := s.mapLeaves op m m.newLeaf
        let s := (s.touchRun m.die m.counter 2 true).store (.op op) m.counter (bytesOf 2 0) [] true
        .next (s.setMig op { m with copied := true })
/-- MIGRATION_FINISH (R387, step 5): the second shootdown completes and WB is cleared; waiting writes walk again (R386). -/
def execMigrationFinish (op : Nat) (s : State) : Out :=
  match s.mig op with
  | none => .next s
  | some m => if !m.copied || !s.migLanded m then .next s else .next (((s.migShoot op m).mapLeaves op m (setWb false)).endMig op m)

end Sys2Proof.Machine
end

