-- ==== Sys2Proof/Machine/Commit.lean ====
section
/-! DEFINITION. A block's life from fetch to exit (05 R59-R78; 07 R106, R112-R115; 09 R138-R147; 15 R285, R298, R300; 19
R350-R356): the events that fetch it, deliver its reads, commit it in five steps, and end its waits. -/

namespace Sys2Proof.Machine

/-! ### Fetching (R59-R62, R355, R356, R363) -/

/-- Put a fetched block in flight, with what was read back of its frame, if it was interrupted. After the exit join it stands
in that join again (R352). -/
def State.installBlock (s : State) (k : Nat) (b : Block) : State :=
  match (s.slot k).resume with
  | none => s.modSlot k (fun sl => { sl with block := some b, popped := none, status := .running })
  | some r =>
    if !r.image && !r.consistent b then
      (s.modSlot k (fun sl => { sl with resume := none })).freezeTask k 2 [s.seqRec k cIllegalForm b.addr.toNat 0xFF 0]
    else
      s.modSlot k (fun sl =>
        let b := r.reinstate b sl
        { sl with
          block := some b
          resume := none
          status := match b.pos, b.exit with
            | .leave, some (_, .yield) => .yieldJoin
            | .leave, some (_, .exit) => .exitJoin
            | _, _ => .running })

/-- May a block be fetched for a slot? -/
def Slot.fetches (sl : Slot) : Bool :=
  sl.block.isNone && sl.task.isSome &&
    (match sl.status with
      | .bound => true
      | .running => true
      | _ => false)

/-- A slot whose task was popped as an image has the image restored, when its block is to be fetched (01 R25; 19 R363). -/
def State.restoreBound (s : State) (k : Nat) : State :=
  match (s.slot k).status, (s.slot k).task, (s.slot k).popped with
  | .bound, some t, some (_, e) => if e.image then s.restoreImage k t e else s
  | _, _, _ => s

/-- The first empty line a slot's fetch would read: its wait is a memory event of the trace, once (19 R373). -/
def State.noteFetchWait (s : State) (k : Nat) : State :=
  let sl := s.slot k
  let va := sl.pc.toNat
  match (List.range 5).find? (fun i => s.padWaits (va + 128 * i) 4) with
  | some i => if sl.fetchTraced then s
      else (s.trace (k / 8) 3 k (Config.traceKind 2) (va + 128 * i)).modSlot k (fun sl => { sl with fetchTraced := true })
  | none => s

/-- BLOCK_FETCH (R61, R62, R68): a precise fault of the fetch shows an empty block in its frame (R354). A bound task whose fetch must
wait stays bound. -/
def execBlockFetch (slot : Nat) (s : State) : Out :=
  if !(s.slot slot).fetches then .next s
  else
    let s0 := s
    let s := s.restoreBound slot
    let sl := s.slot slot
    -- The pool's page may be one that is being migrated (21 R387).
    if s.blockedSince s0.nextWrite then .next s0
    else if !sl.fetches then .next s
    else match s.fetchBlock slot sl.pc sl.arrival with
      | .ok b s => .next ((s.modSlot slot (fun sl => { sl with
          fetchTraced := false, badRegs := sl.badRegs.filter (fun g => g < 64) })).installBlock slot b)
      | .wait s => .next ((if (s0.slot slot).status == .bound then s0 else s).noteFetchWait slot)
      | .bad c i h s =>
        let s := s.modSlot slot (fun sl => { sl with status := .running, popped := none, resume := none })
        .next (s.takeTrap slot (blockAt sl.pc h (sl.ctxid == 0)) false c i 0 0 0x80)

/-- READ_DELIVER: a load in flight, while its block fires. -/
def execReadDeliver (slot idx : Nat) (s : State) : Out :=
  match (s.slot slot).block with
  | none => .next s
  | some b =>
    if !(s.slot slot).firing b then .next s
    else match b.reads.find? (fun r => r.cap.idx = idx) with
      | some r => .next (s.deliverRead slot b r)
      | none => .next s

/-! ### Completion (R73, R74) -/

/-- Is nothing of the block in flight or able to fire? -/
def Block.quiescent (b : Block) (sl : Slot) : Bool :=
  b.reads.isEmpty && b.replay.isEmpty && (List.range b.count).all (fun i => !b.ready sl i)

/-- Has the block in a slot completed, with an exit chosen? -/
def Slot.completed (sl : Slot) : Bool :=
  match sl.block with
  | some b => sl.firing b && b.quiescent sl && b.exit.isSome
  | none => false

def State.modBlock (s : State) (k : Nat) (f : Block → Block) : State := s.modSlot k (fun sl => { sl with block := sl.block.map f })

/-- BLOCK_HANG (R74): 2^24 cycles without completion. -/
def execBlockHang (slot : Nat) (s : State) : Out :=
  match (s.slot slot).block with
  | none => .next s
  | some b =>
    if (s.slot slot).firing b && !(s.slot slot).completed && 2 ^ 24 ≤ b.cycles then .next (s.faultBlock slot b cBlockHang) else .next s

/-! ### Step 1: registers (R75, R106; 19 R367, R370, R374) -/

/-- Write SR.TRACECTL: the fields a program may write, then FROZEN as TRACE freezes and thaws. -/
def State.writeTracectl (s : State) (b : Nat) (v : Word) : State :=
  let s := s.modBay b (fun y => { y with tracectl := (v &&& 0xFFFFFFFFF000601F) ||| (y.tracectl &&& 0x000000000FFF9000) })
  if bitsOf v.toNat 15 15 = 1 then s.freezeTrace b else s.thawTrace b

/-- Resume a frozen task where it stood, with W at 0 (19 R370). One frozen at its yield's rewrite stands at its yield join again: records
held since are delivered there (R350, R352). -/
def State.thaw (s : State) (k : Nat) : State :=
  let sl := s.slot k
  let s := (s.progress k).modSlot k (fun sl => { sl with due := none })
  match sl.status, sl.block with
  | .frozen true, _ => (s.modSlot k (fun sl => { sl with status := .yieldJoin })).finishYield k
  | .frozen false, some b =>
    s.modSlot k (fun sl => { sl with
      status := if b.waiting = some 128 then (match b.exit with
          | some (_, .yield) => .yieldJoin
          | _ => .exitJoin)
        else match b.pos with
          | .waits _ => if b.waiting.isSome then .waiting else .running
          | _ => .running })
  | .frozen false, none => s.modSlot k (fun sl => { sl with status := .running })
  | _, _ => s

/-- Is an image queued, alone or in a gang, waiting for room in a queue, or popped and not yet restored? -/
def State.imageQueued (s : State) (img : Nat) : Bool :=
  let is (e : QEntry) : Bool := e.image && e.addr.toNat = img
  s.dies.any (fun d => d.2.queue.any is || d.2.gangs.any (fun g => g.members.any is)) ||
    s.pushes.any (fun p => is p.2.2) || s.slots.any (fun x => x.2.popped.any (fun p => is p.2))

def Slot.isFrozen (sl : Slot) : Bool :=
  match sl.status with
  | .frozen _ => true
  | _ => false

/-- Write SR.SLOTCTL: the action on a frozen task of the die, or on a held image (19 R370). -/
def State.writeSlotctl (s : State) (d : Nat) (v : Word) : State :=
  let action := v.toNat / 2 ^ 62
  let target := v.toNat % 1024
  let img := bitsOf v.toNat 55 14 * 0x4000
  let old := (s.die d).slotctl
  let kept := v &&& 0xC0FFFFFFFFFFC3FF
  let put (s : State) (err : Bool) : State := s.modDie d (fun x => { x with slotctl := if err then kept ||| 0x2000000000000000 else kept })
  let frozen := target / 256 = d && (s.slot target).isFrozen
  if action = 0 then (if frozen then (put s false).thaw target else put s true)
  else if action = 1 then (if frozen then (put s false).retireTask target else put s true)
  else if action = 2 then (if Smap.has s.parked img && !s.imageQueued img then (put s false).pushImage d img else put s true)
  else s.modDie d (fun x => { x with slotctl := kept ||| (old &&& 0x2000000000000000) })

/-- A saved context at another area, 16 KiB apart by a whole number: its images move with it. -/
def SavedCtx.moved (w : SavedCtx) (a area : Nat) : SavedCtx := { w with images := w.images.map (fun i => i - a + area) }

/-- Where object i of a save area goes: 16 KiB places after the directory (log entry 17). -/
def areaPlace (area i : Nat) : Nat := (area + 0x3FFF) / 0x4000 * 0x4000 + 0x40000 + 0x4000 * i
/-- Bytes at an offset of an area, where they can be read. -/
def State.areaRead (s : State) (d area off n : Nat) : Option (List Byte) × State :=
  match s.deviceAddr d (area + off) with
  | (.error _, s) => (none, s)
  | (.ok pa, s) =>
    if s.lost pa || s.poisoned pa n then (none, s)
    else
      let r := (s.touchRun d pa n false).loadRun d (.device d) pa n
      (some r.1, r.2)
/-- Words of 4 bytes at an offset of an area, which may lie in two pages. -/
def State.areaParts (s : State) (d area off n : Nat) : Option (List Byte) × State :=
  (List.range n).foldl (fun (acc : Option (List Byte) × State) i =>
    match acc with
    | (none, s) => (none, s)
    | (some l, s) =>
      let r := s.areaRead d area (off + 4 * i) 4
      (r.1.map (fun bs => l ++ bs), r.2)) (some [], s)
/-- Does an area still hold the runs of bytes that were written to it? -/
def State.areaHolds (s : State) (d area : Nat) (runs : List (Nat × List Byte)) : Bool × State :=
  runs.foldl (fun (acc : Bool × State) r =>
    if !acc.1 then acc
    else
      let got := acc.2.areaRead d area r.1 r.2.length
      (got.1 == some r.2, got.2)) (true, s)
/-- A task of a context as its image in an area tells it, its record read where it can be: for an area that another device has saved. -/
def State.areaTask (s : State) (d area off : Nat) (c : BitVec 6) : Option Task × State :=
  match s.areaRead d area (off + 0x3200) 64 with
  | (none, s) => (none, s)
  | (some bs, s) =>
    let n := field bs 8 2 % 4096
    let l := s.launch n
    if field bs 56 8 % 64 != c.toNat || l.context != c || !l.begun then (none, s)
    else
      let r := s.readRecord { bay := d * 32, party := .device d, ctx := c, priv := false } (field bs 0 8)
      let rec_ := match r.1 with
        | .ok rec_ => rec_
        | .error _ => []
      let uid := r.2.nextUid
      (some { uid := uid, record := BitVec.ofNat 56 (field bs 0 8), entry := BitVec.ofNat 64 (field rec_ 0 8)
              join := BitVec.ofNat 32 (field rec_ 16 4), launchField := BitVec.ofNat 16 n, flags := BitVec.ofNat 16 (field rec_ 22 2)
              arg := BitVec.ofNat 64 (field rec_ 24 8), launch := n, qDie := d, qLevel := l.prio, qClass := 3, gang := none, place := 0
              boundAt := s.tick, arrival := .normal, exitKept := none, grps := [], fixedGen := none, framed := none },
        { r.2 with nextUid := uid + 1 })
/-- The tasks of an area that another device of the revision has saved, by its directory: each with its image's address. Of its other objects
this device knows no layout, and an area that holds any is refused (R366; log entry 17). -/
def State.foreignArea (s : State) (d area : Nat) (c : BitVec 6) : Option (List (Nat × Task)) × State :=
  match s.areaRead d area 0 12 with
  | (none, s) => (none, s)
  | (some h, s) =>
    let n := field h 8 4
    if 0x3FFF < n then (none, s)
    else (List.range n).foldl (fun (acc : Option (List (Nat × Task)) × State) i =>
      match acc with
      | (none, s) => (none, s)
      | (some l, s) =>
        match s.areaParts d area (12 + 16 * i) 4 with
        | (none, s) => (none, s)
        | (some e, s) =>
          let img := area + field e 8 8
          if field e 0 8 != 1 || img % 0x4000 != 0 || Smap.has s.parked img then (none, s)
          else match s.areaTask d area (field e 8 8) c with
            | (none, s) => (none, s)
            | (some t, s) => (some (l ++ [(img, t)]), s)) (some [], s)
/-- The context an area holds, told by what the area's bytes are (R366): with the area it was saved at. A save that failed has no
directory, and is found where it was made. -/
def State.savedAt (s : State) (d area : Nat) (c : BitVec 6) : Option (Nat × SavedCtx) × State :=
  s.savedCtx.foldl (fun (acc : Option (Nat × SavedCtx) × State) e =>
    let place := e.1 = area || (e.2.runs.any (fun r => r.1 = 0) && e.1 % 0x4000 = area % 0x4000)
    if acc.1.isSome || e.2.ctx != c || !place then acc
    else
      let r := acc.2.areaHolds d area e.2.runs
      (if r.1 then some (e.1, e.2) else none, r.2)) (none, s)

/-- The images of a saved context are those of its area, wherever that lies now. -/
def State.moveImages (s : State) (a area : Nat) (imgs : List Nat) : State :=
  if a = area then s
  else
    { s with
      parked := imgs.foldl (fun m i => match Smap.find m i with
        | some t => Smap.insert (Smap.erase m i) (i - a + area) t
        | none => m) s.parked
      areaImages := s.areaImages.map (fun i => if imgs.contains i then i - a + area else i) }

/-- Write SR.CTXSW: a save or a restore begins, or ERR is set; while one is in progress the write is ignored (19 R367). A restore reads
the area; one without a translation, with bytes that cannot be read or that are no saved context, is an area fault. -/
def State.writeCtxsw (s : State) (d : Nat) (v : Word) : State :=
  if s.ctxSwitch.isSome then s
  else
    let kept := v &&& 0x00FFFFFFFFFFF07F
    let c : BitVec 6 := v.truncate 6
    let area := bitsOf v.toNat 55 12 * 0x1000
    let refuse (s : State) : State := { s with ctxsw := kept ||| 0x80 }
    let go (s : State) (w : CtxSwitch) : State := { s with ctxsw := kept ||| 0x100, ctxSwitch := some w }
    if c = 0 then refuse s
    else if bitsOf v.toNat 6 6 = 1 then
      match s.savedAt d area c with
      | (some (a, w), s) =>
        go { s.moveImages a area w.images with savedCtx := Smap.insert (Smap.erase s.savedCtx a) area (w.moved a area) }
          { restore := true, ctx := c, die := d, area := area, saved := w.moved a area }
      | (none, s) =>
        match s.foreignArea d area c with
        | (some (e :: l), s) =>
          let imgs := (e :: l).map (fun q => q.1)
          let w : SavedCtx := { ctx := c, images := imgs, moulds := [], entries := [], transfers := [], runs := [] }
          go { s with parked := (e :: l).foldl (fun m q => Smap.insert m q.1 q.2) s.parked, areaImages := s.areaImages ++ imgs }
            { restore := true, ctx := c, die := d, area := area, saved := w }
        | (_, s) => refuse s
    else match s.deviceAddr d area with
      | (.error _, s) => refuse s
      | (.ok pa, s) =>
        if s.lost pa then refuse s else
        let empty : SavedCtx := { ctx := c, images := [], moulds := [], entries := [], transfers := [], runs := [] }
        go { s with stoppedCtx := if s.stoppedCtx.contains c then s.stoppedCtx else s.stoppedCtx ++ [c] }
          { restore := false, ctx := c, die := d, area := area, saved := empty }

/-- Perform a write of a special register (R106, R108). -/
def State.srWrite (s : State) (k n : Nat) (v : Word) : State :=
  match n with
  | 0x200A => s.writeCtxsw (k / 256) v
  | 0x200B => s.writeSlotctl (k / 256) v
  | 0x200D => s.writeTracectl (k / 8) v
  | _ => s.writeSr k n v

/-- Write a register target of an instruction performed at commit. -/
def State.writeTarget (s : State) (k : Nat) (w : Word32) (v : Word) : State :=
  (regTargets w).foldl (fun s r => s.modSlot k (fun sl => sl.setReg r v)) s

/-- The SRWRs a block holds, in index order. -/
def Block.srwrs (b : Block) : List Capture := sortBy (fun c => c.idx) (b.held.filter (fun c => opOf (b.word c.idx) = 0x2F))
def srNumber (w : Word32) : Nat := bitsOf w.toNat 13 0

/-- Commit step 1 of the block in a slot (R75); with it the block's buffered writes are issued, each hashed under the slice map as it
stands (09 R165). -/
def State.commitRegisters (s : State) (k : Nat) (b : Block) : State :=
  let s := s.modSlot k (fun sl => b.regw.foldl (fun sl r => sl.setReg r.reg r.value) sl)
  let s := b.srwrs.foldl (fun s c =>
    let w := b.word c.idx
    let old := s.readSr k (srNumber w)
    (s.srWrite k (srNumber w) c.l).writeTarget k w old) s
  let gen := (s.die (k / 256)).slicemap
  s.modBlock k (fun b => { b with
    regw := [], held := b.held.filter (fun c => opOf (b.word c.idx) != 0x2F), pos := .writes 0, waiting := none
    stores := b.stores.map (fun e => { e with gen := some gen }) })

/-- Begin the commit of a completed block that holds an SRWR the test names (the events of particular registers). -/
def State.commitWriting (s : State) (k : Nat) (test : Nat → Word → Bool) : State :=
  match (s.slot k).block with
  | none => s
  | some b =>
    if (s.slot k).completed && b.srwrs.any (fun c => test (srNumber (b.word c.idx)) c.l) then s.commitRegisters k b else s

/-! ### Step 2: buffered writes (R75, R138-R144; 19 R371) -/

/-- What an atomic of a word writes over an old value, or none (R141, R142). -/
def atomicNew (w : Word32) (e : StoreEntry) (old : Nat) : Option Nat :=
  if opOf w = 0x53 then (if old = e.data.toNat then some e.dataP.toNat else none)
  else some (amoValue (w.toNat % 8) (bufferedSize w) old e.data.toNat)

/-- Has an atomic release order: bit 3 of an AMO, the order field of CAS64 (R65)? -/
def atomicReleases (w : Word32) : Bool := if opOf w = 0x53 then bitsOf w.toNat 1 1 = 1 else bitsOf w.toNat 3 3 = 1

/-- Has an atomic acquire order: bit 3 of an AMO, the order field of CAS64 (R65)? -/
def atomicAcquires (w : Word32) : Bool := if opOf w = 0x53 then w.toNat % 2 = 1 else bitsOf w.toNat 3 3 = 1

/-- Where a buffered write is performed: where its address leads now, or, when that is nowhere any more, where it led when it fired: a
buffered write does not fault at commit (R140; log entry 76). -/
def State.writeTo (s : State) (a : Agent) (e : StoreEntry) (w : Want) : Except Byte Place × State :=
  match s.resolve a e.addr.toNat w, e.place with
  | (.error _, s), some p => (.ok p, s)
  | r, _ => r

/-- Has the slice map changed since a buffered write was issued, so that it is answered with retry (R165)? -/
def State.staleWrite (s : State) (d : Nat) (e : StoreEntry) : Bool :=
  sliced e.addr.toNat && e.gen.any (fun g => g != (s.die d).slicemap)

/-- Perform a buffered write. What its fire check met was precise (R136); an error that has arisen only since is imprecise, and an
atomic's result is then free (log entry 16). An atomic that writes nothing does not wait for what holds a write (R142, R143). One that reads
a line an engine has marked observes a completion (R163; 19 R368). -/
def State.performBuffered (s : State) (k : Nat) (b : Block) (e : StoreEntry) : Perf :=
  let w := b.word e.idx
  let op := opOf w
  let n := bufferedSize w
  let va := e.addr.toNat
  let a := s.agent k
  let atomic := isAtomic op
  let fail (s : State) (c : Byte) : Perf := .done (s.commitFault k e.idx c) (Config.freeWord s.tick 0)
  match s.writeTo a e (if atomic then wantAtomic n else wantWrite n) with
  | (.error c, s) => fail s c
  | (.ok p, s) =>
    let writes := !atomic || (atomicNew w e (s.readPlace a va p n true).1).isSome
    if s.guardedPlace p then .done (s.touchGuard a.die (s.slot k).uid a.party 0 a.ctx e.idx va) 0
    else if (writes && s.performWaits p) || (atomic && s.readWaits p) || s.placeCut p || s.staleWrite (k / 256) e then .stall
    else if (match p.key with
        | some key => !isPad va && s.lost key
        | none => false) || ((atomic || n < 8) && s.placeBad p n) then fail s cUncorrectable
    else if !atomic then
      let deps := if op = 0x50 then s.releaseAt a.party (scopeField w) else []
      .done (s.performAt a va p n (e.data.toNat % 2 ^ (8 * n)) deps false) 0
    else
      let s := s.trace (k / 8) 3 k (Config.traceKind 0) va
      let old := (s.noteMark k va p).readPlace a va p n true
      let s := if atomicAcquires w then old.2.acquire a.die a.party (scopeField w) (s.lastSources p n) else old.2
      let deps := if atomicReleases w then s.releaseAt a.party (scopeField w) else []
      match atomicNew w e old.1 with
      | some new => .done (s.performAt a va p n new deps true) (BitVec.ofNat 64 old.1)
      | none => .done s (BitVec.ofNat 64 old.1)

/-- The least of some indices that is at least i. -/
def leastFrom (l : List Nat) (i : Nat) : Option Nat := (sortBy id (l.filter (fun j => i ≤ j))).head?

/-- The next index step 2 performs: a buffered write, or a FENCE's part (R146). -/
def Block.nextWrite (b : Block) (i : Nat) : Option Nat :=
  leastFrom (b.stores.map (fun e => e.idx) ++ (b.held.filter (fun c => opOf (b.word c.idx) = 0x54)).map (fun c => c.idx)) i

/-- Perform the next part of step 2. A write that must wait holds the block; its first wait on a HELD or empty line is traced. -/
def State.commitWrites (s : State) (k : Nat) (b : Block) (i : Nat) : State :=
  match b.nextWrite i with
  | none => s.modBlock k (fun b => { b with pos := .effects 0, waiting := none })
  | some j =>
    match b.stores.find? (fun e => e.idx = j) with
    | none => (s.fenceWrites k (b.word j)).modBlock k (fun b => { b with pos := .writes (j + 1), waiting := none })
    | some e =>
      match s.performBuffered k b e with
      | .done s v =>
        (s.writeTarget k (b.word j) v).modBlock k (fun b => { b with
          stores := b.stores.filter (fun e => e.idx != j), pos := .writes (j + 1), waiting := none })
      | .stall =>
        let va := e.addr.toNat
        let s := if b.waiting = some j || !isPad va then s
          else s.trace (k / 8) 3 k (Config.traceKind (if 0 < (s.line (padLine va)).holders then 3 else 2)) va
        s.modBlock k (fun b => { b with pos := .writes j, waiting := some j })

/-! ### Step 4: waits (R75; 19 R352) -/

/-- The first wait at or after an index, or 128. -/
def Block.nextWait (b : Block) (i : Nat) : Nat :=
  (leastFrom ((b.held.filter (fun c => isWait (opOf (b.word c.idx)))).map (fun c => c.idx)) i).getD 128

/-- Are there records for a reporting point of this block (19 R352)? -/
def State.reports (s : State) (k : Nat) (b : Block) : Bool := !(s.slot k).imp.isEmpty && !b.handler

/-- Report the records held, with the block as it now stands; a task that is frozen instead stands there as well. -/
def State.reportFrom (s : State) (k : Nat) (b : Block) (mode resIdx : Nat) : State :=
  let t := s.reportAt k b mode resIdx
  if (t.slot k).isFrozen then t.setBlock k b else t

/-- A wait has completed: the next is to come. One that reports faults of its own is a reporting point. -/
def State.endWait (s : State) (k j : Nat) (own : Bool) : State :=
  let s := s.modSlot k (fun sl => { sl with status := .running })
  match (s.slot k).block with
  | none => s
  | some b =>
    let next := b.nextWait (j + 1)
    let b := { b with held := b.held.filter (fun c => c.idx != j), waiting := none, fixedGen := none, pos := .waits next }
    if own && s.reports k b then s.reportFrom k b 1 next else s.setBlock k b

/-- Perform the wait an instruction stands for. -/
def State.tryWait (s : State) (k : Nat) (op : Nat) (c : Capture) : Waited :=
  match op with
  | 0x5C => waitWait s k c
  | 0x66 => waitPjoin s k c
  | 0x68 => waitMxjoin s k c
  | _ => waitAwait s k c

/-- Evaluate the wait at an index. -/
def State.evalWait (s : State) (k j : Nat) : State :=
  match (s.slot k).block with
  | none => s
  | some b =>
    match b.held.find? (fun c => c.idx = j) with
    | none => s
    | some c =>
      let op := opOf (b.word j)
      let before := ((s.slot k).imp, (s.slot k).impOverflow)
      match s.tryWait k op c with
      | .pending s => s
      | .done s => s.endWait k j (op != 0x5C && ((s.slot k).imp, (s.slot k).impOverflow) != before)

/-- Begin the wait at an index: a reporting point, then the task is waiting. -/
def State.commitWaits (s : State) (k : Nat) (b : Block) (i : Nat) : State :=
  let j := b.nextWait i
  if 128 ≤ j then s.modBlock k (fun b => { b with pos := .leave, waiting := none })
  else if s.reports k b then s.reportFrom k { b with pos := .waits j, waiting := none } 1 j
  else
    (s.modSlot k (fun sl => { sl with
      status := .waiting, block := some { b with pos := .waits j, waiting := some j } })).evalWait k j

/-- The wait a slot is in, when its instruction has a given opcode. -/
def Slot.waitsIn (sl : Slot) (op : Nat) : Option Nat :=
  match sl.status, sl.block with
  | .waiting, some b => b.waiting.bind (fun j => if opOf (b.word j) = op then some j else none)
  | _, _ => none

/-- Evaluate again the wait of an opcode that a slot is in. -/
def State.rewait (s : State) (k op : Nat) : State :=
  match (s.slot k).waitsIn op with
  | some j => s.evalWait k j
  | none => s

/-- The wait of a task that is being saved has completed: the image shows it behind it (15 R303; 19 R363). -/
def State.wakeSaved (s : State) (k : Nat) : State :=
  match (s.slot k).status, (s.slot k).block with
  | .saving _ _, some b =>
    (match b.waiting.bind (fun j => b.held.find? (fun c => c.idx = j && isWait (opOf (b.word j)))) with
      | none => s
      | some c =>
        match s.tryWait k (opOf (b.word c.idx)) c with
        | .pending s => s
        | .done s => s.modBlock k (fun b => { b with
            held := b.held.filter (fun q => q.idx != c.idx), waiting := none, fixedGen := none, pos := .waits (b.nextWait (c.idx + 1)) }))
  | _, _ => s

/-- The waits of a slot are evaluated again: an event that ends one does so in its cycle or the next (15 R303). -/
def State.wake (s : State) (k : Nat) : State :=
  match (s.slot k).status, (s.slot k).block with
  | .waiting, some b => (match b.waiting with
    | some j => s.evalWait k j
    | none => s)
  | _, _ => s.wakeSaved k

/-- The AWAITs that wait are evaluated again: what a STAMP ends, it ends before anything that comes after it in its cycle (15 R303). -/
def State.wakeAwaits (s : State) : State := (s.slots.map (fun e => e.1)).foldl (fun s k => (s.rewait k 0x6D).wakeSaved k) s

/-! ### Step 3: effects (R75) -/

/-- The next effect after index i: no wait. -/
def Block.nextEffect (b : Block) (i : Nat) : Option Nat :=
  leastFrom ((b.held.filter (fun c => !isWait (opOf (b.word c.idx)))).map (fun c => c.idx)) i

/-- FENCE, SBAR, CACHEOP and TLBOP say what the exit waits for, and stay held until it has come: a task saved meanwhile performs
them again (19 R363). -/
def settles (op : Nat) : Bool := op = 0x54 || op = 0x55 || op = 0x7A || op = 0x7B
/-- Perform an effect. -/
def State.performEffect (s : State) (k : Nat) (w : Word32) (c : Capture) : Perf :=
  match opOf w with
  | 0x54 => .done ((s.fenceHolds k w).foldl (fun s h => s.addHold k h) s) 0
  | 0x55 => .done (s.addHold k (s.sbarHold k c)) 0
  | 0x57 => commitSpawn s k c
  | 0x58 => commitJoindec s k c
  | 0x59 => commitGang s k c
  | 0x5A => commitRvinit s k c
  | 0x5B => commitArrive s k c
  | 0x5D => commitEst s k c
  | 0x5E => commitProgress s k c
  | 0x5F => commitGraphgo s k c
  | 0x60 => commitMload s k c
  | 0x61 => commitMstart s k c
  | 0x62 => commitMstop s k c
  | 0x63 => commitInject s k c
  | 0x65 => commitPour s k c
  | 0x67 => commitMxcfg s k c
  | 0x69 => commitSpalloc s k c
  | 0x6A => commitSpfree s k c
  | 0x6B => commitHmdecl s k c
  | 0x6C => commitStamp s k c
  | 0x6F => commitHmretire s k c
  | 0x70 => commitKvmap s k c
  | 0x71 => commitKvfork s k c
  | 0x72 => commitKvappend s k c
  | 0x73 => commitKvfree s k c
  | 0x75 => commitPfxlook s k c
  | 0x76 => commitPfxins s k c
  | 0x77 => commitSplice s k c
  | 0x78 => commitRepair s k c
  | 0x79 => commitKatt s k c
  | 0x7A => commitCacheop s k c
  | 0x7B => commitTlbop s k c
  | 0x7C => commitTrace s k c
  | 0x7D => commitMigrate s k c
  | 0x7E => commitHalt s k c
  | _ => .done s 0

/-- The line whose FULL or HELD an effect that waits is waiting on: the kind of the event, and the address (19 R373). -/
def State.effectLine (s : State) (w : Word32) (c : Capture) : Option (Nat × Nat) :=
  let empty (l : List Nat) (n : Nat) : Option (Nat × Nat) := (l.find? (fun a => s.padWaits a n)).map (fun a => (2, a))
  match opOf w with
  | 0x63 => if bitsOf c.r.toNat 16 16 = 1 then empty (beadAddrs c.grp) 16 else none
  | 0x65 => if bitsOf c.r.toNat 9 9 = 1 then empty [c.l.toNat] 64 else none
  | 0x6A =>
    let g := padLine c.l.toNat - 1
    ((List.range ((s.line g).extent.toNat + 2)).find? (fun i => 0 < (s.line (g + i)).holders)).map (fun i => (3, padAddr (g + i)))
  | 0x79 => empty [(c.grp.getD 0 0).toNat, (c.grp.getD 2 0).toNat] 64
  | _ => none

/-- An effect waits: the commit stands at it. Its first wait on an empty or a held line is traced. -/
def State.stallEffect (s : State) (k : Nat) (b : Block) (c : Capture) : State :=
  match b.waiting, s.effectLine (b.word c.idx) c with
  | none, some (kind, va) =>
    (s.trace (k / 8) 3 k (Config.traceKind kind) va).modBlock k (fun b => { b with pos := .effects c.idx, waiting := some c.idx })
  | _, _ => s.modBlock k (fun b => { b with pos := .effects c.idx })

/-- Perform the next part of step 3. An effect that must wait holds the block (R75), as one does that would write to a page being migrated
(21 R387). -/
def State.commitEffects (s : State) (k : Nat) (b : Block) (i : Nat) : State :=
  match b.nextEffect i with
  | none => s.modBlock k (fun b => { b with pos := .settle })
  | some j =>
    let w := b.word j
    match b.held.find? (fun c => c.idx = j) with
    | none => s
    | some c =>
      match s.performEffect k w c with
      | .stall => s.stallEffect k b c
      | .done t v =>
        if t.blockedSince s.nextWrite then s.stallEffect k b c
        else
          let keep := settles (opOf w)
          let t := (t.writeTarget k w v).modBlock k (fun b => { b with
            held := if keep then b.held else b.held.filter (fun c => c.idx != j), pos := .effects (j + 1), waiting := none })
          if opOf w = 0x6C then t.wakeAwaits else t

/-! ### What holds the exit (09 R145-R147; 07 R122, R123) -/

/-- Is what a hold waits for over, where no event of its own ends it? -/
def State.holdOver (s : State) (k : Nat) (h : Hold) : Bool :=
  match h with
  | .engines ops _ => (Smap.getD s.joins [] (s.slot k).uid).all (fun j => !ops.contains j.op || s.opOver j)
  | .streams accs => s.stageAccs.all (fun a => !accs.contains a.id)
  | _ => false

/-- What the end of a hold orders before the task's later accesses: of engines, what they accessed is visible to the task, and what the task
writes next releases it at the scope (R145). -/
def State.endHold (s : State) (k : Nat) (h : Hold) : State :=
  let a := s.agent k
  match h with
  | .engines ops scope =>
    let ids := ops.flatMap (fun o => s.past (.op o))
    let s := s.observe a.die a.party ids
    { s with fenced := s.fenced ++ (ids.filter (fun i => s.writes.any (fun r => r.id == i))).map (fun i => (a.party, i, .scope scope)) }
  | _ => s

/-- Between steps 3 and 4: the holds that are over go; when none is left the fences are done, and a block that held one is a
reporting point. -/
def State.commitSettle (s : State) (k : Nat) (b : Block) : State :=
  let s := (b.holds.filter (s.holdOver k)).foldl (fun s h => s.endHold k h) s
  let left := b.holds.filter (fun h => !s.holdOver k h)
  if !left.isEmpty then s.modBlock k (fun b => { b with holds := left })
  else
    let isFence (c : Capture) : Bool := opOf (b.word c.idx) = 0x54 || opOf (b.word c.idx) = 0x55
    let s := (b.held.filter (fun c => opOf (b.word c.idx) = 0x55)).foldl (fun s c => s.sbarOrder k c) s
    let fenced := b.held.any isFence
    let next := b.nextWait 0
    let b := { b with holds := [], held := b.held.filter (fun c => !settles (opOf (b.word c.idx))), pos := .waits next, waiting := none }
    if fenced && s.reports k b then s.reportFrom k b 1 next else s.setBlock k b

/-! ### The events that end waits -/

/-- WAIT_PHASE_REACHED (15 R285). -/
def execWaitPhaseReached (slot : Nat) (s : State) : Out := .next (s.rewait slot 0x5C)
/-- AWAIT_COMPLETE (15 R298). -/
def execAwaitComplete (slot : Nat) (s : State) : Out := .next (s.rewait slot 0x6D)
/-- PJOIN_COMPLETE (13 R251). -/
def execPjoinComplete (slot : Nat) (s : State) : Out := .next (s.rewait slot 0x66)
/-- MXJOIN_COMPLETE (13 R238). -/
def execMxjoinComplete (slot : Nat) (s : State) : Out := .next (s.rewait slot 0x68)

/-! ### Step 5: the exit (R75; 07 R109-R115) -/

/-- The operations a block has forked no longer stand at an index of the block in flight. -/
def State.forget (s : State) (k : Nat) : State :=
  let uid := (s.slot k).uid
  { s with joins := Smap.put s.joins [] uid ((Smap.getD s.joins [] uid).map (fun j => { j with idx := 0 })) }

/-- Take the exit. EXIT and YIELD enter their join: the task's moulds are drained (11 R217), and a join with nothing to wait for
is over at once (01 R25). -/
def State.commitLeave (s : State) (k : Nat) (b : Block) : State :=
  match b.exit with
  | none => s
  | some (i, e) =>
    let s := s.trace (k / 8) 1 k (opOf (b.word i)) (b.succOf e).toNat
    let s := s.forget k
    let join (s : State) (st : SlotStatus) : State :=
      (s.modSlot k (fun sl => { sl with status := st, block := some { b with waiting := some 128 } })).drainTask (s.slot k).uid
    match e with
    | .goto a => s.modSlot k (fun sl => { sl with
        pc := a, block := none, arrival := if b.handler then .fromHandler else .normal })
    | .eret => s.returnFromTrap k
    | .exit =>
      let s := join s .exitJoin
      if s.joinDone (s.slot k).uid then s.finishExit k else s
    | .yield =>
      let s := join s .yieldJoin
      if s.joinDone (s.slot k).uid then s.finishYield k else s

/-! ### The events of a commit -/

/-- BLOCK_COMMIT (R73-R75): a completed block takes the next part of its commit; one with no exit faults. -/
def execBlockCommit (slot : Nat) (s : State) : Out :=
  let sl := s.slot slot
  match sl.status, sl.block with
  | .running, some b =>
    .next (match b.pos with
      | .firing =>
        if !b.quiescent sl then s
        else if b.exit.isSome then s.commitRegisters slot b
        else s.faultBlock slot b cBlockNoexit
      | .writes i => if b.waiting.isSome then s else s.commitWrites slot b i
      | .effects i => s.commitEffects slot b i
      | .settle => s.commitSettle slot b
      | .waits i => s.commitWaits slot b i
      | .leave => s.commitLeave slot b)
  | _, _ => .next s

/-- The buffered write a slot's commit is waiting to perform. -/
def Slot.stalled (sl : Slot) : Option (Block × StoreEntry) :=
  match sl.status, sl.block with
  | .running, some b =>
    (match b.pos, b.waiting with
      | .writes _, some j => (b.stores.find? (fun e => e.idx = j)).map (fun e => (b, e))
      | _, _ => none)
  | _, _ => none

/-- BUFFERED_WRITE_RESUME (09 R140): a waiting write is tried again. -/
def execBufferedWriteResume (slot : Nat) (s : State) : Out :=
  match (s.slot slot).stalled with
  | some (b, e) => .next (s.commitWrites slot b e.idx)
  | none => .next s

/-- WB_REWALK (21 R386): a write waiting on a write-blocked page walks its entry again. -/
def execWbRewalk (slot : Nat) (s : State) : Out :=
  match (s.slot slot).stalled with
  | some (b, e) =>
    (match s.translate (slot / 8) e.addr.toNat with
      | (.ok t, s2) =>
        if isPad e.addr.toNat || !t.wb then .next s
        else .next ((s2.dropTlb (slot / 8) e.addr.toNat).commitWrites slot b e.idx)
      | (.error _, _) => .next s)
  | none => .next s

/-- MXCFG_ARM (13 R235): a MXCFG whose turn has come in step 3 arms its entry, once that is free. -/
def execMxcfgArm (slot : Nat) (s : State) : Out :=
  let sl := s.slot slot
  match sl.status, sl.block with
  | .running, some b =>
    (match b.pos with
      | .effects i =>
        (match b.nextEffect i with
          | some j => .next (if opOf (b.word j) = 0x67 then s.commitEffects slot b i else s)
          | none => .next s)
      | _ => .next s)
  | _, _ => .next s

/-! ### Holds that an event ends -/

/-- The holds of the block a slot is committing. -/
def Slot.settling (sl : Slot) : List Hold :=
  match sl.status, sl.block with
  | .running, some b => if b.pos = .settle then b.holds else []
  | _, _ => []
/-- End the holds of one kind: each has its effect, and goes. -/
def State.endHolds (s : State) (k : Nat) (f : State → Hold → Option State) : State :=
  (s.slot k).settling.foldl (fun s h =>
    match f s h with
    | some s => s.modBlock k (fun b => { b with holds := b.holds.erase h })
    | none => s) s
/-- SHOOTDOWN_COMPLETE (07 R123): once every write translated through a removed entry has landed. -/
def execShootdownComplete (slot : Nat) (s : State) : Out :=
  .next (s.endHolds slot (fun s h => match h with
    | .shootdown p => if s.unlanded p then none else some (s.shootdownBy (s.agent slot).party p)
    | _ => none))
/-- BLOCK_INVALIDATE_COMPLETE (07 R122). -/
def execBlockInvalidateComplete (slot : Nat) (s : State) : Out :=
  .next (s.endHolds slot (fun s h => match h with
    | .invalidate g => some (s.invalidateBy (s.agent slot).party (slot / 256) g)
    | _ => none))
/-- FENCE_SC_COMPLETE (09 R160): the fence takes its place in the total order, and what its issuer performed or read before is
visible on the dies of its scope. -/
def execFenceScComplete (slot : Nat) (s : State) : Out :=
  .next (s.endHolds slot (fun s h => match h with
    | .fenceSc deps dies => some (s.revealOn dies deps)
    | _ => none))

/-! ### Special registers, by event (07 R108; 19 R367, R370, R374) -/

/-- SPECIAL_REGISTER_WRITE: a completed block writes a register that has no event of its own. -/
def execSpecialRegisterWrite (slot : Nat) (s : State) : Out :=
  .next (s.commitWriting slot (fun n _ => n != 0x200A && n != 0x200B && n != 0x200D))
/-- SLOTCTL_THAW. -/
def execSlotctlThaw (slot : Nat) (s : State) : Out :=
  .next (s.commitWriting slot (fun n v => n = 0x200B && v.toNat / 2 ^ 62 = 0))
/-- SLOTCTL_KILL. -/
def execSlotctlKill (slot : Nat) (s : State) : Out :=
  .next (s.commitWriting slot (fun n v => n = 0x200B && v.toNat / 2 ^ 62 = 1))
/-- SLOTCTL_REQUEUE. -/
def execSlotctlRequeue (slot : Nat) (s : State) : Out :=
  .next (s.commitWriting slot (fun n v => n = 0x200B && v.toNat / 2 ^ 62 = 2))
/-- CTXSW_SAVE. -/
def execCtxswSave (slot : Nat) (s : State) : Out :=
  .next (s.commitWriting slot (fun n v => n = 0x200A && bitsOf v.toNat 6 6 = 0))
/-- CTXSW_RESTORE. -/
def execCtxswRestore (slot : Nat) (s : State) : Out :=
  .next (s.commitWriting slot (fun n v => n = 0x200A && bitsOf v.toNat 6 6 = 1))
/-- TRACECTL_FREEZE. -/
def execTracectlFreeze (slot : Nat) (s : State) : Out :=
  .next (s.commitWriting slot (fun n v => n = 0x200D && bitsOf v.toNat 15 15 = 1))
/-- TRACECTL_THAW. -/
def execTracectlThaw (slot : Nat) (s : State) : Out :=
  .next (s.commitWriting slot (fun n v => n = 0x200D && bitsOf v.toNat 15 15 = 0))

/-! ### Reports of other devices, and links that are gone (15 R300; 21 R390) -/

/-- A remote HMTEST a slot has fired and that has had no answer. -/
def State.remoteTest (s : State) (k idx : Nat) : Option Firing :=
  match (s.slot k).block with
  | some b =>
    if !(s.slot k).firing b then none
    else (b.replay.find? (fun c => c.idx = idx && opOf (b.word idx) = 0x6E && selRemote c.r.toNat)).map
      (fun c => { slot := k, idx := idx, b := b, cap := c })
  | none => none
/-- A remote AWAIT at an index that a slot is in. -/
def Slot.remoteAwait (sl : Slot) (idx : Nat) : Bool :=
  match sl.waitsIn 0x6D, sl.block with
  | some j, some b => j = idx && b.held.any (fun c => c.idx = idx && selRemote c.r.toNat)
  | _, _ => false
/-- REMOTE_HALLMARK_REPORT: the owning device's answer, laid out as this device gives its own. -/
def execRemoteHallmarkReport (slot idx : Nat) (answer : BitVec 64) (s : State) : Out :=
  let sl := s.slot slot
  let ans := answer.toNat
  if s.links.isEmpty then .next s
  else match s.remoteTest slot idx with
    | some x =>
      .next (match remoteFault ans with
        | some c => x.fault c s
        | none => x.finish (targets (x.b.word idx)) (testWord (ans % 2 = 1) false (BitVec.ofNat 16 (ans / 65536))) s)
    | none =>
      if !sl.remoteAwait idx then .next s
      else match remoteFault ans with
        | some c => .next ((s.commitFault slot idx c).endWait slot idx true)
        | none => .next (if ans % 2 = 1 then s.endWait slot idx false else s)
/-- LINK_FAULT of a write whose path is gone: it is not made (19 R350; 21 R390). The result of an atomic is free. -/
def State.dropWrite (s : State) (k : Nat) (b : Block) (e : StoreEntry) (pa : Nat) : State :=
  let a := s.agent k
  let s := s.recordImp a.die (s.slot k).uid a.party (impRec cLinkFault 9 a.ctx pa (bitsOf pa 49 32) 0)
  (s.writeTarget k (b.word e.idx) (Config.freeWord s.tick 0)).modBlock k (fun b => { b with
    stores := b.stores.filter (fun q => q.idx != e.idx), pos := .writes (e.idx + 1), waiting := none })
/-- The physical address an address leads to, when there is no path to it. -/
def State.cutAddr (s : State) (k va : Nat) : Option Nat × State :=
  if !sliced va || bitsOf va 55 48 = 0xFE then (none, s)
  else match s.translate (k / 8) va with
    | (.ok t, s) => (if s.hasPath t.pa then none else some t.pa, s)
    | (.error _, s) => (none, s)
/-- LINK_PATH_TIMEOUT (21 R390): an access of a slot, at an index, has had no path for 10 ms; index 255 is the fetch of its
block. A read and a fetch fault precisely, a write imprecisely. -/
def execLinkPathTimeout (slot idx : Nat) (s : State) : Out :=
  let sl := s.slot slot
  match sl.stalled with
  | some (b, e) =>
    (match s.cutAddr slot e.addr.toNat with
      | (some pa, s) => .next (if e.idx = idx then s.dropWrite slot b e pa else s)
      | (none, s) => .next s)
  | none =>
    if sl.fetches && idx = 255 then
      let s0 := s
      let s := s.restoreBound slot
      let sl := s.slot slot
      (match s.cutAddr slot sl.pc.toNat with
        | (some _, s) =>
          if !sl.fetches then .next s
          else
            let s := s.modSlot slot (fun sl => { sl with status := .running, popped := none, resume := none })
            .next (s.takeTrap slot (blockAt sl.pc false (sl.ctxid == 0)) false cLinkFault 0xFF 0 0 0x80)
        | (none, _) => .next s0)
    else match (if s.links.isEmpty then s.remoteTest slot idx else none) with
      | some x => .next (x.fault cLinkFault s)
      | none =>
        if s.links.isEmpty && sl.remoteAwait idx then .next ((s.commitFault slot idx cLinkFault).endWait slot idx true)
        else match sl.block with
          | none => .next s
          | some b =>
            match b.reads.find? (fun r => r.cap.idx = idx) with
            | none => .next s
            | some r =>
              (match s.cutAddr slot r.addr.toNat with
                | (some _, s) =>
                  .next (if sl.firing b then ({ slot := slot, idx := idx, b := b, cap := r.cap } : Firing).fault cLinkFault s else s)
                | (none, s) => .next s)

end Sys2Proof.Machine
end

