-- ==== Sys2Proof/Machine/Control.lean ====
section
/-! DEFINITION. Exits and TRAP (07 R109-R115): an exit is chosen at fire and taken in commit step 5. -/

namespace Sys2Proof.Machine

/-- Successor at a J-format offset (R110). -/
def jump (b : Block) (o : BitVec 23) : Addr := b.addr + (o.signExtend 56 <<< 3)

/-- BRI (R110). -/
def execBri (p : BitVec 2) (o : BitVec 23) (s : State) : Out :=
  fire (formNone p) (fun x s => x.leave (.goto (jump x.b o)) false s) s

/-- CALLI (R110): also writes the link to s63 at commit. -/
def execCalli (p : BitVec 2) (o : BitVec 23) (s : State) : Out :=
  fire (formNone p) (fun x s => x.leave (.goto (jump x.b o)) true s) s

/-- Is L a block address (R111)? -/
def blockAddr (l : Word) : Bool := l.toNat % 8 = 0 && l.toNat < 2 ^ 56

/-- BR (R111): a bad address is ALIGN, of a second exit too: the manual does not order the two (DESIGN CHOICE, log entry 32). -/
def execBr (p : BitVec 2) (l _ : BitVec 7) (s : State) : Out :=
  fire (formL p l) (fun x s =>
    if blockAddr x.cap.l then x.leave (.goto (x.cap.l.truncate 56)) false s else x.fault cAlign s) s

/-- CALL (R111): BR that also writes the link to s63 at commit, with the same order of its faults (DESIGN CHOICE, log entry 32). -/
def execCall (p : BitVec 2) (l _ : BitVec 7) (s : State) : Out :=
  fire (formL p l) (fun x s =>
    if blockAddr x.cap.l then x.leave (.goto (x.cap.l.truncate 56)) true s else x.fault cAlign s) s

/-- EXIT (R112). -/
def execExit (p : BitVec 2) (_ _ : BitVec 7) (s : State) : Out :=
  fire (formNone p) (fun x s => x.leave .exit false s) s

/-- YIELD (R113). -/
def execYield (p : BitVec 2) (_ _ : BitVec 7) (s : State) : Out :=
  fire (formNone p) (fun x s => x.leave .yield false s) s

/-- ERET (R115). It stands in handler blocks alone: elsewhere the fetch refuses the block (R68). -/
def execEret (p : BitVec 2) (_ _ : BitVec 7) (s : State) : Out :=
  fire (formNone p) (fun x s => x.leave .eret false s) s

/-- TRAP (R114): the block faults with cause TRAP and CODE IMM14; the TRAP counts as fired and finished. -/
def execTrap (p : BitVec 2) (i : BitVec 14) (s : State) : Out :=
  fire (formNone p) (fun x s => s.faultAt x.slot x.b x.idx cTrap i.toNat none) s

end Sys2Proof.Machine
end

