-- ==== Sys2Proof/Machine/Float.lean ====
section
/-! DEFINITION. The FP32 instructions of the sequencer (07 R117-R120): class Value, under RNE. -/

namespace Sys2Proof.Machine

/-- fbits (R90): an FP32 encoding, zero-extended. -/
def fbits (x : Nat) : Word := BitVec.ofNat 64 x

/-- FADD (R117, R118). -/
def execFadd (p : BitVec 2) (t : BitVec 9) (l r : BitVec 7) (s : State) : Out :=
  fireValue (formR p l r) [t.toNat] (fun l r _ => fbits (fpAdd .rne (fval l) (fval r))) s

/-- FSUB (R117, R118). -/
def execFsub (p : BitVec 2) (t : BitVec 9) (l r : BitVec 7) (s : State) : Out :=
  fireValue (formR p l r) [t.toNat] (fun l r _ => fbits (fpSub .rne (fval l) (fval r))) s

/-- FMUL (R117, R118). -/
def execFmul (p : BitVec 2) (t : BitVec 9) (l r : BitVec 7) (s : State) : Out :=
  fireValue (formR p l r) [t.toNat] (fun l r _ => fbits (fpMul .rne (fval l) (fval r))) s

/-- FDIV (R117, R118). -/
def execFdiv (p : BitVec 2) (t : BitVec 9) (l r : BitVec 7) (s : State) : Out :=
  fireValue (formR p l r) [t.toNat] (fun l r _ => fbits (fpDiv .rne (fval l) (fval r))) s

/-- FMIN (R39, R118). -/
def execFmin (p : BitVec 2) (t : BitVec 9) (l r : BitVec 7) (s : State) : Out :=
  fireValue (formR p l r) [t.toNat] (fun l r _ => fbits (fpMin (fval l) (fval r))) s

/-- FMAX (R39, R118). -/
def execFmax (p : BitVec 2) (t : BitVec 9) (l r : BitVec 7) (s : State) : Out :=
  fireValue (formR p l r) [t.toNat] (fun l r _ => fbits (fpMax (fval l) (fval r))) s

/-- FCLT (R117, R118). -/
def execFclt (p : BitVec 2) (t : BitVec 9) (l r : BitVec 7) (s : State) : Out :=
  fireValue (formR p l r) [t.toNat] (fun l r _ => flagFlt l r) s

/-- FCEQ (R117, R118). -/
def execFceq (p : BitVec 2) (t : BitVec 9) (l r : BitVec 7) (s : State) : Out :=
  fireValue (formR p l r) [t.toNat] (fun l r _ => flagFeq l r) s

/-- FCLE (R117, R118). -/
def execFcle (p : BitVec 2) (t : BitVec 9) (l r : BitVec 7) (s : State) : Out :=
  fireValue (formR p l r) [t.toNat] (fun l r _ => flagFle l r) s

/-- CVTIF (R119). -/
def execCvtif (p : BitVec 2) (t : BitVec 9) (l _ : BitVec 7) (s : State) : Out :=
  fireValue (formL p l) [t.toNat] (fun l _ _ => fbits (fp32.round .rne (Val.ofInt l.toInt))) s

/-- CVTFI (R119). -/
def execCvtfi (p : BitVec 2) (t : BitVec 9) (l _ : BitVec 7) (s : State) : Out :=
  fireValue (formL p l) [t.toNat] (fun l _ _ => BitVec.ofInt 64 ((fp32.decode (fval l)).toInt .rne 64)) s

/-- FSQRT (R120). -/
def execFsqrt (p : BitVec 2) (t : BitVec 9) (l _ : BitVec 7) (s : State) : Out :=
  fireValue (formL p l) [t.toNat] (fun l _ _ => fbits (fp32.round .rne (fp32.decode (fval l)).sqrt)) s

end Sys2Proof.Machine
end

