-- ==== Sys2Proof/Machine/Watch.lean ====
section
/-! DEFINITION. The watchdog (19 R368, R369), the scrubber (R371, R372), the end of a trace (R374), and the saving and restoring
of contexts (R366, R367). -/

namespace Sys2Proof.Machine

/-! ### The watchdog -/

/-- Does the watchdog act on a slot: does it hold a task that is neither frozen nor being saved (R368, R375)? -/
def Slot.watchable (sl : Slot) : Bool :=
  sl.task.isSome && match sl.status with
    | .idle => false
    | .frozen _ => false
    | .saving _ _ => false
    | _ => true
/-- Have counts come to their end, at an interval (R369)? PERSIST is bit 2 of FLAGS. -/
def Slot.expired (sl : Slot) (wd w t : Nat) : Bool :=
  sl.watchable && (wd ≤ w || (!(sl.task.map (fun t => t.flags.getLsbD 2)).getD false && 256 * wd ≤ t))
/-- What a watchdog does to the task of a slot, with the counts at which it fires (R369): the task is checkpointed where CKPT, bit 1 of
FLAGS, is 1 and the pool gives an image, which is not pushed, and frozen else; WATCHDOG is queued, and W is reset. -/
def State.watchdogTake (s : State) (slot w t : Nat) : State :=
  let sl := s.slot slot
  let d := slot / 256
  let got := if (sl.task.map (fun t => t.flags.getLsbD 1)).getD false then s.takeImage d else (none, s)
  let note (s : State) (addr : Nat) : State :=
    s.pushFault d (.task sl.uid) { impRec cWatchdog 8 sl.ctxid addr w t with owner := some slot }
  let s := got.2.modSlot slot (fun sl => { sl with wCount := 0, due := none })
  match got.1 with
  | some (img, pa) => (note s img).saveTask slot img pa
  | none => (note s sl.taskrec.toNat).modSlot slot (fun sl => { sl with status := .frozen false })
/-- The watchdog of a slot whose counts a cycle has brought to their end fires (R369): a wait whose object is ready has ended first, and a
task bound to an image is restored first. A checkpoint to a page that is being migrated waits (21 R387). -/
def State.watchdogFire (s : State) (slot : Nat) : State :=
  match (s.slot slot).due with
  | none => s
  | some (w, t) =>
    let r := (s.wake slot).restoreBound slot
    if !(r.slot slot).watchable then r.modSlot slot (fun sl => { sl with due := none })
    else
      let u := r.watchdogTake slot w t
      if u.blockedSince s.nextWrite then s else u

/-- WATCHDOG_FIRE (R369). -/
def execWatchdogFire (slot : Nat) (s : State) : Out := .next (s.watchdogFire slot)

/-! ### The trace -/

/-- TRACE_POST_FREEZE (R374): POST records have followed the trigger. -/
def execTracePostFreeze (bay : Nat) (s : State) : Out := .next (if (s.bay bay).postLeft = some 0 then s.freezeTrace bay else s)

/-! ### The scrubber -/

/-- The die of what a scrub reads, by row of R372: a window address, a slot, a mould (die * 64 + entry), an accumulator slot (bay * 4
+ slot), a line, a physical address, or scheduler memory, which is on D0. Of a slot's state the address names a granule too: slot +
1024 * granule, a register by its number, or an operand waiting in the block by 64 + instruction * 3 + slot. -/
def scrubDie (kind addr : Nat) : Nat :=
  match kind with
  | 0 => padBay addr / 32
  | 1 => addr % 1024 / 256
  | 2 => addr / 64
  | 3 => addr / 128
  | 4 => paStack addr / 2
  | 5 => paStack addr / 2
  | _ => 0
/-- Does the array have this place? -/
def State.scrubbed (s : State) (kind addr : Nat) : Bool :=
  match kind with
  | 0 => isPad addr && !padState addr && s.padOk addr && addr % 8 = 0
  | 1 => addr < 1024 * 448
  | 2 => (s.mould (addr / 64) (addr % 64)).isSome
  | 3 => addr < 512
  | 4 => paType addr = 0 && paPackageOk addr
  | 5 => paType addr = 0 && paPackageOk addr && addr % 8 = 0 && !s.lost addr
  | 6 => addr % 0x100000 < 0x80800 && addr < 0x200000
  | _ => false
/-- The scrubber's find, queued to a context's queue. ADDR of an array that has no addresses is free (log entry 16). -/
def State.scrubNote (s : State) (kind addr : Nat) (ctx : BitVec 6) : State :=
  let d := scrubDie kind addr
  let a := if kind = 0 || kind = 5 then addr else (Config.freeWord s.tick 0).toNat
  s.pushFault d (.device d) (impRec cUncorrectable 7 ctx a kind 0)
/-- Poison the 8-byte granule of an address. -/
def State.poisonAt (s : State) (addr : Nat) : State :=
  { s with poison := if s.poison.contains (addr / 8) then s.poison else s.poison ++ [addr / 8] }
/-- Mark every value of an accumulator slot. -/
def State.spoilSlot (s : State) (slot : Nat) : State :=
  { s with accs := (List.range 16384).foldl (fun m i => Smap.put m 0 (slot * 16384 + i) 0x7FC00000) s.accs }
/-- The entry whose slots include one of a bay. -/
def State.slotUser (s : State) (bay slot : Nat) : Option MxEntry :=
  ((s.bay bay).mx.find? (fun q => q.2.form.slot ≤ slot && slot < q.2.form.slot + q.2.form.slots)).map (fun q => q.2)
/-- The records that wait are delivered again, in their order: each as if pushed now (21 R396, R397). -/
def State.redeliver (s : State) : State :=
  [0, 1, 2, 3].foldl (fun s d => s.modDie d (fun x => { x with
    queue := x.queue.map (fun e => { e with pushedAt := s.cycle, waitFrom := s.cycle }) })) s
/-- An uncorrectable error, in each array (R371, R372). -/
def State.uncorrectable (s : State) (kind addr : Nat) : State :=
  match kind with
  | 0 => (s.poisonAt addr).scrubNote kind addr (s.line (padLine addr)).owner
  | 1 =>
    let k := addr % 1024
    let sl := s.slot k
    if sl.task.isNone then s
    else
      let s := (s.restoreBound k).scrubNote kind k sl.ctxid
      s.modSlot k (fun sl => { sl with
        badRegs := if addr / 1024 = 0 || sl.badRegs.contains (addr / 1024) then sl.badRegs else sl.badRegs ++ [addr / 1024]
        status := if sl.isFrozen then sl.status else .frozen false })
  | 2 => (match s.mould (addr / 64) (addr % 64) with
    | none => s
    | some m => (s.scrubNote kind addr m.ctx).abortMould (addr / 64) (addr % 64))
  | 3 => (match s.slotUser (addr / 4) (addr % 4) with
    | none => s.spoilSlot addr
    | some e => (List.range e.form.slots).foldl (fun s i => s.spoilSlot (addr / 4 * 4 + e.form.slot + i)) (s.scrubNote kind addr e.ctx))
  | 4 =>
    let d := scrubDie kind addr
    let s := (List.range 128).foldl (fun s b => s.modBay b (fun y => { y with
      bcache := y.bcache.filter (fun (e : Nat × Word32) => e.1 / 128 != addr / 128)
      l1 := y.l1.filter (fun l => l != addr / 128) })) s
    if Smap.find (s.die d).lines (addr / 128) = some false then s.evict d (addr / 128) else s
  | 5 => (s.poisonAt addr).scrubNote kind addr 0
  | _ => if addr < 0x100000 && 2 ≤ s.mirrors.length then s else (s.scrubNote kind addr 0).redeliver
/-- SCRUB (R371, R372): the scrubber meets an error in an array. A correctable one is repaired and counted. Of scheduler memory the address is
an offset in it, with bit 20 set where both copies of the word have failed (21 R396); one failed copy is corrected from the other. -/
def execScrub (kind addr : Nat) (correctable : Bool) (s : State) : Out :=
  if !s.scrubbed kind addr then .next s
  else if correctable then
    .next (s.modDie (scrubDie kind addr) (fun x => { x with cecount := BitVec.ofNat 32 (min 0xFFFFFFFF (x.cecount.toNat + 1)) }))
  else .next (s.uncorrectable kind addr)

/-! ### Saving a context (R366) -/

/-- Objects a save area holds. -/
def SavedCtx.size (w : SavedCtx) : Nat := w.images.length + w.moulds.length + w.entries.length + w.transfers.length
/-- Where the next object of a save goes. -/
def CtxSwitch.place (w : CtxSwitch) : Nat := areaPlace w.area w.saved.size
def State.setSwitch (s : State) (w : CtxSwitch) : State := { s with ctxSwitch := some w }
/-- Bytes whose form is the implementation's own: free (log entry 17). -/
def freeBytes (tick n : Nat) : List Byte := (List.range ((n + 7) / 8)).flatMap (fun i => bytesOf 8 (Config.freeWord tick i).toNat)
/-- Bytes at an offset of an area, in parts that lie in one page each. -/
def areaRuns (off : Nat) (bs : List Byte) : List (Nat × List Byte) :=
  (List.range ((bs.length + 4095) / 4096)).map (fun i => (off + 4096 * i, (bs.drop (4096 * i)).take 4096))
/-- Write runs of an area through the die's table: none when a page has no translation, or its memory is lost. -/
def State.writeRuns (s : State) (w : CtxSwitch) (runs : List (Nat × List Byte)) : Option State :=
  runs.foldl (fun acc r => acc.bind (fun s =>
    match s.deviceAddr w.die (w.area + r.1) with
    | (.error _, _) => none
    | (.ok pa, s) => if s.lost pa then none else some ((s.touchRun w.die pa r.2.length true).storeRun (.device w.die) pa r.2))) (some s)
/-- End a save or a restore: BUSY clears, and ERR tells that it failed. A failed save keeps what it has saved. -/
def State.endSwitch (s : State) (w : CtxSwitch) (failed : Bool) : State :=
  let s := { s with ctxSwitch := none, ctxsw := (s.ctxsw &&& ~~~(0x100 : Word)) ||| (if failed then 0x80 else 0) }
  if w.restore then
    if failed then s
    else { s with savedCtx := Smap.erase s.savedCtx w.area, stoppedCtx := s.stoppedCtx.filter (fun c => c != w.ctx) }
  else { s with savedCtx := Smap.insert s.savedCtx w.area w.saved }
/-- Slots that hold a task of the context, but for those that a REPAIR runs. -/
def State.ctxSlots (s : State) (c : BitVec 6) : List Nat :=
  (s.slots.filter (fun e => e.2.task.isSome && e.2.ctxid == c && !s.kvops.any (fun o => o.2.task == some e.2.taskrec))).map (fun e => e.1)
/-- May a task be saved as it stands: not in its exit join, which it completes first, and in no checkpoint (R366)? -/
def Slot.ctxSavable (sl : Slot) : Bool :=
  match sl.status with
  | .exitJoin => false
  | .saving _ _ => false
  | _ => true
/-- Moulds of a context, by die. -/
def State.ctxMoulds (s : State) (c : BitVec 6) : List (Nat × Nat × Mould) :=
  ([0, 1, 2, 3] : List Nat).flatMap (fun d => ((s.die d).moulds.filter (fun e => e.2.ctx == c)).map (fun e => (d, e.1, e.2)))
/-- Stop the stages of a context's moulds. -/
def State.stopMoulds (s : State) (c : BitVec 6) : State :=
  (s.ctxMoulds c).foldl (fun s (e : Nat × Nat × Mould) => s.modMould e.1 e.2.1 (fun m =>
    if m.present && m.state.started then { m with switching := true } else m)) s
/-- Has a mould stopped: no load, no abort, no access outstanding? -/
def State.mouldStill (s : State) (e : Nat × Nat × Mould) : Bool :=
  e.2.2.state != .loading && e.2.2.state != .aborting && (s.accsOf e.1 e.2.1).isEmpty
/-- Entries of a context, by bay. -/
def State.ctxEntries (s : State) (c : BitVec 6) : List (Nat × Nat × MxEntry) :=
  (List.range 128).flatMap (fun b => ((s.bay b).mx.filter (fun e => e.2.ctx == c)).map (fun e => (b, e.1, e.2)))
/-- Values of an entry's slots. -/
def State.slotValues (s : State) (b : Nat) (e : MxEntry) : List (Nat × Word32) :=
  let lo := (b * 4 + e.form.slot) * 16384
  s.accs.filter (fun (q : Nat × Word32) => lo ≤ q.1 && q.1 < lo + e.form.slots * 16384)
/-- The first transfer of a context, with its bay and channel. -/
def State.ctxTransfer (s : State) (c : BitVec 6) : Option (Nat × Nat × Transfer) :=
  (List.range 1024).findSome? (fun i => ((s.chan (i / 8) (i % 8)).queue.find? (fun x => x.ctx == c)).map (fun x => (i / 8, i % 8, x)))
/-- Save one object, at the place that comes next; the save fails where the area has no translation. -/
def State.saveObject (s : State) (w : CtxSwitch) (f : State → SavedCtx → State × SavedCtx) : State :=
  let runs := areaRuns (w.place - w.area) (freeBytes s.tick 0x4000)
  match s.writeRuns w runs with
  | none => s.endSwitch w true
  | some s =>
    let r := f s w.saved
    r.1.setSwitch { w with saved := { r.2 with runs := r.2.runs ++ runs } }
/-- Save a task, its image at the place that comes next (R362). -/
def State.saveImage (s : State) (w : CtxSwitch) (k : Nat) : State :=
  match s.deviceAddr w.die w.place with
  | (.error _, s) => s.endSwitch w true
  | (.ok pa, s) =>
    if s.lost pa then s.endSwitch w true
    else
      (({ s with areaImages := s.areaImages ++ [w.place] } : State).saveTask k w.place pa).setSwitch
        { w with saved := { w.saved with images := w.saved.images ++ [w.place] } }
/-- The kinds of the objects of a save area, in their order: 1 a task, 2 a mould, 3 an entry, 4 a transfer (log entry 17). -/
def SavedCtx.kinds (w : SavedCtx) : List Nat :=
  List.replicate w.images.length 1 ++ List.replicate w.moulds.length 2 ++ List.replicate w.entries.length 3 ++
    List.replicate w.transfers.length 4
/-- The directory of a save area: the size, the count, and for each object its kind and its offset, 8 bytes each (R366; log entry 17). -/
def State.writeDirectory (s : State) (w : CtxSwitch) : State :=
  let entry (i kind : Nat) : List Byte := bytesOf 8 kind ++ bytesOf 8 (areaPlace w.area i - w.area)
  let runs := areaRuns 0 (bytesOf 8 (w.place - w.area) ++ bytesOf 4 w.saved.size ++
    (List.range w.saved.size).flatMap (fun i => entry i (w.saved.kinds.getD i 0)))
  match s.writeRuns w runs with
  | none => s.endSwitch w true
  | some s => s.endSwitch { w with saved := { w.saved with runs := w.saved.runs ++ runs } } false
/-- The next step of a save: tasks, then, when splices, repairs, attentions and migrations are over, moulds, entries and transfers. -/
def State.saveStep (s : State) (w : CtxSwitch) : State :=
  let c := w.ctx
  let ks := s.ctxSlots c
  match ks.find? (fun k => (s.slot k).ctxSavable) with
  | some k =>
    -- A wait that is over ends before the task is saved (15 R303).
    let s := (s.wake k).restoreBound k
    if (s.slot k).task.isNone || !(s.slot k).ctxSavable then s else s.saveImage w k
  | none =>
    if !ks.isEmpty || !s.ctxHeld c then s
    else
      let s := s.stopMoulds c
      let ms := s.ctxMoulds c
      match ms.find? s.mouldStill with
      | some (d, e, m) =>
        s.saveObject w (fun s v => (((s.freeSpill m).modDie d (fun x => { x with moulds := Smap.erase x.moulds e })).resume d m.loadOrder,
          { v with moulds := v.moulds ++ [(d, e, { m with present := false, switching := false, spill := [] })] }))
      | none =>
        if !ms.isEmpty then s
        else
          let es := s.ctxEntries c
          match es.find? (fun e => e.2.2.passes.isEmpty) with
          | some (b, i, e) =>
            s.saveObject w (fun s v => (s.modBay b (fun y => { y with mx := Smap.erase y.mx i }),
              { v with entries := v.entries ++ [(b, i, e, s.slotValues b e)] }))
          | none =>
            if !es.isEmpty then s
            else match s.ctxTransfer c with
              | some (b, ch, x) =>
                s.saveObject w (fun s v =>
                  (s.setChan b ch { s.chan b ch with queue := (s.chan b ch).queue.filter (fun y => y.op != x.op) },
                    { v with transfers := v.transfers ++ [(b, ch, x)] }))
              | none => s.writeDirectory w

/-! ### Restoring a context -/

/-- Requeue the first image of a restore, with those of its gang. -/
def State.restoreImages (s : State) (w : CtxSwitch) (img : Nat) (rest : List Nat) : State :=
  let done (s : State) (l : List Nat) : State := s.setSwitch { w with saved := { w.saved with images := l } }
  match Smap.find s.parked img with
  | none => done s rest
  | some t =>
    match t.gang with
    | none => done (s.pushImage t.qDie img) rest
    | some g =>
      let mine (i : Nat) : Bool := (Smap.find s.parked i).any (fun q => q.gang == some g)
      let members := (img :: rest).filter mine
      let s := if [0, 1, 2, 3].any (fun d => (s.gangOf d g).isSome) then
          s.requeueGang g (members.filterMap (fun i => (Smap.find s.parked i).map (s.imageEntry i))) t.qLevel 3 false
        else members.foldl (fun s i => s.pushImage t.qDie i) s
      done s (rest.filter (fun i => !mine i))
/-- Is a tile's entry, and are its slots, free? -/
def State.entryRoom (s : State) (b i : Nat) (e : MxEntry) : Bool :=
  !Smap.has (s.bay b).mx i &&
    !(s.bay b).mx.any (fun q => q.2.form.slot < e.form.slot + e.form.slots && e.form.slot < q.2.form.slot + q.2.form.slots)
/-- The next step of a restore: whatever can return does; popping resumes when all has. -/
def State.restoreStep (s : State) (w : CtxSwitch) : State :=
  let v := w.saved
  match v.images with
  | img :: rest => s.restoreImages w img rest
  | [] =>
    match v.moulds.find? (fun e => !Smap.has (s.die e.1).moulds e.2.1) with
    | some (d, e, m) =>
      ((s.modDie d (fun x => { x with moulds := Smap.insert x.moulds e m })).resume d 0).setSwitch
        { w with saved := { v with moulds := v.moulds.filter (fun q => !(q.1 = d && q.2.1 = e)) } }
    | none =>
      match v.entries.find? (fun e => s.entryRoom e.1 e.2.1 e.2.2.1) with
      | some (b, i, e, vals) =>
        let s := s.modBay b (fun y => { y with mx := Smap.insert y.mx i e })
        let lo := (b * 4 + e.form.slot) * 16384
        let kept := s.accs.filter (fun (q : Nat × Word32) => !(lo ≤ q.1 && q.1 < lo + e.form.slots * 16384))
        let s := { s with accs := vals.foldl (fun m (q : Nat × Word32) => Smap.put m 0 q.1 q.2) kept }
        s.setSwitch { w with saved := { v with entries := v.entries.filter (fun q => !(q.1 = b && q.2.1 = i)) } }
      | none =>
        match v.transfers.find? (fun e => !s.chanFull e.1 e.2.1) with
        | some (b, ch, x) =>
          (s.setChan b ch { s.chan b ch with queue := (s.chan b ch).queue ++ [x] }).setSwitch
            { w with saved := { v with transfers := v.transfers.filter (fun q => q.2.2.op != x.op) } }
        | none => if v.moulds.isEmpty && v.entries.isEmpty && v.transfers.isEmpty then s.endSwitch w false else s
/-- CTXSW_COMPLETE (R366, R367): the save or restore in progress takes its next step; at the last BUSY clears. -/
def execCtxswComplete (s : State) : Out :=
  match s.ctxSwitch with
  | none => .next s
  | some w => s.orWaits (.next (if w.restore then s.restoreStep w else s.saveStep w))

end Sys2Proof.Machine
end

