-- ==== Sys2Proof/Machine/Package.lean ====
section
/-! DEFINITION. The package and the outside world: walks, fills and slices (09 R164-R166; 21 R380-R385), writes becoming visible
(09 R156), host, peers and links (21 R388-R391), failures (01 R9; 21 R397), power (21 R395), start, the boot log and attestation (21
R392-R394). -/

namespace Sys2Proof.Machine

/-! ### Translation and slices -/

/-- PAGE_WALK (R380, R381): a bay's TLB takes in a translation it lacks; none whose walk faults. -/
def execPageWalk (bay : Nat) (va : BitVec 64) (s : State) : Out :=
  let a := va.toNat
  if !s.bayUp bay || 2 ^ 56 ≤ a || !sliced a || bitsOf a 55 48 = 0xFE then .next s
  else match s.translate bay a with
    | (.ok _, s) => .next s
    | (.error _, s) => .next s

/-- A slot and address of a read in flight on a die to a line, with its translation. -/
def State.requestFor (s : State) (d ln : Nat) : Option (Nat × Nat × Trans) :=
  s.slots.findSome? (fun e =>
    if e.1 / 256 != d then none
    else e.2.block.bind (fun b => b.reads.findSome? (fun r =>
      let va := r.addr.toNat
      if !sliced va || bitsOf va 55 48 = 0xFE || s.staleRead d r then none
      else match ((s.bay (e.1 / 8)).tlb.find? (fun t => t.covers va)).map (fun t => t.trans va) with
        | some t => if t.pa / 128 = ln && t.r then some (e.1, va, t) else none
        | none => none)))
/-- LINE_FILL (R383, R384): a line that a read in flight has missed is filled; a victim leaves, written back if modified. -/
def execLineFill (die line victim : Nat) (s : State) : Out :=
  if !s.dieUp die then .next s
  else
    let have_ := Smap.has (s.die die).lines line
    let drop (s : State) : State := if victim = line then s else s.evict die victim
    if have_ then .next (drop s)
    else match s.requestFor die line with
      | some (k, va, t) => if s.lost t.pa || !s.hasPath t.pa then .next s else .next (drop (s.access (s.agent k) va t false))
      | none => .next s

/-- SLICE_RETRY (09 R165): a request of an old generation is answered with retry and reissued under the current map: a read in flight or a
buffered write of a block that commits, numbered slot * 128 + index, or a stage's access, numbered from 131072. Ladle and engine requests are
issued and performed in one turn, under one map. -/
def execSliceRetry (die request : Nat) (s : State) : Out :=
  if 131072 ≤ request then
    match s.stageAccs.find? (fun a => a.id = request - 131072) with
    | none => .next s
    | some a =>
      if a.die != die || !s.staleAcc a then .next s
      else
        let s := s.trace (s.stageBay a.ref) 3 0 (Config.traceKind 4) a.addr.toNat
        .next { s with stageAccs := s.stageAccs.map (fun q =>
          if q.id = a.id then { q with gen := (s.die die).slicemap, retried := true } else q) }
  else
    let k := request / 128
    match (s.slot k).block with
    | none => .next s
    | some b =>
      match b.reads.find? (fun r => r.cap.idx = request % 128) with
      | none =>
        (match b.stores.find? (fun e => e.idx = request % 128) with
          | none => .next s
          | some e =>
            if k / 256 != die || !s.staleWrite die e then .next s
            else
              let s := s.trace (k / 8) 3 k (Config.traceKind 4) e.addr.toNat
              .next (s.setBlock k { b with stores := b.stores.map (fun q =>
                if q.idx = e.idx then { q with gen := some (s.die die).slicemap } else q) }))
      | some r =>
        if k / 256 != die || !s.staleRead die r then .next s
        else
          let s := s.trace (k / 8) 3 k (Config.traceKind 4) r.addr.toNat
          .next (s.setBlock k { b with reads := b.reads.map (fun q =>
            if q.cap.idx = r.cap.idx then { q with gen := (s.die die).slicemap, retried := true } else q) })
/-- Is every request outstanding on a die of the current generation (09 R166)? -/
def State.allCurrent (s : State) (d : Nat) : Bool :=
  s.slots.all (fun e => e.1 / 256 != d || (match e.2.block with
    | some b => b.reads.all (fun r => !s.staleRead d r) && b.stores.all (fun e => !s.staleWrite d e)
    | none => true)) && s.stageAccs.all (fun a => a.die != d || !s.staleAcc a)
/-- Clear a slice's bit, and advance the map. -/
def State.dropSlice (s : State) (d slice : Nat) : State :=
  s.modDie d (fun x => { x with capslice := x.capslice &&& ~~~((1 : Word) <<< slice), slicemap := x.slicemap + 1 })
/-- May a slice leave service: in service, not the last, with no older generation outstanding? -/
def State.sliceReady (s : State) (d slice : Nat) : Bool :=
  s.dieUp d && slice < 64 && (s.die d).capslice.getLsbD slice && (s.die d).capslice != (1 : Word) <<< slice && s.allCurrent d
/-- SLICE_LEAVE_SERVICE (09 R164, R166): a slice is flushed and leaves. -/
def execSliceLeaveService (die slice : Nat) (s : State) : Out :=
  if !s.sliceReady die slice then .next s
  else
    let mine := (s.die die).lines.filter (fun (e : Nat × Bool) => s.sliceOf die e.1 = slice)
    .next ((mine.foldl (fun s (e : Nat × Bool) => s.evict die e.1) s).dropSlice die slice)
/-- WRITE_VISIBLE_ON_DIE (09 R156): a write becomes visible to a die's parties, after all that must come before it. -/
def execWriteVisibleOnDie (write die : Nat) (s : State) : Out :=
  if !s.dieList.contains die || !s.writes.any (fun r => r.id = write) then .next s else .next (s.reveal die [write])

/-! ### Host and peers -/

/-- Answer the control node or a peer. -/
def State.answer (s : State) (l : List Word) : State := { s with reply := l }
def accessSizeOk (n : Nat) : Bool := n = 1 || n = 2 || n = 4 || n = 8
/-- Is an address one ACCESS reaches: device memory by physical address (R391), the scheduler window (15 R276), the ladle aperture (13
R256), or the scratchpad window, which R130 keeps from no party (log entry 24)? -/
def accessible (a : Nat) : Bool := bitsOf a 55 32 = 0xFFFFFD || bitsOf a 55 32 = 0xFFFFFE || isPad a || (a < 2 ^ 52 && paType a = 0 && paPackageOk a)
/-- The fault of an ACCESS to device memory: misaligned (09 R129), or lost or poisoned, which an aligned write of 8 bytes repairs (19
R371; R397). -/
def State.accessCause (s : State) (a size : Nat) (write : Bool) : Option Byte :=
  if a % size != 0 then some cAlign
  else if s.lost a || (!(write && size = 8) && s.poisoned a size) then some cUncorrectable
  else none
/-- The control node as the maker of an access. -/
def hostAgent : Agent := { bay := 0, party := .host, ctx := 0, priv := true }
/-- Read a place of a window for the control node: scratchpad bytes as they are visible to it. -/
def State.hostRead (s : State) (va : Nat) (p : Place) (n : Nat) : Nat × State :=
  match p with
  | .pad q => if (s.line (padLine q)).guarded then (0, s) else s.load 4 .host q n
  | _ => s.readPlace hostAgent va p n false
/-- ACCESS read (R391). A read of an empty line is made later. -/
def execAccessRead (pa : BitVec 56) (size : Nat) (s : State) : Out :=
  let a := pa.toNat
  if s.startStep < 2 || !accessSizeOk size || !accessible a then .next s
  else if a < 2 ^ 52 then
    match s.accessCause a size false with
    | some c => .next (s.answer [BitVec.ofNat 64 c.toNat])
    | none =>
      let r := s.load 4 .host a size
      .next (r.2.answer [0, BitVec.ofNat 64 r.1])
  else
    match s.resolve hostAgent a (wantPlain size false) with
    | (.error c, s) => .next (s.answer [BitVec.ofNat 64 c.toNat])
    | (.ok p, s) =>
      if s.readWaits p then .next s
      else if !s.guardedPlace p && s.placeBad p size then .next (s.answer [BitVec.ofNat 64 cUncorrectable.toNat])
      else
        let r := s.hostRead a p size
        .next (r.2.answer [0, BitVec.ofNat 64 r.1])
/-- ACCESS write (R391). A write of the scheduler window or of a doorbell acts as a task's (13 R256; 15 R276); one of a held line, of a page
that is being migrated (R386), or for a channel without room, is made later. -/
def execAccessWrite (pa : BitVec 56) (size : Nat) (data : BitVec 64) (s : State) : Out :=
  let a := pa.toNat
  if s.startStep < 2 || !accessSizeOk size || !accessible a then .next s
  else if a < 2 ^ 52 then
    match s.accessCause a size true with
    | some c => .next (s.answer [BitVec.ofNat 64 c.toNat])
    | none => .next (if s.migrating a then s else (s.store .host a (bytesOf size data.toNat) [] false).answer [0])
  else
    match s.resolve hostAgent a (wantPlain size true) with
    | (.error c, s) => .next (s.answer [BitVec.ofNat 64 c.toNat])
    | (.ok p, s) =>
      if s.performWaits p then .next s
      else if size < 8 && !s.guardedPlace p && s.placeBad p size then .next (s.answer [BitVec.ofNat 64 cUncorrectable.toNat])
      else .next ((s.performAt hostAgent a p size (data.toNat % 2 ^ (8 * size)) [] false).answer [0])
/-- Who makes an incoming peer access: context 0's rights, under D0's table. -/
def peerAgent (chip : Nat) : Agent := { bay := 0, party := .peer chip, ctx := 0, priv := true }
/-- Read a place for a peer: memory and scratchpad as they are visible to it. -/
def State.peerRead (s : State) (chip va : Nat) (p : Place) (n : Nat) : Nat × State :=
  let rd (s : State) (k : Nat) : Nat × State := s.load (peerDie chip) (.peer chip) k n
  match p with
  | .mem t => rd (s.access (peerAgent chip) va t false) t.pa
  | .kv pa => rd (s.touch 0 pa false).2 pa
  | .pad q => if (s.line (padLine q)).guarded then (0, s) else rd s q
  | _ => s.readPlace (peerAgent chip) va p n false
/-- What a peer asks for: 0 a read, 1 a write, 2 a CAS64, and from 8 on the operations of an AMO (09 R65, R141, R142). -/
def peerKindOk (kind size : Nat) : Bool :=
  if kind < 2 then accessSizeOk size else if kind = 2 then size = 8 else 8 ≤ kind && kind < 16 && (size = 4 || size = 8)
/-- What an incoming atomic writes over an old value, or none. -/
def peerNew (kind size old data compare : Nat) : Option Nat :=
  if kind = 2 then (if old = compare then some data else none) else some (amoValue (kind % 8) size old data)
/-- PEER_ACCESS_IN (R389): a peer reads or writes through the peer window, or has an atomic performed at this device (09 R143; R388). A
disabled window and any fault answer LINK_FAULT; a read of an empty line and a write that must wait (R386) are made later. -/
def execPeerAccessIn (chip : BitVec 18) (kind : BitVec 4) (offset : BitVec 32) (size : Nat) (data : BitVec 64 × BitVec 64) (s : State) : Out :=
  let write := kind = 1
  let atomic := 2 ≤ kind.toNat
  if s.links.isEmpty || chip = s.chipid || !peerKindOk kind.toNat size then .next s
  else
    let s := s.meet chip.toNat
    let a := peerAgent chip.toNat
    let va := s.peerwin.toNat / 2 ^ 32 * 2 ^ 32 + offset.toNat
    let fault (s : State) : Out := .next (s.answer [0x1F])
    if !s.peerwin.getLsbD 0 then fault s
    else match s.resolve a va (if atomic then wantAtomic size else wantPlain size write) with
      | (.error _, s) => fault s
      | (.ok p, s) =>
        if atomic then
          let old := s.readPlace a va p size true
          let new := peerNew kind.toNat size old.1 data.1.toNat data.2.toNat
          if s.guardedPlace p then .next (s.answer [0, 0])
          else if s.readWaits p || (new.isSome && s.performWaits p) then .next s
          else if s.placeCut p || s.placeBad p size then fault s
          else .next ((match new with
            | some v => old.2.performAt a va p size (v % 2 ^ (8 * size)) [] true
            | none => old.2).answer [0, BitVec.ofNat 64 old.1])
        else if write then
          if s.performWaits p then .next s
          else if s.placeCut p || (match p with
            | .mem t => s.lost t.pa
            | .kv pa => s.lost pa
            | _ => false) || (size < 8 && s.placeBad p size) then fault s
          else .next ((s.performAt a va p size (data.1.toNat % 2 ^ (8 * size)) [] false).answer [0])
        else if s.readWaits p then .next s
        else if s.placeCut p || (!s.guardedPlace p && s.placeBad p size) then fault s
        else
          let r := s.peerRead chip.toNat va p size
          .next (r.2.answer [0, BitVec.ofNat 64 r.1])

/-! ### Links -/

/-- LINK_RETRANSMIT (R390): a flit is sent again; nothing else changes. -/
def execLinkRetransmit (_ : Nat) (s : State) : Out := .next s

/-! ### The boot log (R393) -/

/-- The last record of a unit. -/
def State.bootRec (s : State) (kind : Byte) (unit : BitVec 16) : Option BootRec :=
  (s.bootLog.filter (fun r => r.kind == kind && r.unit == unit)).getLast?
/-- Record an outcome of a unit at a step, in place of the record it had of that step; the time is free (log entry 19). -/
def State.logBoot (s : State) (step : Nat) (kind : Byte) (unit : Nat) (outcome method : Nat) (start : Bool) : State :=
  let u : BitVec 16 := BitVec.ofNat 16 unit
  let old : BitVec 16 := ((s.bootRec kind u).map (fun r => r.starts)).getD 0
  let r : BootRec :=
    { step := BitVec.ofNat 8 step, kind := kind, unit := u, outcome := BitVec.ofNat 8 outcome, method := BitVec.ofNat 8 method,
      starts := if start then old + 1 else old, time := Config.freeWord s.tick 0 }
  { s with bootLog := s.bootLog.filter (fun q => !(q.kind == kind && q.unit == u && q.step == r.step)) ++ [r] }
/-- How a unit is treated at this start: 0 the normal method, 1 the alternate, 2 skipped. Bays, banks and slices have no alternate
(R392). -/
def State.bootPlan (s : State) (kind : Byte) (unit : Nat) : Nat :=
  match s.bootRec kind (BitVec.ofNat 16 unit) with
  | some r =>
    if r.outcome = 2 then (if r.method = 0 && !(2 ≤ kind.toNat && kind.toNat ≤ 4) then 1 else 2) else if r.outcome = 3 then 2 else 0
  | none => 0
/-- A unit fails in service: recorded with outcome 2, by the method last used. -/
def State.logFailure (s : State) (step : Nat) (kind : Byte) (unit : Nat) : State :=
  s.logBoot step kind unit 2 (((s.bootRec kind (BitVec.ofNat 16 unit)).map (fun r => r.method.toNat)).getD 0) false
/-- A record's two words (R393). -/
def BootRec.words (r : BootRec) : List Word :=
  [BitVec.ofNat 64 (r.step.toNat + r.kind.toNat * 2 ^ 8 + r.unit.toNat * 2 ^ 16 + r.outcome.toNat * 2 ^ 32 + r.method.toNat * 2 ^ 40 +
    r.starts.toNat * 2 ^ 48), r.time]
/-- Has a unit had its turn in this start? -/
def State.wasTried (s : State) (kind : Byte) (unit : Nat) : Bool := s.tried.contains (kind.toNat, unit)
/-- Train a unit: outcome 0 passed, 1 passed by the alternate method, other failed, by the method that the log makes it take. The state,
and whether the unit is in service. -/
def State.trainUnit (s : State) (step : Nat) (kind : Byte) (unit outcome : Nat) : Bool × State :=
  let plan := s.bootPlan kind unit
  let s : State := { s with tried := s.tried ++ [(kind.toNat, unit)] }
  if plan = 2 then (false, s.logBoot step kind unit 3 1 true)
  else if outcome = 0 && plan = 0 then (true, s.logBoot step kind unit 0 0 true)
  else if outcome ≤ 1 then (true, s.logBoot step kind unit 1 1 true)
  else (false, s.logBoot step kind unit 2 plan true)
/-- Train units numbered from a base, those of a mask with success: the mask of those in service. -/
def State.trainMask (s : State) (step : Nat) (kind : Byte) (base n mask : Nat) : Nat × State :=
  (List.range n).foldl (fun acc i =>
    let r := acc.2.trainUnit step kind (base + i) (if mask / 2 ^ i % 2 = 1 then 0 else 2)
    (if r.1 then acc.1 + 2 ^ i else acc.1, r.2)) (0, s)

/-! ### Failures in service (R397; 01 R9) -/

/-- The lowest-numbered die in service. -/
def State.firstDie (s : State) : Nat := (([0, 1, 2, 3] : List Nat).find? (fun d => s.dieUp d)).getD 0
/-- An affinity to a failed die, or to a bay of it, becomes any (R397). -/
def QEntry.anyIf (e : QEntry) (d : Nat) : QEntry :=
  if e.affKind != 0 && e.affTgt / 32 = d then { e with affKind := 0, affTgt := 0 } else e
/-- Recover the task of a failed slot: pushed again from its record with RESTART, reported failed without, counted as retired, and its
launch failed. A task bound to an image is restored from it first, so that the records it holds are queued (19 R350). An affinity to a bay
that has failed alone becomes any too (DEDUCED, log entry 45). -/
def State.recoverTask (s : State) (k : Nat) : State :=
  let s := s.restoreBound k
  let sl := s.slot k
  match sl.task with
  | none => s.setSlot k { Slot.reset with stopped := sl.stopped }
  | some t =>
    let d := s.firstDie
    let home := if s.dieUp t.qDie then t.qDie else d
    let s := (s.flushImp k).dropJoins d t.uid
    let s := match sl.status with
      | .saving img _ => s.returnImage (k / 256) img
      | _ => s
    let s := s.setSlot k { Slot.reset with stopped := sl.stopped }
    if t.flags.getLsbD 0 then
      let e := t.killEntry
      let e := if e.affKind = 2 && !s.bayUp e.affTgt then { e with affKind := 0, affTgt := 0 } else e.anyIf (if s.dieUp (k / 256) then 4 else k / 256)
      s.requeue (pushPlace home e.affKind e.affTgt).1 false e
    else
      let s := (s.schedFault d cUncorrectable sl.ctxid sl.taskrec.toNat t.launch).memberGone? t.gang
      (s.modLaunch t.launch (fun l => { l with unretired := l.unretired - 1, failed := true })).endRuns
/-- Complete the engine operations of a failed bay with UNCORRECTABLE. -/
def State.failEngines (s : State) (b : Nat) : State :=
  let s := (s.bay b).mx.foldl (fun s (e : Nat × MxEntry) =>
    ((s.abandon b e.1 e.2).mxFault b e.1 e.2 cUncorrectable).mxEnd b e.1 e.2) s
  let s := (List.range 8).foldl (fun s c => (s.chan b c).queue.foldl (fun s x =>
    let s := (s.ladleFault b c x cUncorrectable 0 x.next 1).setRoute x.ctx x.t x.op false
    (s.setChan b c { s.chan b c with queue := (s.chan b c).queue.filter (fun y => y.op != x.op) }).opDone x.owner x.op) s) s
  let s := s.kvops.foldl (fun s (o : Nat × KvOp) => if o.2.bay = b then s.kvStop o.2 (cUncorrectable, 0, 0) else s) s
  let s := s.migs.foldl (fun s (m : Nat × Migration) =>
    if m.2.bay = b then (s.migFault m.1 m.2 cUncorrectable).endMig m.1 m.2 else s) s
  let d := b / 32
  (s.die d).moulds.foldl (fun s (e : Nat × Mould) =>
    if (mouldBays e.2).contains (b % 32) then
      let s := s.recordImp d e.2.uid (.op e.2.op) (impRec cUncorrectable 1 e.2.ctx 0 (handleOf d e.1) 0)
      ({ s with stageAccs := s.stageAccs.filter (fun a => !(a.die = d && a.entry = e.1)) } : State).abortMould d e.1
    else s) s
/-- A bay fails: its bits fall, its tasks are recovered, its operations complete. -/
def State.failBay (s : State) (b : Nat) : State :=
  let bit : BitVec 32 := ~~~((1 : BitVec 32) <<< (b % 32))
  let s := s.modDie (b / 32) (fun x => { x with capbays := x.capbays &&& bit, capmxt := x.capmxt &&& bit })
  let s := (List.range 8).foldl (fun s i => s.recoverTask (b * 8 + i)) s
  s.failEngines b
/-- Scheduler memory is copied to the stacks its mirror lacks, on two dies where two are in service (R396): on the lowest-numbered stack of
each (DESIGN CHOICE, log entry 121). -/
def State.mirrorOn (s : State) : State :=
  let free := (List.range 8).filter (fun k => s.dieUp (k / 2) && !s.failedStacks.contains k)
  let more (l : List Nat) : List Nat :=
    if 2 ≤ l.length then l else l ++ (free.find? (fun k => l.all (fun m => m / 2 != k / 2))).toList
  { s with mirrors := more (more s.mirrors) }
/-- Stacks that have failed hold no copy any more. Where the last good copy goes with them, both have failed: context 0 is told, and the
records are delivered again (R396; 19 R372). -/
def State.loseMirrors (s : State) : State :=
  let left := s.mirrors.filter (fun k => s.dieUp (k / 2) && !s.failedStacks.contains k)
  let gone := left.isEmpty && !s.mirrors.isEmpty
  let s := ({ s with mirrors := left } : State).mirrorOn
  if gone then (s.schedFault s.firstDie cUncorrectable 0 0 0).redeliver else s
/-- A die fails: its queues move in order to the lowest-numbered die in service, and its bays and its links fail. What was popped from its
queues, and what would go back to them, belongs to the heir's. -/
def State.failDie (s : State) (d : Nat) : State :=
  let bays := (List.range 32).filter (fun i => (s.die d).capbays.getLsbD i)
  let q := (s.die d).queue
  let gs := (s.die d).gangs
  let s := s.modDie d (fun x => { x with failed := true, queue := [], gangs := [] })
  let heir := s.firstDie
  let s := s.modDie heir (fun x => { x with
    queue := x.queue ++ q.map (fun e => e.anyIf d)
    gangs := x.gangs ++ gs.map (fun g => { g with origin := none, members := g.members.map (fun e => e.anyIf d) }) })
  let move (t : Task) : Task := if t.qDie = d then { t with qDie := heir } else t
  let s : State := { s with
    pushes := s.pushes.map (fun p => if p.1 = d then (heir, p.2.1, p.2.2.anyIf d) else p)
    slots := s.slots.map (fun (e : Nat × Slot) => (e.1, { e.2 with
      task := e.2.task.map move
      popped := e.2.popped.map (fun p => if p.1 = d then (heir, p.2.anyIf d) else p) }))
    parked := s.parked.map (fun (e : Nat × Task) => (e.1, move e.2))
    links := s.links.filter (fun l => l / 6 != d)
    sprue := if d = 0 then [] else s.sprue }
  let s := bays.foldl (fun s i => s.failBay (d * 32 + i)) s
  (s.modDie d (fun x => { x with capbays := 0, capmxt := 0 })).loseMirrors
/-- Dies that have a path to D0 over the edges in service. -/
def State.reachable (s : State) : List Nat :=
  (List.range 3).foldl (fun l _ => (([0, 1, 2, 3] : List Nat).filter (fun d => l.contains d || l.any (fun e => s.edgeUp d e)))) [0]
/-- Dies with no path to D0 are treated as failed. -/
def State.isolate (s : State) : State :=
  let ok := s.reachable
  ([1, 2, 3] : List Nat).foldl (fun s d => if s.dieUp d && !ok.contains d then s.failDie d else s) s
/-- EDGE_FAILURE (01 R9): an edge fails; it is recorded, and dies it cuts off are treated as failed. -/
def execEdgeFailure (edge : Nat) (s : State) : Out :=
  if !s.edges.contains edge then .next s
  else .next (({ s with edges := s.edges.filter (fun e => e != edge) } : State).logFailure 4 5 edge).isolate
/-- LINK_OUT_OF_SERVICE (R390): a link leaves service; its traffic moves to the others. Numbers 24 and 25 are the lanes of the sprue port
(01 R31), of which the boot log has no records (DESIGN CHOICE, log entry 116). -/
def execLinkOutOfService (link : Nat) (s : State) : Out :=
  if 24 ≤ link then .next { s with sprue := s.sprue.filter (fun l => l + 24 != link) }
  else if !s.links.contains link then .next s
  else .next (({ s with links := s.links.filter (fun l => l != link) } : State).logFailure 5 6 link)
/-- A slice fails unflushed: its modified lines are lost (09 R164). -/
def State.failSlice (s : State) (d slice : Nat) : State :=
  let mine := (s.die d).lines.filter (fun (e : Nat × Bool) => s.sliceOf d e.1 = slice)
  let s := mine.foldl (fun s (e : Nat × Bool) =>
    if e.2 then (List.range 16).foldl (fun s i => s.poisonAt (e.1 * 128 + 8 * i)) s else s) s
  (s.modDie d (fun x => { x with lines := x.lines.filter (fun (e : Nat × Bool) => !mine.any (fun m => m.1 = e.1)) })).dropSlice d slice
/-- The step of a start in which a unit is tested: 2 for D0 and what is on it, else 3 (R392). -/
def unitStep (kind unit : Nat) : Nat :=
  if (match kind with
    | 0 => unit
    | 1 => unit / 2
    | 2 => unit / 32
    | _ => unit / 64) = 0 then 2 else 3
/-- PART_FAILURE (R397; 01 R29): a part fails in service. Kinds as in the boot log: 0 a die, 1 a stack, 2 a bay (die * 32 + bay), 4 a slice
(die * 64 + slice); 8 is a matrix tile, which the log does not name. -/
def execPartFailure (kind : BitVec 8) (unit : Nat) (s : State) : Out :=
  match kind.toNat with
  | 0 => if 4 ≤ unit || !s.dieUp unit then .next s else .next ((s.logFailure (unitStep 0 unit) 0 unit).failDie unit)
  | 1 =>
    if 8 ≤ unit || !s.dieUp (unit / 2) || s.failedStacks.contains unit then .next s
    else .next (({ s with failedStacks := s.failedStacks ++ [unit] } : State).logFailure (unitStep 1 unit) 1 unit).loseMirrors
  | 2 => if !s.bayUp unit || 128 ≤ unit then .next s else .next ((s.logFailure (unitStep 2 unit) 2 unit).failBay unit)
  | 4 => if !s.sliceReady (unit / 64) (unit % 64) then .next s else .next ((s.logFailure (unitStep 4 unit) 4 unit).failSlice (unit / 64) (unit % 64))
  | 8 =>
    if 128 ≤ unit || !s.bayUp unit then .next s
    else
      let s := s.modDie (unit / 32) (fun x => { x with capmxt := x.capmxt &&& ~~~((1 : BitVec 32) <<< (unit % 32)) })
      .next ((s.bay unit).mx.foldl (fun s (e : Nat × MxEntry) =>
        ((s.abandon unit e.1 e.2).mxFault unit e.1 e.2 cUncorrectable).mxEnd unit e.1 e.2) s)
  | _ => .next s
/-- POWER_THROTTLE (R395; 01 R30): an island takes a limit; nothing a program computes changes. -/
def execPowerThrottle (island : Nat) (limit : BitVec 16) (s : State) : Out :=
  if 1024 ≤ island then .next s else .next { s with islands := Smap.put s.islands 0 island limit }

/-! ### Start (R392) -/

/-- A start: everything stands as at reset but the boot log, which is non-volatile (R393); the turns to take go on. -/
def State.restart (s : State) : State := { State.reset with agenda := s.agenda, tick := s.tick, bootLog := s.bootLog }
/-- START_CONTROLLER: step 1 of a start, the first or a later one. primary and alternate tell whether each stored image's signature
holds. With neither the device stays in this step; nothing is mapped out. Both lanes of the sprue port are brought up. -/
def execStartController (primary alternate : Bool) (chip host : BitVec 18) (s : State) : Out :=
  let s := s.restart.logBoot 1 7 0 (if primary then 0 else if alternate then 1 else 2) (if primary then 0 else 1) true
  .next { s with startStep := 1, chipid := chip, hostid := host, sprue := [0, 1] }
/-- Did the controller's firmware pass? -/
def State.firmwareOk (s : State) : Bool :=
  match s.bootRec 7 0 with
  | some r => r.outcome.toNat ≤ 1
  | none => false
/-- Physical page numbers of a stack. -/
def onStack (stack page : Nat) : Bool :=
  paType (page * 0x10000) = 0 && paPackageOk (page * 0x10000) && paStack (page * 0x10000) = stack
/-- Are the findings of a die's tests some that it can have (01 R27)? A stack has failed, or has all its pages but those mapped out. -/
def findingsOk (die : Nat) (low high : BitVec 20) (banks pages : List Nat) : Bool :=
  let count (stack : Nat) (n : BitVec 20) : Bool := n = 0 || n.toNat = 786432 - (pages.filter (onStack stack)).length
  banks.Nodup && banks.all (fun b => b < 13312) && pages.Nodup &&
    pages.all (fun p => onStack (2 * die) p || onStack (2 * die + 1) p) && count (2 * die) low && count (2 * die + 1) high
/-- Banks of a die that the log has mapped out. -/
def State.bootBanks (s : State) (die : Nat) : List Nat :=
  (s.bootLog.filter (fun r => r.kind = 3 && r.unit.toNat / 13312 = die && 2 ≤ r.outcome.toNat)).map (fun r => r.unit.toNat % 13312)
/-- Record the banks of a die, each with its outcome: those among some failed, and those whose last outcome was a failure are skipped, for a
bank has no alternate method (R392, R393). -/
def State.logBanks (s : State) (step die : Nat) (banks : List Nat) : State :=
  let mine (r : BootRec) : Bool := r.kind = 3 && r.unit.toNat / 13312 = die
  let old := s.bootLog.filter mine
  let recOf (i : Nat) : BootRec :=
    let last := old.find? (fun r => r.unit.toNat = 13312 * die + i)
    let skip := last.any (fun r => 2 ≤ r.outcome.toNat)
    { step := BitVec.ofNat 8 step, kind := 3, unit := BitVec.ofNat 16 (13312 * die + i)
      outcome := if skip then 3 else if banks.contains i then 2 else 0, method := if skip then 1 else 0
      starts := ((last.map (fun r => r.starts)).getD 0) + 1, time := Config.freeWord s.tick 0 }
  { s with bootLog := s.bootLog.filter (fun r => !mine r) ++ (List.range 13312).map recOf }
/-- DIE_OPEN (R392; 01 R27-R29): steps 2 and 3. The operands are what the logic test and the training found: bays, tiles, slices, pages
of the two stacks, and the banks and pages mapped out. What the log skips is mapped out as well (R393). A die with no bay, or both of whose stacks have failed, is not opened. -/
def execDieOpen (die : Nat) (bays tiles : BitVec 32) (slices : BitVec 64) (low high : BitVec 20) (banks pages : List Nat) (s : State) : Out :=
  let now := if die = 0 then s.startStep = 1 && s.firmwareOk else die < 4 && (s.startStep = 2 || s.startStep = 3)
  let step := if die = 0 then 2 else 3
  if !now || s.wasTried 0 die || !findingsOk die low high banks pages then .next s
  else if s.bootPlan 0 die = 2 then
    let s := (s.trainUnit step 0 die 2).2
    .next (if die = 0 then s else s.modDie die (fun x => { x with failed := true }))
  else
    let b := s.trainMask step 2 (32 * die) 32 bays.toNat
    let c := b.2.trainMask step 4 (64 * die) 64 slices.toNat
    let h := c.2.trainMask step 1 (2 * die) 2 ((if low = 0 then 0 else 1) + (if high = 0 then 0 else 2))
    let lost := (h.2.bootBanks die ++ banks).dedup
    let s := h.2.logBanks step die banks
    let r := s.trainUnit step 0 die (if b.1 = 0 || h.1 = 0 then 2 else 0)
    let s := r.2
    let s : State := { s with failedStacks := s.failedStacks ++ ([0, 1].filter (fun i => h.1 / 2 ^ i % 2 = 0)).map (fun i => 2 * die + i) }
    if !r.1 then .next (if die = 0 then s else (s.modDie die (fun x => { x with failed := true })))
    else
      let s := s.modDie die (fun x => { x with
        opened := true, capbays := BitVec.ofNat 32 b.1, capmxt := tiles &&& BitVec.ofNat 32 b.1, capslice := BitVec.ofNat 64 c.1
        capLow := if h.1 % 2 = 1 then low else 0, capHigh := if h.1 / 2 = 1 then high else 0, badBanks := lost, badPages := pages })
      .next (if die = 0 then { s with startStep := 2, cycle := 0 } else { s with startStep := 3 }).mirrorOn
/-- EDGE_TRAINING: step 4, one edge at a time, once every die has been tried; outcome 0 passed, 1 passed at half rate, other failed. When
every edge has its outcome, dies with no path to D0 are treated as failed. -/
def execEdgeTraining (edge : Nat) (outcome : BitVec 2) (s : State) : Out :=
  if s.startStep < 2 || 4 < s.startStep || !([1, 2, 3] : List Nat).all (s.wasTried 0) || 4 ≤ edge || s.wasTried 5 edge then .next s
  else
    let r := s.trainUnit 4 5 edge outcome.toNat
    let s : State := { r.2 with startStep := 4, edges := if r.1 then r.2.edges ++ [edge] else r.2.edges }
    .next (if (List.range 4).all (fun e => s.wasTried 5 e) then s.isolate else s)
/-- LINK_TRAINING: step 5; outcome 0 passed, 1 passed at a lower rate, other failed. Full function is declared when every link has its
outcome (step 6). -/
def execLinkTraining (link : Nat) (outcome : BitVec 2) (s : State) : Out :=
  if s.startStep < 4 || 5 < s.startStep || !(List.range 4).all (fun e => s.wasTried 5 e) || 24 ≤ link || s.wasTried 6 link then .next s
  else
    let r := s.trainUnit 5 6 link outcome.toNat
    let s : State := { r.2 with startStep := 5, links := if r.1 then r.2.links ++ [link] else r.2.links }
    .next (if (List.range 24).all (fun l => s.wasTried 6 l) then { s with startStep := 6 } else s)

/-! ### What the control node asks (R391, R393, R394) -/

/-- ATTEST (R394): a report over the firmware digests, the boot log, the capability values of each die (01 R27; CAPSPAD as each of its bays
reads it), the chip identifier and the nonce, signed.
Digests and signature are free (log entry 19). -/
def execAttest (nonce : BitVec 64) (s : State) : Out :=
  if s.startStep < 1 then .next s
  else
    let caps := ([0, 1, 2, 3] : List Nat).flatMap (fun d =>
      let x := s.die d
      [x.capbays.zeroExtend 64] ++ (List.range 32).map (fun b => BitVec.ofNat 64 (s.capspad (32 * d + b))) ++ [x.capslice, BitVec.ofNat 64 (x.capHigh.toNat * 2 ^ 20 + x.capLow.toNat), x.capmxt.zeroExtend 64])
    .next (s.answer ([0, Config.freeWord s.tick 0] ++ s.bootLog.flatMap BootRec.words ++ caps ++
      [s.chipid.zeroExtend 64, nonce, Config.freeWord s.tick 1]))
/-- The counter readings of a die: its traffic counters (R383) and CECOUNT (19 R371). -/
def State.counters (s : State) (d : Nat) : List Word :=
  let x := s.die d
  ([0, 1, 2, 3] : List Nat).map (fun k => Smap.getD x.dtraf 0 k) ++ [x.peertraf, x.hosttraf, x.relay, x.cecount.zeroExtend 64]
/-- TELEMETRY (R391): the power and the thermal reading of a sensor, which are free (log entry 19), and the counters of every die. -/
def execTelemetry (sensor : Nat) (s : State) : Out :=
  if s.startStep < 1 then .next s
  else .next (s.answer ([0, Config.freeWord s.tick (2 * sensor), Config.freeWord s.tick (2 * sensor + 1)] ++
    ([0, 1, 2, 3] : List Nat).flatMap s.counters))
/-- LOGREAD (R391). -/
def execLogread (s : State) : Out := if s.startStep < 1 then .next s else .next (s.answer (0 :: s.bootLog.flatMap BootRec.words))
/-- LOGCLEAR (R391, R393): a unit's records go, so that it is tried again. -/
def execLogclear (kind : BitVec 8) (unit : BitVec 16) (s : State) : Out :=
  if s.startStep < 2 then .next s
  else .next (({ s with bootLog := s.bootLog.filter (fun r => !(r.kind == kind && r.unit == unit)) } : State).answer [0])

end Sys2Proof.Machine
end

