-- ==== Sys2Proof/Machine/Preempt.lean ====
section
/-! DEFINITION. Pre-emption (15 R291, R292; 01 R25, R26): the newcomer, its candidates, the rows that treat them, and the end of a
checkpoint (19 R363). -/

namespace Sys2Proof.Machine

/-! ### The newcomer (R291) -/

/-- Bays whose slots may pop an entry of a die's queue: another die's only from class 0 (R267). -/
def State.permittedBay (s : State) (d : Nat) (e : QEntry) (b : Nat) : Bool :=
  s.permits d e b && (b / 32 = d || (e.cls = 0 && e.gang.isNone))

/-- Is a permitted slot idle? -/
def State.permittedIdle (s : State) (d : Nat) (e : QEntry) : Bool :=
  (List.range 128).any (fun b => s.permittedBay d e b && (s.idleIn b).isSome)

/-- The entry of the highest effective level that waits on a die: the first of several. -/
def State.newcomer (s : State) (d : Nat) : Option QEntry :=
  let q := (s.die d).queue
  let top := (q.map s.effLevel).foldl max 0
  q.find? (fun e => s.effLevel e = top)

/-- Tasks a newcomer may displace, lowest PRIO first, latest bound first. -/
def State.candidates (s : State) (d : Nat) (e : QEntry) : List Nat :=
  let lvl := s.effLevel e
  let ks := (s.slots.filter (fun x =>
    x.2.task.isSome && s.permittedBay d e (x.1 / 8) &&
      (match x.2.status with
        | .bound => true
        | .running => true
        | .waiting => true
        | _ => false) &&
      (s.launch x.2.launchid.toNat).prio + 2 ≤ lvl)).map (fun x => x.1)
  sortBy (fun k => (s.launch (s.slot k).launchid.toNat).prio * 2 ^ 128 + 2 ^ 128 - 1 - ((s.slot k).task.map (fun t => t.boundAt)).getD 0) ks

/-! ### The rows (R292) -/

/-- How a task stands to a pre-emption. -/
inductive Standing where
  | bound
  /-- Running, between blocks or in one, or waiting in step 4. -/
  | still
  /-- Its block has completed, or is committing: the commit takes effect first (01 R26). -/
  | commits
  /-- In a join, or entering one: the selection is withdrawn (R26); frozen; or being saved already. -/
  | out
  deriving DecidableEq, Repr

def Slot.standing (sl : Slot) : Standing :=
  match sl.status with
  | .bound => .bound
  | .waiting => .still
  | .running =>
    (match sl.block with
      | none => .still
      | some b =>
        if b.pos = .firing && !sl.completed then .still
        else match b.exit with
          | some (_, .exit) => .out
          | some (_, .yield) => .out
          | _ => .commits)
  | _ => .out

/-- What a candidate comes to. -/
inductive Preempted where
  | taken (s : State)
  /-- Row 4, or no row for a gang: the next candidate is taken. -/
  | left (s : State)
  | commits
  deriving DecidableEq, Repr

/-- A slot is to pop the newcomer when it is freed. -/
def State.claimSlot (s : State) (k : Nat) (e : QEntry) : State := s.modSlot k (fun sl => { sl with claim := some e })

/-- A bound gang goes back whole to the head of its queue, with the entries its members were popped from. -/
def State.unbindGang (s : State) (g : Nat) (ks : List Nat) : State :=
  let es := ks.filterMap (fun k => (s.slot k).popped.map (fun p => p.2))
  match es with
  | [] => s
  | e :: _ => (ks.foldl (fun s k => s.modSlot k (fun sl => { Slot.reset with stopped := sl.stopped, claim := sl.claim })) s).requeueGang
      g es e.level e.cls true

/-- Images for some tasks of a die, all or none (19 R361). -/
def State.takeImages (s : State) (d n : Nat) : Option (List (Nat × Nat)) × State :=
  (List.range n).foldl (fun (acc : Option (List (Nat × Nat)) × State) _ =>
    match acc with
    | (none, s) => (none, s)
    | (some l, s) =>
      match s.takeImage d with
      | (none, s) => (none, l.foldl (fun s i => s.returnImage d i.1) s)
      | (some i, s) => (some (l ++ [i]), s)) (some [], s)

/-- Kill tasks, one alone or a gang, and requeue their records in class 3. -/
def State.killAll (s : State) (gang : Option Nat) (ks : List Nat) : State :=
  let ts := ks.filterMap (fun k => (s.slot k).task.map (fun t => (k, t)))
  let s := ks.foldl (fun s k => s.killSlot k) s
  match gang, ts with
  | some g, (_, t) :: _ => s.requeueGang g (ts.map (fun e => e.2.killEntry)) t.qLevel 3 false
  | _, _ => ts.foldl (fun s e =>
      let q := e.2.killEntry
      s.requeue (pushPlace (e.1 / 256) q.affKind q.affTgt).1 false q) s

/-- Try the rows of R292 on a candidate, with its whole gang. One of which a member holds no slot, having yielded, or of which some are
bound and some run, takes no row (DESIGN CHOICE, log entry 44). -/
def State.preempt (s : State) (k : Nat) (newcomer : QEntry) : Preempted :=
  let gang := (s.slot k).task.bind (fun t => t.gang)
  let ks := s.together k
  let whole := match gang with
    | none => true
    | some g => [0, 1, 2, 3].all (fun d => (s.gangOf d g).all (fun x => x.left = ks.length))
  let stand := ks.map (fun k => (s.slot k).standing)
  let flag (i : Nat) (k : Nat) : Bool := ((s.slot k).task.map (fun t => t.flags.getLsbD i)).getD false
  let drains (k : Nat) : Bool := (s.launch (s.slot k).launchid.toNat).policy 2 && (s.slot k).est.toNat ≤ 2 ^ 16
  if !whole || stand.contains .out then .left s
  else if stand.all (fun x => x == .bound) then
    let s := s.claimSlot k newcomer
    .taken (match gang with
      | none => s.unbind k
      | some g => s.unbindGang g ks)
  else if stand.contains .bound then .left s
  else if stand.contains .commits then .commits
  else if ks.all drains then .taken (s.claimSlot k newcomer)
  else
    let got := if ks.all (flag 1) then s.takeImages (k / 256) ks.length else (none, s)
    match got with
    | (some imgs, s) =>
      .taken (((ks.zip imgs).foldl (fun s e => s.modSlot e.1 (fun sl => { sl with status := .saving e.2.1 e.2.2 })) s).claimSlot k newcomer)
    | (none, s) => if ks.all (flag 0) then .taken ((s.claimSlot k newcomer).killAll gang ks) else .left s

/-- Take the candidates in their order until a row applies to one: the consideration is over, or waits for a commit (01 R26). -/
def State.preemptFirst (s : State) (e : QEntry) (ks : List Nat) : Option State :=
  match ks with
  | [] => some s
  | k :: rest =>
    match s.preempt k e with
    | .taken s => some s
    | .left s => s.preemptFirst e rest
    | .commits => none

/-- An entry of a die's queue counts its 4096 cycles from now. -/
def State.waitAgain (s : State) (d : Nat) (e : QEntry) : State :=
  s.modDie d (fun x => { x with queue := x.queue.map (fun q => if q.same e then { q with waitFrom := s.cycle } else q) })

/-- PREEMPT_CONSIDER (R291, R292): the newcomer has waited 4096 cycles with no permitted slot idle; the first candidate to which a row of
R292 applies is returned, drained, checkpointed or killed. -/
def execPreemptConsider (die : Nat) (s : State) : Out :=
  match s.newcomer die with
  | none => .next s
  | some e =>
    if s.cycle < e.waitFrom + 4096 || s.permittedIdle die e then .next s
    else s.orWaits (match s.preemptFirst e (s.candidates die e) with
      | some s => .next (s.waitAgain die e)
      | none => .next s)

/-! ### The end of a checkpoint (19 R363) -/

/-- The image a slot is being saved to, and its physical address. -/
def Slot.savesTo (sl : Slot) : Option (Nat × Nat) :=
  match sl.status with
  | .saving img pa => some (img, pa)
  | _ => none

/-- CHECKPOINT_COMPLETE (R363): the image of a task selected for a checkpoint is written, its slot freed, and the image
pushed in class 3; a gang's are written together (R292). -/
def execCheckpointComplete (slot : Nat) (s : State) : Out :=
  let u := s
  match (s.slot slot).savesTo, (s.slot slot).task with
  | some _, some t =>
    let ks := (s.together slot).filterMap (fun k => (s.slot k).savesTo.map (fun i => (k, i)))
    let s := ks.foldl (fun s e => (s.wakeSaved e.1).saveTask e.1 e.2.1 e.2.2) s
    u.orWaits (.next (match t.gang with
      | none => ks.foldl (fun s e => s.pushImage (slot / 256) e.2.1) s
      | some g => s.requeueGang g (ks.filterMap (fun e => (Smap.find s.parked e.2.1).map (s.imageEntry e.2.1))) t.qLevel 3 false))
  | _, _ => .next s

end Sys2Proof.Machine
end

