-- ==== Sys2Proof/Machine/Dispatch.lean ====
section
/-! DEFINITION. What each instruction does: one arm for each. -/

namespace Sys2Proof.Machine

open Sys2Proof

def exec (i : Instr) (s : State) : Host.Outcome State Fault Refusal :=
  match i with
  | .add p t l r => Sys2Proof.Machine.execAdd p t l r s
  | .sub p t l r => Sys2Proof.Machine.execSub p t l r s
  | .mul p t l r => Sys2Proof.Machine.execMul p t l r s
  | .mulh p t l r => Sys2Proof.Machine.execMulh p t l r s
  | .mulhu p t l r => Sys2Proof.Machine.execMulhu p t l r s
  | .div p t l r => Sys2Proof.Machine.execDiv p t l r s
  | .divu p t l r => Sys2Proof.Machine.execDivu p t l r s
  | .rem p t l r => Sys2Proof.Machine.execRem p t l r s
  | .remu p t l r => Sys2Proof.Machine.execRemu p t l r s
  | .and p t l r => Sys2Proof.Machine.execAnd p t l r s
  | .or p t l r => Sys2Proof.Machine.execOr p t l r s
  | .xor p t l r => Sys2Proof.Machine.execXor p t l r s
  | .andn p t l r => Sys2Proof.Machine.execAndn p t l r s
  | .shl p t l r => Sys2Proof.Machine.execShl p t l r s
  | .shr p t l r => Sys2Proof.Machine.execShr p t l r s
  | .sar p t l r => Sys2Proof.Machine.execSar p t l r s
  | .rotl p t l r => Sys2Proof.Machine.execRotl p t l r s
  | .min p t l r => Sys2Proof.Machine.execMin p t l r s
  | .max p t l r => Sys2Proof.Machine.execMax p t l r s
  | .minu p t l r => Sys2Proof.Machine.execMinu p t l r s
  | .maxu p t l r => Sys2Proof.Machine.execMaxu p t l r s
  | .shadd1 t l r => Sys2Proof.Machine.execShadd1 t l r s
  | .shadd2 t l r => Sys2Proof.Machine.execShadd2 t l r s
  | .shadd3 t l r => Sys2Proof.Machine.execShadd3 t l r s
  | .shadd4 t l r => Sys2Proof.Machine.execShadd4 t l r s
  | .clz p t l r => Sys2Proof.Machine.execClz p t l r s
  | .ctz p t l r => Sys2Proof.Machine.execCtz p t l r s
  | .popc p t l r => Sys2Proof.Machine.execPopc p t l r s
  | .sext p t l r => Sys2Proof.Machine.execSext p t l r s
  | .zext p t l r => Sys2Proof.Machine.execZext p t l r s
  | .addw p t l r => Sys2Proof.Machine.execAddw p t l r s
  | .ceq p t l r => Sys2Proof.Machine.execCeq p t l r s
  | .cne p t l r => Sys2Proof.Machine.execCne p t l r s
  | .clt p t l r => Sys2Proof.Machine.execClt p t l r s
  | .cltu p t l r => Sys2Proof.Machine.execCltu p t l r s
  | .cle p t l r => Sys2Proof.Machine.execCle p t l r s
  | .cleu p t l r => Sys2Proof.Machine.execCleu p t l r s
  | .tz p t l r => Sys2Proof.Machine.execTz p t l r s
  | .tnz p t l r => Sys2Proof.Machine.execTnz p t l r s
  | .sel t l r => Sys2Proof.Machine.execSel t l r s
  | .not p t l r => Sys2Proof.Machine.execNot p t l r s
  | .const p t imm => Sys2Proof.Machine.execConst p t imm s
  | .constx p t imm => Sys2Proof.Machine.execConstx p t imm s
  | .mov p t l r => Sys2Proof.Machine.execMov p t l r s
  | .fan p t u => Sys2Proof.Machine.execFan p t u s
  | .srrd p t n => Sys2Proof.Machine.execSrrd p t n s
  | .srwr p t n => Sys2Proof.Machine.execSrwr p t n s
  | .bri p o => Sys2Proof.Machine.execBri p o s
  | .br p l r => Sys2Proof.Machine.execBr p l r s
  | .calli p o => Sys2Proof.Machine.execCalli p o s
  | .call p l r => Sys2Proof.Machine.execCall p l r s
  | .exit p l r => Sys2Proof.Machine.execExit p l r s
  | .yield p l r => Sys2Proof.Machine.execYield p l r s
  | .trap p imm => Sys2Proof.Machine.execTrap p imm s
  | .eret p l r => Sys2Proof.Machine.execEret p l r s
  | .fadd p t l r => Sys2Proof.Machine.execFadd p t l r s
  | .fsub p t l r => Sys2Proof.Machine.execFsub p t l r s
  | .fmul p t l r => Sys2Proof.Machine.execFmul p t l r s
  | .fdiv p t l r => Sys2Proof.Machine.execFdiv p t l r s
  | .fmin p t l r => Sys2Proof.Machine.execFmin p t l r s
  | .fmax p t l r => Sys2Proof.Machine.execFmax p t l r s
  | .fclt p t l r => Sys2Proof.Machine.execFclt p t l r s
  | .fceq p t l r => Sys2Proof.Machine.execFceq p t l r s
  | .fcle p t l r => Sys2Proof.Machine.execFcle p t l r s
  | .cvtif p t l r => Sys2Proof.Machine.execCvtif p t l r s
  | .cvtfi p t l r => Sys2Proof.Machine.execCvtfi p t l r s
  | .fsqrt p t l r => Sys2Proof.Machine.execFsqrt p t l r s
  | .ld8 p t l r => Sys2Proof.Machine.execLd8 p t l r s
  | .ld8s p t l r => Sys2Proof.Machine.execLd8s p t l r s
  | .ld16 p t l r => Sys2Proof.Machine.execLd16 p t l r s
  | .ld16s p t l r => Sys2Proof.Machine.execLd16s p t l r s
  | .ld32 p t l r => Sys2Proof.Machine.execLd32 p t l r s
  | .ld32s p t l r => Sys2Proof.Machine.execLd32s p t l r s
  | .ld64 p t l r => Sys2Proof.Machine.execLd64 p t l r s
  | .ldaq p t l sel x z => Sys2Proof.Machine.execLdaq p t l sel x z s
  | .st8 p o l r => Sys2Proof.Machine.execSt8 p o l r s
  | .st16 p o l r => Sys2Proof.Machine.execSt16 p o l r s
  | .st32 p o l r => Sys2Proof.Machine.execSt32 p o l r s
  | .st64 p o l r => Sys2Proof.Machine.execSt64 p o l r s
  | .strl p l sel z => Sys2Proof.Machine.execStrl p l sel z s
  | .amo64 p t l sel k o => Sys2Proof.Machine.execAmo64 p t l sel k o s
  | .amo32 p t l sel k o => Sys2Proof.Machine.execAmo32 p t l sel k o s
  | .cas64 t l sel k => Sys2Proof.Machine.execCas64 t l sel k s
  | .fence p l sel e k => Sys2Proof.Machine.execFence p l sel e k s
  | .sbar p l => Sys2Proof.Machine.execSbar p l s
  | .pref p l r => Sys2Proof.Machine.execPref p l r s
  | .spawn p t l r => Sys2Proof.Machine.execSpawn p t l r s
  | .joindec p t l r => Sys2Proof.Machine.execJoindec p t l r s
  | .gang p t l r => Sys2Proof.Machine.execGang p t l r s
  | .rvinit p t l r => Sys2Proof.Machine.execRvinit p t l r s
  | .arrive p t l r => Sys2Proof.Machine.execArrive p t l r s
  | .wait p l r => Sys2Proof.Machine.execWait p l r s
  | .est p t l r => Sys2Proof.Machine.execEst p t l r s
  | .progress p t l r => Sys2Proof.Machine.execProgress p t l r s
  | .graphgo p t l r => Sys2Proof.Machine.execGraphgo p t l r s
  | .mload p t l r => Sys2Proof.Machine.execMload p t l r s
  | .mstart p t l r => Sys2Proof.Machine.execMstart p t l r s
  | .mstopDrain p t l r => Sys2Proof.Machine.execMstopDrain p t l r s
  | .mstopAbort p t l r => Sys2Proof.Machine.execMstopAbort p t l r s
  | .inject p t l r => Sys2Proof.Machine.execInject p t l r s
  | .collect p t l r => Sys2Proof.Machine.execCollect p t l r s
  | .pourLoadt p t l r => Sys2Proof.Machine.execPourLoadt p t l r s
  | .pourStart p t l r => Sys2Proof.Machine.execPourStart p t l r s
  | .pjoin p l r => Sys2Proof.Machine.execPjoin p l r s
  | .mxcfg p t l r => Sys2Proof.Machine.execMxcfg p t l r s
  | .mxjoin p l r => Sys2Proof.Machine.execMxjoin p l r s
  | .spalloc p t l r => Sys2Proof.Machine.execSpalloc p t l r s
  | .spfree p t l r => Sys2Proof.Machine.execSpfree p t l r s
  | .hmdecl p t l r => Sys2Proof.Machine.execHmdecl p t l r s
  | .stamp p t l r => Sys2Proof.Machine.execStamp p t l r s
  | .await p l r => Sys2Proof.Machine.execAwait p l r s
  | .hmtest p t l r => Sys2Proof.Machine.execHmtest p t l r s
  | .hmretire p t l r => Sys2Proof.Machine.execHmretire p t l r s
  | .kvmap p t l r => Sys2Proof.Machine.execKvmap p t l r s
  | .kvfork p t l r => Sys2Proof.Machine.execKvfork p t l r s
  | .kvappend p t l r => Sys2Proof.Machine.execKvappend p t l r s
  | .kvfree p t l r => Sys2Proof.Machine.execKvfree p t l r s
  | .pfxh p t l r => Sys2Proof.Machine.execPfxh p t l r s
  | .pfxlook p t l r => Sys2Proof.Machine.execPfxlook p t l r s
  | .pfxins p t l r => Sys2Proof.Machine.execPfxins p t l r s
  | .splice p t l r => Sys2Proof.Machine.execSplice p t l r s
  | .repair p t l r => Sys2Proof.Machine.execRepair p t l r s
  | .katt p t l r => Sys2Proof.Machine.execKatt p t l r s
  | .cacheopBinv p t l r => Sys2Proof.Machine.execCacheopBinv p t l r s
  | .cacheopBinvdie p t l r => Sys2Proof.Machine.execCacheopBinvdie p t l r s
  | .tlbopPage p t l r => Sys2Proof.Machine.execTlbopPage p t l r s
  | .tlbopAll p t l r => Sys2Proof.Machine.execTlbopAll p t l r s
  | .traceMark p t l r => Sys2Proof.Machine.execTraceMark p t l r s
  | .traceFreeze p t l r => Sys2Proof.Machine.execTraceFreeze p t l r s
  | .traceThaw p t l r => Sys2Proof.Machine.execTraceThaw p t l r s
  | .migrate p t l r => Sys2Proof.Machine.execMigrate p t l r s
  | .haltStop p t l r => Sys2Proof.Machine.execHaltStop p t l r s
  | .haltGo p t l r => Sys2Proof.Machine.execHaltGo p t l r s
  | .pass c => Sys2Proof.Machine.execPass c s
  | .iadd d a b sel c => Sys2Proof.Machine.execIadd d a b sel c s
  | .isub d a b sel c => Sys2Proof.Machine.execIsub d a b sel c s
  | .imul d a b sel c => Sys2Proof.Machine.execImul d a b sel c s
  | .imulh d a b sel c u => Sys2Proof.Machine.execImulh d a b sel c u s
  | .iand d a b sel c => Sys2Proof.Machine.execIand d a b sel c s
  | .ior d a b sel c => Sys2Proof.Machine.execIor d a b sel c s
  | .ixor d a b sel c => Sys2Proof.Machine.execIxor d a b sel c s
  | .ishl d a b sel c => Sys2Proof.Machine.execIshl d a b sel c s
  | .ishr d a b sel c => Sys2Proof.Machine.execIshr d a b sel c s
  | .isar d a b sel c => Sys2Proof.Machine.execIsar d a b sel c s
  | .imin d a b sel c => Sys2Proof.Machine.execImin d a b sel c s
  | .imax d a b sel c => Sys2Proof.Machine.execImax d a b sel c s
  | .iminu d a b sel c => Sys2Proof.Machine.execIminu d a b sel c s
  | .imaxu d a b sel c => Sys2Proof.Machine.execImaxu d a b sel c s
  | .icmp d a b sel c k => Sys2Proof.Machine.execIcmp d a b sel c k s
  | .ihash d a b sel c => Sys2Proof.Machine.execIhash d a b sel c s
  | .isel d a b sel c => Sys2Proof.Machine.execIsel d a b sel c s
  | .ipopc d a c => Sys2Proof.Machine.execIpopc d a c s
  | .stageFadd d a b sel c m => Sys2Proof.Machine.execStageFadd d a b sel c m s
  | .stageFsub d a b sel c m => Sys2Proof.Machine.execStageFsub d a b sel c m s
  | .stageFmul d a b sel c m => Sys2Proof.Machine.execStageFmul d a b sel c m s
  | .ffma d a b sel c m => Sys2Proof.Machine.execFfma d a b sel c m s
  | .stageFmin d a b sel c => Sys2Proof.Machine.execStageFmin d a b sel c s
  | .stageFmax d a b sel c => Sys2Proof.Machine.execStageFmax d a b sel c s
  | .fcmp d a b sel c k => Sys2Proof.Machine.execFcmp d a b sel c k s
  | .fexp2 d a c => Sys2Proof.Machine.execFexp2 d a c s
  | .frcp d a c => Sys2Proof.Machine.execFrcp d a c s
  | .frsq d a c => Sys2Proof.Machine.execFrsq d a c s
  | .cvt d a h c x y m => Sys2Proof.Machine.execCvt d a h c x y m s
  | .cvtb4 d a h m sel => Sys2Proof.Machine.execCvtb4 d a h m sel s
  | .fabsn d a b sel c m => Sys2Proof.Machine.execFabsn d a b sel c m s
  | .lshuf d a b sel => Sys2Proof.Machine.execLshuf d a b sel s
  | .lbcast d a l => Sys2Proof.Machine.execLbcast d a l s
  | .lscan d a m o => Sys2Proof.Machine.execLscan d a m o s
  | .lred d a m o => Sys2Proof.Machine.execLred d a m o s
  | .lcompact => Sys2Proof.Machine.execLcompact s
  | .filter q => Sys2Proof.Machine.execFilter q s
  | .fork d a b sel q => Sys2Proof.Machine.execFork d a b sel q s
  | .recirc q => Sys2Proof.Machine.execRecirc q s
  | .steer q => Sys2Proof.Machine.execSteer q s
  | .merge => Sys2Proof.Machine.execMerge s
  | .reord => Sys2Proof.Machine.execReord s
  | .gen d a b sel imm => Sys2Proof.Machine.execGen d a b sel imm s
  | .seqtag => Sys2Proof.Machine.execSeqtag s
  | .isect d b => Sys2Proof.Machine.execIsect d b s
  | .spld d a b c z o => Sys2Proof.Machine.execSpld d a b c z o s
  | .spst d a b c z o => Sys2Proof.Machine.execSpst d a b c z o s
  | .spamo d a b c k o => Sys2Proof.Machine.execSpamo d a b c k o s
  | .spfill d a b c z o => Sys2Proof.Machine.execSpfill d a b c z o s
  | .spmark d a b c f => Sys2Proof.Machine.execSpmark d a b c f s
  | .mld d a c z e n v => Sys2Proof.Machine.execMld d a c z e n v s
  | .mst d a c z e n => Sys2Proof.Machine.execMst d a c z e n s
  | .mgath a c e n => Sys2Proof.Machine.execMgath a c e n s
  | .mscat a c e n => Sys2Proof.Machine.execMscat a c e n s
  | .sbars h sel l => Sys2Proof.Machine.execSbars h sel l s
  | .trswap e m => Sys2Proof.Machine.execTrswap e m s
  | .trload a b sel p q d => Sys2Proof.Machine.execTrload a b sel p q d s
  | .trmv p l q => Sys2Proof.Machine.execTrmv p l q s
  | .pkout a h => Sys2Proof.Machine.execPkout a h s
  | .pkin h => Sys2Proof.Machine.execPkin h s
  | .tmerge => Sys2Proof.Machine.execTmerge s
  | .b4dec d a => Sys2Proof.Machine.execB4dec d a s
  | .softacc d a b sel c n m => Sys2Proof.Machine.execSoftacc d a b sel c n m s
  | .sink => Sys2Proof.Machine.execSink s
  | .token k => Sys2Proof.Machine.execToken k s
  | .blockFetch slot => Sys2Proof.Machine.execBlockFetch slot s
  | .readDeliver slot idx => Sys2Proof.Machine.execReadDeliver slot idx s
  | .blockCommit slot => Sys2Proof.Machine.execBlockCommit slot s
  | .bufferedWriteResume slot => Sys2Proof.Machine.execBufferedWriteResume slot s
  | .blockHang slot => Sys2Proof.Machine.execBlockHang slot s
  | .waitPhaseReached slot => Sys2Proof.Machine.execWaitPhaseReached slot s
  | .awaitComplete slot => Sys2Proof.Machine.execAwaitComplete slot s
  | .pjoinComplete slot => Sys2Proof.Machine.execPjoinComplete slot s
  | .mxjoinComplete slot => Sys2Proof.Machine.execMxjoinComplete slot s
  | .taskRetire slot => Sys2Proof.Machine.execTaskRetire slot s
  | .yieldRequeue slot => Sys2Proof.Machine.execYieldRequeue slot s
  | .taskPop slot => Sys2Proof.Machine.execTaskPop slot s
  | .gangPlace die => Sys2Proof.Machine.execGangPlace die s
  | .preemptConsider die => Sys2Proof.Machine.execPreemptConsider die s
  | .checkpointComplete slot => Sys2Proof.Machine.execCheckpointComplete slot s
  | .launchOpen launch => Sys2Proof.Machine.execLaunchOpen launch s
  | .heldTaskRelease unit => Sys2Proof.Machine.execHeldTaskRelease unit s
  | .launchFinish launch => Sys2Proof.Machine.execLaunchFinish launch s
  | .triggerRegisterWrite value => Sys2Proof.Machine.execTriggerRegisterWrite value s
  | .graphRunStart run => Sys2Proof.Machine.execGraphRunStart run s
  | .sprueTrigger value => Sys2Proof.Machine.execSprueTrigger value s
  | .dispatchStop scope unit => Sys2Proof.Machine.execDispatchStop scope unit s
  | .dispatchGo scope unit => Sys2Proof.Machine.execDispatchGo scope unit s
  | .attest nonce => Sys2Proof.Machine.execAttest nonce s
  | .telemetry sensor => Sys2Proof.Machine.execTelemetry sensor s
  | .logread => Sys2Proof.Machine.execLogread s
  | .logclear kind unit => Sys2Proof.Machine.execLogclear kind unit s
  | .accessRead pa size => Sys2Proof.Machine.execAccessRead pa size s
  | .accessWrite pa size data => Sys2Proof.Machine.execAccessWrite pa size data s
  | .specialRegisterWrite slot => Sys2Proof.Machine.execSpecialRegisterWrite slot s
  | .mouldLoadDone die entry => Sys2Proof.Machine.execMouldLoadDone die entry s
  | .mouldComplete die entry => Sys2Proof.Machine.execMouldComplete die entry s
  | .stageAccessComplete access => Sys2Proof.Machine.execStageAccessComplete access s
  | .tokenArrive die entry pipe => Sys2Proof.Machine.execTokenArrive die entry pipe s
  | .quantumExpiry die entry => Sys2Proof.Machine.execQuantumExpiry die entry s
  | .mxcfgArm slot => Sys2Proof.Machine.execMxcfgArm slot s
  | .passStart bay entry => Sys2Proof.Machine.execPassStart bay entry s
  | .operandRelease bay entry pass => Sys2Proof.Machine.execOperandRelease bay entry pass s
  | .passAccumulate bay entry pass => Sys2Proof.Machine.execPassAccumulate bay entry pass s
  | .writeOut bay entry => Sys2Proof.Machine.execWriteOut bay entry s
  | .ladleTransferStart bay chan => Sys2Proof.Machine.execLadleTransferStart bay chan s
  | .decompBlock bay chan => Sys2Proof.Machine.execDecompBlock bay chan s
  | .ladleTransferComplete bay chan => Sys2Proof.Machine.execLadleTransferComplete bay chan s
  | .ladleDoorbellWrite bay chan data => Sys2Proof.Machine.execLadleDoorbellWrite bay chan data s
  | .remoteHallmarkQuery chip key sel => Sys2Proof.Machine.execRemoteHallmarkQuery chip key sel s
  | .remoteHallmarkReport slot idx answer => Sys2Proof.Machine.execRemoteHallmarkReport slot idx answer s
  | .spliceRun op => Sys2Proof.Machine.execSpliceRun op s
  | .spliceAbsentTimeout op => Sys2Proof.Machine.execSpliceAbsentTimeout op s
  | .repairStart op => Sys2Proof.Machine.execRepairStart op s
  | .repairTaskRetired op => Sys2Proof.Machine.execRepairTaskRetired op s
  | .crucibleBlock op blk crucible => Sys2Proof.Machine.execCrucibleBlock op blk crucible s
  | .kattRevisit op blk crucible => Sys2Proof.Machine.execKattRevisit op blk crucible s
  | .kattAbsentTimeout op blk => Sys2Proof.Machine.execKattAbsentTimeout op blk s
  | .kattComplete op => Sys2Proof.Machine.execKattComplete op s
  | .watchdogFire slot => Sys2Proof.Machine.execWatchdogFire slot s
  | .slotctlThaw slot => Sys2Proof.Machine.execSlotctlThaw slot s
  | .slotctlKill slot => Sys2Proof.Machine.execSlotctlKill slot s
  | .slotctlRequeue slot => Sys2Proof.Machine.execSlotctlRequeue slot s
  | .ctxswSave slot => Sys2Proof.Machine.execCtxswSave slot s
  | .ctxswRestore slot => Sys2Proof.Machine.execCtxswRestore slot s
  | .ctxswComplete => Sys2Proof.Machine.execCtxswComplete s
  | .tracectlFreeze slot => Sys2Proof.Machine.execTracectlFreeze slot s
  | .tracectlThaw slot => Sys2Proof.Machine.execTracectlThaw slot s
  | .tracePostFreeze bay => Sys2Proof.Machine.execTracePostFreeze bay s
  | .scrub kind addr correctable => Sys2Proof.Machine.execScrub kind addr correctable s
  | .pageWalk bay va => Sys2Proof.Machine.execPageWalk bay va s
  | .lineFill die line victim => Sys2Proof.Machine.execLineFill die line victim s
  | .sliceRetry die request => Sys2Proof.Machine.execSliceRetry die request s
  | .sliceLeaveService die slice => Sys2Proof.Machine.execSliceLeaveService die slice s
  | .shootdownComplete slot => Sys2Proof.Machine.execShootdownComplete slot s
  | .blockInvalidateComplete slot => Sys2Proof.Machine.execBlockInvalidateComplete slot s
  | .wbRewalk slot => Sys2Proof.Machine.execWbRewalk slot s
  | .migrationCopyDone op => Sys2Proof.Machine.execMigrationCopyDone op s
  | .migrationFinish op => Sys2Proof.Machine.execMigrationFinish op s
  | .peerAccessIn chip kind offset size data => Sys2Proof.Machine.execPeerAccessIn chip kind offset size data s
  | .linkRetransmit link => Sys2Proof.Machine.execLinkRetransmit link s
  | .linkOutOfService link => Sys2Proof.Machine.execLinkOutOfService link s
  | .linkPathTimeout slot idx => Sys2Proof.Machine.execLinkPathTimeout slot idx s
  | .edgeFailure edge => Sys2Proof.Machine.execEdgeFailure edge s
  | .partFailure kind unit => Sys2Proof.Machine.execPartFailure kind unit s
  | .powerThrottle island limit => Sys2Proof.Machine.execPowerThrottle island limit s
  | .startController primary alternate chip host => Sys2Proof.Machine.execStartController primary alternate chip host s
  | .dieOpen die bays tiles slices low high banks pages => Sys2Proof.Machine.execDieOpen die bays tiles slices low high banks pages s
  | .edgeTraining edge outcome => Sys2Proof.Machine.execEdgeTraining edge outcome s
  | .linkTraining link outcome => Sys2Proof.Machine.execLinkTraining link outcome s
  | .fenceScComplete slot => Sys2Proof.Machine.execFenceScComplete slot s
  | .writeVisibleOnDie write die => Sys2Proof.Machine.execWriteVisibleOnDie write die s

end Sys2Proof.Machine
end

