-- ==== Sys2Proof/Machine/Turn.lean ====
section
/-! DEFINITION. The passing of a cycle (05 R74, R82; 15 R268, R288, R290; 19 R368), whose turn it is, and the instruction that the
party in turn performs (log entry 1). -/

namespace Sys2Proof.Machine

/-! ### What a wait waits on (19 R368) -/

/-- Slots whose task counts under a launch and is frozen. -/
def State.frozenOf (s : State) (n : Nat) : Nat :=
  (s.slots.filter (fun e => e.2.isFrozen && e.2.task.any (fun t => t.launch = n))).length
/-- Has a launch tasks, beside some of its own, that are neither frozen nor retired? -/
def State.hasOthers (s : State) (n own : Nat) : Bool := s.frozenOf n + own < (s.launch n).unretired
/-- Does a REPAIR of this chip name a sequence whose map names a block now? -/
def State.repairNames (s : State) (g : Nat) : Bool :=
  s.kvops.any (fun e => e.2.kind = .repair &&
    (match s.rdSeq e.2.reader e.2.a0.toNat with
      | (.error _, _) => false
      | (.ok q, s) => (List.range q.lay.layers).any (fun l =>
        match (s.rdRow e.2.reader q l).1 with
        | .error _ => false
        | .ok row => row.any (fun w => e1Gbn w = g && e1Chip w = s.chipid.toNat))))
/-- The launch that an AWAIT expects its stamp from: its entry's, or the selector's. -/
def State.awaitProducer (s : State) (k key r : Nat) : Option Nat :=
  let entry : Option Hallmark := match (s.keyHome (k / 256) key).1 with
    | .error _ => none
    | .ok home => (s.die home).hallmarks.find? (fun h => h.key.toNat == key)
  match entry with
  | some h => some h.launch
  | none => if selProdv r then some (selProd r) else none
/-- Is the object of an AWAIT live? -/
def State.awaitLive (s : State) (k : Nat) (c : Capture) : Bool :=
  let key := c.l.toNat
  let r := c.r.toNat
  if selRemote r then false
  else
    (match s.awaitProducer k key r with
      | some n => !(s.launch n).finished && s.hasOthers n 0
      | none => false) || (isKvKey key && s.repairNames (kvKeyBlock key))
/-- Is the object of a WAIT live? -/
def State.phaseLive (s : State) (k : Nat) (c : Capture) : Bool :=
  let g := rvGroup c.l.toNat
  match (s.slot k).groupHome g with
  | none => false
  | some d =>
    match Smap.find (s.die d).groups g with
    | none => false
    | some x => s.hasOthers x.launch (if (s.slot k).task.any (fun t => t.launch = x.launch) then 1 else 0)
/-- Has an operation that a join names not completed? -/
def State.joinLive (s : State) (uid : Nat) (f : JoinOb → Bool) : Bool := (Smap.getD s.joins [] uid).any (fun j => f j && !j.done)
/-- Does the block of a slot stand at a wait of step 4 whose object is live? -/
def State.stepLive (s : State) (k : Nat) : Bool :=
  let sl := s.slot k
  match sl.block with
  | none => false
  | some b =>
    match b.waiting.bind (fun j => b.held.find? (fun c => c.idx = j && isWait (opOf (b.word j)))) with
    | none => false
    | some c =>
      match opOf (b.word c.idx) with
      | 0x5C => s.phaseLive k c
      | 0x66 => s.joinLive sl.uid (waitOps (poured c.l.toNat) c.idx)
      | 0x68 => s.joinLive sl.uid (waitOps (maskedEntry c.l.toNat) c.idx)
      | _ => s.awaitLive k c
/-- Does a slot wait on a live object? One that is being saved still waits. -/
def State.waitsLive (s : State) (k : Nat) : Bool :=
  let sl := s.slot k
  match sl.status with
  | .exitJoin => s.joinLive sl.uid (fun j => j.atExit)
  | .yieldJoin => s.joinLive sl.uid (fun j => j.atExit)
  | .waiting => s.stepLive k
  | .saving _ _ => s.stepLive k
  | _ => false

/-! ### A cycle -/

/-- A cycle in a slot that holds a task: its estimate, its block's cycles to completion, and its watchdog counts, which run in a cycle that
is watched, W in one without a progress event; with the counts that this cycle brings to their end at an interval (19 R368, R369). -/
def Slot.tick (sl : Slot) (watched : Bool) (wd : Nat) : Slot :=
  let w := if watched && !sl.progressed then sl.wCount + 1 else sl.wCount
  let t := if watched then sl.tCount + 1 else sl.tCount
  { sl with
    est := if sl.est = 0 then 0 else sl.est - 1
    block := sl.block.map (fun b => if sl.firing b && !sl.completed then { b with cycles := b.cycles + 1 } else b)
    wCount := w
    tCount := t
    progressed := false
    due := if sl.due.isSome then sl.due else if sl.expired wd w t then some (w, t) else none }
/-- A cycle of a mould in the fabric: its quantum runs while another wants its place (15 R290). -/
def Die.tickMoulds (x : Die) : Die :=
  { x with moulds := x.moulds.map (fun (e : Nat × Mould) =>
      if e.2.present && e.2.state.started && x.moulds.any (fun q => q.1 != e.1 && q.2.state.started && sharesBay q.2 e.2)
      then (e.1, { e.2 with quantum := e.2.quantum + 1 }) else e) }
/-- A cycle of a die: its moulds, the vectors that have come to their MERGEs (11 R192), of the entries in its queues, since when no
permitted slot has been idle (15 R291), and its registers, which are now read as the cycle's commits have left them (05 R81). -/
def State.tickDie (s : State) (d : Nat) (x : Die) : Die :=
  let y := x.tickMoulds
  { y with
    srOld := []
    moulds := y.moulds.map (fun (e : Nat × Mould) => if e.2.present then (e.1, e.2.noteArrivals) else e)
    queue := y.queue.map (fun e => if s.permittedIdle d e then { e with waitFrom := s.cycle + 1 } else e) }
/-- The pushes that have waited for a migration are made, or wait again, in their order (21 R387). -/
def State.retryPushes (s : State) : State :=
  s.latePushes.foldl (fun s w => s.pushQueue w.die w.desc w.entry w.rel) { s with latePushes := [] }
/-- What the end of a cycle brings about, if its events have not: waiters of other devices are told (15 R300), held tasks whose keys are
ready are pushed, waits whose objects are ready end (R303), watchdogs that the cycle before has brought to their end fire (19 R369), and
pushes that waited for a migration that is over are made (21 R387). -/
def State.endCycle (s : State) : State :=
  let s := s.remoteReports.releaseAllHeld
  let s := (s.slots.map (fun e => e.1)).foldl State.wake s
  ((s.slots.map (fun e => e.1)).foldl State.watchdogFire s).retryPushes
/-- The watchdog interval of a die (19 R349). -/
def State.wdint (s : State) (d : Nat) : Nat := ((s.die d).now 0x2006 (s.die d).wdint).toNat
/-- A cycle of the arithmetic clock, which runs once D0 has started (05 R82). -/
def State.clock (s : State) : State :=
  if !(s.die 0).opened then s
  else
    let s := s.endCycle
    { s with
      cycle := s.cycle + 1
      slots := s.slots.map (fun (e : Nat × Slot) =>
        if e.2.task.isNone then e else (e.1, e.2.tick (!e.2.isFrozen && !s.waitsLive e.1) (s.wdint (e.1 / 256))))
      dies := s.dies.map (fun (e : Nat × Die) => (e.1, s.tickDie e.1 e.2)) }

/-! ### Whose turn it is -/

/-- The turn at the head of the agenda, or, when that is empty, one no rule fixes. -/
def State.turn (s : State) : Turn :=
  match s.agenda with
  | t :: _ => t
  | [] => Config.turn s.tick
/-- The turn is being taken. -/
def State.passTurn (s : State) : State := { s with agenda := s.agenda.drop 1, tick := s.tick + 1, focus := .none }
/-- The word of an instruction of the block in flight in a slot. -/
def State.blockWord (s : State) (k i : Nat) : Option Word32 :=
  match (s.slot k).block with
  | some b => b.words[i]?
  | none => none
/-- The word of a stage of a mould. -/
def State.stageWord (s : State) (x : StageRef) : Option Word32 :=
  match s.mouldOf x with
  | some m => (m.pipes[x.pipe]?).bind (fun p => (p.stages[x.stg]?).map (fun st => st.word))
  | none => none
/-- The instruction a turn performs, and who performs it: none for a cycle, and where there is no such instruction. An event of the
table is performed by the device. -/
def State.turnInstr (s : State) (t : Turn) : Option (Instr × Focus) :=
  match t with
  | .clock => none
  | .fire k i => (s.blockWord k i).bind (fun w => (decodeSeq w).toOption.map (fun x => (x, .seq k i)))
  | .stage d e p k =>
    if 6 ≤ k then none
    else (s.stageWord { die := d, entry := e, pipe := p, stg := k }).bind
      (fun w => (decodeStage w).toOption.map (fun x => (x, .stage d e p k)))
  | .event i => if (encode i).isNone && i.wf then some (i, .none) else none
/-- A turn that performs no instruction: a cycle passes, or nothing happens. -/
def State.idleTurn (s : State) (t : Turn) : State :=
  match t with
  | .clock => s.clock
  | _ => s

/-! ### Placing one instruction (log entry 13) -/

/-- A block of one instruction with all it awaits there, as the fetch would have left it, in slot 0 of bay 0. -/
def loneBlock (w : Word32) : Block :=
  { blockAt 0 (opOf w = 0x37) true with
    words := [w]
    tokens := ([0, 1, 2] : List Nat).filterMap (fun j => if awaitsSlot w j then some (j, (0 : Word)) else none) }
/-- A mould of one pipeline whose stage 0 holds a word, with a vector of one bead at its input. -/
def loneMould (w : Word32) : Mould :=
  let bead : Lane := .bead { f0 := 0, f1 := 0, f2 := 0, f3 := 0, pred := true, tag := 0, count := 0, accs := [], own := [], dead := false }
  { state := .running, ctx := 0, uid := 0, starter := 0, op := 0, image := 0, origin := 0, w := 1, h := 1, bases := [], counter := 0,
    pipes := [{ Pipe.blank with stages := { Stage.blank with word := w } :: List.replicate 5 Stage.blank
                                pa := [.vec [bead]], paCap := 4 }],
    sources := [], sinks := [], inOrder := [], startWait := [], drainAsked := false, loadOrder := 0, present := true, quantum := 0,
    switching := false, spill := [], discard := false, deps := [] }
/-- Die 0 open, with its bay 0 in service. -/
def State.openFirst (s : State) : State := s.modDie 0 (fun x => { x with opened := true, capbays := x.capbays ||| 1 })
/-- The state with an instruction word placed where the next turn performs it: a stage operation in a mould when the sequencer's
decoder refuses the word. -/
def State.placeWord (s : State) (w : Word32) : State :=
  let s := s.openFirst
  match decodeSeq w, decodeStage w with
  | .error _, .ok _ =>
    { (s.modDie 0 (fun x => { x with moulds := Smap.insert x.moulds 0 (loneMould w) })) with agenda := [.stage 0 0 0 0] }
  | _, _ => { (s.modSlot 0 (fun sl => { sl with status := .running, block := some (loneBlock w) })) with agenda := [.fire 0 0] }

end Sys2Proof.Machine
end

