-- ==== Sys2Proof/Machine/Step.lean ====
section
/-! DEFINITION. One step: the party in turn performs its instruction, or a cycle passes. -/

namespace Sys2Proof.Machine

/-- One step of the machine. -/
def step (s : State) : Host.Outcome State Fault Refusal :=
  match s.turnInstr s.turn with
  | some (i, f) =>
    (match exec i { s.passTurn with focus := f } with
      | .next t => .next (t.settle s.mem)
      | .fault r => .fault r
      | .refused r => .refused r)
  | none => .next ((s.passTurn.idleTurn s.turn).settle s.mem)

/-- The state in which the next step performs the instruction of a word (log entry 13). -/
def State.withFetchWord (s : State) (_nbits w : Nat) : State := s.placeWord (BitVec.ofNat 32 w)

end Sys2Proof.Machine
end

