-- ==== Sys2Proof/Safety.lean ====
section
/-! DEFINITION. The terms in which statements about the machine are made: where each instruction stands, when one fires, what it
then delivers or holds, and what a step leaves unchanged. -/

namespace Sys2Proof

/-- Where an instruction of the table stands: a word of a block, a word of a stage, or a step of the device. -/
inductive Home where
  | block
  | fabric
  | device
  deriving DecidableEq, Repr

/-- The home of each row of the table (05 R84, R85; 95_what_each_step_holds.md). -/
def Instr.home : Instr → Home
  | .add _ _ _ _ => .block
  | .sub _ _ _ _ => .block
  | .mul _ _ _ _ => .block
  | .mulh _ _ _ _ => .block
  | .mulhu _ _ _ _ => .block
  | .div _ _ _ _ => .block
  | .divu _ _ _ _ => .block
  | .rem _ _ _ _ => .block
  | .remu _ _ _ _ => .block
  | .and _ _ _ _ => .block
  | .or _ _ _ _ => .block
  | .xor _ _ _ _ => .block
  | .andn _ _ _ _ => .block
  | .shl _ _ _ _ => .block
  | .shr _ _ _ _ => .block
  | .sar _ _ _ _ => .block
  | .rotl _ _ _ _ => .block
  | .min _ _ _ _ => .block
  | .max _ _ _ _ => .block
  | .minu _ _ _ _ => .block
  | .maxu _ _ _ _ => .block
  | .shadd1 _ _ _ => .block
  | .shadd2 _ _ _ => .block
  | .shadd3 _ _ _ => .block
  | .shadd4 _ _ _ => .block
  | .clz _ _ _ _ => .block
  | .ctz _ _ _ _ => .block
  | .popc _ _ _ _ => .block
  | .sext _ _ _ _ => .block
  | .zext _ _ _ _ => .block
  | .addw _ _ _ _ => .block
  | .ceq _ _ _ _ => .block
  | .cne _ _ _ _ => .block
  | .clt _ _ _ _ => .block
  | .cltu _ _ _ _ => .block
  | .cle _ _ _ _ => .block
  | .cleu _ _ _ _ => .block
  | .tz _ _ _ _ => .block
  | .tnz _ _ _ _ => .block
  | .sel _ _ _ => .block
  | .not _ _ _ _ => .block
  | .const _ _ _ => .block
  | .constx _ _ _ => .block
  | .mov _ _ _ _ => .block
  | .fan _ _ _ => .block
  | .srrd _ _ _ => .block
  | .srwr _ _ _ => .block
  | .bri _ _ => .block
  | .br _ _ _ => .block
  | .calli _ _ => .block
  | .call _ _ _ => .block
  | .exit _ _ _ => .block
  | .yield _ _ _ => .block
  | .trap _ _ => .block
  | .eret _ _ _ => .block
  | .fadd _ _ _ _ => .block
  | .fsub _ _ _ _ => .block
  | .fmul _ _ _ _ => .block
  | .fdiv _ _ _ _ => .block
  | .fmin _ _ _ _ => .block
  | .fmax _ _ _ _ => .block
  | .fclt _ _ _ _ => .block
  | .fceq _ _ _ _ => .block
  | .fcle _ _ _ _ => .block
  | .cvtif _ _ _ _ => .block
  | .cvtfi _ _ _ _ => .block
  | .fsqrt _ _ _ _ => .block
  | .ld8 _ _ _ _ => .block
  | .ld8s _ _ _ _ => .block
  | .ld16 _ _ _ _ => .block
  | .ld16s _ _ _ _ => .block
  | .ld32 _ _ _ _ => .block
  | .ld32s _ _ _ _ => .block
  | .ld64 _ _ _ _ => .block
  | .ldaq _ _ _ _ _ _ => .block
  | .st8 _ _ _ _ => .block
  | .st16 _ _ _ _ => .block
  | .st32 _ _ _ _ => .block
  | .st64 _ _ _ _ => .block
  | .strl _ _ _ _ => .block
  | .amo64 _ _ _ _ _ _ => .block
  | .amo32 _ _ _ _ _ _ => .block
  | .cas64 _ _ _ _ => .block
  | .fence _ _ _ _ _ => .block
  | .sbar _ _ => .block
  | .pref _ _ _ => .block
  | .spawn _ _ _ _ => .block
  | .joindec _ _ _ _ => .block
  | .gang _ _ _ _ => .block
  | .rvinit _ _ _ _ => .block
  | .arrive _ _ _ _ => .block
  | .wait _ _ _ => .block
  | .est _ _ _ _ => .block
  | .progress _ _ _ _ => .block
  | .graphgo _ _ _ _ => .block
  | .mload _ _ _ _ => .block
  | .mstart _ _ _ _ => .block
  | .mstopDrain _ _ _ _ => .block
  | .mstopAbort _ _ _ _ => .block
  | .inject _ _ _ _ => .block
  | .collect _ _ _ _ => .block
  | .pourLoadt _ _ _ _ => .block
  | .pourStart _ _ _ _ => .block
  | .pjoin _ _ _ => .block
  | .mxcfg _ _ _ _ => .block
  | .mxjoin _ _ _ => .block
  | .spalloc _ _ _ _ => .block
  | .spfree _ _ _ _ => .block
  | .hmdecl _ _ _ _ => .block
  | .stamp _ _ _ _ => .block
  | .await _ _ _ => .block
  | .hmtest _ _ _ _ => .block
  | .hmretire _ _ _ _ => .block
  | .kvmap _ _ _ _ => .block
  | .kvfork _ _ _ _ => .block
  | .kvappend _ _ _ _ => .block
  | .kvfree _ _ _ _ => .block
  | .pfxh _ _ _ _ => .block
  | .pfxlook _ _ _ _ => .block
  | .pfxins _ _ _ _ => .block
  | .splice _ _ _ _ => .block
  | .repair _ _ _ _ => .block
  | .katt _ _ _ _ => .block
  | .cacheopBinv _ _ _ _ => .block
  | .cacheopBinvdie _ _ _ _ => .block
  | .tlbopPage _ _ _ _ => .block
  | .tlbopAll _ _ _ _ => .block
  | .traceMark _ _ _ _ => .block
  | .traceFreeze _ _ _ _ => .block
  | .traceThaw _ _ _ _ => .block
  | .migrate _ _ _ _ => .block
  | .haltStop _ _ _ _ => .block
  | .haltGo _ _ _ _ => .block
  | .pass _ => .fabric
  | .iadd _ _ _ _ _ => .fabric
  | .isub _ _ _ _ _ => .fabric
  | .imul _ _ _ _ _ => .fabric
  | .imulh _ _ _ _ _ _ => .fabric
  | .iand _ _ _ _ _ => .fabric
  | .ior _ _ _ _ _ => .fabric
  | .ixor _ _ _ _ _ => .fabric
  | .ishl _ _ _ _ _ => .fabric
  | .ishr _ _ _ _ _ => .fabric
  | .isar _ _ _ _ _ => .fabric
  | .imin _ _ _ _ _ => .fabric
  | .imax _ _ _ _ _ => .fabric
  | .iminu _ _ _ _ _ => .fabric
  | .imaxu _ _ _ _ _ => .fabric
  | .icmp _ _ _ _ _ _ => .fabric
  | .ihash _ _ _ _ _ => .fabric
  | .isel _ _ _ _ _ => .fabric
  | .ipopc _ _ _ => .fabric
  | .stageFadd _ _ _ _ _ _ => .fabric
  | .stageFsub _ _ _ _ _ _ => .fabric
  | .stageFmul _ _ _ _ _ _ => .fabric
  | .ffma _ _ _ _ _ _ => .fabric
  | .stageFmin _ _ _ _ _ => .fabric
  | .stageFmax _ _ _ _ _ => .fabric
  | .fcmp _ _ _ _ _ _ => .fabric
  | .fexp2 _ _ _ => .fabric
  | .frcp _ _ _ => .fabric
  | .frsq _ _ _ => .fabric
  | .cvt _ _ _ _ _ _ _ => .fabric
  | .cvtb4 _ _ _ _ _ => .fabric
  | .fabsn _ _ _ _ _ _ => .fabric
  | .lshuf _ _ _ _ => .fabric
  | .lbcast _ _ _ => .fabric
  | .lscan _ _ _ _ => .fabric
  | .lred _ _ _ _ => .fabric
  | .lcompact => .fabric
  | .filter _ => .fabric
  | .fork _ _ _ _ _ => .fabric
  | .recirc _ => .fabric
  | .steer _ => .fabric
  | .merge => .fabric
  | .reord => .fabric
  | .gen _ _ _ _ _ => .fabric
  | .seqtag => .fabric
  | .isect _ _ => .fabric
  | .spld _ _ _ _ _ _ => .fabric
  | .spst _ _ _ _ _ _ => .fabric
  | .spamo _ _ _ _ _ _ => .fabric
  | .spfill _ _ _ _ _ _ => .fabric
  | .spmark _ _ _ _ _ => .fabric
  | .mld _ _ _ _ _ _ _ => .fabric
  | .mst _ _ _ _ _ _ => .fabric
  | .mgath _ _ _ _ => .fabric
  | .mscat _ _ _ _ => .fabric
  | .sbars _ _ _ => .fabric
  | .trswap _ _ => .fabric
  | .trload _ _ _ _ _ _ => .fabric
  | .trmv _ _ _ => .fabric
  | .pkout _ _ => .fabric
  | .pkin _ => .fabric
  | .tmerge => .fabric
  | .b4dec _ _ => .fabric
  | .softacc _ _ _ _ _ _ _ => .fabric
  | .sink => .fabric
  | .token _ => .fabric
  | .blockFetch _ => .device
  | .readDeliver _ _ => .device
  | .blockCommit _ => .device
  | .bufferedWriteResume _ => .device
  | .blockHang _ => .device
  | .waitPhaseReached _ => .device
  | .awaitComplete _ => .device
  | .pjoinComplete _ => .device
  | .mxjoinComplete _ => .device
  | .taskRetire _ => .device
  | .yieldRequeue _ => .device
  | .taskPop _ => .device
  | .gangPlace _ => .device
  | .preemptConsider _ => .device
  | .checkpointComplete _ => .device
  | .launchOpen _ => .device
  | .heldTaskRelease _ => .device
  | .launchFinish _ => .device
  | .triggerRegisterWrite _ => .device
  | .graphRunStart _ => .device
  | .sprueTrigger _ => .device
  | .dispatchStop _ _ => .device
  | .dispatchGo _ _ => .device
  | .attest _ => .device
  | .telemetry _ => .device
  | .logread => .device
  | .logclear _ _ => .device
  | .accessRead _ _ => .device
  | .accessWrite _ _ _ => .device
  | .specialRegisterWrite _ => .device
  | .mouldLoadDone _ _ => .device
  | .mouldComplete _ _ => .device
  | .stageAccessComplete _ => .device
  | .tokenArrive _ _ _ => .device
  | .quantumExpiry _ _ => .device
  | .mxcfgArm _ => .device
  | .passStart _ _ => .device
  | .operandRelease _ _ _ => .device
  | .passAccumulate _ _ _ => .device
  | .writeOut _ _ => .device
  | .ladleTransferStart _ _ => .device
  | .decompBlock _ _ => .device
  | .ladleTransferComplete _ _ => .device
  | .ladleDoorbellWrite _ _ _ => .device
  | .remoteHallmarkQuery _ _ _ => .device
  | .remoteHallmarkReport _ _ _ => .device
  | .spliceRun _ => .device
  | .spliceAbsentTimeout _ => .device
  | .repairStart _ => .device
  | .repairTaskRetired _ => .device
  | .crucibleBlock _ _ _ => .device
  | .kattRevisit _ _ _ => .device
  | .kattAbsentTimeout _ _ => .device
  | .kattComplete _ => .device
  | .watchdogFire _ => .device
  | .slotctlThaw _ => .device
  | .slotctlKill _ => .device
  | .slotctlRequeue _ => .device
  | .ctxswSave _ => .device
  | .ctxswRestore _ => .device
  | .ctxswComplete => .device
  | .tracectlFreeze _ => .device
  | .tracectlThaw _ => .device
  | .tracePostFreeze _ => .device
  | .scrub _ _ _ => .device
  | .pageWalk _ _ => .device
  | .lineFill _ _ _ => .device
  | .sliceRetry _ _ => .device
  | .sliceLeaveService _ _ => .device
  | .shootdownComplete _ => .device
  | .blockInvalidateComplete _ => .device
  | .wbRewalk _ => .device
  | .migrationCopyDone _ => .device
  | .migrationFinish _ => .device
  | .peerAccessIn _ _ _ _ _ => .device
  | .linkRetransmit _ => .device
  | .linkOutOfService _ => .device
  | .linkPathTimeout _ _ => .device
  | .edgeFailure _ => .device
  | .partFailure _ _ => .device
  | .powerThrottle _ _ => .device
  | .startController _ _ _ _ => .device
  | .dieOpen _ _ _ _ _ _ _ _ => .device
  | .edgeTraining _ _ => .device
  | .linkTraining _ _ => .device
  | .fenceScComplete _ => .device
  | .writeVisibleOnDie _ _ => .device

end Sys2Proof

namespace Sys2Proof.Machine

open Sys2Proof

/-! ### Instructions of a block -/

/-- An instruction stands in focus in a block in flight that is firing: its word is the block's word at its index. -/
structure Placed (s : State) (i : Instr) (x : Firing) : Prop where
  wf : i.wf = true
  home : i.home = .block
  focus : s.focus = .seq x.slot x.idx
  block : (s.slot x.slot).block = some x.b
  firing : (s.slot x.slot).firing x.b = true
  inside : x.idx < x.b.count
  word : encode i = some (x.b.word x.idx)

/-- And no higher-index exit, or writer of a register it writes, has fired in this cycle: beside one it fires in a later cycle (05 R69,
R74). -/
structure Stands (s : State) (i : Instr) (x : Firing) : Prop extends Placed s i x where
  turn : x.b.waitsTurn x.idx = false

/-- It has all it awaits, and predication does not make it void: it fires with the operands of x (05 R69, R70). -/
structure Fires (s : State) (i : Instr) (x : Firing) : Prop extends Stands s i x where
  operands : x.b.capture (s.slot x.slot) x.idx = some x.cap
  acts : x.b.void x.idx x.cap.p = false
  /-- And reads nothing that an uncorrectable error has spoilt (19 R371). -/
  sound : x.b.spoilt (s.slot x.slot) x.idx (formOf (x.b.word x.idx)) = false

/-- An instruction of class Value: where it fires, its value goes to its targets, and nothing else happens but that it counts as
fired; a second value for a slot or a register is BLOCK_MULTIWRITE (05 R71, R72, R74). -/
def Delivers (i : Instr) (ts : List Nat) (v : Firing → Word) : Prop :=
  ∀ s x, Fires s i x →
    (∀ b, x.block.deliverAll x.idx ts (v x) = some b → exec i s = .next (s.setBlock x.slot b)) ∧
    (x.block.deliverAll x.idx ts (v x) = none → exec i s = .next (s.faultAt x.slot x.b x.idx cBlockMultiwrite 0 none))

/-- A state in which an instruction held for commit stands fired, with its operands (05 R71). -/
def State.holding (s : State) (x : Firing) : State := s.setBlock x.slot { x.block with held := x.block.held ++ [x.cap] }

/-- An instruction whose effect or wait is held for commit. Where it fires, it is checked: a cause found is its precise fault;
otherwise it is held, or it is the second writer of its register, which is BLOCK_MULTIWRITE (05 R71, R74, R75). The check gives the
state it leaves as well: an address check may hold a translation. -/
def Holds (i : Instr) (t : BitVec 9) (check : Firing → State → Option Byte × State) : Prop :=
  ∀ s x, Fires s i x →
    (∀ c, (check x s).1 = some c → exec i s = .next ((check x s).2.faultAt x.slot x.b x.idx c 0 (some x.cap))) ∧
    ((check x s).1 = none → x.block.clash t.toNat = true →
      exec i s = .next ((check x s).2.faultAt x.slot x.b x.idx cBlockMultiwrite 0 none)) ∧
    ((check x s).1 = none → x.block.clash t.toNat = false → exec i s = .next ((check x s).2.holding x))

/-- The same with a check that looks at operands and state and changes nothing. -/
def HoldsUnless (i : Instr) (t : BitVec 9) (cause : Firing → State → Option Byte) : Prop := Holds i t (fun x s => (cause x s, s))

/-- The target none. -/
def noTarget : BitVec 9 := 0x1C0#9

/-- The check of an address: where it leads for an access, or the cause that stops it. -/
def State.leads (s : State) (k va : Nat) (w : Want) : Option Byte × State :=
  match s.resolve (s.agent k) va w with
  | (.error c, s) => (some c, s)
  | (.ok _, s) => (none, s)

/-- A load. Where it fires and no LDAQ holds it back, its address is checked: a cause found is its precise fault; an overlap with a
lower atomic of its block is ILLEGAL_FORM; else its read is in flight, with the generation of the slice map (05 R76; 09 R135-R137,
R165). The first read of an empty line is traced. -/
def Loads (i : Instr) (t : BitVec 9) (size : Nat) (signed acquire : Bool) (addr : Firing → Nat) : Prop :=
  ∀ s x, Fires s i x →
    let w := if acquire then wantAcquire size else wantRead size
    let a := s.agent x.slot
    (x.b.heldBack x.idx = true → exec i s = .next s) ∧
    (x.b.heldBack x.idx = false → ∀ c s1, s.resolve a (addr x) w = (.error c, s1) →
      exec i s = .next (s1.faultAt x.slot x.b x.idx c 0 (some x.cap))) ∧
    (x.b.heldBack x.idx = false → ∀ p s1, s.resolve a (addr x) w = (.ok p, s1) →
      (s1.overAtomic a x.b x.idx (addr x) size = true →
        exec i s = .next (s1.faultAt x.slot x.b x.idx cIllegalForm 0 (some x.cap))) ∧
      (s1.overAtomic a x.b x.idx (addr x) size = false → x.block.clash t.toNat = true →
        exec i s = .next (s1.faultAt x.slot x.b x.idx cBlockMultiwrite 0 none)) ∧
      (s1.overAtomic a x.b x.idx (addr x) size = false → x.block.clash t.toNat = false → s1.readWaits p = false →
        exec i s = .next (s1.setBlock x.slot { x.block with
          reads := x.block.reads ++ [{ cap := x.cap, addr := BitVec.ofNat 64 (addr x), size := size, signed := signed, acquire := acquire,
                                       gen := (s1.die (x.slot / 256)).slicemap, retried := false }] })) ∧
      (s1.overAtomic a x.b x.idx (addr x) size = false → x.block.clash t.toNat = false → s1.readWaits p = true →
        ∃ u, exec i s = .next u ∧ (u.slot x.slot).block = some { x.block with
          reads := x.block.reads ++ [{ cap := x.cap, addr := BitVec.ofNat 64 (addr x), size := size, signed := signed, acquire := acquire,
                                       gen := (s1.die (x.slot / 256)).slicemap, retried := false }] }))

/-- Does what a buffered write reads at a place have an uncorrectable error which no lower-index store of its block writes first: an atomic's
read, or a narrow write's granule (R136; 19 R371)? -/
def Spoilt (s : State) (x : Firing) (p : Place) (w : Want) (addr : Nat) : Prop :=
  s.writeBad p w = true ∧ (s.placeLost p = true ∨ s.overwritten (s.agent x.slot) x.b x.idx (p.key.getD addr) = false)

/-- A buffered write. Where it fires its address is checked: a cause found is its precise fault; so is what an atomic reads, or a write
narrower than 8 bytes meets, with an uncorrectable error (R136; 19 R371), unless a lower-index store writes over it, for which it waits; else
it stands in the store buffer with its address, its data and where the address leads (05 R60, R76; 09 R138, R140, R143). -/
def Stores (i : Instr) (t : BitVec 9) (w : Want) (addr : Firing → Nat) : Prop :=
  ∀ s x, Fires s i x →
    (∀ c s1, s.resolve (s.agent x.slot) (addr x) w = (.error c, s1) →
      exec i s = .next (s1.faultAt x.slot x.b x.idx c 0 (some x.cap))) ∧
    (∀ p s1, s.resolve (s.agent x.slot) (addr x) w = (.ok p, s1) →
      let open_ := s1.writeBad p w = true ∧ s1.placeLost p = false ∧ x.b.storesSettled x.idx = false
      (open_ → exec i s = .next s1) ∧
      (¬ open_ → Spoilt s1 x p w (addr x) →
        exec i s = .next (s1.faultAt x.slot x.b x.idx cUncorrectable 0 (some x.cap))) ∧
      (¬ open_ → ¬ Spoilt s1 x p w (addr x) → x.block.clash t.toNat = true →
        exec i s = .next (s1.faultAt x.slot x.b x.idx cBlockMultiwrite 0 none)) ∧
      (¬ open_ → ¬ Spoilt s1 x p w (addr x) → x.block.clash t.toNat = false → exec i s = .next (s1.setBlock x.slot { x.block with
        stores := x.block.stores ++ [{ idx := x.idx, addr := BitVec.ofNat 64 (addr x), data := x.cap.r, dataP := x.cap.p,
                                       place := some p, gen := none }] })))

/-- An exit: where it fires it is chosen, with the register it writes; a second exit is BLOCK_MULTIEXIT, a second writer of s63
BLOCK_MULTIWRITE (05 R71, R74; 07 R109, R110). -/
def Chooses (s : State) (i : Instr) (x : Firing) (e : ExitSel) (link : Bool) : Prop :=
  (x.b.exit.isSome = true → exec i s = .next (s.faultAt x.slot x.b x.idx cBlockMultiexit 0 none)) ∧
  (x.b.exit = none → link = true → x.block.claimed.contains 63 = true →
    exec i s = .next (s.faultAt x.slot x.b x.idx cBlockMultiwrite 0 none)) ∧
  (x.b.exit = none → link = true → x.block.claimed.contains 63 = false →
    exec i s = .next (s.setBlock x.slot { x.block with
      exit := some (x.idx, e)
      regw := x.block.regw ++ [{ reg := 63, writer := x.idx, value := x.b.link.setWidth 64 }] })) ∧
  (x.b.exit = none → link = false → exec i s = .next (s.setBlock x.slot { x.block with exit := some (x.idx, e) }))

/-- Nothing changes but the block in flight of one slot: every other slot, every other field of that slot, every other part of the
state, and every byte of memory that any party reads. -/
structure OnlyBlock (s t : State) (k : Nat) : Prop where
  others : ∀ j, j ≠ k → t.slot j = s.slot j
  slot : ({ t.slot k with block := none } : Slot) = { s.slot k with block := none }
  rest : ({ t with slots := s.slots } : State) = s
  bytes : ∀ d p a, t.byteFor d p a = s.byteFor d p a

end Sys2Proof.Machine

namespace Sys2Proof.Machine

/-! ### Effects held for commit -/

/-- A block in commit step 3 whose next effect is the held instruction c, of operation code op (05 R75). -/
structure Effecting (s : State) (k : Nat) (b : Block) (c : Capture) (op : Nat) : Prop where
  status : (s.slot k).status = .running
  block : (s.slot k).block = some b
  pos : ∃ i, b.pos = .effects i ∧ b.nextEffect i = some c.idx
  held : b.held.find? (fun e => e.idx = c.idx) = some c
  op : opOf (b.word c.idx) = op

/-- An effect has been performed: its target register is written, it is held no longer, and the commit goes on behind it. A STAMP ends the
AWAITs it makes ready (15 R303). -/
def State.effected (s : State) (k : Nat) (b : Block) (c : Capture) (v : Word) : State :=
  let s := (s.writeTarget k (b.word c.idx) v).modBlock k (fun b => { b with
    held := b.held.filter (fun e => e.idx != c.idx)
    pos := .effects (c.idx + 1)
    waiting := none })
  if opOf (b.word c.idx) = 0x6C then s.wakeAwaits else s

/-- The next step of the commit performs the effect: the machine becomes t, and the target receives v; where t has written to a page that
is being migrated, the effect waits instead (21 R386, R387). -/
def Effects (s : State) (k : Nat) (b : Block) (c : Capture) (t : State) (v : Word) : Prop :=
  exec (.blockCommit k) s = .next (if t.blockedSince s.nextWrite then s.stallEffect k b c else t.effected k b c v)

/-- The effect must wait: the commit stands at it. -/
def Stalls (s : State) (k : Nat) (b : Block) (c : Capture) : Prop := exec (.blockCommit k) s = .next (s.stallEffect k b c)

/-- The effect holds the exit of its block: it stays held itself, until the block settles. -/
def HoldsExit (s : State) (k : Nat) (b : Block) (c : Capture) (t : State) (hs : List Hold) : Prop :=
  let u := hs.foldl (fun s h => s.modBlock k (fun b => { b with holds := b.holds ++ [h] })) t
  exec (.blockCommit k) s = .next (if u.blockedSince s.nextWrite then s.stallEffect k b c
    else (u.writeTarget k (b.word c.idx) 0).modBlock k (fun b => { b with pos := .effects (c.idx + 1), waiting := none }))

/-- The operation a fork by the task of a slot takes, and the state after it: the next number, visible on the dies it works on what the
task has done and read (09 R162), and, where it is to be joined, an entry of the task's join list. -/
def State.forked (s : State) (k idx : Nat) (kind : Option JoinKind) (atExit : Bool) (dies : List Nat) : State :=
  let uid := (s.slot k).uid
  let deps := s.past (.task uid)
  let s1 := dies.foldl (fun s1 d => s1.reveal d deps) s
  let s2 := { s1 with
    nextOp := s.nextOp + 1
    forkers := Smap.insert s1.forkers s.nextOp uid }
  match kind with
  | none => s2
  | some j => { s2 with joins := Smap.put s2.joins [] uid (Smap.getD s2.joins [] uid ++
      [{ kind := j, op := s.nextOp, idx := idx, done := false, atExit := atExit, faults := [], overflow := false }]) }

end Sys2Proof.Machine

namespace Sys2Proof

/-- Does a stage operation read PB in pairs: BSEL 011, and TMERGE (11 R177; 13 R242)? -/
def Instr.pairs : Instr → Bool
  | .iadd _ _ _ s _ => s == 3#3
  | .isub _ _ _ s _ => s == 3#3
  | .imul _ _ _ s _ => s == 3#3
  | .iand _ _ _ s _ => s == 3#3
  | .ior _ _ _ s _ => s == 3#3
  | .ixor _ _ _ s _ => s == 3#3
  | .ishl _ _ _ s _ => s == 3#3
  | .ishr _ _ _ s _ => s == 3#3
  | .isar _ _ _ s _ => s == 3#3
  | .imin _ _ _ s _ => s == 3#3
  | .imax _ _ _ s _ => s == 3#3
  | .iminu _ _ _ s _ => s == 3#3
  | .imaxu _ _ _ s _ => s == 3#3
  | .ihash _ _ _ s _ => s == 3#3
  | .stageFmin _ _ _ s _ => s == 3#3
  | .stageFmax _ _ _ s _ => s == 3#3
  | .isel _ _ _ s _ => s == 3#3
  | .imulh _ _ _ s _ _ => s == 3#3
  | .icmp _ _ _ s _ _ => s == 3#3
  | .stageFadd _ _ _ s _ _ => s == 3#3
  | .stageFsub _ _ _ s _ _ => s == 3#3
  | .stageFmul _ _ _ s _ _ => s == 3#3
  | .ffma _ _ _ s _ _ => s == 3#3
  | .fcmp _ _ _ s _ _ => s == 3#3
  | .fabsn _ _ _ s _ _ => s == 3#3
  | .lshuf _ _ _ s => s == 3#3
  | .fork _ _ _ s _ => s == 3#3
  | .gen _ _ _ s _ => s == 3#3
  | .trload _ _ s _ _ _ => s == 3#3
  | .softacc _ _ _ s _ _ _ => s == 3#3
  | .tmerge => true
  | _ => false

/-- Does one have an input, a hold or an end of its own, beyond the common rules? -/
def Instr.keeps : Instr → Bool
  | .fork _ _ _ _ _ => true
  | .recirc _ => true
  | .steer _ => true
  | .merge => true
  | .reord => true
  | .gen _ _ _ _ _ => true
  | .isect _ _ => true
  | .pkout _ _ => true
  | .token _ => true
  | _ => false

/-- Does one make or await accesses, or raise a fault? -/
def Instr.reaches : Instr → Bool
  | .recirc _ => true
  | .spld _ _ _ _ _ _ => true
  | .spst _ _ _ _ _ _ => true
  | .spamo _ _ _ _ _ _ => true
  | .spfill _ _ _ _ _ _ => true
  | .spmark _ _ _ _ _ => true
  | .mld _ _ _ _ _ _ _ => true
  | .mst _ _ _ _ _ _ => true
  | .mgath _ _ _ _ => true
  | .mscat _ _ _ _ => true
  | .sbars _ _ _ => true
  | _ => false

end Sys2Proof

namespace Sys2Proof.Machine

/-! ### Operations of stages -/

/-- A stage operation is in focus in a mould that has started, is in the fabric and is not being switched out, and its word is the
word of its stage (11 R169, R217). -/
structure Staged (s : State) (i : Instr) (x : StageRef) : Prop where
  wf : i.wf = true
  home : i.home = .fabric
  focus : s.focus = .stage x.die x.entry x.pipe x.stg
  mould : ∃ m, s.mouldOf x = some m ∧ m.state.started = true ∧ m.present = true ∧ m.switching = false ∧ x.pipe < m.pipes.length
  inside : x.stg < 6
  word : encode i = some (s.stageOf x).word

/-- What a stage reads beside its primary input, and what end-of-stream waits for at it (11 R177, R206). -/
structure Ending where
  paired : Bool
  readsPb : Bool
  drained : State → Bool
  atEnd : State → State

/-- A stage that reads its primary input, and PB too where its vectors are paired, and holds nothing between firings. -/
def Ending.plain (paired : Bool) : Ending := { paired := paired, readsPb := paired, drained := fun _ => true, atEnd := fun s => s }

def Ending.plan (e : Ending) : StagePlan :=
  { planOf (fun s _ _ => s) with
    paired := e.paired
    readsPb := e.readsPb
    drained := e.drained
    atEnd := e.atEnd }

/-- A stage's turn begins: what it has put out goes on as far as there is room, and the end of PB is noted. -/
def State.enters (s : State) (x : StageRef) (e : Ending) : State := (s.flush x).drainPb x e.plan
/-- It ends: end-of-stream passes if it may, what was put out goes on, and a mould that has come to its end is freed. -/
def State.leaves (s : State) (x : StageRef) (e : Ending) : State := ((s.passEnd x e.plan).flush x).sweep x.die x.entry

/-- A vector is the next input of a stage that holds no other. -/
structure Offered (u : State) (x : StageRef) (v : List Lane) : Prop where
  free : (u.stageOf x).busy = none
  input : (u.takeFront x).1 = some (.vec v)

/-- A vector is taken when every consumer of the output has asked for one (11 R175), with its partner where vectors are paired
(11 R177); else it waits. -/
def State.taking (u : State) (x : StageRef) (paired : Bool) (fires : State → List Lane → State) : State :=
  if u.demanded x = false then u.idles x
  else if paired = false then fires (u.takeFront x).2 []
  else match (u.pipeOf x).pb with
    | .vec w :: rest => fires ((u.takeFront x).2.modPipeOf x (fun p => { p with pb := rest })) w
    | _ => if (u.stageOf x).pbEnded then fires (u.takeFront x).2 [] else u.idles x

/-- An operation whose output vector, and its stage afterwards, are a function of the stage, its input and the partner. -/
def Maps (i : Instr) (paired : Bool) (f : Stage → List Lane → List Lane → Stage × List Lane) : Prop :=
  ∀ s x v, Staged s i x → Offered (s.enters x (.plain paired)) x v →
    exec i s = .next (((s.enters x (.plain paired)).taking x paired (fun u w =>
      (u.modStageOf x (fun _ => (f (u.stageOf x) v w).1)).emit x (.vec (f (u.stageOf x) v w).2))).leaves x (.plain paired))

/-- An operation with one result a lane, from A and B, the old value of the destination and the predicate (11 R176-R178). -/
def MapsLanes (i : Instr) (d a b : BitVec 2) (bs : BitVec 3) (c : BitVec 4) (op : Word32 → Word32 → Word32 → Bool → Word32) : Prop :=
  Maps i (bs == 3#3) (fun st v w => (st, mapLanes st d.toNat a.toNat b.toNat bs.toNat c (fun _ => op) v w))

/-- A memory operation: the accesses of a vector are issued as one group into a stream (11 R198, R199, R201). -/
def Issues (i : Instr) (port : Bool) (stream : Nat) (c : BitVec 4) (req : State → StageRef → Nat → Bead → List AccReq) : Prop :=
  ∀ s x v, Staged s i x → Offered (s.enters x (.plain false)) x v →
    exec i s = .next (((s.enters x (.plain false)).taking x false (fun u _ =>
      u.issueGroup x port stream c v (req u x))).leaves x (.plain false))

end Sys2Proof.Machine

namespace Sys2Proof.Machine

/-! ### The life of a block -/

/-- A block in flight in a slot whose task runs, at a place of its commit (05 R75). -/
structure Committing (s : State) (k : Nat) (b : Block) (p : CommitPos) : Prop where
  status : (s.slot k).status = .running
  block : (s.slot k).block = some b
  pos : b.pos = p

/-- Nothing of a block is in flight and nothing can fire (05 R73). -/
def Block.still (b : Block) (sl : Slot) : Prop := b.reads = [] ∧ b.replay = [] ∧ ∀ i, i < b.count → b.ready sl i = false

/-- A block has completed and chosen its exit: its commit may begin. -/
structure Completed (s : State) (k : Nat) (b : Block) : Prop extends Committing s k b .firing where
  still : b.still (s.slot k)
  exit : b.exit.isSome = true

/-- A task waits at the wait-class instruction c of its block, of operation code op (05 R75). -/
structure Waiting (s : State) (k : Nat) (b : Block) (c : Capture) (op : Nat) : Prop where
  status : (s.slot k).status = .waiting
  block : (s.slot k).block = some b
  wait : b.waiting = some c.idx
  held : b.held.find? (fun e => e.idx = c.idx) = some c
  op : opOf (b.word c.idx) = op

/-- The wait is over with the machine at t and no faults to report: the instruction is held no longer, and the commit goes on behind
it. -/
def State.waited (t : State) (k : Nat) (b : Block) (c : Capture) : State :=
  (t.modSlot k (fun sl => { sl with status := .running })).setBlock k { b with
    held := b.held.filter (fun e => e.idx != c.idx)
    waiting := none
    fixedGen := none
    pos := .waits (b.nextWait (c.idx + 1)) }

end Sys2Proof.Machine
end

