-- ==== Sys2Proof/Certificates/Slice0/Obligations.lean ====
section
/-! DEFINITION. The statements for the provers. -/

open Sys2Proof Sys2Proof.Machine

/-! ### What an instruction of a block delivers (07 R92-R104, R117-R120) -/

/-- 07 R92: the two-operand integer instructions.
07 R94, R95: division with its fixed results, and shift-and-add.
07 R93, R96, R97: shifts, the rotate, bit counts and extensions. The count is R modulo 64. -/
def Obligations.IntegerInstructions : Prop :=
  (∀ (p : BitVec 2) (t : BitVec 9) (l r : BitVec 7),
     Delivers (.add p t l r) [t.toNat] (fun x => BitVec.ofNat 64 ((x.cap.l.toNat + x.cap.r.toNat) % 2 ^ 64)) ∧
     Delivers (.sub p t l r) [t.toNat] (fun x => BitVec.ofInt 64 ((x.cap.l.toNat : Int) - x.cap.r.toNat)) ∧
     Delivers (.mul p t l r) [t.toNat] (fun x => BitVec.ofNat 64 (x.cap.l.toNat * x.cap.r.toNat % 2 ^ 64)) ∧
     Delivers (.mulh p t l r) [t.toNat]
       (fun x => (x.cap.l.signExtend 128 * x.cap.r.signExtend 128).extractLsb' 64 64) ∧
     Delivers (.mulhu p t l r) [t.toNat]
       (fun x => (x.cap.l.setWidth 128 * x.cap.r.setWidth 128).extractLsb' 64 64) ∧
     Delivers (.and p t l r) [t.toNat] (fun x => x.cap.l &&& x.cap.r) ∧
     Delivers (.or p t l r) [t.toNat] (fun x => x.cap.l ||| x.cap.r) ∧
     Delivers (.xor p t l r) [t.toNat] (fun x => x.cap.l ^^^ x.cap.r) ∧
     Delivers (.andn p t l r) [t.toNat] (fun x => x.cap.l &&& ~~~x.cap.r) ∧
     Delivers (.min p t l r) [t.toNat] (fun x => BitVec.ofInt 64 (min x.cap.l.toInt x.cap.r.toInt)) ∧
     Delivers (.max p t l r) [t.toNat] (fun x => BitVec.ofInt 64 (max x.cap.l.toInt x.cap.r.toInt)) ∧
     Delivers (.minu p t l r) [t.toNat] (fun x => BitVec.ofNat 64 (min x.cap.l.toNat x.cap.r.toNat)) ∧
     Delivers (.maxu p t l r) [t.toNat] (fun x => BitVec.ofNat 64 (max x.cap.l.toNat x.cap.r.toNat)) ∧
     Delivers (.addw p t l r) [t.toNat] (fun x => BitVec.ofInt 64 (BitVec.ofNat 32 (x.cap.l.toNat + x.cap.r.toNat)).toInt)) ∧
  (∀ (p : BitVec 2) (t : BitVec 9) (l r : BitVec 7),
     Delivers (.div p t l r) [t.toNat] (fun x =>
       if x.cap.r = 0 then BitVec.allOnes 64
       else if x.cap.l.toInt = -2 ^ 63 ∧ x.cap.r.toInt = -1 then BitVec.ofNat 64 (2 ^ 63)
       else BitVec.ofInt 64 (x.cap.l.toInt.tdiv x.cap.r.toInt)) ∧
     Delivers (.divu p t l r) [t.toNat] (fun x =>
       if x.cap.r = 0 then BitVec.allOnes 64 else BitVec.ofNat 64 (x.cap.l.toNat / x.cap.r.toNat)) ∧
     Delivers (.rem p t l r) [t.toNat] (fun x =>
       if x.cap.r = 0 then x.cap.l
       else if x.cap.l.toInt = -2 ^ 63 ∧ x.cap.r.toInt = -1 then 0
       else BitVec.ofInt 64 (x.cap.l.toInt - x.cap.l.toInt.tdiv x.cap.r.toInt * x.cap.r.toInt)) ∧
     Delivers (.remu p t l r) [t.toNat] (fun x =>
       if x.cap.r = 0 then x.cap.l else BitVec.ofNat 64 (x.cap.l.toNat - x.cap.l.toNat / x.cap.r.toNat * x.cap.r.toNat)) ∧
     Delivers (.shadd1 t l r) [t.toNat] (fun x => BitVec.ofNat 64 (x.cap.l.toNat * 2 + x.cap.r.toNat + x.cap.p.toNat)) ∧
     Delivers (.shadd2 t l r) [t.toNat] (fun x => BitVec.ofNat 64 (x.cap.l.toNat * 4 + x.cap.r.toNat + x.cap.p.toNat)) ∧
     Delivers (.shadd3 t l r) [t.toNat] (fun x => BitVec.ofNat 64 (x.cap.l.toNat * 8 + x.cap.r.toNat + x.cap.p.toNat)) ∧
     Delivers (.shadd4 t l r) [t.toNat] (fun x => BitVec.ofNat 64 (x.cap.l.toNat * 16 + x.cap.r.toNat + x.cap.p.toNat))) ∧
  (∀ (p : BitVec 2) (t : BitVec 9) (l r : BitVec 7),
     Delivers (.shl p t l r) [t.toNat] (fun x => BitVec.ofNat 64 (x.cap.l.toNat * 2 ^ (x.cap.r.toNat % 64) % 2 ^ 64)) ∧
     Delivers (.shr p t l r) [t.toNat] (fun x => BitVec.ofNat 64 (x.cap.l.toNat / 2 ^ (x.cap.r.toNat % 64))) ∧
     Delivers (.sar p t l r) [t.toNat] (fun x => BitVec.ofInt 64 (x.cap.l.toInt / 2 ^ (x.cap.r.toNat % 64))) ∧
     Delivers (.rotl p t l r) [t.toNat] (fun x =>
       BitVec.ofNat 64 (x.cap.l.toNat * 2 ^ (x.cap.r.toNat % 64) % 2 ^ 64 + x.cap.l.toNat / 2 ^ (64 - x.cap.r.toNat % 64))) ∧
     Delivers (.clz p t l r) [t.toNat] (fun x => BitVec.ofNat 64 (if x.cap.l = 0 then 64 else 63 - Nat.log2 x.cap.l.toNat)) ∧
     Delivers (.ctz p t l r) [t.toNat] (fun x =>
       BitVec.ofNat 64 (((List.range 64).find? (fun i => x.cap.l.getLsbD i)).getD 64)) ∧
     Delivers (.popc p t l r) [t.toNat] (fun x =>
       BitVec.ofNat 64 ((List.range 64).countP (fun i => x.cap.l.getLsbD i))) ∧
     Delivers (.sext p t l r) [t.toNat] (fun x =>
       (x.cap.l <<< (63 - x.cap.r.toNat % 64)).sshiftRight (63 - x.cap.r.toNat % 64)) ∧
     Delivers (.zext p t l r) [t.toNat] (fun x => BitVec.ofNat 64 (x.cap.l.toNat % 2 ^ (x.cap.r.toNat % 64 + 1))))

/-- 07 R98-R104: compares deliver 1 or 0; selection, complement, constants and moves. FAN delivers to both of its targets. -/
def Obligations.CompareSelectMove : Prop :=
  ∀ (p : BitVec 2) (t u : BitVec 9) (l r : BitVec 7) (i : BitVec 14),
    Delivers (.ceq p t l r) [t.toNat] (fun x => if x.cap.l.toNat = x.cap.r.toNat then 1 else 0) ∧
    Delivers (.cne p t l r) [t.toNat] (fun x => if x.cap.l.toNat = x.cap.r.toNat then 0 else 1) ∧
    Delivers (.clt p t l r) [t.toNat] (fun x => if x.cap.l.toInt < x.cap.r.toInt then 1 else 0) ∧
    Delivers (.cltu p t l r) [t.toNat] (fun x => if x.cap.l.toNat < x.cap.r.toNat then 1 else 0) ∧
    Delivers (.cle p t l r) [t.toNat] (fun x => if x.cap.l.toInt ≤ x.cap.r.toInt then 1 else 0) ∧
    Delivers (.cleu p t l r) [t.toNat] (fun x => if x.cap.l.toNat ≤ x.cap.r.toNat then 1 else 0) ∧
    Delivers (.tz p t l r) [t.toNat] (fun x => if x.cap.l.toNat = 0 then 1 else 0) ∧
    Delivers (.tnz p t l r) [t.toNat] (fun x => if x.cap.l.toNat = 0 then 0 else 1) ∧
    Delivers (.not p t l r) [t.toNat] (fun x => BitVec.ofNat 64 (2 ^ 64 - 1 - x.cap.l.toNat)) ∧
    Delivers (.sel t l r) [t.toNat] (fun x => if x.cap.p.toNat = 0 then x.cap.r else x.cap.l) ∧
    Delivers (.const p t i) [t.toNat] (fun _ => BitVec.ofInt 64 i.toInt) ∧
    Delivers (.constx p t i) [t.toNat] (fun x => BitVec.ofNat 64 ((x.cap.l.toNat * 2 ^ 14 + i.toNat) % 2 ^ 64)) ∧
    Delivers (.mov p t l r) [t.toNat] (fun x => x.cap.l) ∧
    Delivers (.fan p t u) [t.toNat, u.toNat] (fun x => x.cap.l)

/-- 07 R117-R120: the FP32 instructions work on bits 31:0 of each operand and round once, to nearest with ties to even; their
result is zero-extended.
03 R35, R40, R42: a value that a format holds is rounded to itself, under every rounding mode: every encoding but a NaN comes
back from the value it stands for, zeros with their signs. -/
def Obligations.FloatResults : Prop :=
  (∀ (p : BitVec 2) (t : BitVec 9) (l r : BitVec 7),
     let fl (x : Firing) : Val := fp32.decode (x.cap.l.toNat % 2 ^ 32)
     let fr (x : Firing) : Val := fp32.decode (x.cap.r.toNat % 2 ^ 32)
     let rne (v : Val) : Word := BitVec.ofNat 64 (fp32.round .rne v)
     Delivers (.fadd p t l r) [t.toNat] (fun x => rne ((fl x).add false (fr x))) ∧
     Delivers (.fsub p t l r) [t.toNat] (fun x => rne ((fl x).add false (fr x).neg)) ∧
     Delivers (.fmul p t l r) [t.toNat] (fun x => rne ((fl x).mul (fr x))) ∧
     Delivers (.fdiv p t l r) [t.toNat] (fun x => rne ((fl x).div (fr x))) ∧
     Delivers (.fmin p t l r) [t.toNat] (fun x => BitVec.ofNat 64 (fpMin (x.cap.l.toNat % 2 ^ 32) (x.cap.r.toNat % 2 ^ 32))) ∧
     Delivers (.fmax p t l r) [t.toNat] (fun x => BitVec.ofNat 64 (fpMax (x.cap.l.toNat % 2 ^ 32) (x.cap.r.toNat % 2 ^ 32))) ∧
     Delivers (.fclt p t l r) [t.toNat] (fun x => if (fl x).lt (fr x) then 1 else 0) ∧
     Delivers (.fceq p t l r) [t.toNat] (fun x => if (fl x).eqv (fr x) then 1 else 0) ∧
     Delivers (.fcle p t l r) [t.toNat] (fun x => if (fl x).lt (fr x) || (fl x).eqv (fr x) then 1 else 0) ∧
     Delivers (.cvtif p t l r) [t.toNat] (fun x => rne (Val.ofInt x.cap.l.toInt)) ∧
     Delivers (.cvtfi p t l r) [t.toNat] (fun x => BitVec.ofInt 64 ((fl x).toInt .rne 64)) ∧
     Delivers (.fsqrt p t l r) [t.toNat] (fun x => rne (fl x).sqrt)) ∧
  (∀ (f : FFmt) (m : RMode) (x : Nat), f ∈ [fp32, bf16, fp16, e4m3, e5m2] → x < 2 ^ f.width →
     (f.decode x).isNan = false → f.round m (f.decode x) = x)

/-- 07 R118, R119, R120; 03 R39, R41: what special operands give. x and y are FP32 encodings.
11 R184-R186: values that the procedures of the approximations give without a step, for the FP32 encoding of a. -/
def Obligations.FloatSpecialOperands : Prop :=
  (∀ x y : Nat, x < 2 ^ 32 → y < 2 ^ 32 →
     let nan (n : Nat) : Prop := 0x7F800000 < n % 2 ^ 31
     let inf (n : Nat) : Prop := n % 2 ^ 31 = 0x7F800000
     let zero (n : Nat) : Prop := n % 2 ^ 31 = 0
     let sign (n : Nat) : Nat := n / 2 ^ 31
     (nan x ∨ nan y → fpAdd .rne x y = 0x7FC00000 ∧ fpSub .rne x y = 0x7FC00000 ∧ fpMul .rne x y = 0x7FC00000 ∧
       fpDiv .rne x y = 0x7FC00000 ∧ (fp32.decode x).lt (fp32.decode y) = false ∧ (fp32.decode x).eqv (fp32.decode y) = false) ∧
     (inf x → inf y → sign x ≠ sign y → fpAdd .rne x y = 0x7FC00000) ∧
     (inf x → inf y → sign x = sign y → fpSub .rne x y = 0x7FC00000) ∧
     (¬nan x → ¬inf x → fpSub .rne x x = 0) ∧
     (zero x → inf y → fpMul .rne x y = 0x7FC00000 ∧ fpMul .rne y x = 0x7FC00000) ∧
     (zero x → zero y → fpDiv .rne x y = 0x7FC00000) ∧ (inf x → inf y → fpDiv .rne x y = 0x7FC00000) ∧
     (¬nan x → ¬zero x → zero y → fpDiv .rne x y = 0x7F800000 + (if sign x = sign y then 0 else 2 ^ 31)) ∧
     (¬nan x → ¬inf x → inf y → fpDiv .rne x y = (if sign x = sign y then 0 else 2 ^ 31)) ∧
     (nan x → nan y → fpMin x y = 0x7FC00000 ∧ fpMax x y = 0x7FC00000) ∧
     (nan x → ¬nan y → fpMin x y = y ∧ fpMax x y = y) ∧ (¬nan x → nan y → fpMin x y = x ∧ fpMax x y = x) ∧
     (zero x → zero y → sign x = 1 → sign y = 0 → fpMin x y = x ∧ fpMin y x = x ∧ fpMax x y = y ∧ fpMax y x = y) ∧
     (nan x ∨ (sign x = 1 ∧ ¬zero x) → fp32.round .rne (fp32.decode x).sqrt = 0x7FC00000) ∧
     (zero x → fp32.round .rne (fp32.decode x).sqrt = x) ∧
     (nan x → (fp32.decode x).toInt .rne 64 = 0) ∧
     (inf x → (fp32.decode x).toInt .rne 64 = if sign x = 1 then -2 ^ 63 else 2 ^ 63 - 1)) ∧
  (∀ x : Nat, x < 2 ^ 32 →
     let mag := x % 2 ^ 31
     let neg := x / 2 ^ 31 = 1
     (0x7F800000 < mag → fexp2 x = 0x7FC00000 ∧ frcp x = 0x7FC00000 ∧ frsq x = 0x7FC00000) ∧
     (¬neg → 0x43000000 ≤ mag → mag ≤ 0x7F800000 → fexp2 x = 0x7F800000) ∧
     (neg → 0x43160000 < mag → mag ≤ 0x7F800000 → fexp2 x = 0) ∧
     (mag = 0 → frcp x = x + 0x7F800000 ∧ frsq x = x + 0x7F800000 ∧ fexp2 x = 0x3F800000) ∧
     (mag = 0x7F800000 → frcp x = x - 0x7F800000) ∧
     (x = 0x7F800000 → frsq x = 0) ∧
     (neg → 0 < mag → frsq x = 0x7FC00000))

/-! ### When an instruction of a block fires, and what it reads (05 R64, R66, R69, R70, R72, R74, R79) -/

/-- 05 R69, R70: an instruction does nothing until all it awaits is there; a void one delivers nothing, writes nothing, performs no
access and is no exit: it only counts as fired. One that would be a second exit, or the second writer of a register, beside a
higher-index one that has fired in this cycle fires in a later cycle, so that the higher index is the second (R74): that clause is the
model's choice, log entry 7. PM 01 is void when P is zero, PM 10 when it is not; SEL, CAS64 and SHADD1 to SHADD4
are never void, and an instruction that fires again from a frame is decided already (19 R353). One that would read a register or an operand
that an uncorrectable error has spoilt faults precisely (19 R371).
05 R64, R67, R79: the operands an instruction fires with. A register specifier gives the register, s0 zero; 0x41 to 0x7F give
-31 to 31; an awaited slot gives what was delivered to it; a group operand reads four registers. -/
def Obligations.FiringAndOperands : Prop :=
  ((∀ (i : Instr) (s : State) (x : Firing), Stands s i x → x.b.capture (s.slot x.slot) x.idx = none → exec i s = .next s) ∧
   (∀ (i : Instr) (s : State) (x : Firing), Stands s i x → x.b.capture (s.slot x.slot) x.idx = some x.cap →
     x.b.void x.idx x.cap.p = true → exec i s = .next (s.setBlock x.slot (x.b.setFired x.idx))) ∧
   (∀ (i : Instr) (s : State) (x : Firing), Placed s i x → x.b.waitsTurn x.idx = true → exec i s = .next s) ∧
   (∀ (i : Instr) (s : State) (x : Firing), Stands s i x → x.b.capture (s.slot x.slot) x.idx = some x.cap → x.b.void x.idx x.cap.p = false →
     x.b.spoilt (s.slot x.slot) x.idx (formOf (x.b.word x.idx)) = true →
     exec i s = .next (s.faultAt x.slot x.b x.idx cUncorrectable 0 (some x.cap))) ∧
   (∀ (b : Block) (i : Nat) (p : Word), b.replay = [] →
     b.void i p = ((pmOf (b.word i) = 1 && p = 0) || (pmOf (b.word i) = 2 && p ≠ 0))) ∧
   (∀ (b : Block) (i : Nat) (p : Word), b.replay.any (fun c => c.idx == i) = true → b.void i p = false) ∧
   (∀ (i : Instr) (s : State) (x : Firing), Stands s i x →
     opOf (x.b.word x.idx) ∈ [0x16, 0x17, 0x18, 0x19, 0x28, 0x53] → x.b.void x.idx x.cap.p = false)) ∧
  (∀ (b : Block) (sl : Slot) (i : Nat) (c : Capture), b.replay = [] → b.capture sl i = some c →
     let w := b.word i
     let op := opOf w
     c.idx = i ∧ b.isFired i = false ∧
     (usesL op = true → awaitsL w = false → lOf w < 0x40 → c.l = if lOf w = 0 then 0 else Smap.getD sl.regs 0 (lOf w)) ∧
     (usesL op = true → awaitsL w = false → 0x40 < lOf w → c.l = BitVec.ofInt 64 ((lOf w : Int) - 96)) ∧
     (awaitsL w = true → b.token i 0 = some c.l) ∧
     (usesR op = true → awaitsR w = false → rOf w < 0x40 → c.r = if rOf w = 0 then 0 else Smap.getD sl.regs 0 (rOf w)) ∧
     (usesR op = true → awaitsR w = false → 0x40 < rOf w → c.r = BitVec.ofInt 64 ((rOf w : Int) - 96)) ∧
     (awaitsR w = true → b.token i 1 = some c.r) ∧
     (awaitsP w = true → b.token i 2 = some c.p) ∧
     (isRg op = true → awaitsL w = false →
       c.grp = [sl.reg (lOf w), sl.reg (lOf w + 1), sl.reg (lOf w + 2), sl.reg (lOf w + 3)]))

/-- 05 R66, R72, R74: delivery to one target. A slot takes one value, a register other than s0 has one writer, and a second is
turned away; s0 and none discard. -/
def Obligations.TargetsDelivered : Prop :=
  ∀ (b : Block) (i : Nat) (v : Word) (t : BitVec 9), (t.toNat < 0x1C0 ∨ t.toNat = 0x1C0) →
    let n := t.toNat
    (n < 0x180 → (b.deliver i n v).isSome = (b.token (n % 128) (n / 128)).isNone) ∧
    (0x180 < n → n < 0x1C0 → (b.deliver i n v).isSome = !b.claimed.contains (n - 0x180)) ∧
    (n = 0x180 ∨ n = 0x1C0 → b.deliver i n v = some b) ∧
    (∀ b', b.deliver i n v = some b' →
      (n < 0x180 → b'.token (n % 128) (n / 128) = some v ∧
        (∀ j slot, slot < 3 → (j ≠ n % 128 ∨ slot ≠ n / 128) → b'.token j slot = b.token j slot) ∧
        { b' with tokens := b.tokens } = b) ∧
      (0x180 < n → n < 0x1C0 → b' = { b with regw := b.regw ++ [{ reg := n - 0x180, writer := i, value := v }] }))

/-- 05 R69, R77: the frame of an instruction of class Value that fires and is no second writer: only the block in flight of its slot
changes. No register, flag, special register or byte of memory does. -/
def Obligations.ValueFrame : Prop :=
  ∀ (i : Instr) (s : State) (x : Firing), Fires s i x →
    (1 ≤ opOf (x.b.word x.idx) ∧ opOf (x.b.word x.idx) ≤ 0x2D) ∨ (0x38 ≤ opOf (x.b.word x.idx) ∧ opOf (x.b.word x.idx) ≤ 0x43) ∨
      opOf (x.b.word x.idx) = 0x74 →
    (∀ v, (x.block.deliverAll x.idx (targets (x.b.word x.idx)) v).isSome = true) →
    ∃ t, exec i s = .next t ∧ OnlyBlock s t x.slot

/-! ### Special registers, exits and traps (05 R80-R83; 07 R105-R115; 19 R351-R356) -/

/-- 07 R105; 05 R80, R81: SRRD is checked against the view and delivers the register as it stands: one held once per die that has been
written in this cycle, as it stood before.
05 R81, R82, R83; 01 R27; 17 R310; 19 R349; 21 R383, R385, R389: what each number reads as. One that no table assigns is zero. -/
def Obligations.SpecialRegisterReads : Prop :=
  (∀ (p : BitVec 2) (t : BitVec 9) (n : BitVec 14) (s : State) (x : Firing), Fires s (.srrd p t n) x →
     let readable : Prop := n.toNat < 0x1100 ∨ (x.b.priv = true ∧ 0x2000 ≤ n.toNat)
     (¬readable → exec (.srrd p t n) s = .next (s.faultAt x.slot x.b x.idx cPrivilege 0 (some x.cap))) ∧
     (readable → ∀ b, x.block.deliver x.idx t.toNat (s.seenSr x.slot n.toNat) = some b →
       exec (.srrd p t n) s = .next (s.setBlock x.slot b)) ∧
     (readable → x.block.deliver x.idx t.toNat (s.seenSr x.slot n.toNat) = none →
       exec (.srrd p t n) s = .next (s.faultAt x.slot x.b x.idx cBlockMultiwrite 0 none))) ∧
  (∀ (s : State) (k : Nat),
     let sl := s.slot k
     let d := s.die (k / 256)
     let r (n : Nat) : Nat := (s.readSr k n).toNat
     r 0x0001 = sl.taskrec.toNat ∧ r 0x0002 = sl.launchid.toNat ∧ r 0x0003 = sl.taskidx.toNat ∧
     (k < 1024 → r 0x0004 = k / 8 % 32 + k / 256 * 32 + k % 8 * 128) ∧ r 0x0005 = s.chipid.toNat ∧
     (sl.groups = [] → r 0x0006 = 2 ^ 32 - 1) ∧ (∀ g die, g < 255 → sl.groups = [(g, die)] → r 0x0006 = 0xFFFFFF00 + g) ∧
     r 0x0007 = s.cycle % 2 ^ 64 ∧ r 0x0008 = sl.est.toNat ∧ r 0x0009 = sl.frame.toNat ∧ r 0x000A = sl.arg.toNat ∧
     r 0x0010 = d.rpth.toNat ∧ r 0x0011 = d.kvepoch.toNat ∧ r 0x0012 = d.hotth.toNat ∧
     (∀ h, h < 4 → r (0x0020 + h) = (Smap.getD d.dtraf 0 h).toNat) ∧ r 0x0024 = d.peertraf.toNat ∧ r 0x0025 = d.hosttraf.toNat ∧
     r 0x0026 = d.relay.toNat ∧
     r 0x1000 = d.capbays.toNat ∧ r 0x1001 = s.capspad (k / 8) % 2 ^ 64 ∧ r 0x1002 = d.capslice.toNat ∧
     r 0x1003 = d.capHigh.toNat * 2 ^ 20 + d.capLow.toNat ∧ r 0x1004 = d.capmxt.toNat ∧ r 0x1005 = s.hostid.toNat ∧
     r 0x2001 = sl.trapcause.toNat ∧ r 0x2002 = sl.trapframe.toNat ∧ r 0x2003 = d.trapvec.toNat ∧ r 0x2004 = sl.ctxid.toNat ∧
     r 0x2005 = d.pgtbase.toNat ∧ r 0x2006 = d.wdint.toNat ∧ r 0x2007 = d.slicemap.toNat ∧ r 0x2008 = d.quantum.toNat ∧
     r 0x2009 = d.savepool.toNat ∧ r 0x200A = s.ctxsw.toNat ∧ r 0x200B = d.slotctl.toNat ∧ r 0x200C = s.fqtab.toNat ∧
     r 0x200D = (s.bay (k / 8)).tracectl.toNat ∧ r 0x200E = d.cecount.toNat ∧ r 0x2010 = s.kvpool.toNat ∧ r 0x2011 = s.peerwin.toNat ∧
     r 0x2012 = d.noteq.toNat ∧
     (∀ n, s.seenSr k n = (Smap.find d.srOld n).getD (s.readSr k n)) ∧
     (∀ n, n = 0 ∨ (0x0A < n ∧ n < 0x10) ∨ (0x12 < n ∧ n < 0x20) ∨ (0x26 < n ∧ n < 0x1000) ∨ (0x1005 < n ∧ n < 0x2001) ∨ n = 0x200F ∨
       0x2012 < n → r n = 0))

/-- 05 R82, R83: the reset values of the special registers the manual gives, of a die and of a slot that nothing has changed; GROUPS
of no membership is all ones.
The memory right after reset lists nothing, and has the canonical form. That a byte nothing has written reads as 0, and that reset lists
none, is the model's choice (log entry 2). -/
def Obligations.ResetState : Prop :=
  (∀ k : Nat,
     let r (n : Nat) : Nat := (State.reset.readSr k n).toNat
     r 0x0010 = 0x3C23D70A ∧ r 0x0011 = 0 ∧ r 0x0012 = 256 ∧ r 0x2001 = 0 ∧ r 0x2002 = 0 ∧ r 0x2003 = 0 ∧ r 0x2005 = 0 ∧
     r 0x2006 = 2 ^ 30 ∧ r 0x2007 = 0 ∧ r 0x2008 = 2 ^ 20) ∧
  (State.reset.mem = [] ∧ Memory.wf State.reset.mem = true ∧ ∀ d p a, State.reset.byteFor d p a = 0)

/-- 07 R106; 05 R80, R81: SRWR is checked at fire against the view and against what may be written, and held. That a failed check comes before a
second writer of the target is the model's choice (log entry 32).
07 R121-R126: CACHEOP, TLBOP, TRACE, MIGRATE and HALT. The view comes first where the instruction is privileged, then the operation
code, then the scope of a HALT, the translation of a CACHEOP BINV or a MIGRATE, and the frame of a MIGRATE. A scratchpad line is no
page: it may be invalidated, and is never migrated. Bits 63:56 of an address, and the windows of devices, give PAGE_ABSENT (the model's
choice: log entry 34); so are the view before the operation code (log entry 82) and a failed check before a second writer of the target (log
entry 32).
09 R145-R150: FENCE and SBAR are held; SPALLOC checks its size and unit, SPFREE that L is the first data line of an allocation, and
then its owner; it is held with the number of the allocation it found. That a failed check comes before a second writer is the model's choice (log
entry 32).
09 R148: PREF never faults; it counts as fired, whatever its address. -/
def Obligations.SystemAndMemoryHeld : Prop :=
  (∀ (p : BitVec 2) (t : BitVec 9) (n : BitVec 14),
     HoldsUnless (.srwr p t n) t (fun x _ =>
       if n.toNat ∈ [1, 2, 3, 4, 5, 6, 7, 0x0A, 0x20, 0x21, 0x22, 0x23, 0x24, 0x25, 0x26, 0x2007, 0x200E] ∨
         (0x1000 ≤ n.toNat ∧ n.toNat < 0x2000) ∨ (0x2000 ≤ n.toNat ∧ x.b.priv = false) then some cPrivilege else none)) ∧
  (∀ (p : BitVec 2) (t : BitVec 9) (l r : BitVec 7),
     let code (n : Nat) (x : Firing) : Option Byte := if n ≤ x.cap.r.toNat then some cIllegalForm else none
     let priv (x : Firing) (c : Option Byte) : Option Byte := if x.b.priv = false then some cPrivilege else c
     let cacheop (x : Firing) (s : State) : Option Byte × State :=
       if 2 ≤ x.cap.r.toNat then (some cIllegalForm, s)
       else if x.cap.r = 1 then (none, s)
       else if 2 ^ 56 ≤ x.cap.l.toNat then (some cPageAbsent, s)
       else if isPad x.cap.l.toNat = true then
         (if padState x.cap.l.toNat = false ∧ s.padOk x.cap.l.toNat = true then none else some cPageAbsent, s)
       else if isWindow x.cap.l.toNat = true then (some cPageAbsent, s)
       else match s.translate (x.slot / 8) x.cap.l.toNat with
         | (.error c, s) => (some c, s)
         | (.ok _, s) => (none, s)
     let tlbop (x : Firing) (_ : State) : Option Byte := priv x (code 2 x)
     let halt (x : Firing) (_ : State) : Option Byte :=
       priv x (if 2 ≤ x.cap.r.toNat ∨ x.cap.l.toNat ∉ [1, 2, 3] then some cIllegalForm else none)
     Holds (.cacheopBinv p t l r) t cacheop ∧ Holds (.cacheopBinvdie p t l r) t cacheop ∧
     HoldsUnless (.tlbopPage p t l r) t tlbop ∧ HoldsUnless (.tlbopAll p t l r) t tlbop ∧
     HoldsUnless (.traceMark p t l r) t (fun x _ => code 3 x) ∧ HoldsUnless (.traceFreeze p t l r) t (fun x _ => code 3 x) ∧
     HoldsUnless (.traceThaw p t l r) t (fun x _ => code 3 x) ∧
     HoldsUnless (.haltStop p t l r) t halt ∧ HoldsUnless (.haltGo p t l r) t halt ∧
     Holds (.migrate p t l r) t (fun x s =>
       if x.b.priv = false then (some cPrivilege, s)
       else if 2 ^ 56 ≤ x.cap.l.toNat ∨ isWindow x.cap.l.toNat = true then (some cPageAbsent, s)
       else match s.translate (x.slot / 8) x.cap.l.toNat with
         | (.error c, s) => (some c, s)
         | (.ok q, s) =>
           (if 2 ^ 52 ≤ x.cap.r.toNat ∨ x.cap.r.toNat % 2 ^ 16 ≠ 0 ∨ (q.large = true ∧ x.cap.r.toNat % 2 ^ 21 ≠ 0) then some cIllegalForm
            else none, s))) ∧
  (∀ (p : BitVec 2) (t : BitVec 9) (l r : BitVec 7) (c : BitVec 3) (e k : BitVec 2),
     HoldsUnless (.fence p l c e k) noTarget (fun _ _ => none) ∧ HoldsUnless (.sbar p l) noTarget (fun _ _ => none) ∧
     HoldsUnless (.spalloc p t l r) t (fun x _ =>
       if x.cap.l.toNat = 0 ∨ 130816 < x.cap.l.toNat ∨ 2 ^ 7 ≤ x.cap.r.toNat ∨ (x.cap.r.toNat / 32 % 2 = 0 ∧ 25 < x.cap.r.toNat % 32)
       then some cIllegalForm else none) ∧
     (∀ s x, Fires s (.spfree p t l r) x →
       let va := x.cap.l.toNat
       let g := s.line (padLine va - 1)
       let ctx := (s.slot x.slot).ctxid
       let cause : Option Byte :=
         if va < 2 ^ 56 ∧ isPad va = true ∧ padState va = false ∧ va % 128 = 0 ∧ s.padOk va = true ∧ 1 ≤ padLine va % 1024 ∧
           g.alloc = true ∧ g.guarded = true ∧ g.extent ≠ 0
         then (if g.owner ≠ ctx ∧ ctx ≠ 0 then some cPageProtect else none) else some cIllegalForm
       (∀ c, cause = some c → exec (.spfree p t l r) s = .next (s.faultAt x.slot x.b x.idx c 0 (some x.cap))) ∧
       (cause = none → x.block.clash t.toNat = true →
         exec (.spfree p t l r) s = .next (s.faultAt x.slot x.b x.idx cBlockMultiwrite 0 none)) ∧
       (cause = none → x.block.clash t.toNat = false → exec (.spfree p t l r) s = .next (s.setBlock x.slot { x.block with
         held := x.block.held ++ [{ x.cap with grp := [BitVec.ofNat 64 g.serial] }] })))) ∧
  (∀ (p : BitVec 2) (l r : BitVec 7) (s : State) (x : Firing), Fires s (.pref p l r) x →
     ∃ t, exec (.pref p l r) s = .next t ∧ (t.slot x.slot) = { s.slot x.slot with block := some x.block } ∧
       (∀ j, j ≠ x.slot → t.slot j = s.slot j) ∧ t.mem = s.mem ∧
       (2 ^ 56 ≤ (x.cap.l + x.cap.r).toNat ∨ isWindow (x.cap.l + x.cap.r).toNat = true → t = s.setBlock x.slot x.block))

/-- 07 R106, R108; 05 R82: what a write of a special register leaves, read back through the same number, and what it leaves alone:
the bits the register does not hold are dropped, every other register keeps its value, and so does all of memory. The slot has a
block in flight and the die is open. CTXSW, SLOTCTL and TRACECTL have statements of their own. -/
def Obligations.SrWriteEffect : Prop :=
  ∀ (s : State) (k n : Nat) (v : Word), (s.slot k).block.isSome = true → (s.die (k / 256)).opened = true →
    let t := s.srWrite k n v
    let bits : Nat → Nat := fun m => if m = 0x10 then 2 ^ 32 - 1 else if m = 0x11 then 0xFFF else if m = 0x12 then 0xFFFF
      else if m = 0x2001 then 2 ^ 30 - 1 else if m = 0x2002 then 2 ^ 56 - 64 else if m = 0x2003 then 2 ^ 56 - 8
      else if m = 0x2004 then 0x3F else if m = 0x2005 then 2 ^ 52 - 2 ^ 16 else if m ∈ [0x2009, 0x200C, 0x2010, 0x2012] then 2 ^ 56 - 1
      else if m = 0x2011 then 0x00FFFFFF00000001 else 2 ^ 64 - 1
    (n ∈ [8, 9, 0x10, 0x11, 0x12, 0x2001, 0x2002, 0x2003, 0x2004, 0x2005, 0x2006, 0x2008, 0x2009, 0x200C, 0x2010, 0x2011, 0x2012] →
      t.readSr k n = v &&& BitVec.ofNat 64 (bits n)) ∧
    (n ∉ [0x200A, 0x200B, 0x200D] → (∀ m, m ≠ n → t.readSr k m = s.readSr k m) ∧ (∀ d p a, t.byteFor d p a = s.byteFor d p a) ∧
      (∀ j, j ≠ k → t.slot j = s.slot j) ∧ (t.slot k).regs = (s.slot k).regs ∧ (t.slot k).block = (s.slot k).block)

/-- 07 R109-R112, R115; 05 R59, R71: an exit is chosen when it fires. BRI and CALLI take the block address plus eight times the
offset, modulo 2^56; BR and CALL take L, and an L that is no block address is ALIGN; CALLI and CALL write the link to s63. The model's choice is the order of two
faults of one exit: ALIGN before BLOCK_MULTIEXIT, and that before BLOCK_MULTIWRITE (log entry 32). -/
def Obligations.ExitsChosen : Prop :=
  ∀ (p : BitVec 2) (o : BitVec 23) (l r : BitVec 7) (s : State) (x : Firing),
    let succ : Addr := BitVec.ofInt 56 ((x.b.addr.toNat : Int) + o.toInt * 8)
    let good : Prop := x.cap.l.toNat % 8 = 0 ∧ x.cap.l.toNat / 2 ^ 56 = 0
    let align (i : Instr) : Prop := exec i s = .next (s.faultAt x.slot x.b x.idx cAlign 0 (some x.cap))
    (Fires s (.bri p o) x → Chooses s (.bri p o) x (.goto succ) false) ∧
    (Fires s (.calli p o) x → Chooses s (.calli p o) x (.goto succ) true) ∧
    (Fires s (.br p l r) x → (good → Chooses s (.br p l r) x (.goto (x.cap.l.setWidth 56)) false) ∧ (¬good → align (.br p l r))) ∧
    (Fires s (.call p l r) x → (good → Chooses s (.call p l r) x (.goto (x.cap.l.setWidth 56)) true) ∧ (¬good → align (.call p l r))) ∧
    (Fires s (.exit p l r) x → Chooses s (.exit p l r) x .exit false) ∧
    (Fires s (.yield p l r) x → Chooses s (.yield p l r) x .yield false) ∧
    (Fires s (.eret p l r) x → Chooses s (.eret p l r) x .eret false) ∧
    (x.b.link.toNat = (x.b.addr.toNat + 4 * (x.b.count + 1) + 7) / 8 * 8 % 2 ^ 56)

/-- 07 R114; 19 R351, R354, R369: TRAP takes the trap. The frame is written at TRAPFRAME, TRAPCAUSE receives cause 0x0F, the index and
the code, the records held go into the frame, and the handler block at TRAPVEC is in flight; registers, TRAPFRAME and every other
slot are as the frame write left them. The frame touches no line with GUARD 1. That the handler's block is fetched in the same step is the
model's choice (log entry 73). Where TRAPVEC or TRAPFRAME is 0, or the TRAP stands in a handler block, the task is frozen in its slot, its
block as it was, and the cause is queued to its context, NESTED or UNDELIVERABLE, with the records it held behind it; with no fault queue
nothing is written. -/
def Obligations.TrapDelivery : Prop :=
  (∀ (p : BitVec 2) (i : BitVec 14) (s : State) (x : Firing) (s1 s2 : State) (h : Block), Fires s (.trap p i) x →
    x.b.handler = false → (s.die (x.slot / 256)).vec ≠ 0 → (s.slot x.slot).trapframe ≠ 0 →
    let b : Block := { x.b.setFired x.idx with
      replay := x.b.replay.filter (fun c => c.idx != x.idx), reads := x.b.reads.filter (fun r => r.cap.idx != x.idx) }
    let f := frameBytes (s.slot x.slot) b 0x0F x.idx i.toNat 0 0x80 (s.slot x.slot).imp (s.slot x.slot).impOverflow
    s.guardHit (s.slot x.slot).trapframe.toNat f.length = none →
    s.writeTask x.slot (s.slot x.slot).trapframe.toNat f = .ok s1 →
    s1.fetchBlock x.slot (s1.die (x.slot / 256)).vec .trap = .ok h s2 →
    ∃ t, exec (.trap p i) s = .next t ∧
      (t.slot x.slot).trapcause = BitVec.ofNat 64 (i.toNat * 2 ^ 16 + x.idx * 2 ^ 8 + 0x0F) ∧
      (t.slot x.slot).block = some h ∧ (t.slot x.slot).pc = h.addr ∧ (t.slot x.slot).status = .running ∧
      (t.slot x.slot).imp = [] ∧ (t.slot x.slot).impOverflow = false ∧
      (t.slot x.slot).regs = (s2.slot x.slot).regs ∧ (t.slot x.slot).trapframe = (s2.slot x.slot).trapframe ∧
      (∀ j, j ≠ x.slot → t.slot j = s2.slot j) ∧ t.mem = s2.mem ∧ t.writes = s2.writes) ∧
  (∀ (p : BitVec 2) (i : BitVec 14) (s : State) (x : Firing), Fires s (.trap p i) x →
    x.b.handler = true ∨ (s.die (x.slot / 256)).vec = 0 ∨ (s.slot x.slot).trapframe = 0 →
    let sl := s.slot x.slot
    let cause : ImpRec := { cause := 0x0F, source := 0, flags := 0, ctx := sl.ctxid, owner := some x.slot, count := 1
                            addr := BitVec.ofNat 64 x.b.addr.toNat, d1 := BitVec.ofNat 64 (x.idx + i.toNat * 2 ^ 16)
                            d2 := BitVec.ofNat 64 sl.taskrec.toNat }
    exec (.trap p i) s = .next ((cause :: sl.imp).foldl (fun u r => u.pushFault (x.slot / 256) (.task sl.uid)
        { r with flags := r.flags ||| (if x.b.handler then 1 else 2) })
      (s.setSlot x.slot { sl with status := .frozen false, imp := [], impOverflow := false }))) ∧
  (∀ (p : BitVec 2) (i : BitVec 14) (s : State) (x : Firing), Fires s (.trap p i) x → s.fqtab = 0 →
    x.b.handler = true ∨ (s.die (x.slot / 256)).vec = 0 ∨ (s.slot x.slot).trapframe = 0 →
    ∃ t, exec (.trap p i) s = .next t ∧ (t.slot x.slot).status = .frozen false ∧ (t.slot x.slot).imp = [] ∧
      (t.slot x.slot).block = some x.b ∧ (t.slot x.slot).trapcause = (s.slot x.slot).trapcause ∧
      (∀ j, j ≠ x.slot → t.slot j = s.slot j) ∧ (∀ d q a, t.byteFor d q a = s.byteFor d q a))

/-- 19 R353, R354; 07 R115: what ERET reads back of a frame is what the trap wrote into it: the block's address, its fired bits, every
unfinished instruction and every held one with its operands, the values of unfired instructions' slots, the buffered writes and the
register writes. -/
def Obligations.FrameRoundTrip : Prop :=
  ∀ (sl : Slot) (b : Block) (cause index code mode resIdx : Nat) (imp : List ImpRec) (overflow : Bool),
    let replay := b.replay ++ b.reads.map (fun r => r.cap)
    let tokens := b.tokens.filter (fun e => !b.isFired (e.1 / 3))
    let f := frameBytes sl b cause index code mode resIdx imp overflow
    let r := parseFrame f false
    mode < 3 → resIdx < 256 → replay.length + b.held.length ≤ 128 → tokens.length ≤ 256 → b.stores.length ≤ 32 →
    b.regw.length ≤ 63 → imp.length ≤ 8 → (∀ c ∈ replay ++ b.held, c.idx < 128) → (∀ e ∈ tokens, e.1 < 384) →
    (∀ e ∈ b.stores, e.idx < 128) → (∀ g ∈ b.regw, g.reg < 64 ∧ g.writer < 128) →
      field f 0 8 = b.addr.toNat ∧ field f 16 1 = cause % 256 ∧ field f 17 1 = index % 256 ∧ field f 18 2 = code % 65536 ∧
      field f 20 1 / 8 % 2 = (if b.priv then 1 else 0) ∧
      r.fired = b.fired ∧ r.mode = mode ∧ r.resIdx = resIdx ∧ r.exitSel = b.exit.isSome ∧
      r.replay = replay.map (fun c => { c with grp := [] }) ∧ r.held = b.held.map (fun c => { c with grp := [] }) ∧
      r.tokens = tokens.map (fun e => (e.1 / 3, e.1 % 3, e.2)) ∧ r.stores = b.stores.map (fun e => { e with place := none, gen := none }) ∧ r.regw = b.regw ∧
      f.length = frameLen f

/-! ### Memory instructions (09 R129-R150; 05 R76) -/

/-- 09 R135-R137; 05 R76: a load fires with address (L + R * size) mod 2^64, LDAQ with L, and its access is in flight; a load above an
LDAQ that has not returned is held back, and one that overlaps a lower atomic of its block faults.
09 R138-R143; 05 R60, R76: a store, STRL or atomic fires with its address checked, and stands in the store buffer with its data and,
for CAS64, its new value; memory is as it was. The address is (L + OFF9 * size) mod 2^64, or L.
That a failed check comes before BLOCK_MULTIWRITE, and that an uncorrectable error which stands at fire is precise for an atomic's read
and for a narrower write, is the model's choice (log entries 32, 109). -/
def Obligations.AccessesFire : Prop :=
  (∀ (p : BitVec 2) (t : BitVec 9) (l r : BitVec 7) (c : BitVec 3) (e : BitVec 1) (z : BitVec 2),
     let at_ (size : Nat) (x : Firing) : Nat := (x.cap.l.toNat + x.cap.r.toNat * size) % 2 ^ 64
     Loads (.ld8 p t l r) t 1 false false (at_ 1) ∧ Loads (.ld8s p t l r) t 1 true false (at_ 1) ∧
     Loads (.ld16 p t l r) t 2 false false (at_ 2) ∧ Loads (.ld16s p t l r) t 2 true false (at_ 2) ∧
     Loads (.ld32 p t l r) t 4 false false (at_ 4) ∧ Loads (.ld32s p t l r) t 4 true false (at_ 4) ∧
     Loads (.ld64 p t l r) t 8 false false (at_ 8) ∧
     Loads (.ldaq p t l c e z) t (2 ^ z.toNat) (e = 1) true (fun x => x.cap.l.toNat)) ∧
  (∀ (p : BitVec 2) (o t : BitVec 9) (l r : BitVec 7) (c : BitVec 3) (a : BitVec 1) (k : BitVec 3) (z q : BitVec 2),
     let at_ (size : Nat) (x : Firing) : Nat := (((x.cap.l.toNat : Int) + o.toInt * size) % 2 ^ 64).toNat
     let direct (x : Firing) : Nat := x.cap.l.toNat
     Stores (.st8 p o l r) noTarget (wantWrite 1) (at_ 1) ∧ Stores (.st16 p o l r) noTarget (wantWrite 2) (at_ 2) ∧
     Stores (.st32 p o l r) noTarget (wantWrite 4) (at_ 4) ∧ Stores (.st64 p o l r) noTarget (wantWrite 8) (at_ 8) ∧
     Stores (.strl p l c z) noTarget (wantWrite (2 ^ z.toNat)) direct ∧
     Stores (.amo64 p t l c a k) t (wantAtomic 8) direct ∧ Stores (.amo32 p t l c a k) t (wantAtomic 4) direct ∧
     Stores (.cas64 t l c q) t (wantAtomic 8) direct)

/-- 09 R129-R131, R135, R143; 13 R256; 15 R276; 17 R317; 19 R374; 21 R376-R380: where an access leads. A misaligned address or one above 2^56 is ALIGN; the
state view takes 8-byte accesses of the instructions it names, at a line's first byte, and gives ALIGN to all others, whatever their address (the
model's choice where the address leads nowhere either, log entry 118); a scratchpad address of a bay out of service or of no unit is PAGE_ABSENT; a page
that is not readable, or not writable, is PAGE_PROTECT, and so is an atomic on host memory; else a translated access leads to its physical address. The
aperture is a privileged view's, 8 bytes at a time, and its unused addresses are PAGE_ABSENT; scheduler memory is a privileged task's and the
control node's, 8 bytes at a time (that every other party meets PAGE_PROTECT there is the model's choice, log entry 24); a trace buffer takes a privileged
LD64 alone; a KV window block is there while its stage-2 entry is valid, writable unless its COW bit is set, and KV_STALE while its provenance
is. -/
def Obligations.AccessChecks : Prop :=
  ∀ (s : State) (a : Agent) (va : Nat) (w : Want), 0 < w.size →
    let far : Prop := va / 2 ^ 29 % 8 ≠ 0
    let bay := va / 2 ^ 22 % 128
    (2 ^ 56 ≤ va ∨ va % w.size ≠ 0 → s.resolve a va w = (.error cAlign, s)) ∧
    (va < 2 ^ 56 → va % w.size = 0 → isPad va = true → padState va = false →
      s.resolve a va w = (if s.padOk va then .ok (.pad va) else .error cPageAbsent, s)) ∧
    (va < 2 ^ 56 → va % w.size = 0 → isPad va = true → padState va = true →
      s.resolve a va w =
        (if w.size ≠ 8 ∨ w.wordOk = false ∨ va % 128 ≠ 0 then .error cAlign
         else if s.padOk va = true then .ok (.padWord (padLine va)) else .error cPageAbsent, s)) ∧
    (va < 2 ^ 56 → va % w.size = 0 → va / 2 ^ 32 < 0xFFFFFC → va / 2 ^ 48 ≠ 0xFE → ∀ t s1, s.translateFor a.bay va w.wr = (.ok t, s1) →
      s.resolve a va w =
        (if (w.rd = true ∧ t.r = false) ∨ (w.wr = true ∧ t.w = false) ∨ (w.atomic = true ∧ t.tier = 1) then .error cPageProtect
         else .ok (.mem t), s1)) ∧
    (va < 2 ^ 56 → va % w.size = 0 → va / 2 ^ 32 < 0xFFFFFC → va / 2 ^ 48 ≠ 0xFE → ∀ c s1,
      s.translateFor a.bay va w.wr = (.error c, s1) → s.resolve a va w = (.error c, s1)) ∧
    (va < 2 ^ 56 → va % w.size = 0 → va / 2 ^ 32 = 0xFFFFFE → s.resolve a va w =
      (if w.size ≠ 8 then .error cAlign
       else if far ∨ va / 2 ^ 13 % 2 ^ 9 ≠ 0 ∨ s.bayUp bay = false ∨ (va / 2 ^ 12 % 2 = 0 ∧ 0x38 < va % 2 ^ 12) then .error cPageAbsent
       else if a.priv = false then .error cPageProtect
       else if va / 2 ^ 12 % 2 = 1 then .ok (.template bay (va % 2 ^ 12)) else .ok (.doorbell bay (va % 2 ^ 12 / 8)), s)) ∧
    (va < 2 ^ 56 → va % w.size = 0 → va / 2 ^ 32 = 0xFFFFFD → s.resolve a va w =
      (if w.size ≠ 8 then .error cAlign
       else if a.priv = true ∧ a.party.schedules = true then .ok (.sched (va % 2 ^ 32)) else .error cPageProtect, s)) ∧
    (va < 2 ^ 56 → va % w.size = 0 → va / 2 ^ 32 = 0xFFFFFC → s.resolve a va w =
      (if w.wr = true then .error cPageProtect
       else if w.size ≠ 8 then .error cAlign
       else if w.plainLoad = true ∧ a.priv = true ∧ ¬far ∧ va / 2 ^ 16 % 2 ^ 6 = 0 ∧ s.bayUp bay = true then
         .ok (.trace bay (va / 16 % 4096) (va / 8 % 2 = 1))
       else .error cPageProtect, s)) ∧
    (va < 2 ^ 56 → va % w.size = 0 → va / 2 ^ 48 = 0xFE → s.resolve a va w = s.kvWindow a va w.wr) ∧
    (∀ c s1, s.kvEntryAddr a.die (va / 2 ^ 16 % 2 ^ 32) = (.error c, s1) →
      s.kvWindow a va w.wr = (.error (if c = cUncorrectable then c else cPageAbsent), s1)) ∧
    (∀ e s1 w0 s2, s.kvEntryAddr a.die (va / 2 ^ 16 % 2 ^ 32) = (.ok e, s1) → s1.deviceLoad a.die e 8 = (.ok w0, s2) →
      (w0 % 2 = 0 → s.kvWindow a va w.wr = (.error cPageAbsent, s2)) ∧
      (w0 % 2 = 1 → w.wr = true → w0 / 2 % 2 = 1 → s.kvWindow a va w.wr = (.error cPageProtect, s2)) ∧
      (w0 % 2 = 1 → w.wr = false ∨ w0 / 2 % 2 = 0 → ∀ prov s3, s2.deviceLoad a.die (e + 16) 8 = (.ok prov, s3) →
        s.kvWindow a va w.wr = (if prov % 16 = 5 ∨ prov / 2 ^ 52 % 2 ^ 12 ≠ (s3.die a.die).kvepoch.toNat then .error cKvStale
          else .ok (.kv (w0 / 2 ^ 16 % 2 ^ 36 * 0x10000 + va % 0x10000)), s3)))

/-- 09 R135, R136, R155, R162; 05 R76; 17 R317; 21 R376-R384: the delivery of a read in flight. A scratchpad line that is empty holds it. From a full
line each byte is the highest lower-index store's of its block, or memory's as the task sees it once it has observed what made the line full; a
line with GUARD 1 gives 0 and raises GUARD; a translated page or a KV window block gives the bytes at the physical address of the read's own
translation. The value is zero- or sign-extended and reaches its target. Nothing else changes but the block in flight, what the task has observed
and, off the scratchpad, the slices and counters the access passes through: the aligned 8 bytes it has read stay bound in the block, so that no
lower-index load of them reads a later write, unless the block's own stores gave every byte. Only a page's access counter is written. -/
def Obligations.ReadDelivered : Prop :=
  ∀ (s : State) (k : Nat) (b : Block) (r : ReadInFlight) (t : Nat) (b' : Block),
    let i := r.cap.idx
    let va := r.addr.toNat
    let a := s.agent k
    let val (bytes : List Byte) : Word :=
      if r.signed = true ∧ 2 ^ (8 * r.size - 1) ≤ natOf bytes then BitVec.ofInt 64 ((natOf bytes : Int) - 2 ^ (8 * r.size))
      else BitVec.ofNat 64 (natOf bytes)
    let done (bound : List BoundRead) : Block := { b with
      fired := b.fired ||| (1#128 <<< i)
      firedAt := Smap.insert b.firedAt i b.cycles
      reads := b.reads.filter (fun q => q.cap.idx != i)
      replay := b.replay.filter (fun c => c.idx != i)
      bound := bound }
    (s.slot k).block = some b → (s.slot k).firing b = true → b.reads.find? (fun q => q.cap.idx = i) = some r →
    b.storesSettled i = true → b.bound = [] → targets (b.word i) = [t] → r.size ∈ [1, 2, 4, 8] → b.behindRetry r = false →
    (va < 2 ^ 56 → va % r.size = 0 → isPad va = true → padState va = false → s.padOk va = true → s.overAtomic a b i va r.size = false →
      (∀ e ∈ b.stores, isPad e.addr.toNat = true) →
      ((s.line (padLine va)).guarded = false → (s.line (padLine va)).full = false → exec (.readDeliver k i) s = .next s) ∧
      ((s.line (padLine va)).guarded = false → (s.line (padLine va)).full = true →
        let own := s.allForwarded a b i va r.size
        let o := if own then s else s.observeLine a (padLine va)
        own = true ∨ s.poisoned va r.size = false →
        (done (if own then [] else [o.boundOf a.die a.party i va])).deliver i t
          (val (s.forwarded a b i va r.size ((List.range r.size).map (fun j => o.byteFor a.die a.party (va + j))))) = some b' →
        ∃ u, exec (.readDeliver k i) s = .next u ∧ (u.slot k).block = some b' ∧ (u.slot k).regs = (s.slot k).regs ∧
          (∀ j, j ≠ k → u.slot j = s.slot j) ∧ u.mem = s.mem ∧ u.lines = s.lines ∧ u.dies = s.dies ∧
          u.writes.map (fun q => (q.id, q.addr, q.data)) = s.writes.map (fun q => (q.id, q.addr, q.data))) ∧
      ((s.line (padLine va)).guarded = true → (done []).deliver i t 0 = some b' →
        exec (.readDeliver k i) s = .next ((s.touchGuard a.die (s.slot k).uid a.party 0 a.ctx i va).setBlock k b'))) ∧
    (∀ p s1 key, s.resolve a va (if r.acquire then wantAcquire r.size else wantRead r.size) = (.ok p, s1) → isPad va = false →
      p.key = some key → s1.placeCut p = false → s1.placeBad p r.size = false → s1.staleRead (k / 256) r = false → b.stores = [] →
      let o := match p with
        | .mem tr => s1.accessRead a va tr false
        | _ => (s1.touch a.die key false).2
      (done [s1.boundOf a.die a.party i key]).deliver i t
        (val ((List.range r.size).map (fun j => o.byteFor a.die a.party (key + j)))) = some b' →
      ∃ u, exec (.readDeliver k i) s = .next u ∧ (u.slot k).block = some b' ∧ (u.slot k).regs = (s.slot k).regs ∧
        (∀ j, j ≠ k → u.slot j = s.slot j) ∧ u.mem = s.mem ∧ u.lines = s.lines ∧
        u.writes.map (fun q => (q.id, q.addr, q.data)) = o.writes.map (fun q => (q.id, q.addr, q.data)))

/-- 09 R138, R139, R155; 05 R75: a store performed in commit step 2, to a scratchpad line that is neither guarded nor held. The task
reads its data there at once, least significant byte first; every byte outside it reads as before, for every party; the store leaves
the buffer, and no register changes.
09 R138, R140, R155; 21 R376, R384: the same for a translated page whose accesses are not counted: the bytes written are those at the
physical address of the store's own translation. -/
def Obligations.StoresPerformed : Prop :=
  (∀ (s : State) (k i : Nat) (b : Block) (e : StoreEntry),
     let va := e.addr.toNat
     let w := b.word e.idx
     let n := bufferedSize w
     (s.slot k).status = .running → (s.slot k).block = some b → b.pos = .writes i → b.waiting = none → b.nextWrite i = some e.idx →
     b.stores.find? (fun q => q.idx = e.idx) = some e → opOf w ∈ [0x4C, 0x4D, 0x4E, 0x4F, 0x50] → va < 2 ^ 56 → va % n = 0 →
     isPad va = true → padState va = false → s.padOk va = true → (s.line (padLine va)).guarded = false →
     (s.line (padLine va)).holders = 0 → s.poisoned va n = false →
     ∃ t, exec (.blockCommit k) s = .next t ∧
       (∀ j, j < n → t.byteFor (k / 256) (.task (s.slot k).uid) (va + j) = BitVec.ofNat 8 (e.data.toNat / 256 ^ j)) ∧
       (∀ d p a, a < va ∨ va + n ≤ a → t.byteFor d p a = s.byteFor d p a) ∧
       (t.slot k).block = some { b with stores := b.stores.filter (fun q => q.idx != e.idx), pos := .writes (e.idx + 1) } ∧
       (t.slot k).regs = (s.slot k).regs ∧ (∀ j, j ≠ k → t.slot j = s.slot j) ∧ t.lines = s.lines ∧ t.mem = s.mem) ∧
  (∀ (s s1 : State) (k i : Nat) (b : Block) (e : StoreEntry) (tr : Trans),
     let va := e.addr.toNat
     let w := b.word e.idx
     let n := bufferedSize w
     (s.slot k).status = .running → (s.slot k).block = some b → b.pos = .writes i → b.waiting = none → b.nextWrite i = some e.idx →
     b.stores.find? (fun q => q.idx = e.idx) = some e → opOf w ∈ [0x4C, 0x4D, 0x4E, 0x4F, 0x50] →
     s.resolve (s.agent k) va (wantWrite n) = (.ok (.mem tr), s1) → isPad va = false → tr.wb = false → tr.cnt = false →
     s1.hasPath tr.pa = true → s1.lost tr.pa = false → s1.poisoned tr.pa n = false → s1.staleWrite (k / 256) e = false →
     ∃ t, exec (.blockCommit k) s = .next t ∧
       (∀ j, j < n → t.byteFor (k / 256) (.task (s.slot k).uid) (tr.pa + j) = BitVec.ofNat 8 (e.data.toNat / 256 ^ j)) ∧
       (∀ d p a, a < tr.pa ∨ tr.pa + n ≤ a → t.byteFor d p a = s1.byteFor d p a) ∧ (t.slot k).regs = (s1.slot k).regs)

/-- 09 R141, R142, R143: what an atomic writes over an old value of its size: SWAP, ADD, AND, OR, XOR, signed MIN and MAX; FADD in FP32;
CAS64 writes P where the old value equals R, and nothing otherwise.
09 R141-R143, R155; 05 R75; 17 R317; 21 R376: an atomic performed in commit step 2, on a scratchpad line that is full, or on a translated page whose
accesses are not counted or a KV window block: the value it reads is the last written; its register target receives it, zero-extended; the task
reads the new value, and every byte outside it is as it was last written. One that writes nothing, a CAS64 that fails, does not wait for HELD or
for a write-blocked page. -/
def Obligations.Atomics : Prop :=
  (∀ (w : Word32) (e : StoreEntry) (old : BitVec 64) (old4 : BitVec 32),
     let v := e.data
     let v4 := e.data.setWidth 32
     let new (n : Nat) : Option Nat := atomicNew w e n
     (opOf w = 0x51 → w.toNat % 8 = 0 → new old.toNat = some v.toNat) ∧
     (opOf w = 0x51 → w.toNat % 8 = 1 → new old.toNat = some (old + v).toNat) ∧
     (opOf w = 0x51 → w.toNat % 8 = 2 → new old.toNat = some (old &&& v).toNat) ∧
     (opOf w = 0x51 → w.toNat % 8 = 3 → new old.toNat = some (old ||| v).toNat) ∧
     (opOf w = 0x51 → w.toNat % 8 = 4 → new old.toNat = some (old ^^^ v).toNat) ∧
     (opOf w = 0x51 → w.toNat % 8 = 5 → new old.toNat = some (if old.toInt ≤ v.toInt then old else v).toNat) ∧
     (opOf w = 0x51 → w.toNat % 8 = 6 → new old.toNat = some (if v.toInt ≤ old.toInt then old else v).toNat) ∧
     (opOf w = 0x52 → w.toNat % 8 = 0 → new old4.toNat = some v4.toNat) ∧
     (opOf w = 0x52 → w.toNat % 8 = 1 → new old4.toNat = some (old4 + v4).toNat) ∧
     (opOf w = 0x52 → w.toNat % 8 = 2 → new old4.toNat = some (old4 &&& v4).toNat) ∧
     (opOf w = 0x52 → w.toNat % 8 = 3 → new old4.toNat = some (old4 ||| v4).toNat) ∧
     (opOf w = 0x52 → w.toNat % 8 = 4 → new old4.toNat = some (old4 ^^^ v4).toNat) ∧
     (opOf w = 0x52 → w.toNat % 8 = 5 → new old4.toNat = some (if old4.toInt ≤ v4.toInt then old4 else v4).toNat) ∧
     (opOf w = 0x52 → w.toNat % 8 = 6 → new old4.toNat = some (if v4.toInt ≤ old4.toInt then old4 else v4).toNat) ∧
     (opOf w = 0x52 → w.toNat % 8 = 7 → new old4.toNat = some (fpAdd .rne old4.toNat v4.toNat)) ∧
     (opOf w = 0x53 → new old.toNat = if old = v then some e.dataP.toNat else none)) ∧
  (∀ (s : State) (k i : Nat) (b : Block) (e : StoreEntry),
     let va := e.addr.toNat
     let w := b.word e.idx
     let n := bufferedSize w
     let acts (u : State) (key old : Nat) : Prop :=
       ∃ t, exec (.blockCommit k) s = .next t ∧
         (∀ v, atomicNew w e old = some v → ∀ j, j < n →
           t.byteFor (k / 256) (.task (s.slot k).uid) (key + j) = BitVec.ofNat 8 (v / 256 ^ j)) ∧
         (atomicNew w e old = none → ∀ a, t.byteLast a = u.byteLast a) ∧
         (∀ a, a < key ∨ key + n ≤ a → t.byteLast a = u.byteLast a) ∧
         (u.writes = [] → (atomicNew w e old = none → ∀ d p a, t.byteFor d p a = u.byteFor d p a) ∧
           (∀ d p a, a < key ∨ key + n ≤ a → t.byteFor d p a = u.byteFor d p a)) ∧
         (∀ q, q ∈ regTargets w → q ≠ 0 → regTargets w = [q] → (t.slot k).reg q = BitVec.ofNat 64 old) ∧
         (∀ q, q ∉ regTargets w → (t.slot k).reg q = (s.slot k).reg q) ∧ (∀ j, j ≠ k → t.slot j = s.slot j)
     (s.slot k).status = .running → (s.slot k).block = some b → b.pos = .writes i → b.waiting = none → b.nextWrite i = some e.idx →
     b.stores.find? (fun q => q.idx = e.idx) = some e → opOf w ∈ [0x51, 0x52, 0x53] →
     (va < 2 ^ 56 → va % n = 0 → isPad va = true → padState va = false → s.padOk va = true → (s.line (padLine va)).guarded = false →
       (s.line (padLine va)).full = true → s.poisoned va n = false →
       let old := natOf ((List.range n).map (fun j => s.byteLast (va + j)))
       (s.line (padLine va)).holders = 0 ∨ atomicNew w e old = none → acts s va old) ∧
     (∀ p s1 key, s.resolve (s.agent k) va (wantAtomic n) = (.ok p, s1) → isPad va = false → p.key = some key →
       (∀ tr, p = .mem tr → tr.cnt = false) → s1.placeCut p = false → s1.placeBad p n = false → s1.staleWrite (k / 256) e = false →
       let old := natOf ((List.range n).map (fun j => s1.byteLast (key + j)))
       s1.performWaits p = false ∨ atomicNew w e old = none → acts s1 key old))

/-! ### Effects and waits held for commit: what each checks at fire -/

/-- 15 R278, R280, R283-R288: the task and scheduling instructions, with what each checks at fire. Three clauses are the model's choice: a failed
check comes before a second writer of the target (log entry 32), a record in a window is PAGE_ABSENT (log entry 95), and GANG whose GRP names group
255 is ILLEGAL_FORM (log entry 128).
15 R293, R296-R301; 17 R318: HMDECL, STAMP, AWAIT, HMRETIRE: a malformed key, or a field that must be zero, is ILLEGAL_FORM; then
the key's base is translated. HMTEST of a local key evaluates it once and delivers READY, NOENTRY and GEN; a stale or undeclared key
is its precise fault. A failed check comes before a second writer of the target (the model's choice: log entry 32). -/
def Obligations.SchedulingHeld : Prop :=
  (∀ (p : BitVec 2) (t : BitVec 9) (l r : BitVec 7),
     let rec_ (x : Firing) (s : State) : Option Byte × State :=
       if x.cap.l.toNat % 32 ≠ 0 ∨ 2 ^ 56 ≤ x.cap.l.toNat then (some cAlign, s)
       else if isWindow x.cap.l.toNat = true then (some cPageAbsent, s)
       else s.leads x.slot x.cap.l.toNat ⟨8, true, true, false, false, false⟩
     let point (x : Firing) (s : State) (counting : Bool) : Option Byte :=
       let g := x.cap.l.toNat % 256
       let n := x.cap.l.toNat / 256
       if 2 ^ 13 ≤ x.cap.l.toNat then some cIllegalForm
       else if g = 0xFF ∨ 23 < n then some cRvInvalid
       else match (s.slot x.slot).groups.find? (fun e => e.1 = g) with
         | none => some cRvInvalid
         | some e => if counting = true ∧ (s.rvAt e.2 x.cap.l.toNat).expect = 0 then some cRvInvalid else none
     Holds (.spawn p t l r) t rec_ ∧
     Holds (.joindec p t l r) t (fun x s => match rec_ x s with
       | (some c, s) => (some c, s)
       | (none, s) => (if x.cap.r.toNat = 0 ∨ 2 ^ 32 ≤ x.cap.r.toNat then some cIllegalForm else none, s)) ∧
     HoldsUnless (.rvinit p t l r) t (fun x s => match point x s false with
       | some c => some c
       | none => if x.cap.r.toNat = 0 ∨ 65535 < x.cap.r.toNat then some cIllegalForm else none) ∧
     HoldsUnless (.arrive p t l r) t (fun x s => point x s true) ∧
     HoldsUnless (.wait p l r) noTarget (fun x s => match point x s true with
       | some c => some c
       | none => if 2 ^ 16 ≤ x.cap.r.toNat then some cIllegalForm else none) ∧
     HoldsUnless (.est p t l r) t (fun x _ => if 2 ≤ x.cap.r.toNat then some cIllegalForm else none) ∧
     HoldsUnless (.progress p t l r) t (fun _ _ => none) ∧
     HoldsUnless (.graphgo p t l r) t (fun x _ =>
       if 256 ≤ x.cap.l.toNat then some cIllegalForm
       else if x.cap.r.toNat % 8 ≠ 0 ∨ 2 ^ 56 ≤ x.cap.r.toNat then some cAlign else none) ∧
     HoldsUnless (.gang p t l r) t (fun x _ =>
       let g (i : Nat) : Nat := (x.cap.grp.getD i 0).toNat
       let w := g 1 % 16
       let h := g 1 / 16 % 16
       let o := g 1 / 2 ^ 16 % 32
       if 2 ^ 22 ≤ g 1 ∨ g 1 / 2 ^ 9 % 2 ^ 7 ≠ 0 ∨ w < 1 ∨ 8 < w ∨ h < 1 ∨ 4 < h ∨ w * h < 2 ∨ 16 < w * h ∨ 2 ^ 9 ≤ g 2 ∨ g 3 ≠ 0 ∨
         (g 2 / 2 ^ 8 % 2 = 1 ∧ g 2 % 256 = 255) ∨ (g 1 / 2 ^ 21 % 2 = 0 ∧ (8 < o % 8 + w ∨ 4 < o / 8 + h))
       then some cIllegalForm
       else if g 0 % 32 ≠ 0 ∨ 2 ^ 56 ≤ g 0 then some cAlign else none)) ∧
  (∀ (p : BitVec 2) (t : BitVec 9) (l r : BitVec 7),
     let base (x : Firing) (s : State) : Option Byte × State := match s.keyHome (x.slot / 256) x.cap.l.toNat with
       | (.error c, s) => (some c, s)
       | (.ok _, s) => (none, s)
     let good (x : Firing) : Bool :=
       let k := x.cap.l.toNat
       decide (k ≠ 0 ∧ k < 2 ^ 56 ∧ k % 128 ≤ 24 ∧ k / 2 ^ 32 ∉ [0xFFFFFC, 0xFFFFFD, 0xFFFFFE] ∧
         (k / 2 ^ 48 = 0xFE → k % 128 = 9 ∧ k / 128 % 2 ^ 9 = 0))
     let sel (x : Firing) (s : State) : Bool :=
       let q := x.cap.r.toNat
       decide (q < 2 ^ 49 ∧ (q / 2 ^ 48 % 2 = 0 → q / 2 ^ 30 % 2 ^ 18 = 0) ∧
         (q / 2 ^ 48 % 2 = 1 → q / 2 ^ 17 % 2 = 0 ∧ q / 2 ^ 30 % 2 ^ 18 ≠ s.chipid.toNat))
     Holds (.hmdecl p t l r) t (fun x s => if good x then base x s else (some cIllegalForm, s)) ∧
     Holds (.stamp p t l r) t (fun x s => if good x ∧ x.cap.r.toNat < 2 then base x s else (some cIllegalForm, s)) ∧
     Holds (.hmretire p t l r) t (fun x s => if good x then base x s else (some cIllegalForm, s)) ∧
     Holds (.await p l r) noTarget (fun x s =>
       if good x ∧ sel x s then (if x.cap.r.toNat / 2 ^ 48 % 2 = 1 then (none, s) else base x s) else (some cIllegalForm, s)) ∧
     (∀ s x, Fires s (.hmtest p t l r) x →
       (good x = false ∨ sel x s = false → exec (.hmtest p t l r) s = .next (s.faultAt x.slot x.b x.idx cIllegalForm 0 (some x.cap))) ∧
       (good x = true → sel x s = true → x.cap.r.toNat / 2 ^ 48 % 2 = 0 → ∀ s1, base x s = (none, s1) → x.block.clash t.toNat = false →
         ∀ v e f s2, s1.awaitEval (x.slot / 256) x.cap.l.toNat x.cap.r.toNat none = (v, e, f, s2) →
           let word (ready : Bool) : Word := BitVec.ofNat 64 ((if ready then 1 else 0) + (if e.isNone then 2 else 0) +
             ((e.map (fun h => h.gen.toNat)).getD 0) * 2 ^ 16)
           (v = .stale → exec (.hmtest p t l r) s = .next (s2.faultAt x.slot x.b x.idx cHmStale 0 (some x.cap))) ∧
           (v = .undeclared → exec (.hmtest p t l r) s = .next (s2.faultAt x.slot x.b x.idx cHmUndeclared 0 (some x.cap))) ∧
           (v = .wait → ∀ b, x.block.deliver x.idx t.toNat (word false) = some b →
             exec (.hmtest p t l r) s = .next (s2.setBlock x.slot b)) ∧
           (∀ d, v = .ready d → ∀ b, x.block.deliver x.idx t.toNat (word true) = some b →
             ∃ u, exec (.hmtest p t l r) s = .next u ∧ (u.slot x.slot).block = some b))))

/-- 11 R214-R220; 13 R235, R237, R238, R250, R251: the fabric, tile and ladle instructions, with what each checks at fire. A handle has
bits 63:9 zero and bit 8 one. That a failed check comes before a second writer of the target is the model's choice (log entry 32).
17 R320-R328, R330, R335, R343: the KV instructions, with what each checks at fire; PFXH is of class Value. That a failed check comes before a
second writer of the target is the model's choice (log entry 32), and so is PAGE_ABSENT for an operand in a window, which is not translated (log
entry 95). -/
def Obligations.EngineHeld : Prop :=
  (∀ (p : BitVec 2) (t : BitVec 9) (l r : BitVec 7),
     let stop (x : Firing) (_ : State) : Option Byte :=
       if x.cap.l.toNat / 2 ^ 8 = 1 ∧ x.cap.r.toNat < 2 then none else some cIllegalForm
     let pour (x : Firing) (s : State) : Option Byte × State :=
       let q := x.cap.r.toNat
       if 2 ^ 11 ≤ q ∨ (q / 2 ^ 9 % 2 = 1 ∧ (q % 8 ≠ 0 ∨ q / 2 ^ 10 % 2 = 1)) then (some cIllegalForm, s)
       else if q / 2 ^ 9 % 2 = 0 then (none, s)
       else if 2 ^ 56 ≤ x.cap.l.toNat ∨ x.cap.l.toNat % 64 ≠ 0 then (some cAlign, s)
       else s.leads x.slot x.cap.l.toNat (wantPlain 8 false)
     Holds (.mload p t l r) t (fun x s =>
       if 32 ≤ x.cap.r.toNat then (some cIllegalForm, s)
       else if 2 ^ 56 ≤ x.cap.l.toNat ∨ x.cap.l.toNat % 8 ≠ 0 then (some cAlign, s)
       else if isWindow x.cap.l.toNat = true then (some cPageAbsent, s)
       else s.leads x.slot x.cap.l.toNat (wantPlain 8 false)) ∧
     HoldsUnless (.mstart p t l r) t (fun x _ =>
       if x.cap.l.toNat / 2 ^ 8 ≠ 1 then some cIllegalForm
       else if 2 ^ 56 ≤ x.cap.r.toNat ∨ x.cap.r.toNat % 8 ≠ 0 then some cAlign else none) ∧
     HoldsUnless (.mstopDrain p t l r) t stop ∧ HoldsUnless (.mstopAbort p t l r) t stop ∧
     HoldsUnless (.inject p t l r) t (fun x _ =>
       let q := x.cap.r.toNat
       let bit (n : Nat) : Bool := q / 2 ^ n % 2 = 1
       let count := (x.cap.grp.getD 2 0).toNat
       if 2 ^ 19 ≤ q ∨ q / 2 ^ 9 % 8 ≠ 0 ∨ bit 8 = false ∨ (bit 18 = true ∧ (bit 17 = false ∨ bit 16 = true)) ∨
         (bit 16 = true ∧ (count = 0 ∨ 16 < count)) then some cIllegalForm
       else if bit 16 = true ∧ (List.range count).any (fun i =>
           let a := (x.cap.grp.getD 0 0 + BitVec.ofNat 64 i * x.cap.grp.getD 1 0).toNat
           decide (2 ^ 56 ≤ a ∨ a % 16 ≠ 0)) = true then some cAlign else none) ∧
     HoldsUnless (.mxcfg p t l r) t (fun x s =>
       if 16 ≤ x.cap.r.toNat then some cIllegalForm
       else if s.mxBad (x.slot / 8) (formOfGroup x.cap.grp) = true then some cMxcfgInvalid else none) ∧
     HoldsUnless (.mxjoin p l r) noTarget (fun x _ => if 2 ^ 16 ≤ x.cap.l.toNat then some cIllegalForm else none) ∧
     HoldsUnless (.pjoin p l r) noTarget (fun x _ => if 2 ^ 9 ≤ x.cap.l.toNat then some cIllegalForm else none) ∧
     Holds (.pourLoadt p t l r) t pour ∧ Holds (.pourStart p t l r) t pour) ∧
  (∀ (p : BitVec 2) (t : BitVec 9) (l r : BitVec 7),
     let operand (va align : Nat) (x : Firing) (s : State) : Option Byte × State :=
       if 2 ^ 56 ≤ va ∨ va % align ≠ 0 then (some cAlign, s)
       else if isWindow va = true then (some cPageAbsent, s)
       else s.leads x.slot va ⟨8, true, true, false, false, false⟩
     let two (a n b m : Nat) (x : Firing) (s : State) : Option Byte × State := match operand a n x s with
       | (some c, s) => (some c, s)
       | (none, s) => operand b m x s
     let flags (q : Nat) : Bool := if q / 2 % 2 = 1 then decide (q / 2 ^ 10 % 2 = 1) else decide (q / 4 % 2 ^ 20 = 0)
     let off (a n : Nat) : Bool := decide (2 ^ 56 ≤ a ∨ a % n ≠ 0)
     let g (x : Firing) (i : Nat) : Nat := (x.cap.grp.getD i 0).toNat
     Holds (.kvmap p t l r) t (fun x s => match operand x.cap.l.toNat 8 x s with
       | (some c, s) => (some c, s)
       | (none, s) => (if 2 ^ 13 ≤ x.cap.r.toNat then some cIllegalForm else none, s)) ∧
     Holds (.kvfork p t l r) t (fun x s => two x.cap.l.toNat 8 x.cap.r.toNat 8 x s) ∧
     Holds (.kvappend p t l r) t (fun x s => two x.cap.l.toNat 64 x.cap.r.toNat 32 x s) ∧
     Holds (.kvfree p t l r) t (fun x s => operand x.cap.l.toNat 8 x s) ∧
     Delivers (.pfxh p t l r) [t.toNat] (fun x =>
       BitVec.ofNat 64 (x.cap.l.toNat * 2 ^ 13 % 2 ^ 64 + x.cap.l.toNat / 2 ^ 51) ^^^ x.cap.r) ∧
     Holds (.pfxlook p t l r) t (fun x s => operand x.cap.l.toNat 32 x s) ∧
     Holds (.pfxins p t l r) t (fun x s => if x.cap.r.toNat = 0 then (none, s) else operand x.cap.r.toNat 8 x s) ∧
     HoldsUnless (.splice p t l r) t (fun x _ =>
       if 2 ^ 22 ≤ x.cap.r.toNat ∨ flags x.cap.r.toNat = false ∨ 2 ^ 32 ≤ g x 1 ∨ g x 3 = 0 ∨ 2 ^ 24 < g x 3 then some cIllegalForm
       else if off (g x 0) 64 ∨ off (g x 2) 32 then some cAlign else none) ∧
     HoldsUnless (.repair p t l r) t (fun x _ =>
       if 2 ^ 22 ≤ x.cap.r.toNat ∨ flags x.cap.r.toNat = false ∨ g x 1 / 2 ^ 32 = 0 ∨ 256 ≤ g x 2 then some cIllegalForm
       else if off (g x 0) 64 ∨ off (g x 3) 64 then some cAlign else none) ∧
     HoldsUnless (.katt p t l r) t (fun x _ =>
       if 2 ^ 50 ≤ x.cap.r.toNat ∨ flags x.cap.r.toNat = false then some cIllegalForm
       else if off (g x 0) 64 ∨ off (g x 2) 4 ∨ off (g x 3) 16 then some cAlign else none))

/-! ### Effects, performed in commit step 3 -/

/-- 15 R283, R284, R288: EST and PROGRESS; RVINIT gives a point its EXPECT once; ARRIVE counts an arrival and, with the last, starts the
next phase. A progress event ends the count of the watchdog.
09 R149, R150: SPALLOC takes the lowest n lines with a guard on each side, in the unit named or in the first that has them, zeroes
them and gives the address of the first, or 0; a line that an engine holds it holds still. SPFREE waits until no line is held, then
frees them, or does nothing if the allocation it found is gone, be there another in its place; its register target receives 0 (07 R90). One
whose number no frame kept takes the allocation that stands there for the one it found (the model's choice: log entry 31).
15 R263, R269, R286, R287: SPAWN reads a record and queues it when its JOIN is 0; JOINDEC lowers JOIN and queues the record when that
leaves 0. Three clauses are the model's choice: a fault met here is the sequencer's, SOURCE 0 (log entry 28); a record whose AFFKIND is 11 enters
the class of no affinity of the pusher's die (log entry 71); and the target of a JOINDEC that faults is a free value (log entry 16).
15 R280: GANG forms a gang of w by h records and queues it in class 2 as one entry, when every record is a task of its launch with
JOIN 0 and its group stands; else GROUP_INVALID, and the target receives 0. A full queue holds the block. -/
def Obligations.SchedulingEffects : Prop :=
  (∀ (s : State) (k : Nat) (b : Block) (c : Capture),
     let n := (s.slot k).launchid.toNat
     let l := c.l.toNat
     (Effecting s k b c 0x5D → c.r = 0 → Effects s k b c (s.modSlot k (fun sl => { sl with est := c.l })) (s.slot k).est) ∧
     (Effecting s k b c 0x5D → c.r = 1 →
       Effects s k b c ((s.modSlot k (fun sl => { sl with est := c.l })).modLaunch n (fun x => { x with estOverride := some c.l }))
         (s.slot k).est) ∧
     (Effecting s k b c 0x5E → Effects s k b c (s.modSlot k (fun sl => { sl with
       wCount := 0
       progressed := true })) 0) ∧
     (∀ d x, (s.slot k).groups.find? (fun e => e.1 = l % 256) = some (l % 256, d) → Smap.find (s.die d).groups (l % 256) = some x →
       let v := Smap.getD x.points RvPoint.reset (l / 256 % 32)
       let put (s : State) (v : RvPoint) : State := s.modDie d (fun y => { y with
         groups := Smap.insert y.groups (l % 256) { x with points := Smap.put x.points RvPoint.reset (l / 256 % 32) v } })
       (Effecting s k b c 0x5A → v.expect = 0 → Effects s k b c (put s { v with expect := c.r.truncate 16 }) (BitVec.ofNat 64 (c.r.toNat % 2 ^ 16))) ∧
       (Effecting s k b c 0x5A → v.expect ≠ 0 → Effects s k b c (put s v) (BitVec.ofNat 64 v.expect.toNat)) ∧
       (Effecting s k b c 0x5B →
         let all := (v.deps ++ s.past (.task (s.slot k).uid)).dedup
         let result := BitVec.ofNat 64 ((v.phase.toNat + 1) % 2 ^ 16)
         (v.arrived + 1 = v.expect →
           Effects s k b c ((put s { v with arrived := 0, phase := v.phase + 1, deps := all }).modSlot k (fun sl => { sl with
       wCount := 0
       progressed := true })) result) ∧
         (v.arrived + 1 ≠ v.expect →
           Effects s k b c ((put s { v with arrived := v.arrived + 1, deps := all }).modSlot k (fun sl => { sl with
       wCount := 0
       progressed := true })) result)))) ∧
  (∀ (s : State) (k : Nat) (b : Block) (c : Capture),
     let r := c.r.toNat
     let n := (c.l.toNat + 127) / 128
     let units := if r / 32 % 2 = 1 then List.range 26 else [r % 32]
     let free (u g : Nat) : Prop := ∀ i, i < n + 2 →
       (s.line ((k / 8 * 32 + u) * 1024 + g + i)).alloc = false ∧ s.bankOut ((k / 8 * 32 + u) * 1024 + g + i) = false
     let zero (t : State) (a : Nat) : State :=
       (List.range (16 * n)).foldl (fun t i => t.store (.task (s.slot k).uid) (a + 8 * i) (List.replicate 8 0) [] true) t
     (Effecting s k b c 0x69 → (∀ u, u ∈ units → ∀ g, g + n + 2 ≤ 1024 → ¬ free u g) → Effects s k b c s 0) ∧
     (Effecting s k b c 0x69 → ∀ before u after g, units = before ++ u :: after → g + n + 2 ≤ 1024 → free u g →
       (∀ w, w ∈ before → ∀ h, h + n + 2 ≤ 1024 → ¬ free w h) → (∀ h, h < g → ¬ free u h) →
       let ln := (k / 8 * 32 + u) * 1024 + g
       let guard (old : LineState) : LineState := { LineState.reset with
         alloc := true
         guarded := true
         owner := (s.slot k).ctxid
         holders := old.holders }
       let data (old : LineState) : LineState := { LineState.reset with
         alloc := true
         owner := (s.slot k).ctxid
         full := decide (r / 64 % 2 = 1)
         holders := old.holders }
       let t := (({ s with nextUid := s.nextUid + 1 } : State).modLine ln (fun x => { guard x with
         extent := BitVec.ofNat 10 n
         serial := s.nextUid })).modLine (ln + n + 1) guard
       Effects s k b c (zero ((List.range n).foldl (fun t i => t.modLine (ln + 1 + i) data) t) (0x00FFFFFF00000000 + (ln + 1) * 128))
         (BitVec.ofNat 64 (0x00FFFFFF00000000 + (ln + 1) * 128))) ∧
     let found : Word := BitVec.ofNat 64 (s.line (padLine c.l.toNat - 1)).serial
     (Effecting s k b c 0x6A → s.allocAt c.l.toNat = false ∨ (∃ n rest, c.grp = n :: rest ∧ n ≠ found) → Effects s k b c s 0) ∧
     (Effecting s k b c 0x6A → s.allocAt c.l.toNat = true → (∀ n rest, c.grp = n :: rest → n = found) →
       let g := padLine c.l.toNat - 1
       let m := (s.line g).extent.toNat
       ((∃ i, i < m + 2 ∧ 0 < (s.line (g + i)).holders) → Stalls s k b c) ∧
       ((∀ i, i < m + 2 → (s.line (g + i)).holders = 0) →
         Effects s k b c ((List.range (m + 2)).foldl (fun t i => t.setLine (g + i) LineState.reset)
           (s.reveal (k / 256) (s.past (.task (s.slot k).uid)))) 0))) ∧
  (∀ (s : State) (k : Nat) (b : Block) (c : Capture),
     let va := c.l.toNat
     let part (bs : List Byte) (off n : Nat) : Nat := natOf ((bs.drop off).take n)
     let bad (t : State) (bs : List Byte) : Prop :=
       let f := part bs 22 2
       part bs 20 2 ≠ (t.slot k).launchid.toNat ∨ 2 ^ 13 ≤ f ∨ (f / 16 % 4 = 0 ∧ f / 64 % 128 ≠ 0) ∨ (f / 16 % 4 = 1 ∧ f / 64 % 32 ≠ 0)
     let place (bs : List Byte) : Nat × Nat :=
       let f := part bs 22 2
       if f / 16 % 4 = 2 then (f / 64 % 128 / 32, 2) else if f / 16 % 4 = 1 then (f / 64 % 128 / 32, 1) else (k / 256, 0)
     let room (t : State) (bs : List Byte) : Prop :=
       ((t.die (place bs).1).queue.filter (fun e => e.level = (t.launch (t.slot k).launchid.toNat).prio && e.cls = (place bs).2)).length < 65536
     let pushed (t : State) (bs : List Byte) : State :=
       let n := (t.slot k).launchid.toNat
       let f := part bs 22 2
       ((t.modDie (place bs).1 (fun x => { x with queue := x.queue ++ [{
         addr := BitVec.ofNat 64 va
         image := false
         launch := n
         level := (t.launch n).prio
         cls := (place bs).2
         affKind := f / 16 % 4
         affTgt := f / 64 % 128
         pushedAt := t.cycle
         waitFrom := t.cycle
         deps := t.past (.task (t.slot k).uid)
         gang := none
         member := none
         place := 0 }] })).modLaunch n (fun x => { x with unretired := x.unretired + 1 })).modSlot k (fun sl => { sl with
       wCount := 0
       progressed := true })
     (Effecting s k b c 0x57 →
       (∀ e t, s.readTask k c.idx va 32 = (.error e, t) → Effects s k b c (t.commitFault k c.idx e) 0) ∧
       (∀ bs t, s.readTask k c.idx va 32 = (.ok bs, t) →
         (bad t bs → Effects s k b c (t.commitFault k c.idx cIllegalForm) 0) ∧
         (¬ bad t bs → part bs 16 4 ≠ 0 → Effects s k b c t 0) ∧
         (¬ bad t bs → part bs 16 4 = 0 → room t bs → Effects s k b c (pushed t bs) 1) ∧
         (¬ bad t bs → part bs 16 4 = 0 → ¬ room t bs → Stalls s k b c))) ∧
     (Effecting s k b c 0x58 → ∀ p t, s.resolve (s.agent k) (va + 16) ⟨4, true, true, false, false, false⟩ = (.ok p, t) →
       (t.writeWaits p = true ∨ t.readWaits p = true → Stalls s k b c) ∧
       (t.writeWaits p = false → t.readWaits p = false → t.placeBad p 4 = false →
         let a := s.agent k
         let old := t.readPlace a (va + 16) p 4 true
         let left := old.1 - c.r.toNat
         let u := old.2.writePlace a (va + 16) p 4 left (old.2.releaseDeps a.party a.die 3) true
         (old.1 < c.r.toNat → ∃ v, Effects s k b c (old.2.commitFault k c.idx cIllegalForm) v) ∧
         (c.r.toNat < old.1 → Effects s k b c u (BitVec.ofNat 64 left)) ∧
         (c.r.toNat = old.1 → ∀ bs w, u.readTask k c.idx va 32 = (.ok bs, w) →
           (bad w bs → Effects s k b c (w.commitFault k c.idx cIllegalForm) 0) ∧
           (¬ bad w bs → part bs 16 4 ≠ 0 → Effects s k b c w 0) ∧
           (¬ bad w bs → part bs 16 4 = 0 → room w bs → Effects s k b c (pushed w bs) 0))))) ∧
  (∀ (s u : State) (k : Nat) (b : Block) (c : Capture),
     let g (i : Nat) : Nat := (c.grp.getD i 0).toNat
     let sl := s.slot k
     let d := k / 256
     let n := sl.launchid.toNat
     let l := s.launch n
     let w := g 1 % 16
     let h := g 1 / 16 % 16
     let named : Option Nat := if g 2 / 256 % 2 = 1 then some (g 2 % 256) else none
     let groupOk : Prop := ∀ q, named = some q → s.groupDie n q = some d ∧
       ∀ i, i < w * h → (l.groupNums (l.taskIndex (g 0 + 32 * i)) (some q)).length ≤ 4
     let reads (t : State) (i : Nat) : Except Byte (List Byte) × State := t.readTask k c.idx (g 0 + 32 * i) 32
     Effecting s k b c 0x59 →
     (s.queueFull d l.prio 2 = true → Stalls s k b c) ∧
     (s.queueFull d l.prio 2 = false →
       (∀ cause, reads s 0 = (.error cause, u) → 0 < w * h → Effects s k b c (u.commitFault k c.idx cause) 0) ∧
       (∀ bs, reads s 0 = (.ok bs, u) → 0 < w * h → natOf ((bs.drop 20).take 2) ≠ n ∨ natOf ((bs.drop 16).take 4) ≠ 0 →
         Effects s k b c (u.commitFault k c.idx cGroupInvalid) 0) ∧
       (∀ trail : Nat → State, trail 0 = s → (∀ i, i < w * h → ∃ bs, reads (trail i) i = (.ok bs, trail (i + 1)) ∧
           natOf ((bs.drop 20).take 2) = n ∧ natOf ((bs.drop 16).take 4) = 0) →
         let t := trail (w * h)
         (¬groupOk → Effects s k b c (t.commitFault k c.idx cGroupInvalid) 0) ∧
         (groupOk →
           let gang : Gang := {
             id := t.nextUid
             launch := n
             w := w
             h := h
             origin := if g 1 / 2 ^ 21 % 2 = 1 then none else some (g 1 / 2 ^ 16 % 32)
             placed := none
             fuse := g 1 / 2 ^ 8 % 2 = 1
             members := (List.range (w * h)).map (fun i => { recordEntry (g 0 + 32 * i) n l.prio 2 0 0 [] with place := i })
             group := named
             left := w * h }
           let deps := t.past (.task sl.uid)
           let v := ({ t with nextUid := t.nextUid + 1 } : State).modDie d (fun x => { x with gangs := x.gangs ++ [gang] })
           Effects s k b c (((v.enqueue d { recordEntry 0 n l.prio 2 0 0 deps with gang := some t.nextUid }).countTasks n (w * h) 0).progress k) 0))))

/-- 07 R122-R126; 09 R145-R147: FENCE, SBAR, CACHEOP and TLBOP say in step 3 what the exit waits for; TRACE freezes and thaws the bay's
buffer, or records a marker; HALT stops or restores popping in its scope. The part of a FENCE in step 2 acquires what the releases the task has
read release (kinds acq, ar and sc), and makes every later write of the task release, at its scope, what it has done and read (kinds rel, ar and sc);
one that orders engines alone does neither. That TLBOP PAGE ignores bits 63:56 of L is the model's choice (log entry 35), and so is that BINV takes an
address of the scratchpad (log entry 34). -/
def Obligations.SystemEffects : Prop :=
  ∀ (s : State) (k : Nat) (b : Block) (c : Capture),
    let l := c.l.toNat
    let w := (b.word c.idx).toNat
    let p : Party := .task (s.slot k).uid
    let scope := w / 2 ^ 4 % 8
    let die := (s.agent k).die
    let ops := (Smap.getD s.joins [] (s.slot k).uid).map (fun j => j.op)
    (∀ i, (s.slot k).status = .running → (s.slot k).block = some b → b.pos = .writes i → b.waiting = none → b.nextWrite i = some c.idx →
      b.stores.find? (fun e => e.idx = c.idx) = none →
      let memory := decide (w % 4 = 0 ∨ w / 2 ^ 2 % 2 = 1)
      let u := if memory = true ∧ w % 4 ≠ 1 then
          s.acquire die p scope ((s.readFrom.filter (fun e => e.1 == p)).map (fun e => e.2))
        else s
      ∃ t, exec (.blockCommit k) s = .next t ∧ t.writes = u.writes ∧ t.readFrom = u.readFrom ∧
        t.fenced = s.fenced ++ (if memory = true ∧ w % 4 ≠ 0 then (u.past p).map (fun i => (p, i, Prec.scope scope)) else []) ∧
        (t.slot k).block = some { b with
          pos := .writes (c.idx + 1)
          waiting := none } ∧ (∀ j, j ≠ k → t.slot j = s.slot j) ∧ t.mem = s.mem) ∧
    (Effecting s k b c 0x54 → HoldsExit s k b c s
      ((if w % 4 ≠ 0 ∧ w / 2 ^ 3 % 2 = 1 then [.engines ops scope] else []) ++
        (if w % 4 = 3 then [.fenceSc (s.past p) (s.diesOf p scope die)] else []))) ∧
    (Effecting s k b c 0x55 → HoldsExit s k b c s [.streams ((s.stageAccs.filter (fun a =>
      a.port && a.stream / 16 = k / 8 && l % 2 ^ 16 / 2 ^ (a.stream % 16) % 2 = 1)).map (fun a => a.id))]) ∧
    (Effecting s k b c 0x7A → c.r = 1 → HoldsExit s k b c s [.invalidate none]) ∧
    (Effecting s k b c 0x7A → c.r = 0 → isPad l = true → HoldsExit s k b c s [.invalidate (some (l / 128))]) ∧
    (Effecting s k b c 0x7A → c.r = 0 → isPad l = false → ∀ q t, s.translate (k / 8) l = (.ok q, t) →
      HoldsExit s k b c t [.invalidate (some (q.pa / 128))]) ∧
    (Effecting s k b c 0x7B → c.r = 1 → HoldsExit s k b c s [.shootdown none]) ∧
    (Effecting s k b c 0x7B → c.r = 0 → HoldsExit s k b c s [.shootdown (some (l / 2 ^ 16 % 2 ^ 40))]) ∧
    (Effecting s k b c 0x7C → c.r = 1 → Effects s k b c (s.modBay (k / 8) (fun y => { y with
      tracectl := (y.tracectl ||| 0x8000) &&& ~~~(0x1000 : Word)
      postLeft := none })) 0) ∧
    (Effecting s k b c 0x7C → c.r = 2 → (s.bay (k / 8)).tracectl.getLsbD 15 = true → Effects s k b c (s.modBay (k / 8) (fun y => { y with
      tracectl := y.tracectl &&& ~~~(0x9000 : Word)
      postLeft := none })) 0) ∧
    (Effecting s k b c 0x7C → c.r = 0 →
      let y := s.bay (k / 8)
      let at_ := y.tracectl.toNat / 2 ^ 16 % 2 ^ 12
      y.tracectl.getLsbD 15 = false → y.postLeft = none → y.tracectl.getLsbD 3 = true → y.tracedAt ≠ some s.cycle → y.dropped = false →
      ∃ t, Effects s k b c t 0 ∧ t.slots = s.slots ∧ t.mem = s.mem ∧ Smap.find (t.bay (k / 8)).trace at_ =
        some (BitVec.ofNat 64 (s.cycle % 2 ^ 48 * 2 ^ 16 + 4 * 2 ^ 12 + k % 8 * 2 ^ 8), c.l)) ∧
    (Effecting s k b c 0x7E → ∀ first n, (l = 1 ∧ first = k / 8 * 8 ∧ n = 8) ∨ (l = 2 ∧ first = k / 256 * 256 ∧ n = 256) ∨
        (l = 3 ∧ first = 0 ∧ n = 1024) →
      Effects s k b c ((List.range n).foldl (fun s i => s.modSlot (first + i) (fun sl => { sl with stopped := decide (c.r = 0) })) s) 0)

/-- 11 R214-R219: MLOAD takes the least free entry of the die's mould table and gives its handle; MSTART and MSTOP act on the mould a
handle names, and MOULD_INVALID is recorded where it names none; an override gives the base registers; INJECT makes a bead of its group, or a vector of
the beads at the addresses of a stride, and closes a source when it is told to. Five clauses are the model's choice: what an INJECT releases, it
releases to every access of the mould (log entry 56); it waits for a load in progress (log entry 124); a stride's beads leave no gap for one whose read
fails (log entry 125); a start reads its override at once, and one whose read faults leaves the mould stopped (log entry 126).
11 R220: COLLECT gives the oldest bead of a sink in four registers, with its predicate and tag; GONE where the handle or the sink
names nothing, ENDED behind the last bead, zeros or a wait where there is none yet. -/
def Obligations.MouldEffects : Prop :=
  (∀ (s : State) (k : Nat) (b : Block) (c : Capture),
     let d := k / 256
     let uid := (s.slot k).uid
     let q := c.r.toNat
     let names (v : Nat) (m : Mould) : Prop := s.mould (v / 64 % 4) (v % 64) = some m ∧ m.ctx = (s.slot k).ctxid
     let none_ (v : Nat) : Prop := ∀ m, s.mould (v / 64 % 4) (v % 64) = some m → m.ctx ≠ (s.slot k).ctxid
     let invalid : Prop := Effects s k b c (s.commitFault k c.idx cMouldInvalid) 0
     (Effecting s k b c 0x60 → (∀ e, e < 64 → Smap.has (s.die d).moulds e = true) → Stalls s k b c) ∧
     (Effecting s k b c 0x60 → ∀ e, e < 64 → Smap.has (s.die d).moulds e = false → (∀ i, i < e → Smap.has (s.die d).moulds i = true) →
       ∃ m, m.state = .loading ∧ m.ctx = (s.slot k).ctxid ∧ m.uid = uid ∧ m.op = s.nextOp ∧ m.image = c.l ∧ m.origin = q % 32 ∧
         m.present = false ∧ m.startWait = [] ∧
         Effects s k b c ((s.forked k c.idx (some (.mould d e)) true [d]).modDie d (fun x => { x with moulds := Smap.insert x.moulds e m }))
           (BitVec.ofNat 64 (256 + d * 64 + e))) ∧
     (∀ v, v = c.l.toNat →
       (Effecting s k b c 0x61 → none_ v → invalid) ∧ (Effecting s k b c 0x62 → none_ v → invalid) ∧
       (∀ m, names v m →
         let s1 := s.observe (v / 64 % 4) (.op m.op) (s.past (.task uid))
         (Effecting s k b c 0x61 → m.state = .loading →
           Effects s k b c (s1.modMould (v / 64 % 4) (v % 64) (fun m => { m with startWait := m.startWait ++ [(uid, c.r)] })) 0) ∧
         (Effecting s k b c 0x61 → m.state = .stopped → c.r = 0 →
           Effects s k b c (s1.modMould (v / 64 % 4) (v % 64) (fun m => { m with
             state := .running
             starter := uid
             present := !(s.die (v / 64 % 4)).moulds.any (fun q => q.1 != v % 64 && q.2.present && sharesBay q.2 m)
             quantum := 0 })) 0) ∧
         (Effecting s k b c 0x61 → m.state = .stopped → c.r ≠ 0 →
           let a : Agent := { bay := v / 64 % 4 * 32 + m.origin, party := .op m.op, ctx := m.ctx, priv := m.ctx == 0 }
           let h := 256 + v / 64 % 4 * 64 + v % 64
           (∀ f t, s1.readAs a uid 1 h c.r.toNat 64 = (.error f, t) →
             Effects s k b c (t.recordImp (v / 64 % 4) uid (.op m.op) (impRec f.1 1 m.ctx f.2 h 0)) 0) ∧
           (∀ bs t, s1.readAs a uid 1 h c.r.toNat 64 = (.ok bs, t) →
             Effects s k b c (t.modMould (v / 64 % 4) (v % 64) (fun n => { n with
               state := .running
               starter := uid
               bases := (List.range 8).map (fun i => BitVec.ofNat 64 (natOf ((bs.drop (8 * i)).take 8)))
               present := !(t.die (v / 64 % 4)).moulds.any (fun q => q.1 != v % 64 && q.2.present && sharesBay q.2 m)
               quantum := 0 })) 0)) ∧
         (Effecting s k b c 0x61 → m.state = .failed → Effects s k b c (s1.commitFault k c.idx cMouldInvalid) 0) ∧
         (Effecting s k b c 0x61 → m.state ∉ [.loading, .stopped, .failed] → Effects s k b c s1 0) ∧
         (Effecting s k b c 0x62 → q = 0 → m.state = .running →
           Effects s k b c ((s.modMould (v / 64 % 4) (v % 64) (fun m => { m.closeAll with
             state := .draining
             drainAsked := true })).sweep (v / 64 % 4) (v % 64)) 0) ∧
         (Effecting s k b c 0x62 → q = 1 → Effects s k b c (s.abortMould (v / 64 % 4) (v % 64)) 0))) ∧
     (∀ v, v = q % 512 → Effecting s k b c 0x63 →
       (none_ v → invalid) ∧
       (∀ m, names v m →
         (m.state = .loading → Stalls s k b c) ∧ (m.state = .failed → invalid) ∧
         (m.state ≠ .loading → m.state ≠ .failed →
           (m.sources.find? (fun x => x.idx = q / 2 ^ 12 % 16) = none → invalid) ∧
           (∀ x, m.sources.find? (fun x => x.idx = q / 2 ^ 12 % 16) = some x →
             (x.closed = true ∨ x.owner ≠ none → invalid) ∧
             let strided := q / 2 ^ 16 % 2 = 1
             let need := if strided ∧ x.forming ≠ [] then 2 else 1
             let at_ : List Nat := (List.range (c.grp.getD 2 0).toNat).map (fun i => (c.grp.getD 0 0 + BitVec.ofNat 64 i * c.grp.getD 1 0).toNat)
             (x.closed = false → x.owner = none → m.switching = true ∨ m.roomAt x < need → Stalls s k b c) ∧
             (x.closed = false → x.owner = none → m.switching = false → need ≤ m.roomAt x →
               let deps (u : State) (m : Mould) : List Nat := (m.deps ++ u.past (.task uid)).dedup
               let close (m : Mould) : Mould := if q / 2 ^ 17 % 2 = 1 then
                   (match m.sources.find? (fun z => z.idx = x.idx) with
                     | some z => m.closeSource z
                     | none => m)
                 else m
               let f (i : Nat) : Word32 := (c.grp.getD i 0).truncate 32
               let bead (tag : BitVec 16) (f : Nat → Word32) : Bead :=
                 { f0 := f 0, f1 := f 1, f2 := f 2, f3 := f 3, pred := true, tag := tag, count := 0, accs := [], own := [], dead := false }
               (q / 2 ^ 16 % 8 = 0 ∨ q / 2 ^ 16 % 8 = 2 → c.grp.length = 4 → Effects s k b c (s.modMould (v / 64 % 4) (v % 64) (fun m =>
                 close (({ m with
                   counter := m.counter + 1
                   deps := deps s m } : Mould).joinForming x (bead m.counter f)))) 0) ∧
               (q / 2 ^ 16 % 8 = 6 → Effects s k b c (s.modMould (v / 64 % 4) (v % 64) (fun m =>
                 close { m with deps := deps s m })) 0) ∧
               (strided → q / 2 ^ 18 % 2 = 0 →
                 ((∃ a ∈ at_, s.padWaits a 16 = true) → Stalls s k b c) ∧
                 ((∀ a ∈ at_, s.padWaits a 16 = false) →
                   let got := at_.foldl (fun (acc : List (List Byte) × State) a =>
                     match acc.2.readTask k c.idx a 16 with
                     | (.error f, u) => (acc.1, u.commitFault k c.idx f)
                     | (.ok bs, u) => (acc.1 ++ [bs], u)) ([], s)
                   let word (bs : List Byte) (j : Nat) : Word32 := BitVec.ofNat 32 (natOf ((bs.drop (4 * j)).take 4))
                   Effects s k b c (got.2.modMould (v / 64 % 4) (v % 64) (fun m =>
                     let u := ({ m with
                       counter := m.counter + BitVec.ofNat 16 got.1.length
                       deps := deps got.2 m } : Mould).sendSource x
                     close (if got.1 = [] then u else u.place (.vec (packBeads ((List.range got.1.length).map (fun i =>
                       bead (m.counter + BitVec.ofNat 16 i) (word (got.1.getD i [])))))) (if x.toB then .pb x.pipe else .pa x.pipe)))) 0)))))))) ∧
  (∀ (p : BitVec 2) (t : BitVec 9) (l r : BitVec 7) (s : State) (x : Firing), Fires s (.collect p t l r) x →
     let v := x.cap.l.toNat
     let q := x.cap.r.toNat
     let gives (u : State) (ws : List Word) : Prop := exec (.collect p t l r) s = .next (u.setBlock x.slot (if t = 0x1C0 then x.block
       else { x.block with regw := x.block.regw ++
         (List.range 4).map (fun i => { reg := t.toNat % 128 + i, writer := x.idx, value := ws.getD i 0 }) }))
     let waits : Prop := exec (.collect p t l r) s = .next (s.setBlock x.slot { x.block with replay := x.block.replay ++ [x.cap] })
     let clash : Prop := t ≠ 0x1C0 ∧ ∃ i, i < 4 ∧ x.block.clash (t.toNat + i) = true
     (32 ≤ q ∨ v / 2 ^ 8 ≠ 1 → exec (.collect p t l r) s = .next (s.faultAt x.slot x.b x.idx cIllegalForm 0 (some x.cap))) ∧
     (q < 32 → v / 2 ^ 8 = 1 → clash → exec (.collect p t l r) s = .next (s.faultAt x.slot x.b x.idx cBlockMultiwrite 0 none)) ∧
     (q < 32 → v / 2 ^ 8 = 1 → ¬ clash →
       ((∀ m, s.mould (v / 64 % 4) (v % 64) = some m → m.ctx ≠ (s.slot x.slot).ctxid) → gives s [BitVec.ofNat 64 (2 ^ 34), 0, 0, 0]) ∧
       (∀ m, s.mould (v / 64 % 4) (v % 64) = some m → m.ctx = (s.slot x.slot).ctxid →
         (m.state = .failed ∨ m.state = .aborting → gives s [BitVec.ofNat 64 (2 ^ 34), 0, 0, 0]) ∧
         (m.state = .loading → (q / 16 % 2 = 0 → gives s [0, 0, 0, 0]) ∧ (q / 16 % 2 = 1 → waits)) ∧
         (m.state = .running → ∀ k, m.sinks.find? (fun k => k.idx = q % 16) = some k → k.owner = none →
           (∀ h bs rest, k.queue = (h :: bs) :: rest → ∃ u, gives u
             [BitVec.ofNat 64 (h.f0.toNat + 2 ^ 32 + (if h.pred = true then 2 ^ 35 else 0) + h.tag.toNat * 2 ^ 48),
               BitVec.ofNat 64 h.f1.toNat, BitVec.ofNat 64 h.f2.toNat, BitVec.ofNat 64 h.f3.toNat] ∧ u.mem = s.mem ∧
             u.mould (v / 64 % 4) (v % 64) = some { m with sinks := m.sinks.map (fun z =>
               if z.idx = q % 16 then { k with queue := if bs = [] then rest else bs :: rest } else z) }) ∧
           (k.queue = [] → k.ended = true → ∃ u, gives u [BitVec.ofNat 64 (2 ^ 33), 0, 0, 0] ∧ u.mem = s.mem ∧ u.slots = s.slots) ∧
           (k.queue = [] → k.ended = false → (q / 16 % 2 = 0 → gives s [0, 0, 0, 0]) ∧ (q / 16 % 2 = 1 → waits))))))

/-- 13 R235, R250; 17 R329; 07 R125; 15 R278, R280: MXCFG arms its entry with the next configuration number once it is free; POUR loads a
template or queues a transfer; SPLICE and REPAIR issue an operation; GRAPHGO queues a run of its graph, with the patches of its list, or refuses it. -/
def Obligations.EngineEffects : Prop :=
  ∀ (s : State) (k : Nat) (b : Block) (c : Capture),
    let y := k / 8
    let d := k / 256
    let sl := s.slot k
    let q := c.r.toNat
    let g (i : Nat) : Word := c.grp.getD i 0
    let detach : Bool := match sl.task with
      | some t => t.flags.getLsbD 3
      | none => false
    let low (m n : Word32) : Bool := decide (1 ≤ (n - m).toNat ∧ (n - m).toNat < 2 ^ 31)
    (Effecting s k b c 0x67 →
      (Smap.has (s.bay y).mx (q % 16) = true ∨ (s.bay y).mx.any (fun e => !low e.2.num (s.bay y).mxNext) = true → Stalls s k b c) ∧
      (Smap.has (s.bay y).mx (q % 16) = false → (s.bay y).mx.any (fun e => !low e.2.num (s.bay y).mxNext) = false →
        Effects s k b c (({ s.forked k c.idx (some (.matrix y (q % 16))) ((g 1).getLsbD 50) [y / 32] with
          opHomes := Smap.insert s.opHomes s.nextOp (.tile y) } : State).modBay y (fun z => { z with
          mx := Smap.insert z.mx (q % 16) {
            op := s.nextOp, uid := sl.uid, ctx := sl.ctxid, launch := sl.launchid.toNat, num := (s.bay y).mxNext, k0 := g 0, k1 := g 1,
            key := g 2, rows := g 3, nextPass := 0, passes := [], accumulated := 0 }
          mxNext := z.mxNext + 1 })) 0)) ∧
    (Effecting s k b c 0x65 → q / 2 ^ 9 % 2 = 1 → s.padWaits c.l.toNat 64 = false →
      (∀ e t, s.readTask k c.idx c.l.toNat 64 = (.error e, t) → Effects s k b c (t.commitFault k c.idx e) 0) ∧
      (∀ bs t, s.readTask k c.idx c.l.toNat 64 = (.ok bs, t) → Effects s k b c (t.modBay y (fun z => { z with
        templates := (List.range 64).foldl (fun m j => Smap.put m 0 (64 * (q / 8 % 64) + j) (bs.getD j 0)) z.templates })) 0)) ∧
    (Effecting s k b c 0x65 → q / 2 ^ 9 % 2 = 0 →
      let v := Smap.getD (s.bay y).chans Channel.reset (q % 8)
      (5 ≤ v.queue.length → Stalls s k b c) ∧
      (v.queue.length < 5 →
        let own := decide (q / 2 ^ 10 % 2 = 1) && detach
        let tmpl := (List.range 64).map (fun j => Smap.getD (s.bay y).templates 0 (64 * (q / 8 % 64) + j))
        Effects s k b c (({ s.forked k c.idx (if own then none else some (.ladle y (q % 8))) true [y / 32] with
          opHomes := Smap.insert s.opHomes s.nextOp (.chan y (q % 8)) } : State).modBay y (fun z => { z with
          chans := Smap.put z.chans Channel.reset (q % 8) {
            queue := v.queue ++ [{
              op := s.nextOp, uid := some sl.uid, launch := sl.launchid.toNat, ctx := sl.ctxid, detach := own, key := c.l,
              tmplIdx := q / 8 % 64, tmpl := tmpl, seq := v.seq, started := false, next := 0, drawn := 0,
              src := BitVec.ofNat 64 (natOf (tmpl.take 8)), block := 0, bad := [], fault := none }]
            seq := v.seq + 1 } })) 0)) ∧
    (∀ kind op, (kind, op) ∈ [(KvKind.splice, 0x77), (KvKind.repair, 0x78)] → Effecting s k b c op →
      ∃ o, o.kind = kind ∧ o.phase = .queued ∧ o.op = s.nextOp ∧ o.uid = sl.uid ∧ o.ctx = sl.ctxid ∧ o.bay = y ∧
        [o.a0, o.a1, o.a2, o.a3] = [g 0, g 1, g 2, g 3] ∧ o.sel = c.r ∧ o.detach = (decide (q % 2 = 1) && detach) ∧
        o.threshold = (s.die d).rpth ∧
        Effects s k b c ({ s.forked k c.idx (if o.detach then none else some (.kv y)) true [0, 1, 2, 3] with
          opHomes := Smap.insert s.opHomes s.nextOp (.engine y s.nextOp)
          kvops := Smap.insert s.kvops s.nextOp o }) 0) ∧
    (Effecting s k b c 0x5F →
      let w := (Smap.getD s.sched 0 (0x10000 + c.l.toNat)).toNat
      let n := w / 2 ^ 16 % 2 ^ 13
      let f := w % 2 ^ 12
      let good := c.l.toNat < 256 ∧ w / 2 ^ 63 % 2 = 1 ∧ 1 ≤ n ∧ n ≤ 4096 ∧ f + n ≤ 4096
      let refuses (t : State) : Prop := Effects s k b c { t with trigStatus := 2 } 2
      let takes (t : State) (patches : List (Nat × Nat × Word)) : Prop :=
        let waiting := (t.runs.filter (fun r => !r.running && (r.first < f + n && f < r.first + r.count))).length
        (4 ≤ waiting → Effects s k b c { t with trigStatus := 1 } 1) ∧
        (waiting < 4 → Effects s k b c { t with
          trigStatus := 0
          runs := t.runs ++ [{
            graph := c.l.toNat, first := f, count := n, patches := patches, running := false, id := t.nextRun, deps := s.past (.task sl.uid) }]
          nextRun := t.nextRun + 1 } 0)
      (¬ good → refuses s) ∧
      (good → q = 0 → takes s []) ∧
      (good → q ≠ 0 → q % 8 = 0 → q < 2 ^ 56 →
        (∀ e t, s.readTask k c.idx q 8 = (.error e, t) → refuses t) ∧
        (∀ h t, s.readTask k c.idx q 8 = (.ok h, t) →
          let m := natOf (h.take 8)
          (4096 < m → refuses t) ∧
          (m ≤ 4096 →
            (∀ e u, t.readTask k c.idx (q + 8) (16 * m) = (.error e, u) → refuses u) ∧
            (∀ bs u, t.readTask k c.idx (q + 8) (16 * m) = (.ok bs, u) →
              let part (i off size : Nat) : Nat := natOf (((((bs.drop (16 * i)).take 16)).drop off).take size)
              let ok : Prop := ∀ i, i < m → part i 0 2 < n ∧ part i 2 1 % 8 = 0 ∧ part i 2 1 ≤ 120 ∧ part i 3 5 = 0
              (¬ ok → refuses u) ∧
              (ok → takes u ((List.range m).map (fun i => (part i 0 2, part i 2 1, BitVec.ofNat 64 (part i 8 8))))))))))

/-- 15 R295-R297, R301: HMDECL makes an entry of its key, of the next generation, or a new generation of the entry it has, and reports
COARSE where the table is full; a task held for the generation before is stale; HMRETIRE frees the entry. 17 R318: a block's key takes no entry: HMDECL
raises the generation of the block and clears its stamp, and HMRETIRE leaves it as it is.
15 R297: STAMP stamps the entry of its key once, releasing what its task has done and read, and gives the generation; without an
entry it reports COARSE, or HM_UNDECLARED is recorded and its target is a free value (the model's choice: log entry 16). It is a progress event, and the
key becomes ready for the tasks held for it. 17 R318: a block's key is stamped in its stage-2 entry, which gives its generation, where the block is valid. -/
def Obligations.HallmarkEffects : Prop :=
  (∀ (s : State) (k : Nat) (b : Block) (c : Capture) (home : Nat) (t : State),
     s.keyHome (k / 256) c.l.toNat = (.ok home, t) →
     let key := c.l.toNat
     let n := (s.slot k).launchid.toNat
     let d := k / 256
     let g := kvKeyBlock key
     let x := t.die home
     let find (h : Option Hallmark) : Prop := x.hallmarks.find? (fun h => h.key.toNat == key) = h
     let set (t : State) (e : Hallmark) : State :=
       t.setDie home { x with hallmarks := x.hallmarks.map (fun q => if q.key.toNat = key then e else q) }
     (isKvKey key = true →
       (Effecting s k b c 0x6F → Effects s k b c t 0) ∧
       (Effecting s k b c 0x6B → ∀ e u, t.kvEntryAddr d g = (.ok e, u) →
         let w := u.deviceLast d (.device d) e 12
         let gen := (w.1 / 2 ^ 80 + 1) % 2 ^ 16
         let v := w.2.deviceStore d (.device d) e 12 (w.1 % 2 ^ 80 - w.1 / 4 % 2 * 4 + gen * 2 ^ 80) []
         let z := if w.1 % 2 = 1 then v.staleHeld key (Smap.getD v.kvRuns 0 g) else v
         Effects s k b c { z with kvRuns := Smap.insert z.kvRuns g (t.launch n).run } (BitVec.ofNat 64 gen))) ∧
     (isKvKey key = false → Effecting s k b c 0x6B →
       (∀ h, find (some h) → Effects s k b c ((set t { h with
         gen := h.gen + 1
         stamped := false
         launch := n
         run := (t.launch n).run
         deps := []
         sys := false
         byOp := false }).staleHeld key h.run) (BitVec.ofNat 64 ((h.gen.toNat + 1) % 2 ^ 16))) ∧
       (find none → x.hallmarks.length < 16384 → Effects s k b c (t.setDie home { x with
         hallmarks := x.hallmarks ++ [{
           key := BitVec.ofNat 64 key, gen := x.hmCounter, stamped := false, launch := n, run := (t.launch n).run, deps := [], sys := false,
           byOp := false }]
         hmCounter := x.hmCounter + 1 }) (BitVec.ofNat 64 x.hmCounter.toNat)) ∧
       (find none → 16384 ≤ x.hallmarks.length → Effects s k b c (t.modLaunch n (fun l => { l with coarse := true })) 0x10000)) ∧
     (isKvKey key = false → Effecting s k b c 0x6F →
       Effects s k b c (t.modDie home (fun x => { x with hallmarks := x.hallmarks.filter (fun h => decide (h.key.toNat ≠ key)) })) 0)) ∧
  (∀ (s : State) (k : Nat) (b : Block) (c : Capture) (home : Nat) (t : State),
     let s1 := s.modSlot k (fun sl => { sl with
       wCount := 0
       progressed := true })
     s1.keyHome (k / 256) c.l.toNat = (.ok home, t) → Effecting s k b c 0x6C →
     let key := c.l.toNat
     let n := (s.slot k).launchid.toNat
     let x := t.die home
     let d := k / 256
     let g := kvKeyBlock key
     (isKvKey key = true → ∀ e u, t.kvEntryAddr d g = (.ok e, u) →
       let w := u.deviceLast d (.device d) e 8
       (w.1 % 2 = 0 → (w.2.launch n).coarse = true → Effects s k b c w.2 0x10000) ∧
       (w.1 % 2 = 0 → (w.2.launch n).coarse = false → Effects s k b c (w.2.commitFault k c.idx cHmUndeclared) (Config.freeWord s.tick 0)) ∧
       (w.1 % 2 = 1 →
         let m := w.2.deviceLast d (.device d) (e + 10) 2
         let deps := m.2.releaseDeps (t.agent k).party d (if c.r.toNat % 2 = 1 then 4 else 3)
         let v := m.2.deviceStore d (.device d) e 8 (w.1 - w.1 / 4 % 2 * 4 + 4) deps
         Effects s k b c (v.keyStamped key (Smap.getD v.kvRuns 0 g) (deps.map (fun e => e.1))) (BitVec.ofNat 64 (m.1 % 2 ^ 16)))) ∧
     (isKvKey key = false → ∀ h, x.hallmarks.find? (fun h => h.key.toNat == key) = some h →
       (h.stamped = true → Effects s k b c t (BitVec.ofNat 64 h.gen.toNat)) ∧
       (h.stamped = false → Effects s k b c ((t.setDie home { x with hallmarks := x.hallmarks.map (fun q => if q.key.toNat = key then
           { h with
             stamped := true
             deps := t.past (.task (t.slot k).uid)
             sys := decide (c.r.toNat % 2 = 1)
             byOp := false } else q) }).keyStamped key h.run (t.past (.task (t.slot k).uid))) (BitVec.ofNat 64 h.gen.toNat))) ∧
     (isKvKey key = false → x.hallmarks.find? (fun h => h.key.toNat == key) = none →
       ((t.launch n).coarse = true → Effects s k b c t 0x10000) ∧
       ((t.launch n).coarse = false → Effects s k b c (t.commitFault k c.idx cHmUndeclared) (Config.freeWord s.tick 0))))

/-- 17 R320-R324, R327, R328, R342: what the KV instructions do in step 3. KVMAP writes an entry for a fresh block; KVFORK installs a new
reference; KVFREE drops one; PFXINS keeps at most 256 hashes; PFXLOOK counts the columns whose hash the table holds and whose blocks may be used, and
with PIN 1 installs a reference to each in the sequence, the pins it has made staying where a fault stops it; KATT is issued with the query it has
read. A fault of KVMAP, KVFORK or KVFREE changes nothing but the guard touches it has raised, and gives all ones; a write that must wait is waited for.
Three clauses are the model's choice: a slot that KVFREE has cleared is kept in mind by its address and the physical address it leads to (log entry
43); of two uses in one tick the one of the higher hash number is the later (log entry 94); and a target for which no value is stated is a free
value (log entry 16).
17 R323: KVAPPEND writes a token's keys and values behind the last of a layer, in a fresh block where the last is full, and its entry
with FILL one more; with ADVANCE 1 it writes LEN too. It gives the token's position. -/
def Obligations.KvEffects : Prop :=
  (∀ (s : State) (k : Nat) (b : Block) (c : Capture),
     let d := k / 256
     let rd := s.kvReader k c
     let p := rd.a.party
     let l := c.l.toNat
     let r := c.r.toNat
     let fails (e : Byte) (t : State) : Prop := Effects s k b c ((s.modSlot k (fun sl => { sl with
       imp := (t.slot k).imp
       impOverflow := (t.slot k).impOverflow })).commitFault k c.idx e) 0xFFFFFFFFFFFFFFFF
     let at_ (u : State) : Nat × Nat := (l, (u.slotKey rd l).getD 0)
     let entry (gbn fill : Nat) : Nat := s.chipid.toNat * 2 ^ 46 + gbn * 2 ^ 12 + fill * 2 + 1
     (Effecting s k b c 0x70 → s.wrWaits rd l 8 = true → Stalls s k b c) ∧
     (Effecting s k b c 0x70 → s.wrWaits rd l 8 = false →
       (∀ e t, s.rdWord rd.newest l = (.error e, t) → fails e t) ∧
       (∀ old t, s.rdWord rd.newest l = (.ok old, t) →
         (old % 2 = 1 ∨ 16 < r / 2 ^ 8 % 2 ^ 5 → fails cKvMapInvalid t) ∧
         (old % 2 = 0 → r / 2 ^ 8 % 2 ^ 5 ≤ 16 →
           (∀ e u, t.kvAlloc d p rd.a.ctx (r % 2 ^ 8) = (.error e, u) → fails e u) ∧
           (∀ blk u w, t.kvAlloc d p rd.a.ctx (r % 2 ^ 8) = (.ok blk, u) →
             u.wr rd l 8 (entry blk.gbn (r / 2 ^ 8 % 2 ^ 5)) (u.releaseDeps p d 3) = (.ok (), w) →
             Effects s k b c w (BitVec.ofNat 64 (entry blk.gbn (r / 2 ^ 8 % 2 ^ 5))))))) ∧
     (Effecting s k b c 0x71 → s.wrWaits rd r 8 = true → Stalls s k b c) ∧
     (Effecting s k b c 0x71 → s.wrWaits rd r 8 = false →
       ∀ src t, s.rdWord rd.newest l = (.ok src, t) → ∀ dst u, t.rdWord rd.newest r = (.ok dst, u) →
         (dst % 2 = 1 → fails cKvMapInvalid u) ∧
         (dst % 2 = 0 →
           (∀ e v, u.kvFork d p rd.a.ctx src = (.error e, v) → fails e v) ∧
           (∀ e v w, u.kvFork d p rd.a.ctx src = (.ok e, v) → v.wr rd r 8 e (v.releaseDeps p d 3) = (.ok (), w) →
             Effects s k b c w (BitVec.ofNat 64 e)))) ∧
     (Effecting s k b c 0x73 → s.wrWaits rd l 8 = true → Stalls s k b c) ∧
     (Effecting s k b c 0x73 → s.wrWaits rd l 8 = false → ∀ e t, s.rdWord rd.newest l = (.ok e, t) →
       (e % 2 = 0 → fails cKvMapInvalid t) ∧
       (e1Bad e = false → ∀ blk u, t.kvBlockOf d p e = (.ok blk, u) →
         (blk.word0 % 2 = 0 → fails cKvMapInvalid u) ∧
         (blk.word0 % 2 = 1 → ∀ w,
           let v := (u.kvDrop d p blk).2
           let freed : State := { v with
             kvFreed := if at_ u ∈ v.kvFreed then v.kvFreed else at_ u :: v.kvFreed }
           freed.wr rd l 8 0 (freed.releaseDeps p d 3) = (.ok (), w) →
           Effects s k b c w (BitVec.ofNat 64 (u.kvDrop d p blk).1)))) ∧
     (Effecting s k b c 0x76 →
       let tab := (s.die d).pfx
       let put (tab : List (Word × Word × Nat)) : State := s.modDie d (fun x => { x with pfx := tab })
       (r = 0 → Effects s k b c (put (tab.filter (fun x => decide (x.1 ≠ c.l)))) 0) ∧
       (r ≠ 0 → (∃ x, x ∈ tab ∧ x.1 = c.l) →
         Effects s k b c (put (tab.map (fun x => if x.1 = c.l then (c.l, c.r, 4096 * s.tick) else x))) 1) ∧
       (r ≠ 0 → (∀ x, x ∈ tab → x.1 ≠ c.l) → tab.length < 256 → Effects s k b c (put (tab ++ [(c.l, c.r, 4096 * s.tick)])) 1) ∧
       (r ≠ 0 → (∀ x, x ∈ tab → x.1 ≠ c.l) → tab.length = 256 → ∃ tab', Effects s k b c (put (tab' ++ [(c.l, c.r, 4096 * s.tick)])) 2 ∧
         tab'.Sublist tab ∧ ∀ x, x ∈ tab → x ∉ tab' → ∃ y, y ∈ tab ∧ x.1 = y.1 ∧ ∀ z, z ∈ tab → y.2.2 ≤ z.2.2)) ∧
     (Effecting s k b c 0x75 → ∀ bs t, s.rd rd l 32 = (.ok bs, t) →
       let n := natOf ((bs.drop 8).take 4)
       let pin := natOf ((bs.drop 12).take 4)
       let sq := natOf ((bs.drop 16).take 8)
       (n = 0 ∨ 4096 < n ∨ 1 < pin ∨ natOf ((bs.drop 24).take 8) ≠ 0 ∨ sq = 0 ∨ sq % 64 ≠ 0 → fails cKvMapInvalid t) ∧
       (1 ≤ n → n ≤ 4096 → pin ≤ 1 → natOf ((bs.drop 24).take 8) = 0 → sq ≠ 0 → sq % 64 = 0 →
         (∀ e u, t.rdSeqMap rd sq (decide (pin = 1)) = (.error e, u) → fails e u) ∧
         (∀ x u, t.rdSeqMap rd sq (decide (pin = 1)) = (.ok x, u) →
           (∀ e w, u.pfxWalk rd x (natOf (bs.take 8)) n (decide (pin = 1)) n 0 = (.error e, w) →
             Effects s k b c (w.commitFault k c.idx e) 0xFFFFFFFFFFFFFFFF) ∧
           (∀ i w, u.pfxWalk rd x (natOf (bs.take 8)) n (decide (pin = 1)) n 0 = (.ok i, w) → Effects s k b c w (BitVec.ofNat 64 i))))) ∧
     (∀ (u : State) (x : SeqRec) (hashes n : Nat) (pin : Bool) (left i : Nat),
       let walk (u : State) (left i : Nat) : Except Byte Nat × State := u.pfxWalk rd x hashes n pin left i
       walk u 0 i = (.ok i, u) ∧
       (∀ h w, u.rdWord rd (hashes + 8 * i) = (.ok h, w) →
         let tab := (w.die rd.a.die).pfx
         ((∀ e, e ∈ tab → e.1.toNat ≠ h) → walk u (left + 1) i = (.ok i, w)) ∧
         (∀ e, tab.find? (fun y => y.1.toNat = h) = some e → ∀ bs v, w.rd rd (e.2.1.toNat + 64) (8 * x.lay.layers) = (.ok bs, v) →
           let es := (List.range x.lay.layers).map (fun j => natOf ((bs.drop (8 * j)).take 8))
           let good := es.foldl (fun (acc : Bool × State) e => if acc.1 then acc.2.pfxEntryOk rd e else acc) (true, v)
           let used (v : State) : State := v.modDie rd.a.die (fun y => { y with
             pfx := y.pfx.map (fun z => if z.1 = e.1 then (z.1, z.2.1, 4096 * v.tick + i) else z) })
           (good.1 = false → walk u (left + 1) i = (.ok i, good.2)) ∧
           (good.1 = true → pin = false → walk u (left + 1) i = walk (used good.2) left (i + 1)) ∧
           (good.1 = true → pin = true → x.maxblk ≤ i → walk u (left + 1) i = (.error cKvMapInvalid, good.2)) ∧
           (good.1 = true → pin = true → i < x.maxblk → ∀ taken v1, good.2.columnTaken rd x i = (.ok taken, v1) →
             (taken = true → walk u (left + 1) i = (.error cKvMapInvalid, v1)) ∧
             (taken = false → ∀ v2, v1.pinColumn rd x i es = (.ok (), v2) → walk u (left + 1) i = walk (used v2) left (i + 1)) ∧
             (taken = false → ∀ f v2, v1.pinColumn rd x i es = (.error f, v2) →
               walk u (left + 1) i = (.error f, if f = cKvPoolEmpty then v1 else v2))))) ∧
       u.pinColumn rd x i [] = (.ok (), u) ∧
       (∀ es w e v f w1, u.pinColumn rd x i es = (.ok (), w) → w.kvFork rd.a.die p rd.a.ctx e = (.ok f, v) →
         v.wr rd (x.slotAt es.length i) 8 f (v.releaseDeps p rd.a.die 3) = (.ok (), w1) → u.pinColumn rd x i (es ++ [e]) = (.ok (), w1))) ∧
     (Effecting s k b c 0x79 → s.padWaits (c.grp.getD 0 0).toNat 64 = false → s.padWaits (c.grp.getD 2 0).toNat 4 = false →
       let x := s.issueKv k c .katt
       (x.1.kind = .katt ∧ x.1.phase = .queued ∧ x.1.op = s.nextOp ∧ x.1.sel = c.r ∧ x.1.a0 = c.grp.getD 0 0 ∧ x.1.a1 = c.grp.getD 1 0 ∧
         x.1.a2 = c.grp.getD 2 0 ∧ x.1.a3 = c.grp.getD 3 0) ∧
       (∀ o t, x.2.kattRead x.1 = (.ok o, t) → t.padWaits (c.grp.getD 2 0).toNat (4 * o.query.length) = false →
         Effects s k b c { t with kvops := Smap.insert t.kvops o.op o } 0))) ∧
  (∀ (s : State) (k : Nat) (b : Block) (c : Capture), Effecting s k b c 0x72 →
     let rd := s.kvReader k c
     let d := k / 256
     let p := rd.a.party
     s.kvops.any (fun o => o.2.kind == .splice && o.2.a0 == c.l) = false →
     ∀ q s1, s.rdSeq rd.newest c.l.toNat = (.ok q, s1) → ∀ ar s2, s1.rd rd c.r.toNat 32 = (.ok ar, s2) →
       let part (off n : Nat) : Nat := natOf ((ar.drop off).take n)
       let layer := part 0 2
       let n := q.lay.heads * q.lay.hdim * q.lay.e
       (q.lay.layers ≤ layer ∨ 1 < part 2 1 ∨ part 3 5 ≠ 0 ∨ part 24 8 ≠ 0 →
         Effects s k b c ((s.modSlot k (fun sl => { sl with
           imp := (s2.slot k).imp
           impOverflow := (s2.slot k).impOverflow })).commitFault k c.idx cKvMapInvalid) 0xFFFFFFFFFFFFFFFF) ∧
       (layer < q.lay.layers → part 2 1 ≤ 1 → part 3 5 = 0 → part 24 8 = 0 →
         ∀ row s3, s2.rdRow rd.newest q layer = (.ok row, s3) → ∀ ks s4, s3.rdUnits rd (part 8 8) n q.lay.e = (.ok ks, s4) →
         ∀ vs s5, s4.rdUnits rd (part 16 8) n q.lay.e = (.ok vs, s5) →
         ∀ i blk fill s6, s5.appendBlock rd q layer row = (.ok (i, blk, fill), s6) → s6.wrWaits rd (q.slotAt layer i) 8 = false →
           let t := (s6.putToken d p q.lay blk.page fill false ks).putToken d p q.lay blk.page fill true vs
           let e := s.chipid.toNat * 2 ^ 46 + blk.gbn * 2 ^ 12 + (fill + 1) * 2 + 1
           ∀ u, t.wr rd (q.slotAt layer i) 8 e (t.releaseDeps p d 4) = (.ok (), u) →
             (part 2 1 = 0 → Effects s k b c u (BitVec.ofNat 64 (row.map (fun e => e / 2 % 2 ^ 5)).sum)) ∧
             (part 2 1 = 1 → Effects s k b c (u.wr rd (q.addr + 16) 4 ((row.map (fun e => e / 2 % 2 ^ 5)).sum + 1) (u.releaseDeps p d 3)).2
               (BitVec.ofNat 64 (row.map (fun e => e / 2 % 2 ^ 5)).sum))))

/-! ### The step, decoding and memory -/

/-- A step performs the instruction of the party in turn: a word of a block in flight, a word of a stage, an event of the device, or the
passing of a cycle. A turn whose instruction is decoded is a step of exec, after which the writes that every reader sees pass into
memory. That turns are taken one by one is the model's (log entry 1). -/
def Obligations.StepRunsDecoded : Prop :=
  (∀ (s : State) (k j : Nat) (b : Block) (w : Word32) (i : Instr) (rest : List Turn),
    s.agenda = .fire k j :: rest → (s.slot k).block = some b → b.words[j]? = some w → decodeSeq w = .ok i →
    step s = match exec i { s with agenda := rest, tick := s.tick + 1, focus := .seq k j } with
      | .next t => .next (t.settle s.mem)
      | .fault r => .fault r
      | .refused r => .refused r) ∧
  (∀ (s : State) (x : StageRef) (m : Mould) (i : Instr) (rest : List Turn),
    s.agenda = .stage x.die x.entry x.pipe x.stg :: rest → x.stg < 6 → s.mouldOf x = some m → x.pipe < m.pipes.length →
    x.stg < (m.pipeAt x.pipe).stages.length → decodeStage ((m.pipeAt x.pipe).stageAt x.stg).word = .ok i →
    step s = match exec i { s with agenda := rest, tick := s.tick + 1, focus := .stage x.die x.entry x.pipe x.stg } with
      | .next t => .next (t.settle s.mem)
      | .fault r => .fault r
      | .refused r => .refused r) ∧
  (∀ (s : State) (i : Instr) (rest : List Turn), s.agenda = .event i :: rest → i.home = .device → i.wf = true →
    step s = match exec i { s with agenda := rest, tick := s.tick + 1, focus := .none } with
      | .next t => .next (t.settle s.mem)
      | .fault r => .fault r
      | .refused r => .refused r) ∧
  (∀ (s : State) (rest : List Turn), s.agenda = .clock :: rest →
    ((s.die 0).opened = false → step s = .next (({ s with
      agenda := rest
      tick := s.tick + 1
      focus := .none } : State).settle s.mem)) ∧
    ((s.die 0).opened = true → s.slots = [] → s.heldUnits = [] → s.remoteWaits = [] → s.latePushes = [] → ∃ t, step s = .next t ∧
      t.cycle = s.cycle + 1 ∧ t.writes = s.passing.1 ∧ t.mem = foldMem s.mem s.passing.2 ∧ t.tick = s.tick + 1 ∧ t.agenda = rest)) ∧
  (∀ s : State, s.agenda = [] → step s = step { s with agenda := [Config.turn s.tick] })

/-- 05 R68, R84, R85; 11 R177: the example words of 07, 09, 11, 13, 15 and 19 decode to the instructions they stand for; the operation
codes 0 and 0x7F of a block are illegal, and a stage's codes from 0x42 on are no operation. Bytes of a word stand in memory with the
least significant first. -/
def Obligations.DecodeWords : Prop :=
  (decodeSeq 0x5461400C#32).toOption = some (.const 0 0x185 12) ∧
  (decodeSeq 0x64000008#32).toOption = some (.calli 0 8) ∧
  (decodeSeq 0x06618285#32).toOption = some (.mul 0 0x186 5 5) ∧
  (decodeSeq 0x62701FE0#32).toOption = some (.br 0 0x3F 0x60) ∧
  (decodeSeq 0x92624263#32).toOption = some (.ld32s 0 0x189 4 0x63) ∧
  (decodeSeq 0x9C008209#32).toOption = some (.st32 0 2 4 9) ∧
  (decodeSeq 0xC0624263#32).toOption = some (.mload 0 0x189 4 0x63) ∧
  (decodeSeq 0xCE700805#32).toOption = some (.mxcfg 0 0x1C0 0x10 5) ∧
  (decodeSeq 0xDC624303#32).toOption = some (.hmtest 0 0x189 6 3) ∧
  (decodeSeq 0x6E703060#32).toOption = some (.eret 0 0x60 0x60) ∧
  (decodeStage 0x1F811001#32).toOption = some (.icmp 3 0 0 1 1 1) ∧
  (decodeStage 0x700000F0#32).toOption = some (.trswap 3 0x30) ∧
  (∀ w : Word32, w.toNat / 2 ^ 25 = 0 ∨ w.toNat / 2 ^ 25 = 0x7F → decodeSeq w = .error .illegalOpcode) ∧
  (∀ w : Word32, 0x42 ≤ w.toNat / 2 ^ 25 → decodeStage w = .error .mouldInvalid) ∧
  (∀ (w : Word32) (i : Instr) (rest : List Byte), decodeSeq w = .ok i →
    decodeBytes ((List.range 4).map (fun j => BitVec.ofNat 8 (w.toNat / 256 ^ j)) ++ rest) = .ok (i, rest))

/-- Decode and encode agree, with every operand at every value the encoding admits: a well-formed instruction of a block or of a stage is
what its own word decodes to, a step of the device has no word, and a word that decodes is the word of a well-formed instruction. -/
def Obligations.DecodeEncode : Prop :=
  (∀ i : Instr, i.wf = true → i.home = .block → ∃ w, encode i = some w ∧ decodeSeq w = .ok i) ∧
  (∀ i : Instr, i.wf = true → i.home = .fabric → ∃ w, encode i = some w ∧ decodeStage w = .ok i) ∧
  (∀ i : Instr, i.home = .device → encode i = none) ∧
  (∀ (w : Word32) (i : Instr), decodeSeq w = .ok i → i.wf = true ∧ i.home = .block ∧ encode i = some w) ∧
  (∀ (w : Word32) (i : Instr), decodeStage w = .ok i → i.wf = true ∧ i.home = .fabric ∧ encode i = some w)

/-- Every step keeps memory in its canonical form, whatever it does: equal memories are equal data. -/
def Obligations.StepKeepsMemory : Prop :=
  ∀ s t : State, Memory.wf s.mem = true → step s = .next t → Memory.wf t.mem = true

/-! ### Operations of stages (11 R172-R206; 13 R240-R244) -/

/-- 11 R176-R178: the lane rule. A lane that holds no bead passes unchanged; one that does not act is absorbed, or passes where PIN is
11; one that acts receives its result in fld(DST) and its predicate under POUT. B is by BSEL.
11 R180-R182: PASS and the integer operations. -/
def Obligations.StageIntegers : Prop :=
  (∀ (st : Stage) (d a b : BitVec 2) (bs : BitVec 3) (c : BitVec 4) (op : Nat → Word32 → Word32 → Word32 → Bool → Word32)
     (v w : List Lane), bs.toNat ≤ 4 →
     let out := mapLanes st d.toNat a.toNat b.toNat bs.toNat c op v w
     let pin := c.toNat / 4
     let pout := c.toNat % 4
     out.length = 16 ∧
     (∀ i, i < 16 → (laneAt v i).bead? = none → laneAt out i = laneAt v i) ∧
     (∀ i q, i < 16 → laneAt v i = .bead q → (pin = 1 ∧ q.pred = false) ∨ (pin = 2 ∧ q.pred = true) →
       laneAt out i = .ghost q.tag q.count) ∧
     (∀ i q, i < 16 → laneAt v i = .bead q → pin = 3 → q.pred = false → laneAt out i = .bead q) ∧
     (∀ i q, i < 16 → laneAt v i = .bead q →
       (pin = 0 ∨ (pin = 1 ∧ q.pred = true) ∨ (pin = 2 ∧ q.pred = false) ∨ (pin = 3 ∧ q.pred = true)) →
       ∃ y bv, laneAt out i = .bead y ∧
         bv = (match bs.toNat with
           | 0 => q.get b.toNat
           | 1 => st.const
           | 2 => Smap.getD st.active 0 (16 * i + (q.get a.toNat).toNat % 16)
           | 3 => (match laneAt w i with
             | .bead p => p.get b.toNat
             | _ => 0)
           | _ => if q.pred then 1 else 0) ∧
         y.get d.toNat = op i (q.get a.toNat) bv (q.get d.toNat) q.pred ∧
         (∀ j, j < 4 → j ≠ d.toNat → y.get j = q.get j) ∧
         y.pred = (if pout = 0 then q.pred else if pout = 1 then decide (y.get d.toNat ≠ 0) else if pout = 2 then true else !q.pred) ∧
         y.tag = q.tag ∧ y.count = q.count ∧ y.accs = q.accs ∧ y.own = q.own ∧ y.dead = q.dead)) ∧
  (∀ (d a b : BitVec 2) (bs : BitVec 3) (c : BitVec 4) (k : BitVec 3) (h : BitVec 2),
     MapsLanes (.pass c) 0 0 0 0 c (fun x _ _ _ => x) ∧
     MapsLanes (.iadd d a b bs c) d a b bs c (fun x y _ _ => BitVec.ofNat 32 ((x.toNat + y.toNat) % 2 ^ 32)) ∧
     MapsLanes (.isub d a b bs c) d a b bs c (fun x y _ _ => BitVec.ofInt 32 ((x.toNat : Int) - y.toNat)) ∧
     MapsLanes (.imul d a b bs c) d a b bs c (fun x y _ _ => BitVec.ofNat 32 (x.toNat * y.toNat % 2 ^ 32)) ∧
     MapsLanes (.imulh d a b bs c 0) d a b bs c (fun x y _ _ => (x.signExtend 64 * y.signExtend 64).extractLsb' 32 32) ∧
     MapsLanes (.imulh d a b bs c 1) d a b bs c (fun x y _ _ => BitVec.ofNat 32 (x.toNat * y.toNat / 2 ^ 32)) ∧
     MapsLanes (.iand d a b bs c) d a b bs c (fun x y _ _ => x &&& y) ∧
     MapsLanes (.ior d a b bs c) d a b bs c (fun x y _ _ => x ||| y) ∧
     MapsLanes (.ixor d a b bs c) d a b bs c (fun x y _ _ => x ^^^ y) ∧
     MapsLanes (.ishl d a b bs c) d a b bs c (fun x y _ _ => BitVec.ofNat 32 (x.toNat * 2 ^ (y.toNat % 32) % 2 ^ 32)) ∧
     MapsLanes (.ishr d a b bs c) d a b bs c (fun x y _ _ => BitVec.ofNat 32 (x.toNat / 2 ^ (y.toNat % 32))) ∧
     MapsLanes (.isar d a b bs c) d a b bs c (fun x y _ _ => BitVec.ofInt 32 (x.toInt / 2 ^ (y.toNat % 32))) ∧
     MapsLanes (.imin d a b bs c) d a b bs c (fun x y _ _ => BitVec.ofInt 32 (min x.toInt y.toInt)) ∧
     MapsLanes (.imax d a b bs c) d a b bs c (fun x y _ _ => BitVec.ofInt 32 (max x.toInt y.toInt)) ∧
     MapsLanes (.iminu d a b bs c) d a b bs c (fun x y _ _ => BitVec.ofNat 32 (min x.toNat y.toNat)) ∧
     MapsLanes (.imaxu d a b bs c) d a b bs c (fun x y _ _ => BitVec.ofNat 32 (max x.toNat y.toNat)) ∧
     MapsLanes (.icmp d a b bs c k) d a b bs c (fun x y _ _ =>
       match k.toNat with
       | 0 => if x.toNat = y.toNat then 1 else 0
       | 1 => if x.toNat = y.toNat then 0 else 1
       | 2 => if x.toInt < y.toInt then 1 else 0
       | 3 => if x.toNat < y.toNat then 1 else 0
       | 4 => if x.toInt ≤ y.toInt then 1 else 0
       | 5 => if x.toNat ≤ y.toNat then 1 else 0
       | 6 => if y.toInt < x.toInt then 1 else 0
       | _ => if y.toNat < x.toNat then 1 else 0) ∧
     MapsLanes (.ihash d a b bs c) d a b bs c (fun x y _ _ =>
       let m1 := BitVec.ofNat 32 (((x ^^^ y) ^^^ ((x ^^^ y) >>> 16)).toNat * 0x85EBCA6B)
       let m2 := BitVec.ofNat 32 ((m1 ^^^ (m1 >>> 13)).toNat * 0xC2B2AE35)
       m2 ^^^ (m2 >>> 16)) ∧
     MapsLanes (.isel d a b bs h) d a b bs (BitVec.ofNat 4 h.toNat) (fun x y _ p => if p = true then x else y) ∧
     MapsLanes (.ipopc d a c) d a 0 0 c (fun x _ _ _ => BitVec.ofNat 32 ((List.range 32).countP (fun i => x.getLsbD i))))

/-- 11 R183-R188: the floating-point operations and conversions. Each works on FP32 values and rounds under the mode of IMM[2:0];
CVT and CVTB4 under DITHER take the lane number as position and advance the stage's phase by one a vector. -/
def Obligations.StageFloats : Prop :=
  ∀ (d a b : BitVec 2) (bs : BitVec 3) (c : BitVec 4) (m k : BitVec 3) (p : BitVec 5) (y z : BitVec 4) (h : BitVec 2),
    let v (x : Word32) : Val := fp32.decode x.toNat
    let rm : RMode := match m.toNat with
      | 0 => .rne
      | 1 => .rtz
      | 2 => .ru
      | _ => .rd
    let rnd (x : Val) : Word32 := BitVec.ofNat 32 (fp32.round rm x)
    let down : Bool := rm == .rd
    (m.toNat ≤ 3 →
      MapsLanes (.stageFadd d a b bs c m) d a b bs c (fun x y _ _ => rnd ((v x).add down (v y))) ∧
      MapsLanes (.stageFsub d a b bs c m) d a b bs c (fun x y _ _ => rnd ((v x).add down (v y).neg)) ∧
      MapsLanes (.stageFmul d a b bs c m) d a b bs c (fun x y _ _ => rnd ((v x).mul (v y))) ∧
      MapsLanes (.ffma d a b bs c m) d a b bs c (fun x y old _ => rnd (((v x).mul (v y)).add down (v old)))) ∧
    MapsLanes (.stageFmin d a b bs c) d a b bs c (fun x y _ _ => BitVec.ofNat 32 (fpMin x.toNat y.toNat)) ∧
    MapsLanes (.stageFmax d a b bs c) d a b bs c (fun x y _ _ => BitVec.ofNat 32 (fpMax x.toNat y.toNat)) ∧
    MapsLanes (.fcmp d a b bs c k) d a b bs c (fun x y _ _ =>
      match k.toNat with
      | 0 => if (v x).eqv (v y) then 1 else 0
      | 1 => if (v x).eqv (v y) then 0 else 1
      | 2 => if (v x).lt (v y) then 1 else 0
      | 3 => if (v x).lt (v y) || (v x).eqv (v y) then 1 else 0
      | 4 => if (v y).lt (v x) then 1 else 0
      | 5 => if (v y).lt (v x) || (v y).eqv (v x) then 1 else 0
      | 6 => if (v x).isNan || (v y).isNan then 0 else 1
      | _ => if (v x).isNan || (v y).isNan then 1 else 0) ∧
    MapsLanes (.fexp2 d a c) d a 0 0 c (fun x _ _ _ => BitVec.ofNat 32 (fexp2 x.toNat)) ∧
    MapsLanes (.frcp d a c) d a 0 0 c (fun x _ _ _ => BitVec.ofNat 32 (frcp x.toNat)) ∧
    MapsLanes (.frsq d a c) d a 0 0 c (fun x _ _ _ => BitVec.ofNat 32 (frsq x.toNat)) ∧
    MapsLanes (.fabsn d a b bs c h) d a b bs c (fun x y _ _ =>
      let mag := x.toNat % 2 ^ 31
      BitVec.ofNat 32 (match h.toNat with
        | 0 => mag
        | 1 => if x.toNat = mag then mag + 2 ^ 31 else mag
        | 2 => mag + 2 ^ 31
        | _ => mag + y.toNat / 2 ^ 31 * 2 ^ 31)) ∧
    Maps (.cvt d a p c y z m) false (fun st u w =>
      ({ st with phase := if m.toNat = 4 then st.phase + 1 else st.phase },
       mapLanes st d.toNat a.toNat 0 0 c (fun i x _ _ _ =>
        BitVec.ofNat 32 (convert (if m.toNat = 4 then .dither i st.phase.toNat else rm) y.toNat z.toNat x.toNat)) u w)) ∧
    (m = 0 ∨ m = 4 → Maps (.cvtb4 d a p m h) false (fun st u _ =>
      let xs := (List.range 32).map (fun j => (laneField u (j % 16) ((a.toNat + j / 16) % 4)).toNat)
      let blk := cvtB4 xs h.toNat (m == 4) (st.const.toNat % 256) st.phase.toNat
      let bytes (l : Nat) : Nat := ((List.range 8).map (fun j => blk.2.getD (8 * l + j) 0 * 16 ^ j)).sum
      ({ st with phase := if m = 4 then st.phase + 1 else st.phase },
       lanes (fun i => match laneAt u i with
        | .bead q => .bead (q.set d.toNat (BitVec.ofNat 32 (if i < 4 then bytes i else if i = 4 then blk.1 else 0)))
        | l => l))))

/-- 11 R189, R190, R195, R204; 19 R373: operations that move or drop whole beads or combine the lanes of one vector. Each
firing of FILTER is recorded in the trace of its bay, with the lanes it absorbs (19 R373). LRED sums by a pairwise
tree, LSCAN serially. -/
def Obligations.LaneOperations : Prop :=
  ∀ (d a b : BitVec 2) (bs : BitVec 3) (m : BitVec 3) (o l : BitVec 4) (q : BitVec 1),
    let beads (v : List Lane) (f : Nat → Bead → Lane) : List Lane := (List.range 16).map (fun i => match laneAt v i with
      | .bead x => f i x
      | r => r)
    let field (v : List Lane) (i : Nat) : Word32 := match laneAt v i with
      | .bead x => x.get a.toNat
      | _ => 0
    let value (v : List Lane) (i : Nat) : Word32 := match laneAt v i with
      | .bead x => x.get a.toNat
      | _ => identityOf o.toNat
    let op := combine o.toNat m.toNat
    Maps (.lshuf d a b bs) (bs == 3#3) (fun st v w => (st, beads v (fun i x =>
      .bead (x.set d.toNat (field v ((st.operandB i a.toNat b.toNat bs.toNat x (laneAt w i)).toNat % 16)))))) ∧
    Maps (.lbcast d a l) false (fun st v _ => (st, beads v (fun _ x => .bead (x.set d.toNat (field v l.toNat))))) ∧
    Maps (.lscan d a m o) false (fun st v _ => (st, beads v (fun i x =>
      .bead (x.set d.toNat (((List.range i).map (fun j => value v (j + 1))).foldl op (value v 0)))))) ∧
    Maps (.lred d a m o) false (fun st v _ =>
      let two (j : Nat) : Word32 := op (value v (2 * j)) (value v (2 * j + 1))
      let four (j : Nat) : Word32 := op (two (2 * j)) (two (2 * j + 1))
      (st, beads v (fun _ x => .bead (x.set d.toNat (op (op (four 0) (four 1)) (op (four 2) (four 3))))))) ∧
    Maps .lcompact false (fun st v _ =>
      let whole := v.filter (fun r => r.bead?.isSome) ++ v.filter (fun r => r.bead?.isNone && !r.isEmpty)
      (st, (List.range 16).map (fun i => whole.getD i .empty))) ∧
    (∀ s x v, Staged s (.filter q) x → Offered (s.enters x (.plain false)) x v →
      let gone (i : Nat) : Bool := (laneAt v i).bead?.any (fun y => y.pred == (q == 0#1))
      let mask := ((List.range 16).map (fun i => if gone i then 2 ^ i else 0)).sum
      exec (.filter q) s = .next (((s.enters x (.plain false)).taking x false (fun u _ =>
        let p := u.pipeOf x
        (u.trace (u.stageBay x) 2 0 0 ((256 + x.die * 64 + x.entry) * 2 ^ 32 + unitAt p.x p.y * 2 ^ 24 + x.stg * 2 ^ 16 + mask)).emit x
          (.vec (beads v (fun i y => if gone i then .ghost y.tag y.count else .bead y))))).leaves x (.plain false))) ∧
    Maps .sink false (fun st v _ => (st, (List.range 16).map (fun i => match laneAt v i with
      | .bead x => .bead x
      | _ => .empty))) ∧
    Maps .seqtag false (fun st v _ =>
      let before (i : Nat) : Nat := ((List.range i).filter (fun j => (laneAt v j).bead?.isSome)).length
      ({ st with counter := (st.counter + before 16) % 2 ^ 16 }, (List.range 16).map (fun i => match laneAt v i with
        | .bead x => .bead { x with tag := BitVec.ofNat 16 (st.counter + before i) }
        | _ => .empty)))

/-- 11 R190-R192, R205: FORK sends the vector, then its children; RECIRC recirculates what it selects when every lane has room, and
absorbs a bead of count 255 with RECIRC_LIMIT; STEER sends its selected lanes out of PX and leaves ghosts; MERGE forwards the vectors of
both inputs in the order in which they came, the previous stage's first of those that came in one cycle; TOKEN passes vectors and sends its tokens.
A stage s0 that waits for room is idle, and sends what its sources are forming (R218). Two clauses are the model's choice: a TOKEN of kind swap sends its
token behind each vector (log entry 52), and arrivals of one cycle take their places at its end (log entry 98). -/
def Obligations.BeadControl : Prop :=
  ∀ (s : State) (x : StageRef) (v w : List Lane) (rest : List Item) (d a b : BitVec 2) (bs : BitVec 3) (q : BitVec 1) (k : BitVec 2)
    (it : Item),
    let sel (y : Bead) : Bool := y.pred == (q == 0#1)
    let beads (v : List Lane) (f : Nat → Bead → Lane) : List Lane := (List.range 16).map (fun i => match laneAt v i with
      | .bead y => f i y
      | r => r)
    let taken (v : List Lane) (f : Nat → Bead → Option Bead) : List Lane := (List.range 16).map (fun i => match laneAt v i with
      | .bead y => (match f i y with
        | some z => .bead z
        | none => .empty)
      | _ => .empty)
    let plain := Ending.plain false
    (Staged s (.fork d a b bs q) x →
      let e : Ending := { Ending.plain (bs == 3#3) with drained := fun s => (s.stageOf x).side.isEmpty }
      let u := s.enters x e
      ((u.stageOf x).side = [] → Offered u x v →
        exec (.fork d a b bs q) s = .next ((u.taking x (bs == 3#3) (fun t w =>
          let kids := taken v (fun i y => if sel y then
            some { y.set d.toNat ((t.stageOf x).operandB i a.toNat b.toNat bs.toNat y (laneAt w i)) with
              pred := true
              own := [] } else none)
          if vecEmpty kids then t.emit x (.vec v)
          else (t.emit x (.vec v)).modStageOf x (fun st => { st with side := [.vec kids] }))).leaves x e)) ∧
      ((u.stageOf x).side = it :: rest →
        exec (.fork d a b bs q) s = .next ((if u.demanded x then (u.modStageOf x (fun st => { st with side := rest })).emit x it
          else u.idles x).leaves x e))) ∧
    (Staged s (.recirc q) x →
      let goes (y : Bead) : Bool := sel y && y.count != 255
      let e : Ending := { plain with drained := fun s => !(s.pipeOf x).recircs && !((s.pipeOf x).stages.take x.stg).any Stage.hasRecirculated }
      let u := s.enters x e
      let room := ∀ i y, i < 16 → laneAt v i = .bead y → goes y = true → (Smap.getD (u.pipeOf x).recirc [] i).length < 8
      Offered u x v →
        (¬room → exec (.recirc q) s = .next ((u.idles x).leaves x e)) ∧
        (room → exec (.recirc q) s = .next ((u.taking x false (fun t _ =>
          ((List.range 16).foldl (fun t i => match laneAt v i with
            | .bead y =>
              if goes y then t.modPipeOf x (fun p => { p with
                recirc := Smap.put p.recirc [] i (Smap.getD p.recirc [] i ++ [{ y with count := y.count + 1, pred := true }])
                fresh := Smap.put p.fresh 0 i (Smap.getD p.fresh 0 i + 1) })
              else if sel y then t.stageFault x cRecircLimit 0 i y.tag.toNat else t
            | _ => t) t).emit x (.vec (beads v (fun _ y =>
              if goes y then .empty else if sel y then .ghost y.tag y.count else .bead y))))).leaves x e))) ∧
    (Staged s (.steer q) x → Offered (s.enters x plain) x v →
      exec (.steer q) s = .next (((s.enters x plain).taking x false (fun t _ =>
        let px := taken v (fun _ y => if sel y then some y else none)
        let t := t.emit x (.vec (beads v (fun _ y => if sel y then .ghost y.tag y.count else .bead y)))
        if vecEmpty px then t else t.modStageOf x (fun st => { st with side := st.side ++ [.vec px] }))).leaves x plain)) ∧
    (Staged s .merge x →
      let e : Ending := { plain with readsPb := true }
      let u := s.enters x e
      let first := (u.stageOf x).order.head?
      let taken (t : State) : State := t.modStageOf x (fun st => { st with order := st.order.drop 1 })
      (first = some true → (u.pipeOf x).pb = .vec w :: rest → u.demanded x = true →
        exec .merge s = .next (((taken (u.modPipeOf x (fun p => { p with pb := rest }))).emit x (.vec w)).leaves x e)) ∧
      (first = some false → Offered u x v →
        exec .merge s = .next ((u.taking x false (fun t _ => (taken t).emit x (.vec v))).leaves x e)) ∧
      (first = none → Offered u x v → exec .merge s = .next ((u.idles x).leaves x e))) ∧
    (∀ (p : Pipe) (n : Nat), n < 6 → n < p.stages.length → opOf (p.stageAt n).word = 0x29 →
      let old (b : Bool) : Nat := (p.stageAt n).order.countP (fun o => o == b)
      p.noteArrivals.fresh = [] ∧ (p.noteArrivals.stageAt n).order = (p.stageAt n).order ++ List.replicate (p.waiting n - old false) false ++
        List.replicate (vecCount p.pb - old true) true) ∧
    (Staged s (.token k) x →
      let e : Ending := { plain with atEnd := fun s => if k = 1#2 then s.sendToken x 0 1 else s }
      let u := s.enters x e
      Offered u x v → exec (.token k) s = .next ((u.taking x false (fun t _ =>
        let t := t.emit x (.vec v)
        if k = 0#2 then t.sendToken x (BitVec.ofNat 32 ((List.filterMap Lane.bead? v).length)) 0
        else if k = 2#2 ∧ x.stg ≠ 5 then t.emit x (.swap (BitVec.ofNat 6 (64 - 2 ^ (x.stg + 1))))
        else t)).leaves x e))

/-- 11 R193, R196, R197: REORD accepts a vector whose tags lie in its window and sends the beads at its expected tags in order; GEN
makes its copies; ISECT joins the vector with side B as far as B is known. Three clauses are the model's choice: a ghost takes a lane of GEN's output
(log entry 37), the last vector of an input vector's copies is sent as it is (log entry 119), and REORD fills its vectors from lane 0 (log entry 50).
11 R193, R196, R197: what REORD, GEN and ISECT compute. The beads at the expected tag and behind it are taken in tag order, up to
sixteen; a bound of n gives n copies, stepped; a bead of side A whose key side B has passes with B's field, and another is absorbed. -/
def Obligations.StreamOperations : Prop :=
  (∀ (s : State) (x : StageRef) (v w : List Lane) (rest : List Item) (d a b : BitVec 2) (bs : BitVec 3) (i : BitVec 12),
     let plain := Ending.plain false
     let tagOf (l : Lane) : Option (BitVec 16) := match l with
       | .bead y => some y.tag
       | .ghost t _ => some t
       | .empty => none
     (Staged s .reord x →
       let e : Ending := { plain with drained := fun s => (s.stageOf x).reord.isEmpty && (s.stageOf x).forming.isEmpty }
       let u := s.enters x e
       let st := (u.stageOf x).formOrder 256
       (st.forming ≠ [] → u.demanded x = true →
         exec .reord s = .next (((u.modStageOf x (fun _ => { st with forming := [] })).emit x
           (.vec ((List.range 16).map (fun j => laneAt st.forming j)))).leaves x e)) ∧
       (st = u.stageOf x → st.forming = [] → Offered u x v → (∀ l ∈ v, ∀ t, tagOf l = some t → (t - st.expect).toNat < 256) →
         exec .reord s = .next ((u.taking x false (fun t _ => t.modStageOf x (fun st =>
           { st with reord := v.foldl (fun m l => match tagOf l with
               | some t => Smap.insert m t.toNat l
               | none => m) st.reord }))).leaves x e)) ∧
       (st = u.stageOf x → st.forming = [] → Offered u x v → (∃ l ∈ v, ∃ t, tagOf l = some t ∧ 256 ≤ (t - st.expect).toNat) →
         exec .reord s = .next ((u.idles x).leaves x e))) ∧
     (Staged s (.gen d a b bs i) x →
       let e : Ending := { Ending.plain (bs == 3#3) with drained := fun s => (s.stageOf x).genq.isEmpty }
       let u := s.enters x e
       ((u.stageOf x).genq = [] → Offered u x v →
         exec (.gen d a b bs i) s = .next ((u.taking x (bs == 3#3) (fun t w => t.modStageOf x (fun st =>
           { st with genq := ((List.range 16).map (fun j => match laneAt v j with
               | .bead y =>
                 if y.get a.toNat = 0 then [(Lane.ghost y.tag y.count, 1)]
                 else [(.bead { y.set d.toNat (st.operandB j a.toNat b.toNat bs.toNat y (laneAt w j)) with count := 0, pred := true },
                   (y.get a.toNat).toNat)]
               | .ghost t c => [(.ghost t c, 1)]
               | .empty => [])).flatten }))).leaves x e)) ∧
       ((u.stageOf x).genq ≠ [] → u.demanded x = true →
         let r := genTake (i.signExtend 32) d.toNat 16 (u.stageOf x).genq
         exec (.gen d a b bs i) s = .next (((u.modStageOf x (fun st => { st with genq := r.2 })).emit x
           (.vec ((List.range 16).map (fun j => laneAt r.1 j)))).leaves x e)) ∧
       ((u.stageOf x).genq ≠ [] → u.demanded x = false → exec (.gen d a b bs i) s = .next ((u.idles x).leaves x e))) ∧
     (Staged s (.isect d b) x →
       let e : Ending := { plain with readsPb := true, atEnd := fun s => s.modStageOf x (fun st => { st with sideB := [] }) }
       let u := s.enters x e
       let st := u.stageOf x
       st.inEnded = false → Offered u x v →
       (∀ r, joinLanes d.toNat b.toNat st.pbEnded v st.sideB = some r →
         (∀ y, (u.pipeOf x).front x.stg = some (.vec y) → (joinLanes d.toNat b.toNat st.pbEnded y st.sideB).isSome) →
         exec (.isect d b) s = .next ((u.taking x false (fun t _ =>
           (t.modStageOf x (fun st => { st with sideB := r.2 })).emit x (.vec r.1))).leaves x e)) ∧
       (joinLanes d.toNat b.toNat st.pbEnded v st.sideB = none → (u.pipeOf x).front x.stg = some (.vec v) →
         (u.pipeOf x).pb = .vec w :: rest →
         exec (.isect d b) s = .next (((u.modPipeOf x (fun p => { p with pb := rest })).modStageOf x (fun st =>
           { st with sideB := st.sideB ++ List.filterMap Lane.bead? w })).leaves x e)))) ∧
  ((∀ (st : Stage) (n : Nat), ∃ k, k ≤ n ∧
     let items := (List.range k).map (fun j => Smap.find (List.foldl (fun m i => Smap.erase m (st.expect + BitVec.ofNat 16 i).toNat) st.reord
       (List.range j)) (st.expect + BitVec.ofNat 16 j).toNat)
     (st.formOrder n).expect = st.expect + BitVec.ofNat 16 k ∧ none ∉ items ∧
     (st.formOrder n).forming = st.forming ++ (items.filterMap id).filter (fun l => l.bead?.isSome) ∧
     (k < n → 16 ≤ (st.formOrder n).forming.length ∨
       Smap.find (st.formOrder n).reord (st.formOrder n).expect.toNat = none)) ∧
   (∀ (y : Bead) (step : Word32) (d n m : Nat), d < 4 → 1 ≤ n →
     let r := genTake step d m [(.bead y, n)]
     r.1 = (List.range (min m n)).map (fun j => Lane.bead (y.set d (y.get d + BitVec.ofNat 32 j * step))) ∧
     (n ≤ m → r.2 = []) ∧
     (m < n → r.2 = [(.bead (y.set d (y.get d + BitVec.ofNat 32 m * step)), n - m)])) ∧
   (∀ (d b : Nat) (y : Bead) (bs : List Bead) (v : List Lane),
     let left := bs.dropWhile (fun z => z.f0.toNat < y.f0.toNat)
     joinLanes d b true (.bead y :: v) bs = (joinLanes d b true v left).map (fun r => ((match left with
       | z :: _ => if z.f0 = y.f0 then .bead { y.set d (z.get b) with accs := y.accs ++ z.accs } else .ghost y.tag y.count
       | [] => .ghost y.tag y.count) :: r.1, r.2))))

/-- 11 R198, R199, R203; 17 R319: memory operations of stages issue one access for each acting bead lane, MGATH and MSCAT four; SBARS
holds its vector until the accesses it names have been performed. Three clauses are the model's choice: a stage access is checked when it is issued
(log entry 57), MGATH and MSCAT make four accesses of 4 bytes (log entry 60), and a local form with nonzero bits 31:30 is PAGE_ABSENT with
address 0 before any other fault, its sum with the offset wrapping modulo 2^32 (log entry 123).
11 R198-R201: issuing the access of a lane that acts. One that fails at once absorbs its bead, with its fault; else the access
stands in its stream, under the slice map of now (09 R165), and its bead keeps it. A posted access lets the vector go on at once, under POUT; a load or an atomic holds it.
09 R152, R165; 11 R200, R201: an access of a stage is performed when those before it in its stream have been, and none whose line was
hashed under an old map. A load returns the bytes read to its lane; a store and a fill write their bytes and no others; an atomic returns the
last value written and writes its own; on a guarded line zero is read and nothing is written. -/
def Obligations.StageMemory : Prop :=
  (∀ (d a b : BitVec 2) (c : BitVec 4) (z : BitVec 2) (o : BitVec 10) (o9 : BitVec 9) (k n : BitVec 3) (f : BitVec 1) (e : BitVec 4),
     let size : Nat := 2 ^ z.toNat
     let pad (q : Bead) (off : Int) : Option Nat :=
       if (q.get a.toNat).toNat < 2 ^ 30 then
         some (0x00FFFFFF00000000 + (((q.get a.toNat).toNat : Int) + off) % (2 ^ 32 : Int) |>.toNat) else none
     let mem (s : State) (x : StageRef) (q : Bead) (unit : Nat) : Option Nat :=
       some ((s.baseReg x n.toNat + (q.get a.toNat).toNat * unit) % 2 ^ 64)
     let low (w : Word32) : Word32 := BitVec.ofNat 32 (w.toNat % 2 ^ (8 * size))
     let one (i : Nat) (k : AccKind) (va : Option Nat) (size : Nat) (data : Word32) (dst : Nat) : List AccReq :=
       [{ lane := i, kind := k, addr := va, size := size, data := data, dst := dst, kv := false }]
     Issues (.spld d a b c z o) false b.toNat c (fun _ _ i q => one i .load (pad q (o.toInt * size)) size 0 d.toNat) ∧
     Issues (.spst d a b c z o) false b.toNat c (fun _ _ i q => one i .store (pad q (o.toInt * size)) size (low (q.get d.toNat)) 0) ∧
     Issues (.spamo d a b c k o9) false b.toNat c (fun _ _ i q =>
       one i (.amo k) (pad q (o9.toInt * 4)) 4 (q.get d.toNat) d.toNat) ∧
     Issues (.spfill d a b c z o) false b.toNat c (fun _ _ i q => one i .fill (pad q (o.toInt * size)) size (low (q.get d.toNat)) 0) ∧
     Issues (.spmark d a b c f) false b.toNat c (fun _ _ i q => one i (.mark (f == 1#1)) (pad q 0) 4 0 0) ∧
     Issues (.mld d a c z e n 0) true e.toNat c (fun s x i q => one i .load (mem s x q size) size 0 d.toNat) ∧
     Issues (.mld d a c z e n 1) true e.toNat c (fun s x i q =>
       [{ lane := i, kind := .load, addr := some (s.baseReg x n.toNat), size := size, data := q.get a.toNat, dst := d.toNat, kv := true }]) ∧
     Issues (.mst d a c z e n) true e.toNat c (fun s x i q => one i .store (mem s x q size) size (low (q.get d.toNat)) 0) ∧
     Issues (.mgath a c e n) true e.toNat c (fun s x i q => quad i .load ((mem s x q 16).getD 0) (fun _ => 0)) ∧
     Issues (.mscat a c e n) true e.toNat c (fun s x i q => quad i .store ((mem s x q 16).getD 0) (fun j => q.get j)) ∧
     ∀ (h st : BitVec 4) (l : BitVec 12) (s : State) (x : StageRef) (v : List Lane),
       let ports : Nat := h.toNat * 2 ^ 12 + l.toNat
       let named (g : StageAcc) : Bool := g.die = x.die && g.entry = x.entry &&
         (if g.port then ports / 2 ^ (g.stream % 16) % 2 = 1 else st.toNat / 2 ^ (g.stream % 4) % 2 = 1)
       let ours (r : WriteRec) : Bool := match r.src with
         | .portStream _ n => ports / 2 ^ n % 2 = 1
         | .padStream _ _ n => st.toNat / 2 ^ n % 2 = 1
         | _ => false
       let e := Ending.plain false
       Staged s (.sbars h st l) x →
         (Offered (s.enters x e) x v → exec (.sbars h st l) s = .next (((s.enters x e).taking x false (fun u _ =>
           u.modStageOf x (fun g => { g with
             busy := some v
             waitsFor := (u.stageAccs.filter named).map (fun g => g.id) }))).leaves x e)) ∧
         (((s.enters x e).stageOf x).busy = some v →
           ((∃ i ∈ ((s.enters x e).stageOf x).waitsFor, ∃ g ∈ (s.enters x e).stageAccs, g.id = i) →
             exec (.sbars h st l) s = .next (((s.enters x e).idles x).leaves x e)) ∧
           ((∀ i ∈ ((s.enters x e).stageOf x).waitsFor, ∀ g ∈ (s.enters x e).stageAccs, g.id ≠ i) →
             let deps := (((s.enters x e).mouldOf x).map (fun m => m.deps)).getD []
             exec (.sbars h st l) s = .next (((((s.enters x e).reveal x.die
               (((s.enters x e).writes.filter (fun r => deps.contains r.id && ours r)).map (fun r => r.id))).modStageOf x
                 (fun g => { g with busy := none, waitsFor := [] })).emit x (.vec v)).leaves x e)))) ∧
  (∀ (s s1 : State) (x : StageRef) (port : Bool) (n : Nat) (c : BitVec 4) (y : Bead) (q : AccReq) (req : Nat → Bead → List AccReq),
     y.acts (c.toNat / 4) = true → req 0 y = [q] → (∀ a ∈ s1.stageAccs, a.group ≠ s.nextAcc) → s1.nextAcc = s.nextAcc →
     let va := q.addr.getD 0
     let stream := if port then s.stageBay x * 16 + n else va / 2 ^ 17 % 4096 * 4 + n
     let acc : StageAcc := { id := s.nextAcc, die := x.die, entry := x.entry, pipe := x.pipe, stg := x.stg, lane := 0, port := port,
                             stream := stream, group := s.nextAcc, kind := q.kind, addr := BitVec.ofNat 64 va,
                             size := q.size, data := q.data, tag := y.tag, dst := q.dst, kv := q.kv, posted := q.kind.posted,
                             gen := (s1.die x.die).slicemap, retried := false, waited := false }
     let alone (l : Lane) : List Lane := l :: List.replicate 15 .empty
     let z : Bead := { y with
       accs := y.accs ++ [s.nextAcc]
       own := y.own ++ [s.nextAcc] }
     let s2 : State := { s1 with nextAcc := s.nextAcc + 1, stageAccs := s1.stageAccs ++ [acc] }
     (∀ cause, s.accCheck (s.stageAgent x port stream) q = (some cause, s1) →
       s.issueGroup x port n c [.bead y] req = (s1.stageFault x cause va 0 y.tag.toNat).emit x (.vec (alone (.ghost y.tag y.count)))) ∧
     (s.accCheck (s.stageAgent x port stream) q = (none, s1) → q.kind.posted = true →
       s.issueGroup x port n c [.bead y] req =
         s2.emit x (.vec (alone (.bead (z.after (c.toNat % 4) (z.get (bitsOf (s1.stageOf x).word.toNat 24 23))))))) ∧
     (s.accCheck (s.stageAgent x port stream) q = (none, s1) → q.kind.posted = false →
       s.issueGroup x port n c [.bead y] req = s2.modStageOf x (fun st => { st with busy := some (alone (.bead z)) }))) ∧
  (∀ (s u : State) (n : Nat) (a : StageAcc),
     let ag := s.stageAgent a.ref a.port a.stream
     let va := a.addr.toNat
     let t := s.observe ag.die ag.party (((s.mouldOf a.ref).map (fun m => m.deps)).getD [])
     let found := s.stageAccs.find? (fun q => q.id = n) = some a
     let turn := found ∧ s.staleAcc a = false ∧ (∀ q ∈ s.stageAccs, s.accBefore q a = false) ∧ a.kv = false
     let isAmo := ∃ op, a.kind = .amo op
     let comes (t : State) : Prop := exec (.stageAccessComplete n) s = .next t
     ((∀ q ∈ s.stageAccs, q.id ≠ n) → comes s) ∧
     (found → s.staleAcc a = true → comes s) ∧
     (found → (∃ q ∈ s.stageAccs, s.accBefore q a = true) → comes s) ∧
     (∀ c, turn → t.resolve ag va (a.kind.want a.size) = (.error c, u) → comes (u.accFail a c)) ∧
     (∀ p, turn → t.resolve ag va (a.kind.want a.size) = (.ok p, u) →
       (¬isAmo → u.guardedPlace p = true → a.posted = true → comes ((u.accGuard a ag va).accDone a)) ∧
       (¬isAmo → u.guardedPlace p = true → a.posted = false → comes (((u.accGuard a ag va).accReturn a 0).accDone a)) ∧
       (u.guardedPlace p = false → u.placeCut p = false →
         (a.kind = .load → a.posted = false → u.readWaits p = true → comes (u.accWait a 2 va)) ∧
         (a.kind = .load → a.posted = false → u.readWaits p = false → u.placeBad p a.size = true → comes (u.accFail a cUncorrectable)) ∧
         (a.kind = .load → a.posted = false → u.readWaits p = false → u.placeBad p a.size = false → exec (.stageAccessComplete n) s =
           .next ((((u.readPlace ag va p a.size false).2.accNote a ag.party).accReturn a (u.readPlace ag va p a.size false).1).accDone a)) ∧
         (a.kind = .store ∨ a.kind = .fill → a.posted = true → u.writeWaits p = true → comes (u.accWait a 3 va)) ∧
         (a.kind = .store ∨ a.kind = .fill → a.posted = true → u.writeWaits p = false → a.size < 8 → u.placeBad p a.size = true →
           comes (u.accFail a cUncorrectable)) ∧
         (a.kind = .store → a.posted = true → u.writeWaits p = false → 8 ≤ a.size ∨ u.placeBad p a.size = false →
           exec (.stageAccessComplete n) s =
             .next (((u.writePlaceIn ag (a.group + 1) va p a.size a.data.toNat [] false).accNote a ag.party).accDone a)) ∧
         (a.kind = .fill → a.posted = true → u.writeWaits p = false → 8 ≤ a.size ∨ u.placeBad p a.size = false →
           let w := (u.writePlaceIn ag (a.group + 1) va p a.size a.data.toNat [] false).accNote a ag.party
           exec (.stageAccessComplete n) s = .next ((w.modLine (padLine va) (fun l => { l with
             full := true
             deps := w.past ag.party })).accDone a)) ∧
         (∀ f, a.kind = .mark f → a.posted = true → exec (.stageAccessComplete n) s = .next ((u.modLine (padLine va) (fun l => { l with
             full := f
             deps := if f then u.past ag.party else [] })).accDone a)) ∧
         (∀ op, a.kind = .amo op → a.posted = false → u.readWaits p = false → u.writeWaits p = false → u.placeBad p a.size = false →
           let r := (u.trace (u.stageBay a.ref) 3 0 (Config.traceKind 0) va).readPlace ag va p 4 true
           exec (.stageAccessComplete n) s = .next ((((r.2.writePlaceIn ag (a.group + 1) va p 4
             (amoValue op.toNat 4 r.1 a.data.toNat) [] true).accNote a ag.party).accReturn a r.1).accDone a)))))

/-- 13 R241-R244: the tile stage operations. Two clauses are the model's choice: writes of TRLOAD and swaps of TRSWAP travel ahead of the vector that
makes them (log entry 51), and the beads PKIN makes draw fresh tags (log entry 54).
11 R206; 13 R241: what is not a vector. End-of-stream at a stage that holds nothing is noted, and passes when it may; a swap token
exchanges the tile registers of the stages it names; writes of a TRLOAD go to the stage they name. -/
def Obligations.TileOperations : Prop :=
  (∀ (d a b : BitVec 2) (bs : BitVec 3) (c : BitVec 4) (h q : BitVec 1) (p r2 : BitVec 2) (m r3 : BitVec 3) (e k6 : BitVec 6),
     let beads (v : List Lane) (f : Nat → Bead → Lane) : List Lane := (List.range 16).map (fun i => match laneAt v i with
       | .bead y => f i y
       | r => r)
     let field (v : List Lane) (i : Nat) : Word32 := match laneAt v i with
       | .bead y => y.get a.toNat
       | _ => 0
     let plain := Ending.plain false
     let blank : Bead := { f0 := 0, f1 := 0, f2 := 0, f3 := 0, pred := true, tag := 0, count := 0, accs := [], own := [],
                           dead := false }
     Maps (.trmv p q r2) false (fun st v _ => (st, beads v (fun i y =>
       let file := if q = 1#1 then st.loading else st.active
       let word (j : Nat) : Word32 := Smap.getD file 0 (16 * i + 4 * r2.toNat + j)
       if y.acts p.toNat then .bead { y with f0 := word 0, f1 := word 1, f2 := word 2, f3 := word 3 }
       else if p = 3#2 then .bead y else .ghost y.tag y.count))) ∧
     Maps .tmerge true (fun st v w => (st, beads v (fun i y =>
       let t := match laneAt w i with
         | .bead z => mergeTriple y.f0.toNat y.f1.toNat y.f2.toNat z.f0.toNat z.f1.toNat z.f2.toNat
         | _ => mergeTriple y.f0.toNat y.f1.toNat y.f2.toNat 0xFF800000 0 0
       .bead { y with f0 := BitVec.ofNat 32 t.1, f1 := BitVec.ofNat 32 t.2.1, f2 := BitVec.ofNat 32 t.2.2 }))) ∧
     Maps (.b4dec d a) false (fun st v _ => (st, beads v (fun i y =>
       let code (j : Nat) : Nat := (field v (j / 8)).toNat / 16 ^ (j % 8) % 16
       let vals := tb4Decode (field v 4).toNat ((List.range 32).map code)
       .bead ((y.set d.toNat (BitVec.ofNat 32 (vals.getD i 0))).set (d.toNat + 1) (BitVec.ofNat 32 (vals.getD (16 + i) 0)))))) ∧
     (r3.toNat ≤ 3 → Maps (.softacc d a b bs c h r3) (bs == 3#3) (fun st v w => (List.range 16).foldl (fun acc i =>
       match laneAt v i with
       | .bead y =>
         let k := 16 * i + (acc.1.operandB i a.toNat b.toNat bs.toNat y (laneAt w i)).toNat % 16
         let old := Smap.getD acc.1.active 0 k
         let rm : RMode := match r3.toNat with
           | 0 => .rne
           | 1 => .rtz
           | 2 => .ru
           | _ => .rd
         let new : Word32 := if h = 1#1 then BitVec.ofNat 32 ((old.toNat + (y.get a.toNat).toNat) % 2 ^ 32)
           else BitVec.ofNat 32 (fp32.round rm ((fp32.decode old.toNat).add (rm == .rd) (fp32.decode (y.get a.toNat).toNat)))
         if y.acts (c.toNat / 4) then
           ({ acc.1 with active := Smap.put acc.1.active 0 k new }, acc.2 ++ [.bead ((y.set d.toNat new).after (c.toNat % 4) new)])
         else (acc.1, acc.2 ++ [if c.toNat / 4 = 3 then .bead y else .ghost y.tag y.count])
       | l => (acc.1, acc.2 ++ [l])) (st, []))) ∧
     (∀ s x v, Staged s (.trswap e k6) x → Offered (s.enters x plain) x v →
       exec (.trswap e k6) s = .next (((s.enters x plain).taking x false (fun u _ =>
         let u := u.emit x (.vec v)
         if (u.stageOf x).counter = e.toNat then (u.modStageOf x (fun st => { st with counter := 0 })).emit x (.swap k6)
         else u.modStageOf x (fun st => { st with counter := st.counter + 1 }))).leaves x plain)) ∧
     (∀ s x v, Staged s (.trload a b bs p q m) x → Offered (s.enters x (.plain (bs == 3#3))) x v →
       exec (.trload a b bs p q m) s = .next (((s.enters x (.plain (bs == 3#3))).taking x (bs == 3#3) (fun u w =>
         let ws := ((List.range 16).map (fun i => match laneAt v i with
           | .bead y =>
             let bv := ((u.stageOf x).operandB i a.toNat b.toNat bs.toNat y (laneAt w i)).toNat
             if y.acts p.toNat = false then []
             else if q = 1#1 then [(16 * i + bv % 4 * 4, y.f0), (16 * i + bv % 4 * 4 + 1, y.f1), (16 * i + bv % 4 * 4 + 2, y.f2),
               (16 * i + bv % 4 * 4 + 3, y.f3)]
             else [(16 * i + bv % 16, y.get a.toNat)]
           | _ => [])).flatten
         (if ws.isEmpty then u else u.emit x (.load (x.stg + m.toNat) ws)).emit x (.vec (beads v (fun _ y =>
           if y.acts p.toNat || p = 3#2 then .bead y else .ghost y.tag y.count))))).leaves x (.plain (bs == 3#3)))) ∧
     (∀ s x v, Staged s (.pkout a h) x →
       let e : Ending := { plain with drained := fun s => (s.stageOf x).beats = 0 }
       let u := s.enters x e
       let zeros := List.replicate 16 (Lane.bead blank)
       ((u.stageOf x).inEnded = false → Offered u x v → exec (.pkout a h) s = .next ((u.taking x false (fun u _ =>
         let st := u.stageOf x
         let head : Word := st.const ++ (if h = 1#1 then field v 0 else 0)
         let u := if st.beats = 0 then u.emit x (.header head) else u
         let left := (if st.beats = 0 then packetBeats st.const.toNat else st.beats) - 1
         (u.modStageOf x (fun st => { st with beats := left })).emit x (.vec ((List.range 16).map (fun i => match laneAt v i with
           | .bead y => .bead { blank with f0 := y.f0, f1 := y.f1, f2 := y.f2, f3 := y.f3, accs := y.accs }
           | _ => .bead blank))))).leaves x e)) ∧
       ((u.stageOf x).inEnded = true → (u.stageOf x).beats ≠ 0 → u.demanded x = true →
         exec (.pkout a h) s = .next (((u.modStageOf x (fun st => { st with beats := st.beats - 1 })).emit x (.vec zeros)).leaves x e))) ∧
     (∀ s x v, Staged s (.pkin h) x →
       let u := s.enters x plain
       (Offered u x v → exec (.pkin h) s = .next ((u.taking x false (fun u _ =>
         let r := u.drawTags x ((List.range 16).map (fun i => match laneAt v i with
           | .bead y => .bead { y with pred := true, count := 0 }
           | _ => .bead blank))
         r.2.emit x (.vec r.1))).leaves x plain)) ∧
       (∀ w : Word, (u.stageOf x).busy = none → (u.pipeOf x).front x.stg = some (.header w) →
         (h = 0#1 → exec (.pkin h) s = .next ((u.takeFront x).2.leaves x plain)) ∧
         (h = 1#1 → u.demanded x = true →
           let r := (u.takeFront x).2.drawTags x [.bead { blank with
             f0 := w.truncate 32
             f1 := (w >>> 32).truncate 32
             f2 := BitVec.ofNat 32 (packetBeats (w.toNat / 2 ^ 32)) }]
           exec (.pkin h) s = .next ((r.2.emit x (.vec r.1)).leaves x plain))))) ∧
  (∀ (s : State) (i : Instr) (x : StageRef), Staged s i x → i.keeps = false →
     let e := Ending.plain i.pairs
     let u := s.enters x e
     (u.stageOf x).busy = none →
     ((u.pipeOf x).front x.stg = some .eos →
       exec i s = .next (((u.takeFront x).2.modStageOf x (fun st => { st with inEnded := true })).leaves x e)) ∧
     (∀ mask, (u.pipeOf x).front x.stg = some (.swap mask) →
       let t := (u.takeFront x).2.modStageOf x (fun st =>
         if mask.getLsbD x.stg then { st with active := st.loading, loading := st.active } else st)
       exec i s = .next ((if x.stg = 5 then t else t.emit x (.swap mask)).leaves x e)) ∧
     (∀ k ws, (u.pipeOf x).front x.stg = some (.load k ws) →
       exec i s = .next ((if k = x.stg then (u.takeFront x).2.modStageOf x (fun st =>
           { st with loading := ws.foldl (fun m w => Smap.put m 0 w.1 w.2) st.loading })
         else (u.takeFront x).2.emit x (.load k ws)).leaves x e)))

/-- The frame of a stage operation that makes no access: whatever it takes and sends, no task, no write and no byte of memory
changes. -/
def Obligations.StageFrame : Prop :=
  ∀ (s t : State) (i : Instr) (x : StageRef), Staged s i x → i.reaches = false → exec i s = .next t →
    t.slots = s.slots ∧ t.writes = s.writes ∧ t.mem = s.mem ∧ (∀ d, d ≠ x.die → t.die d = s.die d) ∧
    (∀ d p a, t.byteFor d p a = s.byteFor d p a)

/-! ### The steps of the device: blocks (05 R59-R78) -/

/-- 05 R60, R61, R62, R68: the fetch of a block. A header that fails a check is BLOCK_HEADER, a word that fails is its cause at the lowest
index; else the block is in flight with its words. A header names 1 to 128 instructions, at most 32 buffered writes, KIND 0 or 1. A fetch
from an empty scratchpad line waits (09 R136), traced once (19 R373); that a restored image whose pool page is being migrated waits is 21
R387.
05 R73, R74, R75: a block commits when nothing of it is in flight and nothing can fire: its registers are written first and its buffered writes issued, under the slice map
as it stands (09 R165); then those writes, its effects, its waits and its exit follow. One with no exit is BLOCK_NOEXIT, one still firing after 2^24 cycles
BLOCK_HANG. -/
def Obligations.BlockFetchAndCommit : Prop :=
  (∀ (s s1 s2 : State) (k : Nat) (h : Word32) (ws : List Word32),
     let u := s.restoreBound k
     let blocked := u.blockedSince s.nextWrite
     let sl := u.slot k
     let va := sl.pc.toNat
     let kind := bitsOf h.toNat 18 16
     let handler : Bool := kind = 1 && sl.arrival != .normal
     let bad : Bool := 32 < bitsOf h.toNat 24 19 || bitsOf h.toNat 24 19 != (ws.filter (fun w => isBuffered (opOf w))).length || 2 ≤ kind ||
       h.toNat % 2 ^ 16 != 0 || (kind = 1 && sl.arrival == .normal) || (kind != 1 && sl.arrival == .trap)
     let faults (c : Byte) (i : Nat) : Prop := exec (.blockFetch k) s = .next
       ((s2.modSlot k (fun sl => { sl with
         status := .running
         popped := none
         resume := none })).takeTrap k (blockAt sl.pc handler (sl.ctxid == 0)) false c i 0 0 0x80)
     ((s.slot k).status ≠ .bound → u = s) ∧
     ((s.slot k).fetches = false → exec (.blockFetch k) s = .next s) ∧
     ((s.slot k).fetches = true → blocked = true → exec (.blockFetch k) s = .next s) ∧
     ((s.slot k).fetches = true → blocked = false → sl.fetches = false → exec (.blockFetch k) s = .next u) ∧
     ((s.slot k).fetches = true → blocked = false → sl.fetches = true → u.fetchWords (u.agent k) sl.uid va 1 = (.ok [h], s1) →
       s1.fetchWords (u.agent k) sl.uid (va + 4) (h.toNat / 2 ^ 25 + 1) = (.ok ws, s2) →
       (bad = true → faults cBlockHeader 0xFF) ∧
       (∀ c i, bad = false → blockCause handler ws = some (c, i) → faults c i) ∧
       (bad = false → blockCause handler ws = none → (s2.slot k).resume = none → (s2.slot k).ctxid = sl.ctxid →
         let b : Block := { blockAt sl.pc handler (handler || sl.ctxid == 0) with words := ws }
         exec (.blockFetch k) s = .next ((s2.modSlot k (fun sl => { sl with
           fetchTraced := false
           badRegs := sl.badRegs.filter (fun g => g < 64) })).modSlot k (fun sl => { sl with
           status := .running
           popped := none
           block := some b })))) ∧
     (∀ c, (s.slot k).fetches = true → blocked = false → sl.fetches = true → u.fetchWords (u.agent k) sl.uid va 1 = (.error (some c), s2) →
       exec (.blockFetch k) s = .next ((s2.modSlot k (fun sl => { sl with
         status := .running
         popped := none
         resume := none })).takeTrap k (blockAt sl.pc (sl.arrival == .fromHandler) (sl.ctxid == 0)) false c 0xFF 0 0 0x80)) ∧
     ((s.slot k).fetches = true → blocked = false → sl.fetches = true → u.fetchWords (u.agent k) sl.uid va 1 = (.error none, s2) →
       exec (.blockFetch k) s = .next ((if (s.slot k).status = .bound then s else s2).noteFetchWait k))) ∧
  (∀ (s : State) (k i : Nat) (b : Block),
     let go (c : Block) : Prop := exec (.blockCommit k) s = .next (s.setBlock k c)
     (Committing s k b .firing → ¬b.still (s.slot k) → exec (.blockCommit k) s = .next s) ∧
     (Committing s k b .firing → b.still (s.slot k) → b.exit = none → exec (.blockCommit k) s = .next (s.faultBlock k b cBlockNoexit)) ∧
     (Committing s k b .firing → b.cycles < 2 ^ 24 → exec (.blockHang k) s = .next s) ∧
     (Completed s k b → exec (.blockHang k) s = .next s) ∧
     (Committing s k b .firing → 2 ^ 24 ≤ b.cycles → ¬Completed s k b → exec (.blockHang k) s = .next (s.faultBlock k b cBlockHang)) ∧
     (Completed s k b → (∀ c ∈ b.held, opOf (b.word c.idx) ≠ 0x2F) →
       exec (.blockCommit k) s = .next (s.modSlot k (fun sl =>
         { b.regw.foldl (fun sl r => sl.setReg r.reg r.value) sl with
           block := some { b with
             regw := []
             stores := b.stores.map (fun e => { e with gen := some (s.die (k / 256)).slicemap })
             pos := .writes 0
             waiting := none } }))) ∧
     (Committing s k b (.writes i) → b.waiting = none → b.nextWrite i = none → go { b with pos := .effects 0 }) ∧
     (Committing s k b (.effects i) → b.nextEffect i = none → go { b with pos := .settle }) ∧
     (Committing s k b .settle → b.holds = [] → b.held.all (fun c => !settles (opOf (b.word c.idx))) = true →
       go { b with
         pos := .waits (b.nextWait 0)
         waiting := none }) ∧
     (Committing s k b (.waits i) → 128 ≤ b.nextWait i →
       go { b with
         pos := .leave
         waiting := none }) ∧
     (∀ j a, Committing s k b .leave → b.exit = some (j, .goto a) →
       exec (.blockCommit k) s = .next (((s.trace (k / 8) 1 k (opOf (b.word j)) a.toNat).forget k).modSlot k (fun sl => { sl with
         pc := a
         block := none
         arrival := if b.handler then .fromHandler else .normal }))) ∧
     (∀ j, Committing s k b .leave → b.exit = some (j, .eret) →
       exec (.blockCommit k) s = .next (((s.trace (k / 8) 1 k (opOf (b.word j)) (b.succOf .eret).toNat).forget k).returnFromTrap k)) ∧
     (∀ j e, Committing s k b .leave → b.exit = some (j, e) → e = .exit ∨ e = .yield →
       let st : SlotStatus := if e = .exit then .exitJoin else .yieldJoin
       let t := (((s.trace (k / 8) 1 k (opOf (b.word j)) (b.succOf e).toNat).forget k).modSlot k (fun sl => { sl with
         status := st
         block := some { b with waiting := some 128 } })).drainTask (s.slot k).uid
       exec (.blockCommit k) s = .next (if t.joinDone (s.slot k).uid then (if e = .exit then t.finishExit k else t.finishYield k) else t)))

/-- 05 R75; 09 R140; 13 R235; 21 R386: a buffered write that could not be performed holds its block and is tried again, after a new walk
where its page was write-blocked; an MXCFG that cannot arm its entry holds its block as well.
07 R122, R123; 09 R160: what holds an exit ends: the shootdown of a TLBOP, the invalidation of a CACHEOP, the place of a FENCE sc in
the total order. Each has its effect, and its hold goes. A shootdown waits for
the writes issued through what it removes (09 R140). -/
def Obligations.HeldWritesAndExits : Prop :=
  (∀ (s : State) (k i : Nat) (b : Block) (e : StoreEntry),
     (Committing s k b (.writes i) → b.waiting = some e.idx → b.stores.find? (fun q => q.idx = e.idx) = some e →
       b.nextWrite e.idx = some e.idx →
       (∀ t v, s.performBuffered k b e = .done t v →
         exec (.bufferedWriteResume k) s = .next ((t.writeTarget k (b.word e.idx) v).modBlock k (fun b => { b with
           stores := b.stores.filter (fun q => q.idx != e.idx)
           pos := .writes (e.idx + 1)
           waiting := none }))) ∧
       (s.performBuffered k b e = .stall → exec (.bufferedWriteResume k) s = .next (s.setBlock k { b with pos := .writes e.idx })) ∧
       exec (.blockCommit k) s = .next s ∧
       (∀ t u, isPad e.addr.toNat = false → s.translate (k / 8) e.addr.toNat = (.ok t, u) → t.wb = true →
         exec (.wbRewalk k) s = .next ((u.dropTlb (k / 8) e.addr.toNat).commitWrites k b e.idx)) ∧
       (∀ t u, s.translate (k / 8) e.addr.toNat = (.ok t, u) → t.wb = false → exec (.wbRewalk k) s = .next s)) ∧
     ((s.slot k).stalled = none → exec (.bufferedWriteResume k) s = .next s ∧ exec (.wbRewalk k) s = .next s) ∧
     (∀ c : Capture, Effecting s k b c 0x67 →
       let y := k / 8
       let q := c.r.toNat
       let g (i : Nat) : Word := c.grp.getD i 0
       let low (m n : Word32) : Bool := decide (1 ≤ (n - m).toNat ∧ (n - m).toNat < 2 ^ 31)
       (Smap.has (s.bay y).mx (q % 16) = true ∨ (s.bay y).mx.any (fun e => !low e.2.num (s.bay y).mxNext) = true →
         exec (.mxcfgArm k) s = .next (s.stallEffect k b c)) ∧
       (Smap.has (s.bay y).mx (q % 16) = false → (s.bay y).mx.any (fun e => !low e.2.num (s.bay y).mxNext) = false →
         let t : State := ({ s.forked k c.idx (some (.matrix y (q % 16))) ((g 1).getLsbD 50) [y / 32] with
           opHomes := Smap.insert s.opHomes s.nextOp (.tile y) } : State).modBay y (fun z => { z with
           mx := Smap.insert z.mx (q % 16) {
             op := s.nextOp, uid := (s.slot k).uid, ctx := (s.slot k).ctxid, launch := (s.slot k).launchid.toNat,
             num := (s.bay y).mxNext, k0 := g 0, k1 := g 1, key := g 2, rows := g 3, nextPass := 0, passes := [], accumulated := 0 }
           mxNext := z.mxNext + 1 })
         exec (.mxcfgArm k) s = .next (if t.blockedSince s.nextWrite then s.stallEffect k b c else t.effected k b c 0))) ∧
     ((s.slot k).block = none → exec (.mxcfgArm k) s = .next s)) ∧
  (∀ (s : State) (k : Nat) (b : Block) (p g : Option Nat) (deps dies : List Nat),
     let gone (t : State) (h : Hold) : State := t.modBlock k (fun b => { b with holds := b.holds.erase h })
     Committing s k b .settle →
     (b.holds = [.shootdown p] → s.unlanded p = true → exec (.shootdownComplete k) s = .next s) ∧
     (b.holds = [.shootdown p] → s.unlanded p = false → exec (.shootdownComplete k) s = .next (gone (s.shootdownBy (s.agent k).party p) (.shootdown p))) ∧
     (b.holds = [.invalidate g] →
       exec (.blockInvalidateComplete k) s = .next (gone (s.invalidateBy (s.agent k).party (k / 256) g) (.invalidate g))) ∧
     (b.holds = [.fenceSc deps dies] → exec (.fenceScComplete k) s = .next (gone (s.revealOn dies deps) (.fenceSc deps dies))) ∧
     (b.holds = [] → exec (.shootdownComplete k) s = .next s ∧ exec (.blockInvalidateComplete k) s = .next s ∧
       exec (.fenceScComplete k) s = .next s) ∧
     (∀ h, b.holds = [h] → (∀ p, h ≠ .shootdown p) → (∀ g, h ≠ .invalidate g) → (∀ x y, h ≠ .fenceSc x y) → s.holdOver k h = false →
       exec (.blockCommit k) s = .next s))

/-- 05 R75; 13 R238, R251; 15 R285, R298: a wait ends when what it names has come: the phase of a rendezvous point, the stamp of a
hallmark, the operations of an MXJOIN or PJOIN. Till then nothing changes. -/
def Obligations.WaitsEnd : Prop :=
  ∀ (s : State) (k d : Nat) (b : Block) (c : Capture),
    let uid := (s.slot k).uid
    let mine (which : JoinOb → Bool) : List JoinOb := (Smap.getD s.joins [] uid).filter (fun j => which j && decide (j.idx ≤ c.idx))
    (Waiting s k b c 0x5C → (s.slot k).groupHome (c.l.toNat % 256) = some d →
      let v := s.rvAt d c.l.toNat
      ((v.phase.toNat + 2 ^ 16 - c.r.toNat % 2 ^ 16) % 2 ^ 16 < 2 ^ 15 →
        exec (.waitPhaseReached k) s = .next ((s.observe (k / 256) (.task uid) v.deps).waited k b c)) ∧
      (2 ^ 15 ≤ (v.phase.toNat + 2 ^ 16 - c.r.toNat % 2 ^ 16) % 2 ^ 16 → exec (.waitPhaseReached k) s = .next s)) ∧
    (Waiting s k b c 0x6D → selRemote c.r.toNat = false →
      (∀ deps e f t, s.awaitEval (k / 256) c.l.toNat c.r.toNat b.fixedGen = (.ready deps, e, f, t) →
        let u := (t.observe (k / 256) (s.agent k).party deps).seenBy k e
        (u.slot k).block = some b → (u.slot k).imp = (s.slot k).imp →
        (u.slot k).impOverflow = (s.slot k).impOverflow → exec (.awaitComplete k) s = .next (u.waited k b c)) ∧
      (∀ e f t, s.awaitEval (k / 256) c.l.toNat c.r.toNat b.fixedGen = (.wait, e, f, t) →
        exec (.awaitComplete k) s = .next (t.modSlot k (fun sl => { sl with block := sl.block.map (fun b => { b with fixedGen := f }) })))) ∧
    (Waiting s k b c 0x66 →
      let ops := mine (fun j => match j.kind with
        | .ladle _ n => decide (c.l.toNat / 2 ^ n % 2 = 1)
        | .kv _ => decide (c.l.toNat / 2 ^ 8 % 2 = 1)
        | _ => false)
      ((∃ j ∈ ops, j.done = false) → exec (.pjoinComplete k) s = .next s) ∧
      (ops = [] → exec (.pjoinComplete k) s = .next (s.waited k b c)) ∧
      ((∀ j ∈ ops, j.done = true ∧ j.faults = [] ∧ j.overflow = false) → ∃ t, exec (.pjoinComplete k) s = .next t ∧ (t.slot k).status = .running ∧
        (t.slot k).block = ((s.waited k b c).slot k).block ∧ t.mem = s.mem)) ∧
    (Waiting s k b c 0x68 →
      let ops := mine (fun j => match j.kind with
        | .matrix _ n => decide (c.l.toNat / 2 ^ n % 2 = 1)
        | _ => false)
      ((∃ j ∈ ops, j.done = false) → exec (.mxjoinComplete k) s = .next s) ∧
      (ops = [] → exec (.mxjoinComplete k) s = .next (s.waited k b c)) ∧
      ((∀ j ∈ ops, j.done = true ∧ j.faults = [] ∧ j.overflow = false) → ∃ t, exec (.mxjoinComplete k) s = .next t ∧ (t.slot k).status = .running ∧
        (t.slot k).block = ((s.waited k b c).slot k).block ∧ t.mem = s.mem)) ∧
    ((s.slot k).status ≠ .waiting → exec (.waitPhaseReached k) s = .next s ∧ exec (.awaitComplete k) s = .next s ∧
      exec (.pjoinComplete k) s = .next s ∧ exec (.mxjoinComplete k) s = .next s)

/-- 07 R106, R108; 19 R367, R370, R374: a completed block writes its registers and then, in index order, the special registers its SRWRs
name, in step 1; each SRWR delivers the old value. SR.SLOTCTL, SR.CTXSW and SR.TRACECTL have their actions as events of their own; SLOTCTL's
action 11 acts on no task and is no event: ERR stays as it was. Its buffered writes are issued with it (09 R165). -/
def Obligations.RegisterEvents : Prop :=
  ∀ (s : State) (k : Nat) (b : Block) (cs : List Capture),
    let nr (c : Capture) : Nat := (b.word c.idx).toNat % 2 ^ 14
    let u := s.modSlot k (fun sl => b.regw.foldl (fun sl r => sl.setReg r.reg r.value) sl)
    let issue (t : State) : State := t.modBlock k (fun b => { b with
      regw := []
      held := b.held.filter (fun e => opOf (b.word e.idx) != 0x2F)
      pos := .writes 0
      waiting := none
      stores := b.stores.map (fun e => { e with gen := some (t.die (k / 256)).slicemap }) })
    let t := issue (cs.foldl (fun s c => (s.srWrite k (nr c) c.l).writeTarget k (b.word c.idx) (s.readSr k (nr c))) u)
    let acts (i : Instr) (test : Capture → Prop) : Prop :=
      ((∃ c ∈ cs, test c) → exec i s = .next t) ∧ ((∀ c ∈ cs, ¬test c) → exec i s = .next s)
    Completed s k b → b.srwrs = cs →
    exec (.blockCommit k) s = .next t ∧
    acts (.specialRegisterWrite k) (fun c => nr c ≠ 0x200A ∧ nr c ≠ 0x200B ∧ nr c ≠ 0x200D) ∧
    acts (.slotctlThaw k) (fun c => nr c = 0x200B ∧ c.l.toNat / 2 ^ 62 = 0) ∧
    acts (.slotctlKill k) (fun c => nr c = 0x200B ∧ c.l.toNat / 2 ^ 62 = 1) ∧
    acts (.slotctlRequeue k) (fun c => nr c = 0x200B ∧ c.l.toNat / 2 ^ 62 = 2) ∧
    acts (.ctxswSave k) (fun c => nr c = 0x200A ∧ c.l.toNat / 2 ^ 6 % 2 = 0) ∧
    acts (.ctxswRestore k) (fun c => nr c = 0x200A ∧ c.l.toNat / 2 ^ 6 % 2 = 1) ∧
    acts (.tracectlFreeze k) (fun c => nr c = 0x200D ∧ c.l.toNat / 2 ^ 15 % 2 = 1) ∧
    acts (.tracectlThaw k) (fun c => nr c = 0x200D ∧ c.l.toNat / 2 ^ 15 % 2 = 0) ∧
    (∀ c, cs = [c] → nr c = 0x200B → c.l.toNat / 2 ^ 62 = 3 →
      exec (.blockCommit k) s = .next (issue ((u.modDie (k / 256) (fun x => { x with
        slotctl := (c.l &&& 0xC0FFFFFFFFFFC3FF) ||| ((s.die (k / 256)).slotctl &&& 0x2000000000000000) })).writeTarget k (b.word c.idx)
          (u.readSr k 0x200B))))

/-! ### The steps of the device: tasks (15 R262-R292; 19 R361-R363) -/

/-- 07 R113; 15 R289; 19 R352: the exit or yield join of a task ends when every operation it covers is complete. Records held are
reported; else the task retires, or its record gets the link as its ENTRY and FRAME, and is queued again, when there is room.
15 R291, R292; 19 R363; 01 R25, R26: pre-emption. Nothing is displaced before the waiting record of the highest level has waited 4096
cycles with no idle slot it may take, counted again from each consideration. The first candidate is taken back if bound, left to drain if it
is to end soon, checkpointed, or killed, with its gang whole; one whose block commits takes its commit first, and one that is ending is left.
What would write to a page that is being migrated waits (21 R387). That a slot freed for a newcomer keeps its claim, that a commit in progress
comes first, that a record put back counts its cycles anew, and that a gang with a member gone, or bound in part, takes no row are the
model's choice (entries 69, 93, 112, 44).
15 R264, R267, R279, R292; 01 R25: an idle slot takes the newcomer a pre-emption freed it for, or the selection of its bay. A record is
read with the rights of its launch, and one that cannot be run is retired at once; else the slot is bound to it. An image is bound, to be
restored at the fetch of its block. A gang is placed when it is the selection of every bay of its rectangle and each has an idle slot. That a
pop leaves TRAPCAUSE and TRAPFRAME 0, that the members of a gang are placed by rows, and that a bay's L1 goes over to the gang placed there
last are the model's choice (entries 36, 22, 122). -/
def Obligations.TasksEnd : Prop :=
  (∀ (s : State) (k : Nat) (t : Task) (b : Block),
     let u := s.observeOps k (fun j => j.atExit)
     let sl := u.slot k
     let joins := Smap.getD s.joins [] (s.slot k).uid
     let joined := ∀ j ∈ joins, j.atExit = true → j.done = true
     let ends (v : State) : State := (v.dropJoins (k / 256) t.uid).setSlot k { Slot.reset with
       stopped := sl.stopped
       claim := sl.claim }
     sl.task = some t → sl.block = some b →
     ((s.slot k).status ≠ .exitJoin ∨ ¬joined → exec (.taskRetire k) s = .next s) ∧
     ((s.slot k).status ≠ .yieldJoin ∨ ¬joined → exec (.yieldRequeue k) s = .next s) ∧
     ((s.slot k).status = .exitJoin → joined → sl.imp ≠ [] →
       exec (.taskRetire k) s = .next (u.reportAt k { b with handler := false } 2 0x80)) ∧
     ((s.slot k).status = .yieldJoin → joined → sl.imp ≠ [] →
       exec (.yieldRequeue k) s = .next (u.reportAt k { b with handler := false } 2 0x80)) ∧
     ((s.slot k).status = .exitJoin → joined → sl.imp = [] →
       exec (.taskRetire k) s = .next ((ends ((u.modLaunch t.launch (fun l => { l with
         unretired := l.unretired - 1
         deps := (l.deps ++ u.past (.task t.uid)).dedup })).flushImp k)).memberGone? t.gang)) ∧
     ((s.slot k).status = .yieldJoin → joined → sl.imp = [] → u.queueFull t.qDie t.qLevel t.qClass = true →
       exec (.yieldRequeue k) s = .next u) ∧
     ((s.slot k).status = .yieldJoin → joined → sl.imp = [] → u.queueFull t.qDie t.qLevel t.qClass = false →
       u.writeTask k sl.taskrec.toNat (bytesOf 8 b.link.toNat ++ bytesOf 8 sl.frame.toNat) = .wait → exec (.yieldRequeue k) s = .next u) ∧
     (∀ c v, (s.slot k).status = .yieldJoin → joined → sl.imp = [] → u.queueFull t.qDie t.qLevel t.qClass = false →
       u.writeTask k sl.taskrec.toNat (bytesOf 8 b.link.toNat ++ bytesOf 8 sl.frame.toNat) = .bad c v →
       exec (.yieldRequeue k) s = .next ((v.modSlot k (fun sl => { sl with status := .frozen true })).pushFault (k / 256) (.task t.uid)
         { impRec c 6 sl.ctxid sl.taskrec.toNat t.launch 0 with
           flags := 2
           owner := some k })) ∧
     (∀ v, (s.slot k).status = .yieldJoin → joined → sl.imp = [] → u.queueFull t.qDie t.qLevel t.qClass = false →
       u.writeTask k sl.taskrec.toNat (bytesOf 8 b.link.toNat ++ bytesOf 8 sl.frame.toNat) = .ok v →
       exec (.yieldRequeue k) s = .next (ends (v.enqueue t.qDie { recordEntry sl.taskrec.toNat t.launch t.qLevel t.qClass
         (t.flags.toNat / 16 % 4) (t.flags.toNat / 64 % 128) (v.past (.task t.uid)) with
           member := t.gang
           place := t.place })))) ∧
  (∀ (s : State) (d k : Nat) (e : QEntry) (t : Task) (rest : List Nat),
     let q := (s.die d).queue
     let ks := s.together k
     let whole : Prop := ∀ g, t.gang = some g → ∀ f x, f < 4 → s.gangOf f g = some x → x.left = ks.length
     let first : Prop := q.find? (fun f => s.effLevel f = (q.map s.effLevel).foldl max 0) = some e
     let idle : Prop := ∃ i, i < 1024 ∧ s.idleSlot i = true ∧ s.permits d e (i / 8) = true ∧ (i / 256 = d ∨ (e.cls = 0 ∧ e.gang = none))
     let all (f : Nat → Prop) : Prop := ∀ i ∈ ks, f i
     let drains (i : Nat) : Prop := (s.launch (s.slot i).launchid.toNat).policy 2 = true ∧ (s.slot i).est.toNat ≤ 2 ^ 16
     let flag (n i : Nat) : Prop := ∃ u, (s.slot i).task = some u ∧ u.flags.getLsbD n = true
     let bound (i : Nat) : Prop := (s.slot i).status = .bound
     let runs (i : Nat) : Prop := (s.slot i).status = .waiting ∨ ((s.slot i).status = .running ∧ ((s.slot i).block = none ∨
       ∃ b, (s.slot i).block = some b ∧ b.pos = .firing ∧ ¬Completed s i b))
     let leaves (i : Nat) : Prop := ∃ b j x, Completed s i b ∧ b.exit = some (j, x) ∧ (x = .exit ∨ x = .yield)
     let commits (i : Nat) : Prop := ∃ b j x, Completed s i b ∧ b.exit = some (j, x) ∧ x ≠ .exit ∧ x ≠ .yield
     let seen : Prop := first ∧ e.waitFrom + 4096 ≤ s.cycle ∧ ¬idle ∧ s.candidates d e = k :: rest ∧ (s.slot k).task = some t
     let go : Prop := seen ∧ whole
     let still : Prop := go ∧ all runs ∧ ¬all drains
     let acts (i : Instr) (u : State) : Prop := exec i s = .next (if u.blockedSince s.nextWrite then s else u)
     let takes (u : State) : Prop := acts (.preemptConsider d) (u.waitAgain d e)
     let killed (u : State) : State := match t.gang with
       | none => (u.killSlot k).requeue (if t.flags.toNat / 16 % 4 = 1 ∨ t.flags.toNat / 16 % 4 = 2 then t.flags.toNat / 64 % 128 / 32 else k / 256)
           false { recordEntry t.record.toNat t.launch t.qLevel 3 (t.flags.toNat / 16 % 4) (t.flags.toNat / 64 % 128) [] with
             member := none
             place := t.place }
       | some g => u.killAll (some g) ks
     (q = [] → exec (.preemptConsider d) s = .next s) ∧
     (first → s.cycle < e.waitFrom + 4096 ∨ idle → exec (.preemptConsider d) s = .next s) ∧
     (go → all bound → t.gang = none → takes ((s.claimSlot k e).unbind k)) ∧
     (∀ g, go → all bound → t.gang = some g → takes ((s.claimSlot k e).unbindGang g ks)) ∧
     (go → all runs → all drains → takes (s.claimSlot k e)) ∧
     (∀ imgs u, still → all (flag 1) → s.takeImages (k / 256) ks.length = (some imgs, u) →
       takes (((ks.zip imgs).foldl (fun u i => u.modSlot i.1 (fun sl => { sl with status := .saving i.2.1 i.2.2 })) u).claimSlot k e)) ∧
     (∀ u, still → all (flag 1) → s.takeImages (k / 256) ks.length = (none, u) → all (flag 0) → takes (killed (u.claimSlot k e))) ∧
     (∀ u, still → all (flag 1) → s.takeImages (k / 256) ks.length = (none, u) → ¬all (flag 0) → rest = [] → takes u) ∧
     (still → ¬all (flag 1) → all (flag 0) → takes (killed (s.claimSlot k e))) ∧
     (still → ¬all (flag 1) → ¬all (flag 0) → rest = [] → takes s) ∧
     (go → all (fun i => runs i ∨ commits i) → (∃ i ∈ ks, commits i) → exec (.preemptConsider d) s = .next s) ∧
     (go → rest = [] → (∃ i ∈ ks, leaves i) → takes s) ∧
     (seen → rest = [] → ¬whole ∨ ((∃ i ∈ ks, bound i) ∧ ∃ i ∈ ks, runs i) → takes s) ∧
     (∀ img pa, (s.slot k).status = .saving img pa → (s.slot k).task = some t → t.gang = none →
       acts (.checkpointComplete k) (((s.wakeSaved k).saveTask k img pa).pushImage (k / 256) img)) ∧
     (∀ img pa g, (s.slot k).status = .saving img pa → (s.slot k).task = some t → t.gang = some g →
       let saved := ks.filterMap (fun i => match (s.slot i).status with
         | .saving img pa => some (i, img, pa)
         | _ => none)
       let u := saved.foldl (fun u i => (u.wakeSaved i.1).saveTask i.1 i.2.1 i.2.2) s
       acts (.checkpointComplete k) (u.requeueGang g (saved.filterMap (fun i => (Smap.find u.parked i.2.1).map (u.imageEntry i.2.1)))
         t.qLevel 3 false)) ∧
     ((∀ img pa, (s.slot k).status ≠ .saving img pa) → exec (.checkpointComplete k) s = .next s)) ∧
  (∀ (s : State) (k d i : Nat) (e : QEntry),
     let u := s.dequeue d i
     let claimed := (s.slot k).claim.bind s.placeOf
     let chosen : Prop := s.idleSlot k = true ∧ (claimed = some (d, i) ∨ (claimed = none ∧ s.select (k / 8) = some (d, i))) ∧
       (s.die d).queue[i]? = some e
     (s.idleSlot k = false → exec (.taskPop k) s = .next s) ∧
     (claimed = none → s.select (k / 8) = none → exec (.taskPop k) s = .next s) ∧
     (chosen → e.gang.isSome = true → exec (.taskPop k) s = .next s) ∧
     (∀ t, chosen → e.gang = none → e.image = true → Smap.find u.parked e.addr.toNat = some t →
       ∃ x, exec (.taskPop k) s = .next x ∧ (x.slot k).status = .bound ∧ (x.slot k).popped = some (d, e) ∧ (x.slot k).block = none ∧
         (x.slot k).taskrec = BitVec.ofNat 64 t.record.toNat ∧ (x.slot k).launchid = BitVec.ofNat 12 t.launch ∧
         (x.slot k).ctxid = (u.launch t.launch).context ∧ x.parked = u.parked ∧ (∀ j, j ≠ k → x.slot j = u.slot j) ∧ x.mem = u.mem) ∧
     (chosen → e.gang = none → e.image = false →
       let v := ({ u with nextUid := u.nextUid + 1 } : State).observe (k / 8 / 32) (.task u.nextUid) e.deps
       let a : Agent := { bay := k / 8, party := .task u.nextUid, ctx := (v.launch e.launch).context, priv := false }
       let retired (x : State) (c : Byte) : State := ((x.countTasks e.launch 0 1).memberGone? e.member).schedFault (k / 8 / 32) c
         (x.launch e.launch).context e.addr.toNat e.launch
       (∀ c x, v.readRecord a e.addr.toNat = (.error c, x) → exec (.taskPop k) s = .next (retired x c)) ∧
       (∀ bs x, v.readRecord a e.addr.toNat = (.ok bs, x) →
         let part (off n : Nat) : Nat := natOf ((bs.drop off).take n)
         (x.recordOk bs (k / 8) false = false → exec (.taskPop k) s = .next (retired x cIllegalForm)) ∧
         (x.recordOk bs (k / 8) false = true → ∃ t, exec (.taskPop k) s = .next t ∧
           (t.slot k).status = .bound ∧ (t.slot k).popped = some (d, e) ∧ (t.slot k).block = none ∧
           (t.slot k).pc = BitVec.ofNat 56 (part 0 8) ∧ (t.slot k).frame = BitVec.ofNat 64 (part 8 8) ∧
           (t.slot k).arg = BitVec.ofNat 64 (part 24 8) ∧ (t.slot k).taskrec = e.addr ∧ (t.slot k).launchid = BitVec.ofNat 12 (part 20 2) ∧
           (t.slot k).regs = [] ∧ (t.slot k).trapframe = 0 ∧ (t.slot k).trapcause = 0 ∧ (t.slot k).ctxid = (x.launch (part 20 2)).context ∧
           (t.slot k).est = (x.launch (part 20 2)).estimate ∧ (∀ j, j ≠ k → t.slot j = x.slot j) ∧ t.mem = x.mem))) ∧
     (∀ (g : Gang) (o : Nat),
       let place (d : Nat) (i : Nat) (e : QEntry) (g : Gang) (o : Nat) : Prop := (s.die d).queue[i]? = some e ∧ e.gang.bind (s.gangOf d) = some g ∧
         s.gangRect d g = some o ∧ ∀ b ∈ rectBays d o g.w g.h, s.selectFrom d b false = some i ∧ (s.idleIn b).isSome = true
       ((∀ i e g o, ¬place d i e g o) → exec (.gangPlace d) s = .next s) ∧
       (place d i e g o → (∀ j, j < i → ∀ e g o, ¬place d j e g o) →
         let bays := rectBays d o g.w g.h
         let t := g.members.foldl (fun t m =>
           let m := { m with
             deps := m.deps ++ e.deps
             level := e.level
             cls := e.cls }
           match t.idleIn (bays.getD m.place 0) with
           | some k => if m.image then t.bindImage k d m (some g.id) else t.bindRecord k d m (some g.id) g.group
           | none => t) (u.modDie d (fun x => { x with
             gangs := x.gangs.map (fun q => if q.id = g.id then { q with placed := some o } else q) }))
         let apart : State := { t with bays := t.bays.map (fun (y : Nat × Bay) =>
           (y.1, if y.2.fused = some g.id then { y.2 with fused := none } else y.2)) }
         exec (.gangPlace d) s = .next (
           if g.fuse = true ∧ (∃ x ∈ t.dies, ∃ q ∈ x.2.gangs, q.id = g.id) then
             bays.foldl (fun t b => t.modBay b (fun y => { y with
               fused := some g.id
               l1 := [] })) apart
           else t))))

/-! ### The steps of the device: launches (15 R270-R278; 21 R391) -/

/-- 15 R276, R277; 21 R391: a trigger of a graph that is not valid, or with a bit outside the graph's number, is refused; one that finds
four waiting is busy; else it is accepted with its patches, in order. The control node's TRIGGER acts as the register write. That the launch index of a
patch counts from the graph's first launch is the model's choice (entry 66).
15 R277: a run starts when no run of an overlapping graph is in progress or was accepted before it. Its patches are written, and each
launch's count of unfinished predecessors is its PREDCNT. -/
def Obligations.Triggers : Prop :=
  (∀ (s : State) (v : BitVec 64),
     let w := (Smap.getD s.sched 0 (0x10000 + v.toNat)).toNat
     let n := w / 2 ^ 16 % 2 ^ 13
     let f := w % 2 ^ 12
     let known := v.toNat < 256 ∧ w / 2 ^ 63 = 1 ∧ 1 ≤ n ∧ n ≤ 4096 ∧ f + n ≤ 4096
     let waiting := (s.runs.filter (fun r => !r.running && (decide (r.first < f + n) && decide (f < r.first + r.count)))).length
     let patch := s.trigPatch.toNat
     let both (t : State) : Prop := exec (.triggerRegisterWrite v) s = .next t ∧ exec (.sprueTrigger v) s = .next t
     let accepted (t : State) (ps : List (Nat × Nat × Word)) : State := { t with
       trigStatus := 0
       runs := t.runs ++ [{ graph := v.toNat, first := f, count := n, patches := ps, running := false, id := t.nextRun, deps := [] }]
       nextRun := t.nextRun + 1 }
     (s.startStep < 2 → both s) ∧
     (2 ≤ s.startStep → ¬known → both { s with trigStatus := 2 }) ∧
     (2 ≤ s.startStep → known → patch = 0 → 4 ≤ waiting → both { s with trigStatus := 1 }) ∧
     (2 ≤ s.startStep → known → patch = 0 → waiting < 4 → both (accepted s [])) ∧
     (2 ≤ s.startStep → known → patch ≠ 0 → patch % 8 ≠ 0 ∨ 2 ^ 56 ≤ patch → both { s with trigStatus := 2 }) ∧
     (∀ t u h bs, 2 ≤ s.startStep → known → patch ≠ 0 → patch % 8 = 0 → patch < 2 ^ 56 → s.triggerRead none patch 8 = (.ok h, t) →
       natOf (h.take 8) ≤ 4096 → t.triggerRead none (patch + 8) (16 * natOf (h.take 8)) = (.ok bs, u) → u.runs = s.runs →
       let c := natOf (h.take 8)
       let part (i off n : Nat) : Nat := natOf (((bs.drop (16 * i)).drop off).take n)
       let good := ∀ i, i < c → part i 0 2 < n ∧ part i 2 1 % 8 = 0 ∧ part i 2 1 ≤ 120 ∧ natOf ((((bs.drop (16 * i)).take 16).drop 3).take 5) = 0
       (bs.length = 16 * c → ¬good → both { u with trigStatus := 2 }) ∧
       (bs.length = 16 * c → good → 4 ≤ waiting → both { u with trigStatus := 1 }) ∧
       (bs.length = 16 * c → good → waiting < 4 →
         both (accepted u ((List.range c).map (fun i => (part i 0 2, part i 2 1, BitVec.ofNat 64 (part i 8 8)))))))) ∧
  (∀ (s : State) (id : Nat) (r : GraphRun),
     let u : State := { s with runs := s.runs.filter (fun q => !s.runOver q) }
     let overlaps (q : GraphRun) : Bool := decide (q.first < r.first + r.count) && decide (r.first < q.first + q.count)
     let blocked := (∃ q ∈ u.runs, q.running = true ∧ overlaps q = true) ∨ ∃ q ∈ u.runs.takeWhile (fun q => q.id != id), overlaps q = true
     let found := u.runs.find? (fun q => decide (q.id = id) && !q.running)
     (found = none → exec (.graphRunStart id) s = .next u) ∧
     (found = some r → blocked → exec (.graphRunStart id) s = .next u) ∧
     (found = some r → ¬blocked →
       let patched := r.patches.foldl (fun t p => { t with
         sched := Smap.put t.sched 0 (16 * (r.first + p.1) + p.2.1 / 8) p.2.2 }) u
       let words (n : Nat) : List Word := (List.range 16).map (fun i => Smap.getD patched.sched 0 (16 * n + i))
       exec (.graphRunStart id) s = .next { (List.range r.count).foldl (fun t i => t.setLaunch (r.first + i) { LaunchRun.reset with
           unfinished := launchField (words (r.first + i)) 84 2
           run := id
           deps := r.deps
           words := words (r.first + i) }) patched with
         runs := u.runs.map (fun q => if q.id = id then { q with running := true } else q) }))

/-- 15 R271, R272, R275, R281, R295: a launch opens when its count is 0 and its INPROD has started. What its predecessors wrote is
acquired; its entry, and a loop launch's bound, is read and checked once. A failed check fails it; a bound of too many tasks ends it at
once; a group number in use by another launch makes it wait; else its groups stand, its keys are declared, it has started, its EARLY edges
are taken, and each of its records is written and released or held. Where that would write to a page that is being migrated,
it waits (21 R387).
15 R266, R273, R274, R275; 07 R126; 21 R391: a held unit whose last key has become ready is pushed in its turn, when its queue has room;
a launch finishes when it has released its records, none is unretired and it has not failed; a loop launch of PREDCNT 0
opens once a run, which is the model's choice (entry 23); dispatch is stopped and resumed for the slots of a bay, a die or
the package. -/
def Obligations.Launches : Prop :=
  (∀ (s u : State) (n : Nat),
     let l0 := s.launch n
     let ws := (List.range 16).map (fun i => Smap.getD s.sched 0 (16 * n + i))
     let inprod := launchField ws 86 2
     let waits := (∃ r ∈ s.runs, r.running = true ∧ r.first ≤ n ∧ n < r.first + r.count) ∧ l0.opened = false ∧ l0.failed = false
     let due := waits ∧ l0.checked = false ∧ l0.unfinished = 0 ∧ (inprod = 0xFFFF ∨ (s.launch (inprod % 4096)).begun = true)
     let loop := launchField ws 113 1 / 64 % 2 = 1
     let seen := s.observe 0 (.device 0) l0.deps
     let entered (x y : Nat) : LaunchRun := { l0 with
       words := ws
       bound := (x, y)
       finished := false }
     let opens (v : State) : State :=
       let l := v.launch n
       let want := v.groupsWanted l
       let grouped := want.foldl (fun t e => t.modDie e.2 (fun d =>
         if Smap.has d.groups e.1 then d else { d with groups := Smap.insert d.groups e.1 { launch := n, points := [] } })) v
       let started := ((grouped.setLaunch n { l with opened := true }).declareOutputs n l).modLaunch n (fun l => { l with
         started := true
         begun := true })
       let released := (l.units n).foldl (fun t unit =>
         let w := unit.tasks.foldl (fun acc i =>
           (if (acc.2.writeRecord n l i).1 then acc.1 ++ [i] else acc.1, (acc.2.writeRecord n l i).2)) (([] : List Nat), t)
         if w.1.isEmpty then w.2 else w.2.releaseOrHold { unit with tasks := w.1 }) (started.takeEdges n l true)
       released.modLaunch n (fun l => { l with allReleased := true })
     let comes (base v : State) : Prop :=
       let acts (t : State) : Prop := exec (.launchOpen n) s = .next (if t.blockedSince base.nextWrite then base else t)
       let taken := ∃ e ∈ v.groupsWanted (v.launch n), ∃ g, Smap.find (v.die e.2).groups e.1 = some g ∧ g.launch ≠ n
       (taken → acts v) ∧ (¬taken → acts (opens v))
     let enters (v : State) (l : LaunchRun) : Prop :=
       (∀ c, v.launchCheck l = (some c, u) → exec (.launchOpen n) s = .next ((u.setLaunch n l).failLaunch n c)) ∧
       (v.launchCheck l = (none, u) → comes u (u.setLaunch n { l with checked := true }))
     (¬waits → exec (.launchOpen n) s = .next s) ∧
     (waits → l0.checked = true → comes s s) ∧
     (waits → l0.checked = false → ¬due → exec (.launchOpen n) s = .next s) ∧
     (due → ¬loop ∨ entryOk ws = false → enters seen (entered 0 0)) ∧
     (∀ c, due → loop → entryOk ws = true → seen.deviceLoad 0 (launchField ws 24 8) 8 = (.error c, u) →
       exec (.launchOpen n) s = .next ((u.setLaunch n { l0 with words := ws }).failLaunch n c)) ∧
     (∀ v t, due → loop → entryOk ws = true → seen.deviceLoad 0 (launchField ws 24 8) 8 = (.ok v, t) →
       (1048576 < v % 2 ^ 32 * (v / 2 ^ 32) → exec (.launchOpen n) s = .next (((t.schedFault 0 cIllegalForm 0
         (0x00FFFFFD00000000 + 128 * n) n).setLaunch n { l0 with
           words := ws
           opened := true
           started := true
           begun := true
           finished := false
           bound := (0, 0) }).finishLaunch n)) ∧
       (v % 2 ^ 32 * (v / 2 ^ 32) ≤ 1048576 → enters t (entered (v % 2 ^ 32) (v / 2 ^ 32))))) ∧
  (∀ (s : State) (n i unit : Nat) (h : HeldUnit) (sc : BitVec 2),
     let l := s.launch n
     let slots : List Nat := match sc.toNat with
       | 1 => (List.range 8).map (fun j => 8 * unit + j)
       | 2 => (List.range 256).map (fun j => 256 * unit + j)
       | 3 => List.range 1024
       | _ => []
     (s.heldUnits[i]? = none → exec (.heldTaskRelease i) s = .next s) ∧
     (s.heldUnits[i]? = some h → h.readyAt = none → exec (.heldTaskRelease i) s = .next s) ∧
     (∀ at_, s.heldUnits[i]? = some h → h.readyAt = some at_ →
       let lh := s.launch h.launch
       let die (v : HeldUnit) : Nat := s.releaseDie lh.words (lh.gangLead (v.tasks.headD 0))
       let kind := launchField lh.words 117 1
       let tgt := launchField lh.words 118 1
       let behind := ∃ v ∈ s.heldUnits, v.launch = h.launch ∧ die v = die h ∧ ∃ r, v.readyAt = some r ∧ r < at_
       let t : State := { s with heldUnits := s.heldUnits.eraseIdx i }
       (behind → exec (.heldTaskRelease i) s = .next s) ∧
       (t.releaseUnit h = none → exec (.heldTaskRelease i) s = .next s) ∧
       (∀ u, ¬behind → t.releaseUnit h = some u → exec (.heldTaskRelease i) s = .next u) ∧
       (¬behind → h.gangIdx = none → s.queueFull (die h) lh.prio kind = false →
         exec (.heldTaskRelease i) s = .next (t.enqueue (die h) (recordEntry (lh.recAddr (h.tasks.headD 0)) h.launch lh.prio kind kind
           (if kind = 1 then tgt * 32 else tgt) (lh.deps ++ s.past (.device 0) ++ h.ready.flatMap (fun e => e.2)).dedup)))) ∧
     (let due := l.started = true ∧ l.finished = false ∧ l.failed = false ∧ l.allReleased = true ∧ l.unretired = 0 ∧ ∀ u ∈ s.heldUnits, u.launch ≠ n;
       (¬due → exec (.launchFinish n) s = .next s) ∧
       (due →
         let done := s.modLaunch n (fun l => { l with finished := true })
         let freed := [0, 1, 2, 3].foldl (fun t d => t.modDie d (fun x => { x with
           groups := x.groups.filter (fun e => e.2.launch != n) })) done
         let t := (freed.takeEdges n l false).prodFinished n l.deps
         exec (.launchFinish n) s = .next ((if l.policy 6 = true then t.modLaunch n (fun l => { l with
             opened := launchField l.words 84 2 = 0
             checked := false
             started := false
             unfinished := launchField l.words 84 2 })
           else t).endRuns))) ∧
     (s.startStep < 2 → exec (.dispatchStop sc unit) s = .next s ∧ exec (.dispatchGo sc unit) s = .next s) ∧
     (2 ≤ s.startStep →
       exec (.dispatchStop sc unit) s = .next (slots.foldl (fun t k => t.modSlot k (fun sl => { sl with stopped := true })) s) ∧
       exec (.dispatchGo sc unit) s = .next (slots.foldl (fun t k => t.modSlot k (fun sl => { sl with stopped := false })) s)))

/-! ### The steps of the device: the package (09 R155-R166; 21 R378-R397) -/

/-- 21 R391, R393, R394: what the control node may ask once the controller runs. ATTEST answers over the boot log, the capability
registers of each die (CAPSPAD as each bay reads it), the chip's identifier and the nonce; TELEMETRY answers power, thermal and counter
readings. The digests and the signature, and the power and thermal readings, are free values, which is the model's choice, as the layout of
an answer is (entry 19).
21 R391; 09 R129; 13 R256; 15 R276; 19 R371; 21 R397: an ACCESS to device memory, or to the scheduler, ladle and scratchpad windows. One
of a size or at an address that the control node does not reach is none; a misaligned one and one to lost or poisoned memory answer their
cause; else a read answers the bytes visible to the host, and a write changes the bytes it names and no others. A window's access resolves
as a task's, and is made later where it must wait, as a write to a page that is being migrated is (21 R386, R387). Which addresses the
control node reaches is the model's choice (entry 24).
21 R388, R389; 09 R143: a peer's access. With no link, from this chip itself, or of no kind or size there is none; with the window
disabled, and where the address faults, the answer is LINK_FAULT; else a write is performed, a read answers what the place holds, and an
atomic is performed here, at the owning device, and answers the old value: a CAS64 whose comparison fails writes nothing and waits for no
HELD. That a peer has the rights of context 0 in the privileged view, as one of bay 0, is the model's choice (entry 110). -/
def Obligations.OutsideAccesses : Prop :=
  (∀ (s : State) (nonce : BitVec 64) (sensor : Nat) (kind : BitVec 8) (unit : BitVec 16),
     let reply (t : State) (l : List Word) : State := { t with reply := l }
     let rec2 (r : BootRec) : List Word := [BitVec.ofNat 64 (r.step.toNat + r.kind.toNat * 2 ^ 8 + r.unit.toNat * 2 ^ 16 +
       r.outcome.toNat * 2 ^ 32 + r.method.toNat * 2 ^ 40 + r.starts.toNat * 2 ^ 48), r.time]
     let log := (s.bootLog.map rec2).flatten
     (s.startStep = 0 → exec (.attest nonce) s = .next s ∧ exec (.telemetry sensor) s = .next s ∧ exec .logread s = .next s) ∧
     (1 ≤ s.startStep → exec .logread s = .next (reply s (0 :: log)) ∧
       (∃ power heat, exec (.telemetry sensor) s = .next (reply s ([0, power, heat] ++
         (([0, 1, 2, 3] : List Nat).map (fun d => [Smap.getD (s.die d).dtraf 0 0, Smap.getD (s.die d).dtraf 0 1, Smap.getD (s.die d).dtraf 0 2,
           Smap.getD (s.die d).dtraf 0 3, (s.die d).peertraf, (s.die d).hosttraf, (s.die d).relay, (s.die d).cecount.setWidth 64])).flatten))) ∧
       (∃ digest signature, exec (.attest nonce) s = .next (reply s ([0, digest] ++ log ++
         (([0, 1, 2, 3] : List Nat).map (fun d => (s.die d).capbays.setWidth 64 ::
           (List.range 32).map (fun b => BitVec.ofNat 64 (s.capspad (32 * d + b))) ++ [(s.die d).capslice, BitVec.ofNat 64 ((s.die d).capHigh.toNat * 2 ^ 20 + (s.die d).capLow.toNat), (s.die d).capmxt.setWidth 64])).flatten ++
         [s.chipid.setWidth 64, nonce, signature])))) ∧
     (s.startStep < 2 → exec (.logclear kind unit) s = .next s) ∧
     (2 ≤ s.startStep → exec (.logclear kind unit) s =
       .next (reply { s with bootLog := s.bootLog.filter (fun r => !(r.kind == kind && r.unit == unit)) } [0]))) ∧
  (∀ (s u : State) (pa : BitVec 56) (n : Nat) (v : BitVec 64) (p : Place),
     let a := pa.toNat
     let answers (t : State) (l : List Word) : Prop := t.reply = l
     let size := n = 1 ∨ n = 2 ∨ n = 4 ∨ n = 8
     let device := a < 2 ^ 52 ∧ a / 2 ^ 50 = 0 ∧ a / 2 ^ 41 % 2 ^ 9 = 0 ∧ a % 2 ^ 38 < 0xC00000000
     let window := a / 2 ^ 32 = 0xFFFFFD ∨ a / 2 ^ 32 = 0xFFFFFE ∨ a / 2 ^ 32 = 0xFFFFFF
     (s.startStep < 2 ∨ ¬size ∨ (¬device ∧ ¬window) → exec (.accessRead pa n) s = .next s ∧ exec (.accessWrite pa n v) s = .next s) ∧
     (2 ≤ s.startStep → size → device → a % n ≠ 0 →
       exec (.accessRead pa n) s = .next { s with reply := [BitVec.ofNat 64 cAlign.toNat] } ∧
       exec (.accessWrite pa n v) s = .next { s with reply := [BitVec.ofNat 64 cAlign.toNat] }) ∧
     (2 ≤ s.startStep → size → device → a % n = 0 → s.lost a = true →
       exec (.accessRead pa n) s = .next { s with reply := [BitVec.ofNat 64 cUncorrectable.toNat] } ∧
       exec (.accessWrite pa n v) s = .next { s with reply := [BitVec.ofNat 64 cUncorrectable.toNat] }) ∧
     (2 ≤ s.startStep → size → device → a % n = 0 → s.lost a = false → s.poisoned a n = false →
       (∃ t, exec (.accessRead pa n) s = .next t ∧
         answers t [0, BitVec.ofNat 64 (natOf ((List.range n).map (fun i => s.byteFor 4 .host (a + i))))] ∧ t.mem = s.mem ∧ t.slots = s.slots) ∧
       (s.migrating a = true → exec (.accessWrite pa n v) s = .next s) ∧
       (s.migrating a = false → ∃ t, exec (.accessWrite pa n v) s = .next t ∧ answers t [0] ∧
         (∀ i, i < n → t.byteFor 4 .host (a + i) = BitVec.ofNat 8 (v.toNat / 256 ^ i)) ∧
         (∀ d p b, b < a ∨ a + n ≤ b → t.byteFor d p b = s.byteFor d p b) ∧ t.slots = s.slots)) ∧
     (2 ≤ s.startStep → size → device → a % n = 0 → s.lost a = false → s.poisoned a n = true →
       exec (.accessRead pa n) s = .next { s with reply := [BitVec.ofNat 64 cUncorrectable.toNat] } ∧
       (n < 8 → exec (.accessWrite pa n v) s = .next { s with reply := [BitVec.ofNat 64 cUncorrectable.toNat] }) ∧
       (n = 8 → s.migrating a = true → exec (.accessWrite pa 8 v) s = .next s) ∧
       (n = 8 → s.migrating a = false → ∃ t, exec (.accessWrite pa 8 v) s = .next t ∧ answers t [0] ∧ t.poisoned a 8 = false)) ∧
     (2 ≤ s.startStep → size → window →
       (∀ c, s.resolve hostAgent a (wantPlain n false) = (.error c, u) →
         exec (.accessRead pa n) s = .next { u with reply := [BitVec.ofNat 64 c.toNat] }) ∧
       (∀ c, s.resolve hostAgent a (wantPlain n true) = (.error c, u) →
         exec (.accessWrite pa n v) s = .next { u with reply := [BitVec.ofNat 64 c.toNat] }) ∧
       (s.resolve hostAgent a (wantPlain n false) = (.ok p, u) →
         (u.readWaits p = true → exec (.accessRead pa n) s = .next u) ∧
         (u.readWaits p = false → u.guardedPlace p = false → u.placeBad p n = true →
           exec (.accessRead pa n) s = .next { u with reply := [BitVec.ofNat 64 cUncorrectable.toNat] }) ∧
         (u.readWaits p = false → u.guardedPlace p = true ∨ u.placeBad p n = false →
           exec (.accessRead pa n) s = .next { (u.hostRead a p n).2 with reply := [0, BitVec.ofNat 64 (u.hostRead a p n).1] })) ∧
       (s.resolve hostAgent a (wantPlain n true) = (.ok p, u) →
         (u.performWaits p = true → exec (.accessWrite pa n v) s = .next u) ∧
         (u.performWaits p = false → n = 8 ∨ u.guardedPlace p = true ∨ u.placeBad p n = false →
           exec (.accessWrite pa n v) s = .next { u.performAt hostAgent a p n (v.toNat % 2 ^ (8 * n)) [] false with reply := [0] })))) ∧
  (∀ (s u : State) (chip : BitVec 18) (off : BitVec 32) (n : Nat) (v old : BitVec 64) (p : Place),
     let go (kind : BitVec 4) : Instr := .peerAccessIn chip kind off n (v, old)
     let va := s.peerwin.toNat / 2 ^ 32 * 2 ^ 32 + off.toNat
     let kindOk (kind : BitVec 4) : Prop := (kind.toNat < 2 ∧ (n = 1 ∨ n = 2 ∨ n = 4 ∨ n = 8)) ∨ (kind = 2 ∧ n = 8) ∨
       (8 ≤ kind.toNat ∧ (n = 4 ∨ n = 8))
     let here (kind : BitVec 4) : Prop := s.links ≠ [] ∧ chip ≠ s.chipid ∧ kindOk kind
     let on (kind : BitVec 4) : Prop := here kind ∧ s.peerwin.getLsbD 0 = true
     let known := s.meet chip.toNat
     let agent : Agent := { bay := 0, party := .peer chip.toNat, ctx := 0, priv := true }
     let want (kind : BitVec 4) : Want := if kind = 0 then wantPlain n false else if kind = 1 then wantPlain n true else wantAtomic n
     let leads (kind : BitVec 4) : Prop := on kind ∧ known.resolve agent va (want kind) = (.ok p, u)
     let gone : Prop := (∃ t, p = .mem t ∧ u.lost t.pa = true) ∨ ∃ q, p = .kv q ∧ u.lost q = true
     let fails (kind : BitVec 4) : Prop := exec (go kind) s = .next { u with reply := [0x1F] }
     let read := u.readPlace agent va p n true
     let new (kind : BitVec 4) : Option Nat :=
       if kind = 2 then (if read.1 = old.toNat then some v.toNat else none) else some (amoValue (kind.toNat % 8) n read.1 v.toNat)
     (∀ kind, ¬here kind → exec (go kind) s = .next s) ∧
     (∀ kind, here kind → s.peerwin.getLsbD 0 = false → exec (go kind) s = .next { known with reply := [0x1F] }) ∧
     (∀ kind c, on kind → known.resolve agent va (want kind) = (.error c, u) → fails kind) ∧
     (leads 1 → u.performWaits p = true → exec (go 1) s = .next u) ∧
     (leads 1 → u.performWaits p = false → u.placeCut p = true ∨ gone ∨ (n < 8 ∧ u.placeBad p n = true) → fails 1) ∧
     (leads 1 → u.performWaits p = false → u.placeCut p = false → ¬gone → n = 8 ∨ u.placeBad p n = false →
       exec (go 1) s = .next { u.performAt agent va p n (v.toNat % 2 ^ (8 * n)) [] false with reply := [0] }) ∧
     (leads 0 → u.readWaits p = true → exec (go 0) s = .next u) ∧
     (leads 0 → u.readWaits p = false → u.placeCut p = true ∨ (u.guardedPlace p = false ∧ u.placeBad p n = true) → fails 0) ∧
     (leads 0 → u.readWaits p = false → u.placeCut p = false → u.guardedPlace p = true ∨ u.placeBad p n = false →
       exec (go 0) s = .next { (u.peerRead chip.toNat va p n).2 with
         reply := [0, BitVec.ofNat 64 (u.peerRead chip.toNat va p n).1] }) ∧
     (∀ kind, 2 ≤ kind.toNat → leads kind →
       (u.guardedPlace p = true → exec (go kind) s = .next { u with reply := [0, 0] }) ∧
       (u.guardedPlace p = false → u.readWaits p = true ∨ (new kind ≠ none ∧ u.performWaits p = true) → exec (go kind) s = .next u) ∧
       (u.guardedPlace p = false → u.readWaits p = false → new kind = none ∨ u.performWaits p = false →
         (u.placeCut p = true ∨ u.placeBad p n = true → fails kind) ∧
         (u.placeCut p = false → u.placeBad p n = false →
           (new kind = none → exec (go kind) s = .next { read.2 with reply := [0, BitVec.ofNat 64 read.1] }) ∧
           (∀ x, new kind = some x → exec (go kind) s =
             .next { read.2.performAt agent va p n (x % 2 ^ (8 * n)) [] true with reply := [0, BitVec.ofNat 64 read.1] })))))

/-- 09 R156, R164-R166; 21 R380-R385: walks, fills, slices and visibility. A walk takes a translation into the TLB; a fill changes no byte
that any party reads; a slice leaves service when no read of an older generation is outstanding, with its lines flushed and the
generation advanced; a write becomes visible on a die with all that must precede it. A request of an older generation, a read, a
buffered write or a stage's access, is answered with retry. That an access walks within its own step, and which line leaves a full slice, are
the model's choice (entries 8, 9). -/
def Obligations.SlicesAndVisibility : Prop :=
  ∀ (s : State) (bay d ln victim slice wr : Nat) (va : BitVec 64) (k j : Nat) (b : Block) (r : ReadInFlight),
    let a := va.toNat
    let x := s.die d
    let walkable := s.bayUp bay = true ∧ a < 2 ^ 56 ∧ sliced a = true ∧ a / 2 ^ 48 ≠ 0xFE
    (¬walkable → exec (.pageWalk bay va) s = .next s) ∧
    (∀ t u, walkable → s.translate bay a = (.ok t, u) → exec (.pageWalk bay va) s = .next u) ∧
    (∀ c u, walkable → s.translate bay a = (.error c, u) → exec (.pageWalk bay va) s = .next u) ∧
    (s.dieUp d = false → exec (.lineFill d ln victim) s = .next s) ∧
    (s.dieUp d = true → Smap.has x.lines ln = true → victim ≠ ln → exec (.lineFill d ln victim) s = .next (s.evict d victim)) ∧
    (∀ q y t, s.dieUp d = true → Smap.has x.lines ln = false → s.requestFor d ln = some (q, y, t) → s.lost t.pa = false →
      s.hasPath t.pa = true → victim ≠ ln →
      exec (.lineFill d ln victim) s = .next ((s.access (s.agent q) y t false).evict d victim)) ∧
    (s.dieUp d = true → Smap.has x.lines ln = false → s.requestFor d ln = none → exec (.lineFill d ln victim) s = .next s) ∧
    (∀ q, s.stageAccs.find? (fun a => a.id = wr) = some q → q.die = d →
      (s.staleAcc q = false → exec (.sliceRetry d (131072 + wr)) s = .next s) ∧
      (s.staleAcc q = true → exec (.sliceRetry d (131072 + wr)) s =
        .next { s.trace (s.stageBay q.ref) 3 0 (Config.traceKind 4) q.addr.toNat with
          stageAccs := s.stageAccs.map (fun a => if a.id = wr then { a with
            gen := x.slicemap
            retried := true } else a) })) ∧
    (∀ e, j < 128 → k < 1024 → (s.slot k).block = some b → b.reads.find? (fun q => q.cap.idx = j) = none →
      b.stores.find? (fun q => q.idx = j) = some e → k / 256 = d →
      (s.staleWrite d e = false → exec (.sliceRetry d (k * 128 + j)) s = .next s) ∧
      (s.staleWrite d e = true → exec (.sliceRetry d (k * 128 + j)) s =
        .next ((s.trace (k / 8) 3 k (Config.traceKind 4) e.addr.toNat).setBlock k { b with
          stores := b.stores.map (fun q => if q.idx = j then { q with gen := some x.slicemap } else q) }))) ∧
    (j < 128 → k < 1024 → (s.slot k).block = some b → b.reads.find? (fun q => q.cap.idx = j) = some r → k / 256 = d →
      (s.staleRead d r = false → exec (.sliceRetry d (k * 128 + j)) s = .next s) ∧
      (s.staleRead d r = true → exec (.sliceRetry d (k * 128 + j)) s =
        .next ((s.trace (k / 8) 3 k (Config.traceKind 4) r.addr.toNat).setBlock k { b with
          reads := b.reads.map (fun q => if q.cap.idx = j then { q with
            gen := x.slicemap
            retried := true } else q) }))) ∧
    (let ready := s.dieUp d = true ∧ slice < 64 ∧ x.capslice.getLsbD slice = true ∧ (∃ i, i < 64 ∧ i ≠ slice ∧ x.capslice.getLsbD i = true) ∧
        (∀ e ∈ s.slots, e.1 / 256 = d → ∀ b, e.2.block = some b →
          (∀ r ∈ b.reads, s.staleRead d r = false) ∧ ∀ q ∈ b.stores, s.staleWrite d q = false) ∧
        ∀ q ∈ s.stageAccs, q.die = d → s.staleAcc q = false;
      (¬ready → exec (.sliceLeaveService d slice) s = .next s) ∧
      (ready → exec (.sliceLeaveService d slice) s =
        .next (((x.lines.filter (fun e => s.sliceOf d e.1 = slice)).foldl (fun t e => t.evict d e.1) s).modDie d (fun x => { x with
          capslice := x.capslice &&& ~~~((1 : Word) <<< slice)
          slicemap := x.slicemap + 1 })))) ∧
    (d ∉ s.dieList ∨ (∀ q ∈ s.writes, q.id ≠ wr) → exec (.writeVisibleOnDie wr d) s = .next s) ∧
    (d ∈ s.dieList → (∃ q ∈ s.writes, q.id = wr) → ∃ t, exec (.writeVisibleOnDie wr d) s = .next t ∧
      (∀ q ∈ t.writes, q.id = wr → d ∈ q.seen) ∧ t.writes.map (fun q => q.id) = s.writes.map (fun q => q.id) ∧ t.slots = s.slots ∧
      t.mem = s.mem ∧ ∀ e, e ≠ d → ∀ p a, t.byteFor e p a = s.byteFor e p a)

/-- 21 R390, R395, R397; 01 R9, R29, R30: failures in service. A retransmission and a power limit change nothing that a program computes;
a link, an edge and a part that fail leave service and are recorded; a stack or a die takes its copy of scheduler memory with it
(21 R396). That a tile is part kind 8, that links 24 and 25 stand for the lanes of the sprue port, which the log does not name, and which
stacks hold the copies is the model's choice (entries 87, 116, 121). -/
def Obligations.Failures : Prop :=
  ∀ (s : State) (n : Nat) (kind : BitVec 8) (limit : BitVec 16),
    let fails (t : State) (step : Nat) (kind : Byte) : State := t.logBoot step kind n 2
      (((s.bootRec kind (BitVec.ofNat 16 n)).map (fun r => r.method.toNat)).getD 0) false
    exec (.linkRetransmit n) s = .next s ∧
    (1024 ≤ n → exec (.powerThrottle n limit) s = .next s) ∧
    (n < 1024 → exec (.powerThrottle n limit) s = .next { s with islands := Smap.put s.islands 0 n limit }) ∧
    (24 ≤ n → exec (.linkOutOfService n) s = .next { s with sprue := s.sprue.filter (fun l => l + 24 != n) }) ∧
    (n < 24 → n ∉ s.links → exec (.linkOutOfService n) s = .next s) ∧
    (n < 24 → n ∈ s.links → exec (.linkOutOfService n) s =
      .next (fails { s with links := s.links.filter (fun l => l != n) } 5 6)) ∧
    (n ∉ s.edges → exec (.edgeFailure n) s = .next s) ∧
    (n ∈ s.edges → exec (.edgeFailure n) s =
      .next (fails { s with edges := s.edges.filter (fun e => e != n) } 4 5).isolate) ∧
    (kind.toNat ∉ [0, 1, 2, 4, 8] → exec (.partFailure kind n) s = .next s) ∧
    (kind = 0 → n < 4 → s.dieUp n = true → exec (.partFailure kind n) s = .next ((fails s (if n = 0 then 2 else 3) 0).failDie n)) ∧
    (kind = 1 → n < 8 → s.dieUp (n / 2) = true → n ∉ s.failedStacks →
      exec (.partFailure kind n) s =
        .next (fails { s with failedStacks := s.failedStacks ++ [n] } (if n / 2 = 0 then 2 else 3) 1).loseMirrors) ∧
    (kind = 2 → n < 128 → s.bayUp n = true → exec (.partFailure kind n) s = .next ((fails s (if n / 32 = 0 then 2 else 3) 2).failBay n)) ∧
    (kind = 4 → s.sliceReady (n / 64) (n % 64) = true →
      exec (.partFailure kind n) s = .next ((fails s (if n / 64 = 0 then 2 else 3) 4).failSlice (n / 64) (n % 64))) ∧
    (kind = 8 → n < 128 → s.bayUp n = true → exec (.partFailure kind n) s =
      .next ((s.bay n).mx.foldl (fun t e => ((t.abandon n e.1 e.2).mxFault n e.1 e.2 cUncorrectable).mxEnd n e.1 e.2)
        (s.modDie (n / 32) (fun x => { x with capmxt := x.capmxt &&& ~~~((1 : BitVec 32) <<< (n % 32)) }))))

/-- 21 R392, R393; 01 R27-R29: the start. The controller's firmware first, at any time, with nothing kept but the boot log; then D0, the other
dies, the edges and the links, one unit at a time: the edges when every die has been tried, the links when every edge has. A unit that
has failed at an earlier start by both methods is skipped, and stays out of service; each outcome is recorded. That a start tries one method
for each unit, as the log plans, and that a new start clears memory and registers, are the model's choice (entries 103, 104). -/
def Obligations.StartSequence : Prop :=
  ∀ (s : State) (p q : Bool) (chip host : BitVec 18) (d n : Nat) (bays tiles : BitVec 32) (slices : BitVec 64) (low high : BitVec 20)
    (banks pages : List Nat) (o : BitVec 2),
    let die := Instr.dieOpen d bays tiles slices low high banks pages
    let dieTurn := (d = 0 ∧ s.startStep = 1 ∧ s.firmwareOk = true) ∨ (d ≠ 0 ∧ d < 4 ∧ (s.startStep = 2 ∨ s.startStep = 3))
    let found := dieTurn ∧ s.wasTried 0 d = false ∧ findingsOk d low high banks pages = true
    let takes (kind : Byte) (unit : Nat) : Bool := decide (s.bootPlan kind unit ≠ 2)
    let bayIn (i : Nat) : Bool := bays.getLsbD i && takes 2 (32 * d + i)
    let lowIn : Bool := low != 0 && takes 1 (2 * d)
    let highIn : Bool := high != 0 && takes 1 (2 * d + 1)
    let works : Prop := takes 0 d = true ∧ (∃ i, i < 32 ∧ bayIn i = true) ∧ (lowIn = true ∨ highIn = true)
    exec (.startController p q chip host) s =
      .next { ({ State.reset with
        agenda := s.agenda
        tick := s.tick
        bootLog := s.bootLog } : State).logBoot 1 7 0 (if p then 0 else if q then 1 else 2) (if p then 0 else 1) true with
          startStep := 1
          chipid := chip
          hostid := host
          sprue := [0, 1] } ∧
    (¬found → exec die s = .next s) ∧
    (found → ¬works → ∃ t, exec die s = .next t ∧ (t.die d).opened = (s.die d).opened ∧
      (d ≠ 0 → (t.die d).failed = true) ∧ t.startStep = s.startStep ∧ t.slots = s.slots ∧ t.mem = s.mem) ∧
    (found → works → ∃ t, exec die s = .next t ∧ (t.die d).opened = true ∧
      (∀ i, i < 32 → (t.die d).capbays.getLsbD i = bayIn i) ∧ (t.die d).capmxt = tiles &&& (t.die d).capbays ∧
      (∀ i, i < 64 → (t.die d).capslice.getLsbD i = (slices.getLsbD i && takes 4 (64 * d + i))) ∧
      (t.die d).capLow = (if lowIn then low else 0) ∧ (t.die d).capHigh = (if highIn then high else 0) ∧
      (t.die d).badPages = pages ∧ (∀ b ∈ banks, b ∈ (t.die d).badBanks) ∧
      t.startStep = (if d = 0 then 2 else 3) ∧ (d = 0 → t.cycle = 0) ∧
      (2 * d ∈ t.failedStacks ↔ 2 * d ∈ s.failedStacks ∨ lowIn = false) ∧
      (2 * d + 1 ∈ t.failedStacks ↔ 2 * d + 1 ∈ s.failedStacks ∨ highIn = false) ∧ t.slots = s.slots ∧ t.mem = s.mem) ∧
    (let turn := 2 ≤ s.startStep ∧ s.startStep ≤ 4 ∧ (∀ e, e < 4 → e ≠ 0 → s.wasTried 0 e = true) ∧ n < 4 ∧ s.wasTried 5 n = false
      let r := s.trainUnit 4 5 n o.toNat
      let t : State := { r.2 with
        startStep := 4
        edges := if r.1 then s.edges ++ [n] else s.edges }
      (¬turn → exec (.edgeTraining n o) s = .next s) ∧
      (turn → exec (.edgeTraining n o) s =
        .next (if (List.range 4).all (fun e => t.wasTried 5 e) then t.isolate else t))) ∧
    (let turn := (s.startStep = 4 ∨ s.startStep = 5) ∧ (∀ e, e < 4 → s.wasTried 5 e = true) ∧ n < 24 ∧ s.wasTried 6 n = false
      let r := s.trainUnit 5 6 n o.toNat
      let t : State := { r.2 with
        startStep := 5
        links := if r.1 then s.links ++ [n] else s.links }
      (¬turn → exec (.linkTraining n o) s = .next s) ∧
      (turn → exec (.linkTraining n o) s =
        .next (if (List.range 24).all (fun l => t.wasTried 6 l) then { t with startStep := 6 } else t)))

/-! ### The steps of the device: moulds and matrix tiles (11 R201-R220; 13 R227-R237; 15 R290; 19 R364, R365) -/

/-- 11 R204, R205, R212, R215, R217; 15 R290; 19 R364: a mould's load ends with its configuration, or with MOULD_INVALID at the first
failing byte; it completes when its sinks are; a token waits at its TK, unless the mould is stopped; a mould whose quantum has run out
and whose place another wants is stopped, spilled when its accesses have been performed, and the next comes in. That ADDR of a MOULD_INVALID is the image plus the offset of the failing
field is the model's choice (entry 42), as is what becomes of a start whose override faults (entry 126). -/
def Obligations.MouldEvents : Prop :=
  ∀ (s u : State) (d e pipe : Nat) (m : Mould),
    let h := 256 + d * 64 + e
    let found := s.mould d e = some m
    let rec_ (c : Byte) (a : Nat) : ImpRec := impRec c 1 m.ctx a h 0
    let failed (t : State) (c : Byte) (a : Nat) : State :=
      let t := m.startWait.foldl (fun t w => t.recordImp d w.1 (.op m.op) (rec_ cMouldInvalid a)) (t.recordImp d m.uid (.op m.op) (rec_ c a))
      let t := t.modMould d e (fun m => { m with
        state := .failed
        startWait := [] })
      if m.drainAsked then t.freeMould d e else t
    let complete := s.mouldComplete d e m = true
    let completed : State := ((s.modMould d e (fun m => { m with
      state := .done
      present := false
      switching := false })).resume d m.loadOrder).sweep d e
    let wanted := ∃ q ∈ (s.die d).moulds, q.1 ≠ e ∧ q.2.state.started = true ∧ q.2.present = false ∧ sharesBay q.2 m = true
    (s.mould d e = none → exec (.mouldLoadDone d e) s = .next s ∧ exec (.mouldComplete d e) s = .next s ∧
      exec (.tokenArrive d e pipe) s = .next s ∧ exec (.quantumExpiry d e) s = .next s) ∧
    (found → m.state ≠ .loading → exec (.mouldLoadDone d e) s = .next s) ∧
    (∀ f, found → m.state = .loading → s.readImage (m.agent d) m.uid h m.image.toNat = (.error f, u) →
      exec (.mouldLoadDone d e) s = .next (failed u f.1 f.2)) ∧
    (∀ img, found → m.state = .loading → s.readImage (m.agent d) m.uid h m.image.toNat = (.ok img, u) →
      (∀ o rest, sortBy id (img.failures u d m.origin) = o :: rest →
        exec (.mouldLoadDone d e) s = .next (failed u cMouldInvalid (m.image.toNat + o))) ∧
      (img.failures u d m.origin = [] → m.startWait = [] → m.drainAsked = false →
        exec (.mouldLoadDone d e) s = .next (u.modMould d e (fun m => { img.configure d m with startWait := [] })))) ∧
    (found → ¬complete → exec (.mouldComplete d e) s = .next s) ∧
    (found → complete → exec (.mouldComplete d e) s = .next completed) ∧
    (found → (m.pipeAt pipe).coming = [] → exec (.tokenArrive d e pipe) s = .next s) ∧
    (∀ t rest, found → (m.pipeAt pipe).coming = t :: rest → exec (.tokenArrive d e pipe) s = .next (s.modMould d e (fun n => n.modPipe pipe (fun q =>
      { q with
        coming := rest
        tk := if m.drainAsked || m.state == .aborting then q.tk else q.tk ++ [t] })))) ∧
    (found → m.present = true → m.state.started = true → complete → exec (.quantumExpiry d e) s = .next completed) ∧
    (found → m.present = true → m.state.started = true → ¬complete → m.switching = false →
      (wanted → ((s.die d).now 0x2008 (s.die d).quantum).toNat ≤ m.quantum →
        exec (.quantumExpiry d e) s = .next (s.modMould d e (fun m => { m with switching := true }))) ∧
      (¬wanted ∨ m.quantum < ((s.die d).now 0x2008 (s.die d).quantum).toNat → exec (.quantumExpiry d e) s = .next s)) ∧
    (found → m.present = true → m.state.started = true → ¬complete → m.switching = true →
      ((∃ a ∈ s.stageAccs, a.die = d ∧ a.entry = e) → exec (.quantumExpiry d e) s = .next s) ∧
      ((∀ a ∈ s.stageAccs, a.die ≠ d ∨ a.entry ≠ e) → s.spillAlloc d m = none →
        exec (.quantumExpiry d e) s = .next (s.modMould d e (fun m => { m with
          switching := false
          quantum := 0 }))) ∧
      (∀ l, (∀ a ∈ s.stageAccs, a.die ≠ d ∨ a.entry ≠ e) → s.spillAlloc d m = some (l, u) →
        exec (.quantumExpiry d e) s = .next ((u.modMould d e (fun m => { m with
          present := false
          switching := false
          spill := l })).resumeBut d m.loadOrder (some e))))

/-- 13 R230-R232, R237: a pass starts when its operand lines are full and no earlier pass is to consume them, in the order of
configuration; it holds its tiles until they are read; its results reach the slots in order; after the last, D is written and marked full,
guarded lines excepted (09 R152), which raise GUARD and are marked all the same, and the key, where there is one, is stamped (15 R297).
03 R52, R53; 13 R227, R228: what a pass adds to a slot. The two halves of K are added one after the other, each the exact sum of its
32 products, rounded once to nearest; with a clear the first half starts the slot; integers wrap in 32 bits. In TB4 the sum of a half is
that of its elements' products, times the two blocks' scales. -/
def Obligations.TilePasses : Prop :=
  (∀ (s : State) (bay i n : Nat) (e : MxEntry) (p : Pass),
     let x := e.form
     let found := s.mxEntry bay i = some e
     let ready := s.mxReady bay e = true ∧ ∀ q ∈ (s.bay bay).mx, ¬(numLower q.2.num e.num = true ∧ s.mxReady bay q.2 = true)
     (s.mxEntry bay i = none → exec (.passStart bay i) s = .next s ∧ exec (.operandRelease bay i n) s = .next s ∧
       exec (.passAccumulate bay i n) s = .next s ∧ exec (.writeOut bay i) s = .next s) ∧
     (found → ¬ready → exec (.passStart bay i) s = .next s) ∧
     (found → ready → e.nextPass = 0 → 128 < x.rowCount →
       exec (.passStart bay i) s = .next ((s.mxFault bay i e cRaggedBounds).mxEnd bay i e)) ∧
     (found → ready → e.nextPass ≠ 0 ∨ x.rowCount ≤ 128 →
       (∀ l, l ∈ x.aTile bay e.nextPass ++ x.bTiles bay e.nextPass → (s.line l).guarded = false) → ∃ t a b bad, exec (.passStart bay i) s = .next t ∧
       t.mxEntry bay i = some { e with
         nextPass := e.nextPass + 1
         passes := e.passes ++ [{ num := e.nextPass, aHeld := true, bHeld := true, accumulated := false, aBytes := a, bBytes := b, bad := bad }] } ∧
       t.accs = s.accs ∧ t.slots = s.slots ∧ t.mem = s.mem) ∧
     (found → e.passes.find? (fun q => q.num = n) = some p →
       (p.aHeld = true → p.bHeld = true → exec (.operandRelease bay i n) s = .next (s.passRelease bay i e p true) ∨
         exec (.operandRelease bay i n) s = .next (s.passRelease bay i e p false)) ∧
       (p.aHeld = true → p.bHeld = false → exec (.operandRelease bay i n) s = .next (s.passRelease bay i e p true)) ∧
       (p.aHeld = false → p.bHeld = true → exec (.operandRelease bay i n) s = .next (s.passRelease bay i e p false)) ∧
       (p.aHeld = false → p.bHeld = false → exec (.operandRelease bay i n) s = .next s) ∧
       (e.accumulated ≠ n ∨ p.aHeld = true ∨ p.bHeld = true → exec (.passAccumulate bay i n) s = .next s) ∧
       (e.accumulated = n → p.aHeld = false → p.bHeld = false → p.bad = true → exec (.passAccumulate bay i n) s =
         .next ((((s.abandon bay i e).mapSlots bay x (fun _ _ _ => 0x7FC00000)).mxFault bay i e cUncorrectable).mxEnd bay i e)) ∧
       (e.accumulated = n → p.aHeld = false → p.bHeld = false → p.bad = false →
         let m := 128 * bLines x.ifmt x.n
         let t := (s.mapSlots bay x (fun r j acc => passElem x.ifmt x.n (x.clears && n = 0) p.aBytes
           ((p.bBytes.drop (m * groupAt x.counts r)).take m) r j acc)).modMx bay i (fun e => { e with
             accumulated := n + 1
             passes := e.passes.filter (fun q => q.num != n) })
         exec (.passAccumulate bay i n) s = .next (if n = x.repeats ∧ x.writes = false then t.mxEnd bay i e else t))) ∧
     (found → x.writes = false ∨ e.accumulated ≠ x.repeats + 1 ∨ (∃ l ∈ x.dTile bay, 0 < (s.line l).holders) →
       exec (.writeOut bay i) s = .next s) ∧
     (found → x.writes = true → e.accumulated = x.repeats + 1 → (∀ l ∈ x.dTile bay, (s.line l).holders = 0) →
       let bytes := (List.range x.rowCount).flatMap (fun r => (List.range x.n).flatMap (fun j =>
         bytesOf (outBytes x.ofmt) (writeOutConv (isIntFmt x.ifmt) x.ofmt (Smap.getD s.accs 0 (accIndex bay x.slot r j)).toNat)))
       let written := ((List.range ((bytes.length + 127) / 128)).foldl (fun t k =>
         let l := (x.dTile bay).getD k 0
         if (t.line l).guarded then t.mxGuard bay i e l else t.storeRun (.op e.op) (padAddr l) ((bytes.drop (128 * k)).take 128)) s).markFull
           e.op (x.dTile bay)
       (x.key = 0 → exec (.writeOut bay i) s = .next (written.mxEnd bay i e)) ∧
       (∀ u, x.key ≠ 0 → written.opStamp (bay / 32) e.launch e.op x.key false = (none, u) →
         exec (.writeOut bay i) s = .next (u.mxEnd bay i e)) ∧
       (∀ c u, x.key ≠ 0 → written.opStamp (bay / 32) e.launch e.op x.key false = (some c, u) →
         exec (.writeOut bay i) s = .next ((u.mxFault bay i e c).mxEnd bay i e)))) ∧
  (∀ (f n : Nat) (clear : Bool) (a b : List Byte) (i j acc : Nat),
     let av (k : Nat) : Nat := natOf ((a.drop ((128 * k + i) * fmtBytes f)).take (fmtBytes f))
     let bv (k : Nat) : Nat := natOf ((b.drop ((n * k + j) * fmtBytes f)).take (fmtBytes f))
     (∀ g, floatOf f = some g → isIntFmt f = false →
       let half (h : Nat) : Val := groupSum ((List.range 32).map (fun k => (g.decode (av (32 * h + k))).mul (g.decode (bv (32 * h + k)))))
       let first := if clear then fp32.round .rne (half 0) else fpAdd .rne acc (fp32.round .rne (half 0))
       passElem f n clear a b i j acc = fpAdd .rne first (fp32.round .rne (half 1))) ∧
     (f = 5 →
       let scale (bs : List Byte) (off r h : Nat) : Nat := natOf ((bs.drop (off + 8 * r + 4 * h)).take 4)
       let elems (bs : List Byte) (off r h : Nat) : List Val := tb4Elems (scale bs off r h) (tb4Codes ((bs.drop (32 * r + 16 * h)).take 16))
       let half (h : Nat) : Val := (groupSum (((elems a 4096 i h).zip (elems b (32 * n) j h)).map (fun p => p.1.mul p.2))).mul
         ((tb4Scale (scale a 4096 i h)).mul (tb4Scale (scale b (32 * n) j h)))
       let first := if clear then fp32.round .rne (half 0) else fpAdd .rne acc (fp32.round .rne (half 0))
       passElem f n clear a b i j acc = fpAdd .rne first (fp32.round .rne (half 1))) ∧
     (f = 8 → acc < 2 ^ 32 →
       let total : Int := ((List.range 64).map (fun k => signedOf 8 (av k) * signedOf 8 (bv k))).sum
       (passElem f n clear a b i j acc : Int) = ((if clear then 0 else (acc : Int)) + total) % (2 ^ 32 : Int)))

/-! ### The steps of the device: ladles (13 R246-R258) -/

/-- 13 R248, R249, R252-R254, R256-R258: a doorbell write queues a detached transfer of context 0 when the channel has room. A channel
checks the transfer at its head and starts it, fails it with TEMPLATE_INVALID, or lets it wait for its mould. A started transfer moves its
next element, or decompresses its next block; with none left it ends. One that waits leaves the state. A block of a wrong
magic, or with PLEN out of range, is DECOMP_FORMAT. That the decoder keeps to the block it has begun while that waits, and that an element of
16 bytes is two accesses, which read what an earlier element has written, are the model's choice (entries 81, 127). -/
def Obligations.LadleEvents : Prop :=
  ∀ (s u w : State) (bay chan : Nat) (data : BitVec 64) (x : Transfer) (rest : List Transfer),
    let v := s.chan bay chan
    let head : Prop := v.queue = x :: rest
    let t := x.t
    let begun (z : State) (y : Transfer) : State := z.setChan bay chan { z.chan bay chan with queue := y :: rest }
    let runs : Prop := x.started = true ∧ s.ctxHeld x.ctx = false
    let bad : Prop := x.fault.isSome = true ∨ t.ok (if x.uid.isNone then 1 else x.key.toNat) = false ∨ s.tmplMoulds (bay / 32) x.ctx t = false
    let rung := data.toNat % 64
    let tmpl := (List.range 64).map (fun j => Smap.getD (s.bay bay).templates 0 (64 * rung + j))
    (s.bayUp bay = false ∨ 8 ≤ chan ∨ 5 ≤ v.queue.length → exec (.ladleDoorbellWrite bay chan data) s = .next s) ∧
    (s.bayUp bay = true → chan < 8 → v.queue.length < 5 → ∃ y, exec (.ladleDoorbellWrite bay chan data) s =
        .next (({ s with
          nextOp := s.nextOp + 1
          opHomes := Smap.insert s.opHomes s.nextOp (.chan bay chan) } : State).setChan bay chan {
          queue := v.queue ++ [y]
          seq := v.seq + 1 }) ∧
      y.op = s.nextOp ∧ y.uid = none ∧ y.detach = true ∧ y.ctx = 0 ∧ y.tmplIdx = rung ∧ y.tmpl = tmpl ∧ y.seq = v.seq ∧ y.started = false ∧
      y.fault = (if 64 ≤ data.toNat ∨ y.t.stamp = true then some cTemplateInvalid else none)) ∧
    (v.queue = [] → exec (.ladleTransferStart bay chan) s = .next s ∧ exec (.decompBlock bay chan) s = .next s ∧
      exec (.ladleTransferComplete bay chan) s = .next s) ∧
    (head → x.started = true ∨ s.ctxHeld x.ctx = true ∨ s.tmplWaits x.ctx t = true → exec (.ladleTransferStart bay chan) s = .next s) ∧
    (head → x.started = false → s.ctxHeld x.ctx = false → s.tmplWaits x.ctx t = false →
      (bad → exec (.ladleTransferStart bay chan) s =
        .next ((begun s { x with started := true }).stopTransfer bay chan x cTemplateInvalid 0 0)) ∧
      (¬bad → s.routeTaken x.ctx t = true → exec (.ladleTransferStart bay chan) s = .next s) ∧
      (¬bad → s.routeTaken x.ctx t = false → exec (.ladleTransferStart bay chan) s =
        .next ((begun s { x with started := true }).setRoute x.ctx t x.op true))) ∧
    (head → ¬runs → exec (.ladleTransferComplete bay chan) s = .next s) ∧
    (head → runs → x.moved = true → exec (.ladleTransferComplete bay chan) s = .next (s.endTransfer bay chan x)) ∧
    (head → runs → x.moved = false → t.decomp = false → t.route = false →
      let n := x.next
      (s.ladleRead bay chan x (t.addr 0 n) t.e = .wait → exec (.ladleTransferComplete bay chan) s = .next s) ∧
      (∀ c, s.ladleRead bay chan x (t.addr 0 n) t.e = .bad c u →
        exec (.ladleTransferComplete bay chan) s = .next (u.stopTransfer bay chan x c (t.addr 0 n) n)) ∧
      (∀ q, s.ladleRead bay chan x (t.addr 0 n) t.e = .ok q u →
        let q := if t.conv then convert .rne t.sfmt t.dfmt q % 2 ^ (8 * t.e') else q
        (u.ladleWrite bay chan x (t.addr 1 n) t.e' q = .wait → exec (.ladleTransferComplete bay chan) s = .next s) ∧
        (∀ c, u.ladleWrite bay chan x (t.addr 1 n) t.e' q = .bad c w →
          exec (.ladleTransferComplete bay chan) s = .next (w.stopTransfer bay chan x c (t.addr 1 n) n)) ∧
        (∀ r, u.ladleWrite bay chan x (t.addr 1 n) t.e' q = .ok r w →
          exec (.ladleTransferComplete bay chan) s = .next (w.modHead bay chan (fun x => { x with next := n + 1 }))))) ∧
    (head → runs → x.moved = false → t.decomp = false → t.route = true → x.next < t.count → t.outBeads ≤ x.drawn →
      exec (.ladleTransferComplete bay chan) s = .next (s.routeFeed bay chan x)) ∧
    (head → runs → x.moved = false → t.decomp = false → t.route = true → t.count ≤ x.next →
      exec (.ladleTransferComplete bay chan) s = .next (s.routeDraw bay chan x)) ∧
    (head → ¬runs ∨ t.decomp = false ∨ x.fault.isSome = true ∨ t.count * t.e / 4096 ≤ x.block ∨ s.decoderTurn bay ≠ some x.op →
      exec (.decompBlock bay chan) s = .next s) ∧
    (head → runs → t.decomp = true → x.fault = none → x.block < t.count * t.e / 4096 → s.decoderTurn bay = some x.op →
      (s.padWaits x.src.toNat 16 = true → exec (.decompBlock bay chan) s = .next (s.modBay bay (fun y => { y with decoder := some x.op }))) ∧
      (∀ c a, s.padWaits x.src.toNat 16 = false → s.readAs (x.agent bay) (x.uid.getD 0) 2 (x.d1 chan) x.src.toNat 16 = (.error (c, a), u) →
        exec (.decompBlock bay chan) s = .next ((u.stopTransfer bay chan x c a x.block).modBay bay (fun y => { y with
          decoder := none
          decoded := x.op }))) ∧
      (∀ h, s.padWaits x.src.toNat 16 = false → s.readAs (x.agent bay) (x.uid.getD 0) 2 (x.d1 chan) x.src.toNat 16 = (.ok h, u) →
        natOf (h.take 2) ≠ 0xC7B4 ∨ natOf ((h.drop 2).take 2) = 0 ∨ 4096 < natOf ((h.drop 2).take 2) →
        exec (.decompBlock bay chan) s = .next ((u.modBay bay (fun y => { y with
          decoder := none
          decoded := x.op })).stopTransfer bay chan x cDecompFormat x.src.toNat x.block)) ∧
      (∀ h body, s.padWaits x.src.toNat 16 = false → s.readAs (x.agent bay) (x.uid.getD 0) 2 (x.d1 chan) x.src.toNat 16 = (.ok h, u) →
        let plen := natOf ((h.drop 2).take 2)
        natOf (h.take 2) = 0xC7B4 → 1 ≤ plen → plen ≤ 4096 → u.padWaits (x.src.toNat + 16) plen = false →
        u.readAs (x.agent bay) (x.uid.getD 0) 2 (x.d1 chan) (x.src.toNat + 16) plen = (.ok body, w) →
        ∀ e raw r r' z z', decodeBlock h body = (e, raw) → w.putBlock bay chan x x.block raw = .ok r z → w.putBlock bay chan x x.block [] = .ok r' z' →
          let free (z : State) : State := z.modBay bay (fun y => { y with
            decoder := none
            decoded := x.op })
          let gone (z : State) (more : List Nat) : State := (free z).modHead bay chan (fun y => { y with
            block := x.block + 1
            next := (x.block + 1) * (4096 / t.e)
            src := BitVec.ofNat 64 (x.src.toNat + (plen + 31) / 16 * 16)
            bad := x.bad ++ more })
          let stops (z : State) : Prop :=
            exec (.decompBlock bay chan) s = .next ((free z).stopTransfer bay chan x cDecompFormat x.src.toNat x.block)
          (e = .good → exec (.decompBlock bay chan) s = .next (gone z [])) ∧
          (e = .checksum → exec (.decompBlock bay chan) s = .next (gone z [x.block]) ∨
            exec (.decompBlock bay chan) s = .next (gone z' [x.block])) ∧
          (e = .format → stops z ∨ stops z')))

/-! ### The steps of the device: the KV engine (17 R329-R345) -/

/-- 17 R329-R333: a SPLICE works when every earlier operation of its sequence is done. It reads and checks its records, waits for absent
blocks, reserves its fresh blocks, makes the row step of each layer in turn, and writes LEN. A fault stops it; a block absent for 2^20
cycles is KV_ABSENT. A step that would write to a page that is being migrated waits (21 R387).
17 R336-R341: a REPAIR reads its records, waits for absent blocks and lists its candidates; with none it is done, else it pushes its
first probe task. When the task has retired, the engine sees what it did, stops with KV_STALE where a block went stale, and goes on to
the next probe, the comparison and classification, or the next layer. A step that would write to a page that is being migrated waits (21
R387).
17 R309, R313, R342-R345: KATT takes its snapshot with its first step. A block goes to a crucible of its stack, which merges its tokens, or
defers it while the column's FRONTIER is not above the layer; an absent or deferred block is looked at again, and left out with KV_ABSENT
after 2^20 cycles, if it is out of reach still, but for one deferred while a REPAIR of the sequence is incomplete. A fault of the map ends it
with nothing written. When no block is left the output area is written, the header last. A step that would write
to a page that is being migrated waits (21 R387). That the token of an operation that faulted or is incomplete carries FAULT, that the
padding of a partial stays as it was, and how the crucibles of another chip are numbered, is the model's choice (entries 78, 79, 80). -/
def Obligations.KvOperations : Prop :=
  (∀ (s u w : State) (op : Nat) (o x : KvOp),
     let found : Prop := s.kvop op = some o
     let turn : Prop := found ∧ o.kind = .splice ∧ s.kvTurn o = true
     let put (t : State) (o : KvOp) : State := { t with kvops := Smap.insert t.kvops o.op o }
     let comes (i : Instr) (t : State) : Prop := exec i s = .next (if t.blockedSince s.nextWrite then s else t)
     let len := o.seq.addr + 16
     (s.kvop op = none → exec (.spliceRun op) s = .next s ∧ exec (.spliceAbsentTimeout op) s = .next s) ∧
     (found → o.kind ≠ .splice ∨ s.kvTurn o = false → exec (.spliceRun op) s = .next s) ∧
     (turn → o.phase = .queued →
       (∀ f, s.spliceRead o = (.error f, u) → comes (.spliceRun op) (u.kvStop o f)) ∧
       (s.spliceRead o = (.ok x, u) → comes (.spliceRun op) (put u { x with phase := .waiting }))) ∧
     (turn → o.phase = .waiting → o.since = [] →
       (∀ f, s.spliceReserve o o.seq o.doc = (.error f, u) → comes (.spliceRun op) (u.kvStop o f)) ∧
       (s.spliceReserve o o.seq o.doc = (.ok x, u) → comes (.spliceRun op) (put u x))) ∧
     (turn → o.phase = .waiting → o.since ≠ [] →
       (∀ f, s.spliceAgain o = (.error f, u) → comes (.spliceRun op) (u.kvStop o f)) ∧
       (s.spliceAgain o = (.ok x, u) → x.since ≠ [] → comes (.spliceRun op) (put u x)) ∧
       (∀ f, s.spliceAgain o = (.ok x, u) → x.since = [] → u.spliceReserve x x.seq x.doc = (.error f, w) →
         comes (.spliceRun op) (w.kvStop o f)) ∧
       (∀ y, s.spliceAgain o = (.ok x, u) → x.since = [] → u.spliceReserve x x.seq x.doc = (.ok y, w) →
         comes (.spliceRun op) (put w y))) ∧
     (∀ l, turn → o.phase = .layer l → l < o.seq.lay.layers →
       (s.rowWaits o o.seq l = true → exec (.spliceRun op) s = .next s) ∧
       (∀ f, s.rowWaits o o.seq l = false → s.spliceLayer o o.seq o.doc l = (.error f, u) → comes (.spliceRun op) (u.kvStop o f)) ∧
       (s.rowWaits o o.seq l = false → s.spliceLayer o o.seq o.doc l = (.ok x, u) →
         comes (.spliceRun op) (put u x) ∧ x.phase = .layer (l + 1))) ∧
     (∀ l, turn → o.phase = .layer l → o.seq.lay.layers ≤ l →
       (s.wrWaits o.reader len 4 = true → exec (.spliceRun op) s = .next s) ∧
       (∀ c, s.wrWaits o.reader len 4 = false → s.wr o.reader len 4 (o.len + o.t) (s.releaseDeps o.agent.party o.die 3) = (.error c, u) →
         comes (.spliceRun op) (u.kvStop o (c, 0, 0))) ∧
       (s.wrWaits o.reader len 4 = false → s.wr o.reader len 4 (o.len + o.t) (s.releaseDeps o.agent.party o.die 3) = (.ok (), u) →
         comes (.spliceRun op) (u.kvEnd o))) ∧
     (found → (∀ y ∈ o.since, s.cycle < y.2 + 2 ^ 20 ∨ s.stillAbsent o y.1 = false) ∨ o.phase ≠ .waiting ∨ o.kind = .katt → exec (.spliceAbsentTimeout op) s = .next s) ∧
     (∀ y, found → o.since = [y] → y.2 + 2 ^ 20 ≤ s.cycle → s.stillAbsent o y.1 = true → o.phase = .waiting → o.kind ≠ .katt →
       exec (.spliceAbsentTimeout op) s = .next (s.kvStop o (cKvAbsent, y.1 / 2 % 2 ^ 25, y.1 / 2 ^ 26)))) ∧
  (∀ (s u w : State) (op l : Nat) (o x : KvOp) (a : Word),
     let found : Prop := s.kvop op = some o
     let turn : Prop := found ∧ o.kind = .repair ∧ s.kvTurn o = true
     let put (t : State) (o : KvOp) : State := { t with kvops := Smap.insert t.kvops o.op o }
     let comes (i : Instr) (t : State) : Prop := exec i s = .next (if t.blockedSince s.nextWrite then s else t)
     let seen := s.observe o.die o.agent.party (s.launch o.launch).deps
     let layerDone := s.layerDone o l
     (s.kvop op = none → exec (.repairStart op) s = .next s ∧ exec (.repairTaskRetired op) s = .next s) ∧
     (found → ¬turn → exec (.repairStart op) s = .next s) ∧
     (∀ f, turn → o.phase = .queued → s.repairRead o = (.error f, u) →
       comes (.repairStart op) (u.kvStop ((u.kvop o.op).getD o) f)) ∧
     (turn → o.phase = .queued → s.repairRead o = (.ok x, u) → x.since ≠ [] →
       comes (.repairStart op) (put u { x with phase := .waiting })) ∧
     (turn → o.phase = .queued → s.repairRead o = (.ok x, u) → x.since = [] →
       let cols := x.cols.filter (fun b => u.candidate x b)
       let todo := cols.flatMap (columnPositions (x.row 0))
       (todo = [] → comes (.repairStart op) (u.kvEnd { x with phase := .finishing })) ∧
       (∀ y, todo ≠ [] → 0 < x.probes → u.pushRepair { x with
           cols := cols
           todo := todo
           phase := .probe 0
           task := none } = (.ok y, w) → y.phase = .probe 0 → comes (.repairStart op) (put w y))) ∧
     (turn → o.phase = .waiting → s.repairAgain o = (.ok x, u) → x.since ≠ [] → x.phase = .waiting →
       comes (.repairStart op) (put u x)) ∧
     (found → (o.phase = .probe l ∨ o.phase = .repair l) → o.task = some a → s.recordAlive o.launch a = true →
       exec (.repairTaskRetired op) s = .next s) ∧
     (found → o.phase = .probe l → o.task = some a → s.recordAlive o.launch a = false →
       (∀ f, seen.columnsFresh o o.cols = (.error f, u) →
         comes (.repairTaskRetired op) (u.kvStop ((u.kvop o.op).getD o) f)) ∧
       (seen.columnsFresh o o.cols = (.ok (), u) → l + 1 < o.probes →
         ∀ y, u.pushRepair { o with
           phase := .probe (l + 1)
           task := none } = (.ok y, w) → y.phase = .probe (l + 1) → comes (.repairTaskRetired op) (put w y)) ∧
       (seen.columnsFresh o o.cols = (.ok (), u) → o.probes ≤ l + 1 → ∀ marked, u.repairMarks { o with
           phase := .probe (l + 1)
           task := none } = (.ok marked, w) →
         let z := w.classify { o with
           phase := .probe (l + 1)
           task := none
           marked := marked }
         (z.1.phase = .finishing → comes (.repairTaskRetired op) (z.2.kvEnd z.1)) ∧
         (z.1.phase = .repair 0 → ∀ y t, z.2.pushRepair z.1 = (.ok y, t) → y.phase = .repair 0 →
           comes (.repairTaskRetired op) (put t y)))) ∧
     (found → o.phase = .repair l → o.task = some a → s.recordAlive o.launch a = false →
       seen.columnsFresh o o.markedCols = (.ok (), u) →
       (o.rows.length ≤ l + 1 → comes (.repairTaskRetired op) ((u.layerDone o l).2.kvEnd (u.layerDone o l).1)) ∧
       (l + 1 < o.rows.length → ∀ y t, (u.layerDone o l).2.pushRepair (u.layerDone o l).1 = (.ok y, t) → y.phase = .repair (l + 1) →
         comes (.repairTaskRetired op) (put t y))) ∧
     (l + 1 < o.rows.length → layerDone.1 = { o with
         phase := .repair (l + 1)
         task := none } ∧ layerDone.2 = s.writeColumns o o.markedCols (fun _ m k => { (if m = l then k.setWord 2 true else k) with
           frontier := l + 1 }))) ∧
  (∀ (s u : State) (op blk crucible : Nat) (o x : KvOp) (kb : KvBlock),
     let found : Prop := s.kvop op = some o ∧ o.kind = .katt
     let put (t : State) (o : KvOp) : State := { t with kvops := Smap.insert t.kvops o.op o }
     let comes (i : Instr) (t : State) : Prop := exec i s = .next (if t.blockedSince s.nextWrite then s else t)
     let fails (t : State) (o : KvOp) (f : KvFault) : State := if f.1 = cKvMapInvalid then t.kvStop o f else t.kattFail o f
     let given : Prop := ∃ g ∈ o.given, g.1 = blk
     let late : Prop := ∃ y ∈ o.since, y.1 = blk
     let due : Prop := (∃ y ∈ o.since, y.1 = blk ∧ y.2 + 2 ^ 20 ≤ s.cycle) ∧ s.kattAway o blk = true
     let repairs : Prop := ∃ q ∈ s.kvops, q.2.kind = .repair ∧ q.2.a0 = o.a0
     let left := { o with
       incomplete := true
       todo := o.todo.filter (fun b => b != blk)
       since := o.since.filter (fun y => y.1 != blk) }
     let c := kb.crucible crucible
     let isLate := o.since.any (fun y => y.1 = blk)
     (s.kvop op = none → exec (.crucibleBlock op blk crucible) s = .next s ∧ exec (.kattRevisit op blk crucible) s = .next s ∧
       exec (.kattAbsentTimeout op blk) s = .next s ∧ exec (.kattComplete op) s = .next s) ∧
     (found → o.phase = .finishing → exec (.crucibleBlock op blk crucible) s = .next s ∧ exec (.kattRevisit op blk crucible) s = .next s) ∧
     (found → o.phase = .queued → s.kattOpen o = (.ok x, u) → comes (.kattRevisit op blk crucible) (put u x)) ∧
     (∀ f, found → o.phase = .queued → s.kattOpen o = (.error f, u) →
       comes (.kattRevisit op blk crucible) (fails u o f) ∧ comes (.crucibleBlock op blk crucible) (fails u o f)) ∧
     (found → o.phase = .attend → blk ∉ o.todo ∨ given → comes (.crucibleBlock op blk crucible) (put s o)) ∧
     (found → o.phase = .attend → blk ∈ o.todo → ¬given → s.kattBlock o blk = (some kb, u) → u.crucibleOk o kb c isLate = false →
       comes (.crucibleBlock op blk crucible) (put u o)) ∧
     (found → o.phase = .attend → blk ∈ o.todo → ¬given → s.kattBlock o blk = (some kb, u) → u.crucibleOk o kb c isLate = true →
       (∀ v, u.giveBlock o blk c kb = (.ok x, v) → comes (.crucibleBlock op blk crucible) (put v x)) ∧
       (∀ f v, u.giveBlock o blk c kb = (.error f, v) → comes (.crucibleBlock op blk crucible) (fails v o f))) ∧
     (found → o.phase = .attend → ¬late → comes (.kattRevisit op blk crucible) (put s o)) ∧
     (∀ c y v, found → o.phase = .attend → late → o.given = [(blk, c)] → s.kattBlock o blk = (some kb, u) → u.giveBlock o blk c kb = (.ok y, v) →
       comes (.kattRevisit op blk crucible) (put v y)) ∧
     (found → o.phase ≠ .attend ∨ ¬due ∨ (given ∧ repairs) → exec (.kattAbsentTimeout op blk) s = .next s) ∧
     (found → o.phase = .attend → due → ¬(given ∧ repairs) → exec (.kattAbsentTimeout op blk) s =
       .next (put (s.opFault (o.bay / 32) (if o.detach then none else some o.uid) o.op
         (impRec cKvAbsent 5 o.ctx o.a0.toNat blk o.kattLayer)) left)) ∧
     (found → o.phase ≠ .queued → o.todo ≠ [] → comes (.kattComplete op) (put s o)) ∧
     (found → o.phase ≠ .queued → o.todo = [] → (∃ e ∈ o.outWords, s.wrWaits o.reader e.1 4 = true) →
       comes (.kattComplete op) (put s o)) ∧
     (found → o.phase ≠ .queued → o.todo = [] → (∀ e ∈ o.outWords, s.wrWaits o.reader e.1 4 = false) →
       (∀ f, s.writeOut o o.outWords = (.error f, u) → comes (.kattComplete op) (if o.fault.isSome then u.kvEnd o else u.kattFail o f)) ∧
       (s.writeOut o o.outWords = (.ok (), u) → comes (.kattComplete op) ((if o.sel.getLsbD 22 then u.markFull o.op (outLines o.outWords) else u).kvEnd o))) ∧
     (o.fault = none → o.crucibles ≠ [] → ∃ parts, o.outWords = parts ++
       [(o.out + 8, 0), (o.out + 12, 0), (o.out + 4, if o.incomplete then 1 else 0), (o.out, o.crucibles.length)]) ∧
     (o.fault ≠ none → o.outWords = [(o.out + 8, 0), (o.out + 12, 0), (o.out + 4, 2), (o.out, 0)]) ∧
     (∀ k, s.kvBlockOf (kb.die o.die) o.agent.party ((o.docRow 0).getD blk 0) = (.ok k, u) → u.blockStale (kb.die o.die) k = false →
       (k.frontier ≤ o.kattLayer → ∃ y, s.giveBlock o blk c kb = (.ok y, u) ∧ y.todo = o.todo ∧ ∃ g ∈ y.given, g.1 = blk) ∧
       (o.kattLayer < k.frontier → k.addr = none ∨ (u.lost k.page = false ∧ u.poisoned k.page 65536 = false) →
         ∃ y t, s.giveBlock o blk c kb = (.ok y, t) ∧ y.todo = o.todo.filter (fun b => b != blk) ∧ y.given = o.given)))

/-! ### The steps of the device: other chips, watchdogs, traces, scrubs, contexts and migrations (15 R300; 19 R366-R374; 21 R386-R390) -/

/-- 15 R300; 21 R390: this device answers a query of a key it owns with the state of its entry under D0's table and PRODV 0. The answer to
a remote HMTEST or AWAIT finishes it or faults it; one that is not ready leaves an AWAIT waiting. An access that has had no path for
10 ms is LINK_FAULT: precise for a read or the fetch of a block, imprecise for a write, which is not made. That a time-out may come at
any step without a path, that an atomic not made has a free result, and the fields of its record are the model's choice (entries 77, 16,
107). -/
def Obligations.RemoteChips : Prop :=
  ∀ (s u : State) (chip : BitVec 18) (key sel ans : BitVec 64) (k idx home pa : Nat) (b : Block) (c : Capture) (e : StoreEntry) (r : ReadInFlight),
    let ask : Instr := .remoteHallmarkQuery chip key sel
    let here : Prop := s.links ≠ [] ∧ chip ≠ s.chipid ∧ keyOk key.toNat = true
    let gen (v : Option HmView) : BitVec 16 := (v.map (fun v => v.gen)).getD 0
    let word (ready none_ : Bool) (g : BitVec 16) : Word := BitVec.ofNat 64 ((if ready then 1 else 0) + (if none_ then 2 else 0) + g.toNat * 2 ^ 16)
    let n := ans.toNat
    let cause : Option Byte := if n / 8 % 2 = 1 then some cLinkFault else if n / 4 % 2 = 1 then some cHmStale
      else if n / 2 % 2 = 1 then some cHmUndeclared else none
    let x : Firing := { slot := k, idx := idx, b := b, cap := c }
    let tests : Prop := (s.slot k).block = some b ∧ (s.slot k).firing b = true ∧ opOf (b.word idx) = 0x6E ∧ c.idx = idx ∧
      b.replay = [c] ∧ selRemote c.r.toNat = true
    let awaits : Prop := (s.slot k).block = some b ∧ (s.slot k).firing b = false ∧ (s.slot k).waitsIn 0x6D = some idx ∧ b.held = [c] ∧
      c.idx = idx ∧ selRemote c.r.toNat = true
    let cut (va : Nat) (pa : Nat) : Prop := s.cutAddr k va = (some pa, u)
    let sel17 := sel.toNat % 2 ^ 17
    let same (w : RemoteWait) : Bool := w.chip = chip.toNat && w.key = key.toNat && w.sel = sel17
    let waiter : RemoteWait := (s.remoteWaits.find? same).getD { chip := chip.toNat, key := key.toNat, sel := sel17, fixed := none, answer := 0 }
    let answers (t : State) (a : Word) : Prop := exec ask s = .next { t with
      remoteWaits := s.remoteWaits.filter (fun w => !same w)
      reply := [a] }
    let held := s.restoreBound k
    (¬here → exec ask s = .next s) ∧
    (∀ f, here → s.keyHome 0 key.toNat = (.error f, u) → answers u 8) ∧
    (∀ v g w, here → s.keyHome 0 key.toNat = (.ok home, u) →
      (u.awaitEval 0 key.toNat sel17 waiter.fixed = (.wait, v, g, w) →
        exec ask s = .next { w with
          remoteWaits := s.remoteWaits.filter (fun w => !same w) ++ [{ waiter with
            fixed := g
            answer := word false false (gen v) }]
          reply := [word false false (gen v)] }) ∧
      (u.awaitEval 0 key.toNat sel17 waiter.fixed = (.undeclared, v, g, w) → answers w 2) ∧
      (u.awaitEval 0 key.toNat sel17 waiter.fixed = (.stale, v, g, w) → answers w (4 ||| word false false (gen v))) ∧
      (∀ deps, u.awaitEval 0 key.toNat sel17 waiter.fixed = (.ready deps, v, g, w) → (∀ h, v = some h → h.sys = false) →
        answers w (word true false (gen v))) ∧
      (∀ deps h, u.awaitEval 0 key.toNat sel17 waiter.fixed = (.ready deps, some h, g, w) → h.sys = true →
        answers ((w.meet chip.toNat).observe (6 + chip.toNat) (.peer chip.toNat) deps) (word true false h.gen))) ∧
    (s.links = [] → exec (.remoteHallmarkReport k idx ans) s = .next s) ∧
    (s.links ≠ [] → tests →
      (∀ f, cause = some f → exec (.remoteHallmarkReport k idx ans) s = .next (x.fault f s)) ∧
      (cause = none → exec (.remoteHallmarkReport k idx ans) s =
        .next (x.finish (targets (b.word idx)) (word (n % 2 = 1) false (BitVec.ofNat 16 (n / 2 ^ 16))) s))) ∧
    (s.links ≠ [] → awaits →
      (∀ f, cause = some f → exec (.remoteHallmarkReport k idx ans) s = .next ((s.commitFault k idx f).endWait k idx true)) ∧
      (cause = none → exec (.remoteHallmarkReport k idx ans) s = .next (if n % 2 = 1 then s.endWait k idx false else s))) ∧
    (s.links = [] → tests → (s.slot k).stalled = none → ((s.slot k).fetches = true → idx ≠ 255) →
      exec (.linkPathTimeout k idx) s = .next (x.fault cLinkFault s)) ∧
    (s.links = [] → awaits → (s.slot k).stalled = none → ((s.slot k).fetches = true → idx ≠ 255) →
      exec (.linkPathTimeout k idx) s = .next ((s.commitFault k idx cLinkFault).endWait k idx true)) ∧
    ((s.slot k).stalled = some (b, e) → cut e.addr.toNat pa → e.idx = idx → exec (.linkPathTimeout k idx) s =
      .next (((u.recordImp (k / 256) (u.slot k).uid (u.agent k).party (impRec cLinkFault 9 (u.agent k).ctx pa (pa / 2 ^ 32 % 2 ^ 18) 0)).writeTarget k
        (b.word e.idx) (Config.freeWord u.tick 0)).modBlock k (fun b => { b with
          stores := b.stores.filter (fun q => q.idx != e.idx)
          pos := .writes (e.idx + 1)
          waiting := none }))) ∧
    ((s.slot k).stalled = none → (s.slot k).fetches = true → (held.slot k).fetches = true →
      held.cutAddr k (held.slot k).pc.toNat = (some pa, u) → exec (.linkPathTimeout k 255) s =
        .next ((u.modSlot k (fun sl => { sl with
          status := .running
          popped := none
          resume := none })).takeTrap k (blockAt (held.slot k).pc false ((held.slot k).ctxid == 0)) false cLinkFault 0xFF 0 0 0x80)) ∧
    ((s.slot k).stalled = none → (s.slot k).fetches = false → s.links = [] → s.remoteTest k idx = none → (s.slot k).remoteAwait idx = false →
      (s.slot k).block = some b → (s.slot k).firing b = true → b.reads.find? (fun q => q.cap.idx = idx) = some r → cut r.addr.toNat pa →
      exec (.linkPathTimeout k idx) s = .next (({ slot := k, idx := idx, b := b, cap := r.cap } : Firing).fault cLinkFault u))

/-- 19 R368, R369, R371, R372, R374: a cycle that brings a task's counts to an interval makes its watchdog due with them; then, where no wait
that is ready has ended the task's stay, it is checkpointed or frozen, and WATCHDOG is queued with those counts. The trace stops when POST records have followed its trigger. A correctable error is counted in CECOUNT and changes nothing else;
an uncorrectable one poisons the granule, freezes the slot's task with the register or operand spoilt, aborts the mould, or spoils the
slot's values, and is queued; a clean copy is dropped, to be fetched again, and a word of scheduler memory is corrected from the other copy
while there is one. That the ADDR of an array without addresses is free, that the watchdog fires after the cycle that made it due, that
records are delivered again in their order, that a task bound to an image is restored first, and where the copies lie is the model's choice
(entries 16, 101, 102, 105, 121). -/
def Obligations.WatchAndScrub : Prop :=
  ∀ (s u : State) (k bay kind addr w c : Nat) (t : Task),
    let sl := s.slot k
    let d := k / 256
    let watched (sl : Slot) : Prop := sl.task.isSome = true ∧ sl.status ≠ .idle ∧ (∀ q, sl.status ≠ .frozen q) ∧ ∀ q a, sl.status ≠ .saving q a
    let r := (s.wake k).restoreBound k
    let rl := r.slot k
    let acts (i : Instr) (t : State) : Prop := exec i s = .next (if t.blockedSince s.nextWrite then s else t)
    let note (s : State) (addr : Nat) : State :=
      s.pushFault d (.task rl.uid) { impRec cWatchdog 8 rl.ctxid addr w c with owner := some k }
    let fresh (s : State) : State := s.modSlot k (fun sl => { sl with
      wCount := 0
      due := none })
    let frozen (s : State) : State := (note (fresh s) rl.taskrec.toNat).modSlot k (fun sl => { sl with status := .frozen false })
    let found (kind : Nat) (d a : Nat) (ctx : BitVec 6) : Nat → State → State := fun b s =>
      s.pushFault d (.device d) (impRec cUncorrectable 7 ctx (if b = 0 then a else (Config.freeWord s.tick 0).toNat) kind 0)
    let poison (s : State) : State := { s with poison := if s.poison.contains (addr / 8) then s.poison else s.poison ++ [addr / 8] }
    (∀ x wd, watched x → x.task = some t → x.due = none → x.progressed = false →
      (x.tick true wd).wCount = x.wCount + 1 ∧ (x.tick true wd).tCount = x.tCount + 1 ∧
      ((x.tick true wd).due = some (x.wCount + 1, x.tCount + 1) ↔
        wd ≤ x.wCount + 1 ∨ (t.flags.getLsbD 2 = false ∧ 256 * wd ≤ x.tCount + 1))) ∧
    (sl.due = none → exec (.watchdogFire k) s = .next s) ∧
    (sl.due = some (w, c) → ¬watched rl → exec (.watchdogFire k) s = .next (r.modSlot k (fun sl => { sl with due := none }))) ∧
    (sl.due = some (w, c) → watched rl → rl.task = some t → t.flags.getLsbD 1 = false → acts (.watchdogFire k) (frozen r)) ∧
    (sl.due = some (w, c) → watched rl → rl.task = some t → t.flags.getLsbD 1 = true →
      (r.takeImage d = (none, u) → acts (.watchdogFire k) (frozen u)) ∧
      (∀ img pa, r.takeImage d = (some (img, pa), u) → acts (.watchdogFire k) ((note (fresh u) img).saveTask k img pa))) ∧
    ((s.bay bay).postLeft ≠ some 0 → exec (.tracePostFreeze bay) s = .next s) ∧
    ((s.bay bay).postLeft = some 0 → exec (.tracePostFreeze bay) s = .next (s.modBay bay (fun y => { y with
      tracectl := (y.tracectl ||| 0x8000) &&& ~~~(0x1000 : Word)
      postLeft := none }))) ∧
    (s.scrubbed kind addr = false → exec (.scrub kind addr true) s = .next s ∧ exec (.scrub kind addr false) s = .next s) ∧
    (s.scrubbed kind addr = true → exec (.scrub kind addr true) s = .next (s.modDie (scrubDie kind addr) (fun x => { x with
      cecount := BitVec.ofNat 32 (min (2 ^ 32 - 1) (x.cecount.toNat + 1)) }))) ∧
    (s.scrubbed 0 addr = true → exec (.scrub 0 addr false) s =
      .next (found 0 (padBay addr / 32) addr (s.line (padLine addr)).owner 0 (poison s))) ∧
    (addr < 1024 * 448 →
      let h := addr % 1024
      let granule := addr / 1024
      ((s.slot h).task = none → exec (.scrub 1 addr false) s = .next s) ∧
      ((s.slot h).task ≠ none →
        exec (.scrub 1 addr false) s = .next ((found 1 (h / 256) 0 (s.slot h).ctxid 1 (s.restoreBound h)).modSlot h (fun sl => { sl with
          badRegs := if granule = 0 ∨ granule ∈ sl.badRegs then sl.badRegs else sl.badRegs ++ [granule]
          status := if sl.isFrozen then sl.status else .frozen false })))) ∧
    (∀ m, s.mould (addr / 64) (addr % 64) = some m → exec (.scrub 2 addr false) s =
      .next ((found 2 (addr / 64) 0 m.ctx 1 s).abortMould (addr / 64) (addr % 64))) ∧
    (∀ e, addr < 512 → s.slotUser (addr / 4) (addr % 4) = some e → exec (.scrub 3 addr false) s =
      .next ((List.range e.form.slots).foldl (fun s i => s.spoilSlot (addr / 4 * 4 + e.form.slot + i)) (found 3 (addr / 128) 0 e.ctx 1 s))) ∧
    (addr < 512 → s.slotUser (addr / 4) (addr % 4) = none → exec (.scrub 3 addr false) s = .next (s.spoilSlot addr)) ∧
    (s.scrubbed 4 addr = true →
      let ln := addr / 128
      let t := (List.range 128).foldl (fun t b => t.modBay b (fun y => { y with
        bcache := y.bcache.filter (fun e => e.1 / 128 != ln)
        l1 := y.l1.filter (fun l => l != ln) })) s
      (Smap.find (t.die (paStack addr / 2)).lines ln = some false → exec (.scrub 4 addr false) s = .next (t.evict (paStack addr / 2) ln)) ∧
      (Smap.find (t.die (paStack addr / 2)).lines ln ≠ some false → exec (.scrub 4 addr false) s = .next t)) ∧
    (s.scrubbed 6 addr = true →
      (addr < 2 ^ 20 → 2 ≤ s.mirrors.length → exec (.scrub 6 addr false) s = .next s) ∧
      (2 ^ 20 ≤ addr ∨ s.mirrors.length < 2 → exec (.scrub 6 addr false) s = .next ((found 6 0 0 0 1 s).redeliver))) ∧
    (s.scrubbed 5 addr = true → exec (.scrub 5 addr false) s = .next (found 5 (paStack addr / 2) addr 0 0 (poison s)))

/-- 19 R366, R367: a save or a restore of a context goes on one object at a time. A save takes the tasks first, then, when the operations
that complete are over, moulds, entries and transfers; at the end it clears BUSY, and sets ERR if the area has no translation. A restore
gives each back, and popping of the context resumes when all have returned. A step that would write to a page that is being migrated waits
(21 R387). That the objects lie in places of 16 KiB after the directory, that a save waits for the KV operations of the context, that a
wait that is over, or an image that is bound, comes before the save of its task, and that frozen tasks are saved, to come back running, is
the model's choice (entries 17, 85, 105, 106). -/
def Obligations.ContextSwitches : Prop :=
  ∀ (s u : State) (w : CtxSwitch) (k : Nat),
    let c := w.ctx
    let tasks := s.ctxSlots c
    let at_ := (w.area + 2 ^ 14 - 1) / 2 ^ 14 * 2 ^ 14 + 2 ^ 18 + 2 ^ 14 *
      (w.saved.images.length + w.saved.moulds.length + w.saved.entries.length + w.saved.transfers.length)
    let acts (t : State) : Prop := exec .ctxswComplete s = .next (if t.blockedSince s.nextWrite then s else t)
    let idle (s : State) : State := { s with
      ctxSwitch := none
      ctxsw := s.ctxsw &&& ~~~(0x100 : Word) }
    (s.ctxSwitch = none → exec .ctxswComplete s = .next s) ∧
    (s.ctxSwitch = some w → w.restore = false → tasks.find? (fun k => (s.slot k).ctxSavable) = some k →
      let r := (s.wake k).restoreBound k
      let goes : Prop := (r.slot k).task ≠ none ∧ (r.slot k).ctxSavable = true
      let stops (u : State) : State := { u with
        ctxSwitch := none
        ctxsw := (u.ctxsw &&& ~~~(0x100 : Word)) ||| 0x80
        savedCtx := Smap.insert u.savedCtx w.area w.saved }
      (¬goes → acts r) ∧
      (∀ pa, goes → r.deviceAddr w.die at_ = (.ok pa, u) → u.lost pa = false → acts { (({ u with
          areaImages := u.areaImages ++ [at_] } : State).saveTask k at_ pa) with
        ctxSwitch := some { w with
          saved := { w.saved with images := w.saved.images ++ [at_] } } }) ∧
      (∀ pa, goes → r.deviceAddr w.die at_ = (.ok pa, u) → u.lost pa = true → acts (stops u)) ∧
      (∀ f, goes → r.deviceAddr w.die at_ = (.error f, u) → acts (stops u))) ∧
    (s.ctxSwitch = some w → w.restore = false → tasks.find? (fun k => (s.slot k).ctxSavable) = none → tasks ≠ [] ∨ s.ctxHeld c = false →
      exec .ctxswComplete s = .next s) ∧
    (s.ctxSwitch = some w → w.restore = false → tasks = [] → s.ctxHeld c = true → (s.stopMoulds c).ctxMoulds c = [] →
      (s.stopMoulds c).ctxEntries c = [] → (s.stopMoulds c).ctxTransfer c = none →
      acts ((s.stopMoulds c).writeDirectory w)) ∧
    (∀ img rest p, s.ctxSwitch = some w → w.restore = true → w.saved.images = img :: rest → Smap.find s.parked img = some p → p.gang = none →
      acts { s.pushImage p.qDie img with
        ctxSwitch := some { w with
          saved := { w.saved with images := rest } } }) ∧
    (s.ctxSwitch = some w → w.restore = true → w.saved.images = [] → w.saved.moulds = [] → w.saved.entries = [] → w.saved.transfers = [] →
      acts { idle s with
        savedCtx := Smap.erase s.savedCtx w.area
        stoppedCtx := s.stoppedCtx.filter (fun q => q != w.ctx) })

/-- 07 R125; 21 R386, R387: MIGRATE's effect forks the migration and begins it: a page with no translation, or a frame that cannot take
it, is its fault, and ends it. The steps follow one another: shootdown, the copy with the leaves switched and the counter cleared,
shootdown again with WB cleared. A shootdown waits for the writes issued through what it removes (07 R123; 09 R140), a copy for a path (21
R390). One that meets lost or poisoned memory, or has had no path for 10 ms, ends at the old frame: the model's choice (entries 29, 59). -/
def Obligations.Migrations : Prop :=
  ∀ (s u : State) (op k : Nat) (b : Block) (c : Capture) (m : Migration),
    let found : Prop := s.mig op = some m
    let f := s.forked k c.idx (some (.migration (k / 8))) true [0, 1, 2, 3]
    let put (t : State) (op : Nat) (m : Migration) : State := { t with migs := Smap.insert t.migs op m }
    let fails (t : State) (op : Nat) (m : Migration) (cause : Byte) : State :=
      ({ (t.opFault (m.bay / 32) (some m.uid) op (impRec cause 10 m.ctx m.va.toNat m.dest.toNat 0)) with
        migs := Smap.erase (t.opFault (m.bay / 32) (some m.uid) op (impRec cause 10 m.ctx m.va.toNat m.dest.toNat 0)).migs op }).opDone (some m.uid) op
    let shoot (t : State) (op : Nat) (m : Migration) : State := (List.range m.leaves).foldl
      (fun t i => t.shootdown (some (m.va.toNat / 2 ^ 16 + i))) (t.revealOn [0, 1, 2, 3] (t.past (.op op)))
    (Effecting s k b c 0x7D →
      (∀ cause, f.walk (k / 256) c.l.toNat = (.error cause, u) → ∃ n : Migration, n.uid = (s.slot k).uid ∧ n.ctx = (s.slot k).ctxid ∧
        n.va = c.l ∧ n.dest = c.r ∧ Effects s k b c (fails u s.nextOp n cause) 0) ∧
      (∀ e, f.walk (k / 256) c.l.toNat = (.ok e, u) →
        let size := if e.large then 2 ^ 21 else 2 ^ 16
        ∃ n : Migration, n.uid = (s.slot k).uid ∧ n.ctx = (s.slot k).ctxid ∧ n.bay = k / 8 ∧ n.dest = c.r ∧ n.large = e.large ∧
          n.va = BitVec.ofNat 64 (c.l.toNat / size * size) ∧ n.started = false ∧
          Effects s k b c ((put { u with
            opHomes := Smap.insert u.opHomes s.nextOp (.engine (k / 8) s.nextOp) } s.nextOp n).beginMig s.nextOp) 0)) ∧
    (s.mig op = none → exec (.migrationCopyDone op) s = .next s ∧ exec (.migrationFinish op) s = .next s) ∧
    (found → m.started = false → (∃ q ∈ s.migs, q.1 < op ∧ q.2.overlaps m = true) → exec (.migrationCopyDone op) s = .next s) ∧
    (found → m.started = false → (∀ q ∈ s.migs, q.1 < op → q.2.overlaps m = false) →
      (∀ cause, s.walk m.die m.va.toNat = (.error cause, u) → exec (.migrationCopyDone op) s = .next (fails u op m cause)) ∧
      (∀ e, s.walk m.die m.va.toNat = (.ok e, u) → u.badDest m = true → exec (.migrationCopyDone op) s = .next (fails u op m cPageAbsent)) ∧
      (∀ e, s.walk m.die m.va.toNat = (.ok e, u) → u.badDest m = false → ∃ n : Migration, exec (.migrationCopyDone op) s =
          .next ((put u op n).mapLeaves op n (setWb true)) ∧ n.started = true ∧ n.shot = m.shot ∧ n.copied = m.copied ∧ n.va = m.va ∧
          n.dest = m.dest ∧ n.counter = e.ctr)) ∧
    (found → m.started = true → m.shot = false → s.migLanded m = false → exec (.migrationCopyDone op) s = .next s) ∧
    (found → m.started = true → m.shot = false → s.migLanded m = true → exec (.migrationCopyDone op) s = .next (put (shoot s op m) op { m with shot := true })) ∧
    (found → m.started = true → m.shot = true → m.copied = true → exec (.migrationCopyDone op) s = .next s) ∧
    (∀ leaf, found → m.started = true → m.shot = true → m.copied = false → s.loadLast m.die (.op op) m.leaf 8 = (leaf, u) →
      let src := leaf / 2 ^ 16 % 2 ^ 36 * 2 ^ 16
      let path : Prop := u.hasPath src = true ∧ u.hasPath m.dest.toNat = true
      let spoilt : Prop := u.lost src = true ∨ u.poisoned src m.size = true ∨ u.lost m.dest.toNat = true
      let ends (cause : Byte) : State :=
        let t := (u.opFault m.die (some m.uid) op (impRec cause 10 m.ctx m.va.toNat m.dest.toNat 0)).mapLeaves op m (setWb false)
        ({ t with migs := Smap.erase t.migs op } : State).opDone (some m.uid) op
      (¬path → exec (.migrationCopyDone op) s = .next u ∨ exec (.migrationCopyDone op) s = .next (ends cLinkFault)) ∧
      (path → spoilt → exec (.migrationCopyDone op) s = .next (ends cUncorrectable)) ∧
      (path → ¬spoilt → exec (.migrationCopyDone op) s = .next (put (((((u.copyPage op m src).mapLeaves op m m.newLeaf).touchRun m.die m.counter 2
        true).store (.op op) m.counter [0, 0] [] true)) op { m with copied := true }))) ∧
    (found → m.copied = false ∨ s.migLanded m = false → exec (.migrationFinish op) s = .next s) ∧
    (found → m.copied = true → s.migLanded m = true → exec (.migrationFinish op) s = .next
      (let t := (shoot s op m).mapLeaves op m (setWb false)
       ({ t with migs := Smap.erase t.migs op } : State).opDone (some m.uid) op))

/-! ### Every step of the device completes -/

/-- 05 R75; 07 R108, R122, R123; 09 R160; 13 R235; 17 R331, R336, R342, R345; 19 R367-R370; 21 R387: the conditions, on the state and the operands
alone, under which these steps of the device have their own effect, and the state each answers: SPECIAL_REGISTER_WRITE, SLOTCTL_THAW,
SLOTCTL_KILL, SLOTCTL_REQUEUE, CTXSW_SAVE, CTXSW_RESTORE, TRACECTL_FREEZE, TRACECTL_THAW; MXCFG_ARM; SHOOTDOWN_COMPLETE,
BLOCK_INVALIDATE_COMPLETE, FENCE_SC_COMPLETE, WB_REWALK; WATCHDOG_FIRE, TRACE_POST_FREEZE, SCRUB, CTXSW_COMPLETE; SPLICE_RUN,
SPLICE_ABSENT_TIMEOUT, REPAIR_START, REPAIR_TASK_RETIRED; CRUCIBLE_BLOCK, KATT_REVISIT, KATT_ABSENT_TIMEOUT, KATT_COMPLETE;
MIGRATION_COPY_DONE, MIGRATION_FINISH. What would write to a page that is being migrated is not free to act (21 R387). And every step of the device answers a next state, in every state. -/
def Obligations.DeviceStepsComplete : Prop :=
  ∀ (s : State) (k bay addr op blk c : Nat) (b : Block) (x : Capture) (e : StoreEntry) (task : Task) (o : KvOp) (m : Migration)
    (w : CtxSwitch),
    let n := (b.word x.idx).toNat % 2 ^ 14
    let v := x.l.toNat
    let u := s.modSlot k (fun sl => b.regw.foldl (fun sl r => sl.setReg r.reg r.value) sl)
    let written := (u.srWrite k n x.l).writeTarget k (b.word x.idx) (u.readSr k n)
    let t := written.modBlock k (fun b => { b with
      regw := []
      held := b.held.filter (fun q => opOf (b.word q.idx) != 0x2F)
      pos := .writes 0
      waiting := none
      stores := b.stores.map (fun q => { q with gen := some (written.die (k / 256)).slicemap }) })
    let writes : Prop := Completed s k b ∧ b.srwrs = [x]
    let rid (h : Hold) (t : State) : State := t.modBlock k (fun b => { b with holds := b.holds.erase h })
    let sl := s.slot k
    let free (t : State) : Prop := t.blockedSince s.nextWrite = false
    let found : Prop := s.kvop op = some o
    let turn : Prop := found ∧ s.kvTurn o = true
    let put (t : State) (o : KvOp) : State := { t with kvops := Smap.insert t.kvops o.op o }
    let katt : Prop := found ∧ o.kind = .katt ∧ o.phase = .attend
    (∀ i : Instr, i.home = .device → ∃ t, exec i s = .next t) ∧
    -- special registers
    (writes → n ≠ 0x200A → n ≠ 0x200B → n ≠ 0x200D → exec (.specialRegisterWrite k) s = .next t) ∧
    (writes → n = 0x200B → v / 2 ^ 62 = 0 → exec (.slotctlThaw k) s = .next t) ∧
    (writes → n = 0x200B → v / 2 ^ 62 = 1 → exec (.slotctlKill k) s = .next t) ∧
    (writes → n = 0x200B → v / 2 ^ 62 = 2 → exec (.slotctlRequeue k) s = .next t) ∧
    (writes → n = 0x200A → v / 2 ^ 6 % 2 = 0 → exec (.ctxswSave k) s = .next t) ∧
    (writes → n = 0x200A → v / 2 ^ 6 % 2 = 1 → exec (.ctxswRestore k) s = .next t) ∧
    (writes → n = 0x200D → v / 2 ^ 15 % 2 = 1 → exec (.tracectlFreeze k) s = .next t) ∧
    (writes → n = 0x200D → v / 2 ^ 15 % 2 = 0 → exec (.tracectlThaw k) s = .next t) ∧
    -- what holds a commit
    (Effecting s k b x 0x67 → Smap.has (s.bay (k / 8)).mx (x.r.toNat % 16) = false → (s.bay (k / 8)).mx = [] → s.migs = [] →
      ∃ t, exec (.mxcfgArm k) s = .next t ∧ ∃ q, Smap.find (t.bay (k / 8)).mx (x.r.toNat % 16) = some q ∧ q.op = s.nextOp ∧
        q.uid = sl.uid ∧ q.ctx = sl.ctxid ∧ q.num = (s.bay (k / 8)).mxNext ∧ q.k0 = x.grp.getD 0 0 ∧ q.k1 = x.grp.getD 1 0 ∧
        q.key = x.grp.getD 2 0 ∧ q.rows = x.grp.getD 3 0 ∧ (t.bay (k / 8)).mxNext = (s.bay (k / 8)).mxNext + 1) ∧
    (∀ p, Committing s k b .settle → b.holds = [.shootdown p] → s.unlanded p = false →
      exec (.shootdownComplete k) s = .next (rid (.shootdown p) (s.shootdownBy (s.agent k).party p))) ∧
    (∀ g, Committing s k b .settle → b.holds = [.invalidate g] →
      exec (.blockInvalidateComplete k) s = .next (rid (.invalidate g) (s.invalidateBy (s.agent k).party (k / 256) g))) ∧
    (∀ deps dies, Committing s k b .settle → b.holds = [.fenceSc deps dies] →
      exec (.fenceScComplete k) s = .next (rid (.fenceSc deps dies) (s.revealOn dies deps))) ∧
    (∀ y, sl.stalled = some (b, e) → isPad e.addr.toNat = false → (s.translate (k / 8) e.addr.toNat).1 = .ok y → y.wb = true →
      exec (.wbRewalk k) s =
        .next (((s.translate (k / 8) e.addr.toNat).2.dropTlb (k / 8) e.addr.toNat).commitWrites k b e.idx)) ∧
    -- watchdog, trace, scrubber, contexts
    (∀ wc tc, sl.due = some (wc, tc) → sl.status = .running → sl.task = some task → task.flags.getLsbD 1 = false →
      let t := ((s.modSlot k (fun sl => { sl with
          wCount := 0
          due := none })).pushFault (k / 256) (.task sl.uid) { impRec cWatchdog 8 sl.ctxid sl.taskrec.toNat wc tc with
            owner := some k }).modSlot k (fun sl => { sl with status := .frozen false })
      free t → exec (.watchdogFire k) s = .next t) ∧
    ((s.bay bay).postLeft = some 0 → exec (.tracePostFreeze bay) s = .next (s.modBay bay (fun y => { y with
      tracectl := (y.tracectl ||| 0x8000) &&& ~~~(0x1000 : Word)
      postLeft := none }))) ∧
    (∀ kind, s.scrubbed kind addr = true → exec (.scrub kind addr true) s = .next (s.modDie (scrubDie kind addr) (fun y => { y with
      cecount := BitVec.ofNat 32 (min (2 ^ 32 - 1) (y.cecount.toNat + 1)) }))) ∧
    (s.ctxSwitch = some w → w.restore = true → w.saved.images = [] → w.saved.moulds = [] → w.saved.entries = [] → w.saved.transfers = [] → free s →
      exec .ctxswComplete s = .next { s with
        ctxSwitch := none
        ctxsw := s.ctxsw &&& ~~~(0x100 : Word)
        savedCtx := Smap.erase s.savedCtx w.area
        stoppedCtx := s.stoppedCtx.filter (fun q => q != w.ctx) }) ∧
    -- the KV engines
    (∀ y, turn → o.kind = .splice → o.phase = .queued → (s.spliceRead o).1 = .ok y →
      free (put (s.spliceRead o).2 { y with phase := .waiting }) → exec (.spliceRun op) s = .next (put (s.spliceRead o).2 { y with phase := .waiting })) ∧
    (∀ l, turn → o.kind = .splice → o.phase = .layer l → o.seq.lay.layers ≤ l → s.wrWaits o.reader (o.seq.addr + 16) 4 = false →
      let r := s.wr o.reader (o.seq.addr + 16) 4 (o.len + o.t) (s.releaseDeps o.agent.party o.die 3)
      r.1 = .ok () → free (r.2.kvEnd o) → exec (.spliceRun op) s = .next (r.2.kvEnd o)) ∧
    (∀ y, found → o.kind = .splice → o.phase = .waiting → o.since = [y] → y.2 + 2 ^ 20 ≤ s.cycle → s.stillAbsent o y.1 = true →
      exec (.spliceAbsentTimeout op) s = .next (s.kvStop o (cKvAbsent, y.1 / 2 % 2 ^ 25, y.1 / 2 ^ 26))) ∧
    (∀ y, turn → o.kind = .repair → o.phase = .queued → (s.repairRead o).1 = .ok y → y.since ≠ [] →
      free (put (s.repairRead o).2 { y with phase := .waiting }) → exec (.repairStart op) s = .next (put (s.repairRead o).2 { y with phase := .waiting })) ∧
    (∀ y l z, turn → o.kind = .repair → o.phase = .queued → (s.repairRead o).1 = .ok y → y.since = [] →
      let first := { y with
        cols := y.cols.filter (fun q => (s.repairRead o).2.candidate y q)
        todo := (y.cols.filter (fun q => (s.repairRead o).2.candidate y q)).flatMap (columnPositions (y.row 0))
        phase := .probe 0
        task := none }
      let r := (s.repairRead o).2.pushRepair first
      first.todo ≠ [] → 0 < y.probes → r.1 = .ok z → z.phase = .probe l → free (put r.2 z) → exec (.repairStart op) s = .next (put r.2 z)) ∧
    (∀ l a, found → o.phase = .repair l → o.task = some a → s.recordAlive o.launch a = false → o.rows.length ≤ l + 1 →
      let r := (s.observe o.die o.agent.party (s.launch o.launch).deps).columnsFresh o o.markedCols
      r.1 = .ok () → free ((r.2.layerDone o l).2.kvEnd (r.2.layerDone o l).1) → exec (.repairTaskRetired op) s = .next ((r.2.layerDone o l).2.kvEnd (r.2.layerDone o l).1)) ∧
    (∀ kb y, katt → blk ∈ o.todo → (∀ g ∈ o.given, g.1 ≠ blk) → (s.kattBlock o blk).1 = some kb →
      let r := s.kattBlock o blk
      r.2.crucibleOk o kb (kb.crucible c) (o.since.any (fun q => q.1 = blk)) = true →
      (r.2.giveBlock o blk (kb.crucible c) kb).1 = .ok y →
      free (put (r.2.giveBlock o blk (kb.crucible c) kb).2 y) → exec (.crucibleBlock op blk c) s = .next (put (r.2.giveBlock o blk (kb.crucible c) kb).2 y)) ∧
    (∀ kb y g, katt → (∃ q ∈ o.since, q.1 = blk) → o.given = [(blk, g)] → (s.kattBlock o blk).1 = some kb →
      let r := (s.kattBlock o blk).2.giveBlock o blk g kb
      r.1 = .ok y → free (put r.2 y) → exec (.kattRevisit op blk c) s = .next (put r.2 y)) ∧
    (katt → (∃ q ∈ o.since, q.1 = blk ∧ q.2 + 2 ^ 20 ≤ s.cycle) → s.kattAway o blk = true →
      (∀ q ∈ s.kvops, q.2.kind = .repair → q.2.a0 ≠ o.a0) →
      exec (.kattAbsentTimeout op blk) s = .next (put (s.opFault (o.bay / 32) (if o.detach then none else some o.uid) o.op
        (impRec cKvAbsent 5 o.ctx o.a0.toNat blk o.kattLayer)) { o with
          incomplete := true
          todo := o.todo.filter (fun q => q != blk)
          since := o.since.filter (fun q => q.1 != blk) })) ∧
    (katt → o.todo = [] → (∀ q ∈ o.outWords, s.wrWaits o.reader q.1 4 = false) → (s.writeOut o o.outWords).1 = .ok () →
      let t := (s.writeOut o o.outWords).2
      let z := (if o.sel.getLsbD 22 then t.markFull o.op (outLines o.outWords) else t).kvEnd o
      free z → exec (.kattComplete op) s = .next z) ∧
    -- migrations
    (let shot := (List.range m.leaves).foldl (fun t i => t.shootdown (some (m.va.toNat / 2 ^ 16 + i)))
        (s.revealOn [0, 1, 2, 3] (s.past (.op op)))
     s.mig op = some m → m.started = true → s.migLanded m = true →
      (m.shot = false → exec (.migrationCopyDone op) s =
        .next { shot with migs := Smap.insert shot.migs op { m with shot := true } }) ∧
      (m.copied = true → exec (.migrationFinish op) s =
        .next (({ shot.mapLeaves op m (setWb false) with
          migs := Smap.erase (shot.mapLeaves op m (setWb false)).migs op } : State).opDone (some m.uid) op)))

/-- 01 R9, R30; 09 R156, R164, R165; 21 R380, R384, R389, R390, R392, R397: the same of the package's steps: PAGE_WALK, LINE_FILL, SLICE_RETRY,
SLICE_LEAVE_SERVICE, WRITE_VISIBLE_ON_DIE; PEER_ACCESS_IN, LINK_RETRANSMIT, LINK_OUT_OF_SERVICE, LINK_PATH_TIMEOUT; EDGE_FAILURE,
PART_FAILURE, POWER_THROTTLE; START_CONTROLLER, DIE_OPEN, EDGE_TRAINING, LINK_TRAINING. That a new start clears memory, tables and registers is the model's choice (entry 104). -/
def Obligations.PackageStepsComplete : Prop :=
  ∀ (s : State) (bay d ln slice wr k j n size : Nat) (va data old : BitVec 64) (off : BitVec 32) (chip host : BitVec 18) (limit : BitVec 16)
    (b : Block) (r : ReadInFlight) (first second : Bool) (bays tiles : BitVec 32) (slices : BitVec 64) (low high : BitVec 20) (o : BitVec 2),
    let fails (t : State) (step : Nat) (kind : Byte) : State := t.logBoot step kind n 2
      (((s.bootRec kind (BitVec.ofNat 16 n)).map (fun r => r.method.toNat)).getD 0) false
    -- translation, slices, visibility
    (s.bayUp bay = true → va.toNat < 2 ^ 56 → sliced va.toNat = true → va.toNat / 2 ^ 48 ≠ 0xFE →
      exec (.pageWalk bay va) s = .next (s.translate bay va.toNat).2) ∧
    (∀ q y t, s.dieUp d = true → Smap.has (s.die d).lines ln = false → s.requestFor d ln = some (q, y, t) → s.lost t.pa = false →
      s.hasPath t.pa = true → exec (.lineFill d ln ln) s = .next (s.access (s.agent q) y t false)) ∧
    (j < 128 → (s.slot k).block = some b → b.reads.find? (fun q => q.cap.idx = j) = some r → s.staleRead (k / 256) r = true → k < 1024 →
      exec (.sliceRetry (k / 256) (k * 128 + j)) s =
        .next ((s.trace (k / 8) 3 k (Config.traceKind 4) r.addr.toNat).setBlock k { b with
          reads := b.reads.map (fun q => if q.cap.idx = j then { q with
            gen := (s.die (k / 256)).slicemap
            retried := true } else q) })) ∧
    (s.sliceReady d slice = true → exec (.sliceLeaveService d slice) s =
      .next ((((s.die d).lines.filter (fun e => s.sliceOf d e.1 = slice)).foldl (fun t e => t.evict d e.1) s).modDie d (fun x => { x with
        capslice := x.capslice &&& ~~~((1 : Word) <<< slice)
        slicemap := x.slicemap + 1 }))) ∧
    (d ∈ s.dieList → (∃ q ∈ s.writes, q.id = wr) → exec (.writeVisibleOnDie wr d) s = .next (s.reveal d [wr])) ∧
    -- peers and links
    (let known := s.meet chip.toNat
     let agent : Agent := { bay := 0, party := .peer chip.toNat, ctx := 0, priv := true }
     let at_ := s.peerwin.toNat / 2 ^ 32 * 2 ^ 32 + off.toNat
     let ok := s.links ≠ [] ∧ chip ≠ s.chipid ∧ (size = 1 ∨ size = 2 ∨ size = 4 ∨ size = 8) ∧ s.peerwin.getLsbD 0 = true
     let to_ (w : Want) := known.resolve agent at_ w
     (∀ q, let y := to_ (wantPlain size true)
        ok → y.1 = .ok (.pad q) → y.2.performWaits (.pad q) = false → size = 8 →
        exec (.peerAccessIn chip 1 off size (data, old)) s =
          .next { y.2.performAt agent at_ (.pad q) size (data.toNat % 2 ^ (8 * size)) [] false with reply := [0] }) ∧
     (∀ q, let y := to_ (wantPlain size false)
        ok → y.1 = .ok (.pad q) → y.2.readWaits (.pad q) = false → y.2.placeBad (.pad q) size = false →
        let z := y.2.peerRead chip.toNat at_ (.pad q) size
        exec (.peerAccessIn chip 0 off size (data, old)) s = .next { z.2 with reply := [0, BitVec.ofNat 64 z.1] }) ∧
     (∀ q, let y := to_ (wantAtomic 8)
        ok → size = 8 → y.1 = .ok (.pad q) → y.2.guardedPlace (.pad q) = false → y.2.readWaits (.pad q) = false →
        y.2.performWaits (.pad q) = false → y.2.placeBad (.pad q) 8 = false →
        let z := y.2.readPlace agent at_ (.pad q) 8 true
        z.1 = old.toNat → exec (.peerAccessIn chip 2 off size (data, old)) s =
          .next { z.2.performAt agent at_ (.pad q) 8 (data.toNat % 2 ^ 64) [] true with reply := [0, BitVec.ofNat 64 z.1] })) ∧
    exec (.linkRetransmit n) s = .next s ∧
    (n < 24 → n ∈ s.links → exec (.linkOutOfService n) s =
      .next (fails { s with links := s.links.filter (fun l => l != n) } 5 6)) ∧
    (∀ x, (s.slot k).stalled = none → (s.slot k).fetches = false → s.links = [] → s.remoteTest k j = some x →
      exec (.linkPathTimeout k j) s = .next (x.fault cLinkFault s)) ∧
    -- failures and power
    (n ∈ s.edges → exec (.edgeFailure n) s =
      .next (fails { s with edges := s.edges.filter (fun e => e != n) } 4 5).isolate) ∧
    (n < 4 → s.dieUp n = true → exec (.partFailure 0 n) s = .next ((fails s (if n = 0 then 2 else 3) 0).failDie n)) ∧
    (n < 8 → s.dieUp (n / 2) = true → n ∉ s.failedStacks →
      exec (.partFailure 1 n) s = .next (fails { s with failedStacks := s.failedStacks ++ [n] } (if n / 2 = 0 then 2 else 3) 1).loseMirrors) ∧
    (n < 128 → s.bayUp n = true → exec (.partFailure 2 n) s = .next ((fails s (if n / 32 = 0 then 2 else 3) 2).failBay n)) ∧
    (s.sliceReady (n / 64) (n % 64) = true → exec (.partFailure 4 n) s = .next ((fails s (if n / 64 = 0 then 2 else 3) 4).failSlice (n / 64) (n % 64))) ∧
    (n < 1024 → exec (.powerThrottle n limit) s = .next { s with islands := Smap.put s.islands 0 n limit }) ∧
    -- start
    (∃ t, exec (.startController first second chip host) s = .next t ∧ t.startStep = 1 ∧ t.chipid = chip ∧ t.hostid = host ∧
      t.mem = [] ∧ t.slots = [] ∧ t.dies = []) ∧
    (s.startStep = 1 → s.firmwareOk = true → s.tried = [] → s.bootLog.length = 1 → bays ≠ 0 → low = 786432 → high = 786432 →
      ∃ t, exec (.dieOpen 0 bays tiles slices low high [] []) s = .next t ∧ (t.die 0).opened = true ∧ (t.die 0).capbays = bays ∧
        (t.die 0).capmxt = tiles &&& bays ∧ (t.die 0).capslice = slices ∧ (t.die 0).capLow = 786432 ∧ (t.die 0).capHigh = 786432 ∧
        t.startStep = 2 ∧ t.cycle = 0) ∧
    (2 ≤ s.startStep → s.startStep ≤ 4 → (∀ e, e < 4 → e ≠ 0 → s.wasTried 0 e = true) → n < 4 → s.wasTried 5 n = false →
      let y := s.trainUnit 4 5 n o.toNat
      let t : State := { y.2 with
        startStep := 4
        edges := if y.1 then s.edges ++ [n] else s.edges }
      exec (.edgeTraining n o) s = .next (if (List.range 4).all (fun e => t.wasTried 5 e) then t.isolate else t)) ∧
    ((s.startStep = 4 ∨ s.startStep = 5) → (∀ e, e < 4 → s.wasTried 5 e = true) → n < 24 → s.wasTried 6 n = false →
      let y := s.trainUnit 5 6 n o.toNat
      let t : State := { y.2 with
        startStep := 5
        links := if y.1 then s.links ++ [n] else s.links }
      exec (.linkTraining n o) s = .next (if (List.range 24).all (fun l => t.wasTried 6 l) then { t with startStep := 6 } else t))
end

