-- ==== Sys2Proof/Laws/Dispatch.lean ====
section
/-! SUPPORT. exec, constructor by constructor. -/

namespace Sys2Proof.Laws

open Sys2Proof Sys2Proof.Machine

theorem exec_add (p : BitVec 2) (t : BitVec 9) (l r : BitVec 7) (st : State) : exec (.add p t l r) st = Machine.execAdd p t l r st := rfl
theorem exec_sub (p : BitVec 2) (t : BitVec 9) (l r : BitVec 7) (st : State) : exec (.sub p t l r) st = Machine.execSub p t l r st := rfl
theorem exec_mul (p : BitVec 2) (t : BitVec 9) (l r : BitVec 7) (st : State) : exec (.mul p t l r) st = Machine.execMul p t l r st := rfl
theorem exec_mulh (p : BitVec 2) (t : BitVec 9) (l r : BitVec 7) (st : State) : exec (.mulh p t l r) st = Machine.execMulh p t l r st := rfl
theorem exec_mulhu (p : BitVec 2) (t : BitVec 9) (l r : BitVec 7) (st : State) : exec (.mulhu p t l r) st = Machine.execMulhu p t l r st := rfl
theorem exec_div (p : BitVec 2) (t : BitVec 9) (l r : BitVec 7) (st : State) : exec (.div p t l r) st = Machine.execDiv p t l r st := rfl
theorem exec_divu (p : BitVec 2) (t : BitVec 9) (l r : BitVec 7) (st : State) : exec (.divu p t l r) st = Machine.execDivu p t l r st := rfl
theorem exec_rem (p : BitVec 2) (t : BitVec 9) (l r : BitVec 7) (st : State) : exec (.rem p t l r) st = Machine.execRem p t l r st := rfl
theorem exec_remu (p : BitVec 2) (t : BitVec 9) (l r : BitVec 7) (st : State) : exec (.remu p t l r) st = Machine.execRemu p t l r st := rfl
theorem exec_and (p : BitVec 2) (t : BitVec 9) (l r : BitVec 7) (st : State) : exec (.and p t l r) st = Machine.execAnd p t l r st := rfl
theorem exec_or (p : BitVec 2) (t : BitVec 9) (l r : BitVec 7) (st : State) : exec (.or p t l r) st = Machine.execOr p t l r st := rfl
theorem exec_xor (p : BitVec 2) (t : BitVec 9) (l r : BitVec 7) (st : State) : exec (.xor p t l r) st = Machine.execXor p t l r st := rfl
theorem exec_andn (p : BitVec 2) (t : BitVec 9) (l r : BitVec 7) (st : State) : exec (.andn p t l r) st = Machine.execAndn p t l r st := rfl
theorem exec_shl (p : BitVec 2) (t : BitVec 9) (l r : BitVec 7) (st : State) : exec (.shl p t l r) st = Machine.execShl p t l r st := rfl
theorem exec_shr (p : BitVec 2) (t : BitVec 9) (l r : BitVec 7) (st : State) : exec (.shr p t l r) st = Machine.execShr p t l r st := rfl
theorem exec_sar (p : BitVec 2) (t : BitVec 9) (l r : BitVec 7) (st : State) : exec (.sar p t l r) st = Machine.execSar p t l r st := rfl
theorem exec_rotl (p : BitVec 2) (t : BitVec 9) (l r : BitVec 7) (st : State) : exec (.rotl p t l r) st = Machine.execRotl p t l r st := rfl
theorem exec_min (p : BitVec 2) (t : BitVec 9) (l r : BitVec 7) (st : State) : exec (.min p t l r) st = Machine.execMin p t l r st := rfl
theorem exec_max (p : BitVec 2) (t : BitVec 9) (l r : BitVec 7) (st : State) : exec (.max p t l r) st = Machine.execMax p t l r st := rfl
theorem exec_minu (p : BitVec 2) (t : BitVec 9) (l r : BitVec 7) (st : State) : exec (.minu p t l r) st = Machine.execMinu p t l r st := rfl
theorem exec_maxu (p : BitVec 2) (t : BitVec 9) (l r : BitVec 7) (st : State) : exec (.maxu p t l r) st = Machine.execMaxu p t l r st := rfl
theorem exec_shadd1 (t : BitVec 9) (l r : BitVec 7) (st : State) : exec (.shadd1 t l r) st = Machine.execShadd1 t l r st := rfl
theorem exec_shadd2 (t : BitVec 9) (l r : BitVec 7) (st : State) : exec (.shadd2 t l r) st = Machine.execShadd2 t l r st := rfl
theorem exec_shadd3 (t : BitVec 9) (l r : BitVec 7) (st : State) : exec (.shadd3 t l r) st = Machine.execShadd3 t l r st := rfl
theorem exec_shadd4 (t : BitVec 9) (l r : BitVec 7) (st : State) : exec (.shadd4 t l r) st = Machine.execShadd4 t l r st := rfl
theorem exec_clz (p : BitVec 2) (t : BitVec 9) (l r : BitVec 7) (st : State) : exec (.clz p t l r) st = Machine.execClz p t l r st := rfl
theorem exec_ctz (p : BitVec 2) (t : BitVec 9) (l r : BitVec 7) (st : State) : exec (.ctz p t l r) st = Machine.execCtz p t l r st := rfl
theorem exec_popc (p : BitVec 2) (t : BitVec 9) (l r : BitVec 7) (st : State) : exec (.popc p t l r) st = Machine.execPopc p t l r st := rfl
theorem exec_sext (p : BitVec 2) (t : BitVec 9) (l r : BitVec 7) (st : State) : exec (.sext p t l r) st = Machine.execSext p t l r st := rfl
theorem exec_zext (p : BitVec 2) (t : BitVec 9) (l r : BitVec 7) (st : State) : exec (.zext p t l r) st = Machine.execZext p t l r st := rfl
theorem exec_addw (p : BitVec 2) (t : BitVec 9) (l r : BitVec 7) (st : State) : exec (.addw p t l r) st = Machine.execAddw p t l r st := rfl
theorem exec_ceq (p : BitVec 2) (t : BitVec 9) (l r : BitVec 7) (st : State) : exec (.ceq p t l r) st = Machine.execCeq p t l r st := rfl
theorem exec_cne (p : BitVec 2) (t : BitVec 9) (l r : BitVec 7) (st : State) : exec (.cne p t l r) st = Machine.execCne p t l r st := rfl
theorem exec_clt (p : BitVec 2) (t : BitVec 9) (l r : BitVec 7) (st : State) : exec (.clt p t l r) st = Machine.execClt p t l r st := rfl
theorem exec_cltu (p : BitVec 2) (t : BitVec 9) (l r : BitVec 7) (st : State) : exec (.cltu p t l r) st = Machine.execCltu p t l r st := rfl
theorem exec_cle (p : BitVec 2) (t : BitVec 9) (l r : BitVec 7) (st : State) : exec (.cle p t l r) st = Machine.execCle p t l r st := rfl
theorem exec_cleu (p : BitVec 2) (t : BitVec 9) (l r : BitVec 7) (st : State) : exec (.cleu p t l r) st = Machine.execCleu p t l r st := rfl
theorem exec_tz (p : BitVec 2) (t : BitVec 9) (l r : BitVec 7) (st : State) : exec (.tz p t l r) st = Machine.execTz p t l r st := rfl
theorem exec_tnz (p : BitVec 2) (t : BitVec 9) (l r : BitVec 7) (st : State) : exec (.tnz p t l r) st = Machine.execTnz p t l r st := rfl
theorem exec_sel (t : BitVec 9) (l r : BitVec 7) (st : State) : exec (.sel t l r) st = Machine.execSel t l r st := rfl
theorem exec_not (p : BitVec 2) (t : BitVec 9) (l r : BitVec 7) (st : State) : exec (.not p t l r) st = Machine.execNot p t l r st := rfl
theorem exec_const (p : BitVec 2) (t : BitVec 9) (i : BitVec 14) (st : State) : exec (.const p t i) st = Machine.execConst p t i st := rfl
theorem exec_constx (p : BitVec 2) (t : BitVec 9) (i : BitVec 14) (st : State) : exec (.constx p t i) st = Machine.execConstx p t i st := rfl
theorem exec_mov (p : BitVec 2) (t : BitVec 9) (l r : BitVec 7) (st : State) : exec (.mov p t l r) st = Machine.execMov p t l r st := rfl
theorem exec_fan (p : BitVec 2) (t u : BitVec 9) (st : State) : exec (.fan p t u) st = Machine.execFan p t u st := rfl
theorem exec_srrd (p : BitVec 2) (t : BitVec 9) (n : BitVec 14) (st : State) : exec (.srrd p t n) st = Machine.execSrrd p t n st := rfl
theorem exec_srwr (p : BitVec 2) (t : BitVec 9) (n : BitVec 14) (st : State) : exec (.srwr p t n) st = Machine.execSrwr p t n st := rfl
theorem exec_bri (p : BitVec 2) (o : BitVec 23) (st : State) : exec (.bri p o) st = Machine.execBri p o st := rfl
theorem exec_br (p : BitVec 2) (l r : BitVec 7) (st : State) : exec (.br p l r) st = Machine.execBr p l r st := rfl
theorem exec_calli (p : BitVec 2) (o : BitVec 23) (st : State) : exec (.calli p o) st = Machine.execCalli p o st := rfl
theorem exec_call (p : BitVec 2) (l r : BitVec 7) (st : State) : exec (.call p l r) st = Machine.execCall p l r st := rfl
theorem exec_exit (p : BitVec 2) (l r : BitVec 7) (st : State) : exec (.exit p l r) st = Machine.execExit p l r st := rfl
theorem exec_yield (p : BitVec 2) (l r : BitVec 7) (st : State) : exec (.yield p l r) st = Machine.execYield p l r st := rfl
theorem exec_trap (p : BitVec 2) (i : BitVec 14) (st : State) : exec (.trap p i) st = Machine.execTrap p i st := rfl
theorem exec_eret (p : BitVec 2) (l r : BitVec 7) (st : State) : exec (.eret p l r) st = Machine.execEret p l r st := rfl
theorem exec_fadd (p : BitVec 2) (t : BitVec 9) (l r : BitVec 7) (st : State) : exec (.fadd p t l r) st = Machine.execFadd p t l r st := rfl
theorem exec_fsub (p : BitVec 2) (t : BitVec 9) (l r : BitVec 7) (st : State) : exec (.fsub p t l r) st = Machine.execFsub p t l r st := rfl
theorem exec_fmul (p : BitVec 2) (t : BitVec 9) (l r : BitVec 7) (st : State) : exec (.fmul p t l r) st = Machine.execFmul p t l r st := rfl
theorem exec_fdiv (p : BitVec 2) (t : BitVec 9) (l r : BitVec 7) (st : State) : exec (.fdiv p t l r) st = Machine.execFdiv p t l r st := rfl
theorem exec_fmin (p : BitVec 2) (t : BitVec 9) (l r : BitVec 7) (st : State) : exec (.fmin p t l r) st = Machine.execFmin p t l r st := rfl
theorem exec_fmax (p : BitVec 2) (t : BitVec 9) (l r : BitVec 7) (st : State) : exec (.fmax p t l r) st = Machine.execFmax p t l r st := rfl
theorem exec_fclt (p : BitVec 2) (t : BitVec 9) (l r : BitVec 7) (st : State) : exec (.fclt p t l r) st = Machine.execFclt p t l r st := rfl
theorem exec_fceq (p : BitVec 2) (t : BitVec 9) (l r : BitVec 7) (st : State) : exec (.fceq p t l r) st = Machine.execFceq p t l r st := rfl
theorem exec_fcle (p : BitVec 2) (t : BitVec 9) (l r : BitVec 7) (st : State) : exec (.fcle p t l r) st = Machine.execFcle p t l r st := rfl
theorem exec_cvtif (p : BitVec 2) (t : BitVec 9) (l r : BitVec 7) (st : State) : exec (.cvtif p t l r) st = Machine.execCvtif p t l r st := rfl
theorem exec_cvtfi (p : BitVec 2) (t : BitVec 9) (l r : BitVec 7) (st : State) : exec (.cvtfi p t l r) st = Machine.execCvtfi p t l r st := rfl
theorem exec_fsqrt (p : BitVec 2) (t : BitVec 9) (l r : BitVec 7) (st : State) : exec (.fsqrt p t l r) st = Machine.execFsqrt p t l r st := rfl
theorem exec_ld8 (p : BitVec 2) (t : BitVec 9) (l r : BitVec 7) (st : State) : exec (.ld8 p t l r) st = Machine.execLd8 p t l r st := rfl
theorem exec_ld8s (p : BitVec 2) (t : BitVec 9) (l r : BitVec 7) (st : State) : exec (.ld8s p t l r) st = Machine.execLd8s p t l r st := rfl
theorem exec_ld16 (p : BitVec 2) (t : BitVec 9) (l r : BitVec 7) (st : State) : exec (.ld16 p t l r) st = Machine.execLd16 p t l r st := rfl
theorem exec_ld16s (p : BitVec 2) (t : BitVec 9) (l r : BitVec 7) (st : State) : exec (.ld16s p t l r) st = Machine.execLd16s p t l r st := rfl
theorem exec_ld32 (p : BitVec 2) (t : BitVec 9) (l r : BitVec 7) (st : State) : exec (.ld32 p t l r) st = Machine.execLd32 p t l r st := rfl
theorem exec_ld32s (p : BitVec 2) (t : BitVec 9) (l r : BitVec 7) (st : State) : exec (.ld32s p t l r) st = Machine.execLd32s p t l r st := rfl
theorem exec_ld64 (p : BitVec 2) (t : BitVec 9) (l r : BitVec 7) (st : State) : exec (.ld64 p t l r) st = Machine.execLd64 p t l r st := rfl
theorem exec_ldaq (p : BitVec 2) (t : BitVec 9) (l : BitVec 7) (s : BitVec 3) (x : BitVec 1) (z : BitVec 2) (st : State) : exec (.ldaq p t l s x z) st = Machine.execLdaq p t l s x z st := rfl
theorem exec_st8 (p : BitVec 2) (o : BitVec 9) (l r : BitVec 7) (st : State) : exec (.st8 p o l r) st = Machine.execSt8 p o l r st := rfl
theorem exec_st16 (p : BitVec 2) (o : BitVec 9) (l r : BitVec 7) (st : State) : exec (.st16 p o l r) st = Machine.execSt16 p o l r st := rfl
theorem exec_st32 (p : BitVec 2) (o : BitVec 9) (l r : BitVec 7) (st : State) : exec (.st32 p o l r) st = Machine.execSt32 p o l r st := rfl
theorem exec_st64 (p : BitVec 2) (o : BitVec 9) (l r : BitVec 7) (st : State) : exec (.st64 p o l r) st = Machine.execSt64 p o l r st := rfl
theorem exec_strl (p : BitVec 2) (l : BitVec 7) (s : BitVec 3) (z : BitVec 2) (st : State) : exec (.strl p l s z) st = Machine.execStrl p l s z st := rfl
theorem exec_amo64 (p : BitVec 2) (t : BitVec 9) (l : BitVec 7) (s : BitVec 3) (k : BitVec 1) (o : BitVec 3) (st : State) : exec (.amo64 p t l s k o) st = Machine.execAmo64 p t l s k o st := rfl
theorem exec_amo32 (p : BitVec 2) (t : BitVec 9) (l : BitVec 7) (s : BitVec 3) (k : BitVec 1) (o : BitVec 3) (st : State) : exec (.amo32 p t l s k o) st = Machine.execAmo32 p t l s k o st := rfl
theorem exec_cas64 (t : BitVec 9) (l : BitVec 7) (s : BitVec 3) (k : BitVec 2) (st : State) : exec (.cas64 t l s k) st = Machine.execCas64 t l s k st := rfl
theorem exec_fence (p : BitVec 2) (l : BitVec 7) (s : BitVec 3) (e k : BitVec 2) (st : State) : exec (.fence p l s e k) st = Machine.execFence p l s e k st := rfl
theorem exec_sbar (p : BitVec 2) (l : BitVec 7) (st : State) : exec (.sbar p l) st = Machine.execSbar p l st := rfl
theorem exec_pref (p : BitVec 2) (l r : BitVec 7) (st : State) : exec (.pref p l r) st = Machine.execPref p l r st := rfl
theorem exec_spawn (p : BitVec 2) (t : BitVec 9) (l r : BitVec 7) (st : State) : exec (.spawn p t l r) st = Machine.execSpawn p t l r st := rfl
theorem exec_joindec (p : BitVec 2) (t : BitVec 9) (l r : BitVec 7) (st : State) : exec (.joindec p t l r) st = Machine.execJoindec p t l r st := rfl
theorem exec_gang (p : BitVec 2) (t : BitVec 9) (l r : BitVec 7) (st : State) : exec (.gang p t l r) st = Machine.execGang p t l r st := rfl
theorem exec_rvinit (p : BitVec 2) (t : BitVec 9) (l r : BitVec 7) (st : State) : exec (.rvinit p t l r) st = Machine.execRvinit p t l r st := rfl
theorem exec_arrive (p : BitVec 2) (t : BitVec 9) (l r : BitVec 7) (st : State) : exec (.arrive p t l r) st = Machine.execArrive p t l r st := rfl
theorem exec_wait (p : BitVec 2) (l r : BitVec 7) (st : State) : exec (.wait p l r) st = Machine.execWait p l r st := rfl
theorem exec_est (p : BitVec 2) (t : BitVec 9) (l r : BitVec 7) (st : State) : exec (.est p t l r) st = Machine.execEst p t l r st := rfl
theorem exec_progress (p : BitVec 2) (t : BitVec 9) (l r : BitVec 7) (st : State) : exec (.progress p t l r) st = Machine.execProgress p t l r st := rfl
theorem exec_graphgo (p : BitVec 2) (t : BitVec 9) (l r : BitVec 7) (st : State) : exec (.graphgo p t l r) st = Machine.execGraphgo p t l r st := rfl
theorem exec_mload (p : BitVec 2) (t : BitVec 9) (l r : BitVec 7) (st : State) : exec (.mload p t l r) st = Machine.execMload p t l r st := rfl
theorem exec_mstart (p : BitVec 2) (t : BitVec 9) (l r : BitVec 7) (st : State) : exec (.mstart p t l r) st = Machine.execMstart p t l r st := rfl
theorem exec_mstopDrain (p : BitVec 2) (t : BitVec 9) (l r : BitVec 7) (st : State) : exec (.mstopDrain p t l r) st = Machine.execMstopDrain p t l r st := rfl
theorem exec_mstopAbort (p : BitVec 2) (t : BitVec 9) (l r : BitVec 7) (st : State) : exec (.mstopAbort p t l r) st = Machine.execMstopAbort p t l r st := rfl
theorem exec_inject (p : BitVec 2) (t : BitVec 9) (l r : BitVec 7) (st : State) : exec (.inject p t l r) st = Machine.execInject p t l r st := rfl
theorem exec_collect (p : BitVec 2) (t : BitVec 9) (l r : BitVec 7) (st : State) : exec (.collect p t l r) st = Machine.execCollect p t l r st := rfl
theorem exec_pourLoadt (p : BitVec 2) (t : BitVec 9) (l r : BitVec 7) (st : State) : exec (.pourLoadt p t l r) st = Machine.execPourLoadt p t l r st := rfl
theorem exec_pourStart (p : BitVec 2) (t : BitVec 9) (l r : BitVec 7) (st : State) : exec (.pourStart p t l r) st = Machine.execPourStart p t l r st := rfl
theorem exec_pjoin (p : BitVec 2) (l r : BitVec 7) (st : State) : exec (.pjoin p l r) st = Machine.execPjoin p l r st := rfl
theorem exec_mxcfg (p : BitVec 2) (t : BitVec 9) (l r : BitVec 7) (st : State) : exec (.mxcfg p t l r) st = Machine.execMxcfg p t l r st := rfl
theorem exec_mxjoin (p : BitVec 2) (l r : BitVec 7) (st : State) : exec (.mxjoin p l r) st = Machine.execMxjoin p l r st := rfl
theorem exec_spalloc (p : BitVec 2) (t : BitVec 9) (l r : BitVec 7) (st : State) : exec (.spalloc p t l r) st = Machine.execSpalloc p t l r st := rfl
theorem exec_spfree (p : BitVec 2) (t : BitVec 9) (l r : BitVec 7) (st : State) : exec (.spfree p t l r) st = Machine.execSpfree p t l r st := rfl
theorem exec_hmdecl (p : BitVec 2) (t : BitVec 9) (l r : BitVec 7) (st : State) : exec (.hmdecl p t l r) st = Machine.execHmdecl p t l r st := rfl
theorem exec_stamp (p : BitVec 2) (t : BitVec 9) (l r : BitVec 7) (st : State) : exec (.stamp p t l r) st = Machine.execStamp p t l r st := rfl
theorem exec_await (p : BitVec 2) (l r : BitVec 7) (st : State) : exec (.await p l r) st = Machine.execAwait p l r st := rfl
theorem exec_hmtest (p : BitVec 2) (t : BitVec 9) (l r : BitVec 7) (st : State) : exec (.hmtest p t l r) st = Machine.execHmtest p t l r st := rfl
theorem exec_hmretire (p : BitVec 2) (t : BitVec 9) (l r : BitVec 7) (st : State) : exec (.hmretire p t l r) st = Machine.execHmretire p t l r st := rfl
theorem exec_kvmap (p : BitVec 2) (t : BitVec 9) (l r : BitVec 7) (st : State) : exec (.kvmap p t l r) st = Machine.execKvmap p t l r st := rfl
theorem exec_kvfork (p : BitVec 2) (t : BitVec 9) (l r : BitVec 7) (st : State) : exec (.kvfork p t l r) st = Machine.execKvfork p t l r st := rfl
theorem exec_kvappend (p : BitVec 2) (t : BitVec 9) (l r : BitVec 7) (st : State) : exec (.kvappend p t l r) st = Machine.execKvappend p t l r st := rfl
theorem exec_kvfree (p : BitVec 2) (t : BitVec 9) (l r : BitVec 7) (st : State) : exec (.kvfree p t l r) st = Machine.execKvfree p t l r st := rfl
theorem exec_pfxh (p : BitVec 2) (t : BitVec 9) (l r : BitVec 7) (st : State) : exec (.pfxh p t l r) st = Machine.execPfxh p t l r st := rfl
theorem exec_pfxlook (p : BitVec 2) (t : BitVec 9) (l r : BitVec 7) (st : State) : exec (.pfxlook p t l r) st = Machine.execPfxlook p t l r st := rfl
theorem exec_pfxins (p : BitVec 2) (t : BitVec 9) (l r : BitVec 7) (st : State) : exec (.pfxins p t l r) st = Machine.execPfxins p t l r st := rfl
theorem exec_splice (p : BitVec 2) (t : BitVec 9) (l r : BitVec 7) (st : State) : exec (.splice p t l r) st = Machine.execSplice p t l r st := rfl
theorem exec_repair (p : BitVec 2) (t : BitVec 9) (l r : BitVec 7) (st : State) : exec (.repair p t l r) st = Machine.execRepair p t l r st := rfl
theorem exec_katt (p : BitVec 2) (t : BitVec 9) (l r : BitVec 7) (st : State) : exec (.katt p t l r) st = Machine.execKatt p t l r st := rfl
theorem exec_cacheopBinv (p : BitVec 2) (t : BitVec 9) (l r : BitVec 7) (st : State) : exec (.cacheopBinv p t l r) st = Machine.execCacheopBinv p t l r st := rfl
theorem exec_cacheopBinvdie (p : BitVec 2) (t : BitVec 9) (l r : BitVec 7) (st : State) : exec (.cacheopBinvdie p t l r) st = Machine.execCacheopBinvdie p t l r st := rfl
theorem exec_tlbopPage (p : BitVec 2) (t : BitVec 9) (l r : BitVec 7) (st : State) : exec (.tlbopPage p t l r) st = Machine.execTlbopPage p t l r st := rfl
theorem exec_tlbopAll (p : BitVec 2) (t : BitVec 9) (l r : BitVec 7) (st : State) : exec (.tlbopAll p t l r) st = Machine.execTlbopAll p t l r st := rfl
theorem exec_traceMark (p : BitVec 2) (t : BitVec 9) (l r : BitVec 7) (st : State) : exec (.traceMark p t l r) st = Machine.execTraceMark p t l r st := rfl
theorem exec_traceFreeze (p : BitVec 2) (t : BitVec 9) (l r : BitVec 7) (st : State) : exec (.traceFreeze p t l r) st = Machine.execTraceFreeze p t l r st := rfl
theorem exec_traceThaw (p : BitVec 2) (t : BitVec 9) (l r : BitVec 7) (st : State) : exec (.traceThaw p t l r) st = Machine.execTraceThaw p t l r st := rfl
theorem exec_migrate (p : BitVec 2) (t : BitVec 9) (l r : BitVec 7) (st : State) : exec (.migrate p t l r) st = Machine.execMigrate p t l r st := rfl
theorem exec_haltStop (p : BitVec 2) (t : BitVec 9) (l r : BitVec 7) (st : State) : exec (.haltStop p t l r) st = Machine.execHaltStop p t l r st := rfl
theorem exec_haltGo (p : BitVec 2) (t : BitVec 9) (l r : BitVec 7) (st : State) : exec (.haltGo p t l r) st = Machine.execHaltGo p t l r st := rfl
theorem exec_pass (c : BitVec 4) (st : State) : exec (.pass c) st = Machine.execPass c st := rfl
theorem exec_iadd (d a b : BitVec 2) (s : BitVec 3) (c : BitVec 4) (st : State) : exec (.iadd d a b s c) st = Machine.execIadd d a b s c st := rfl
theorem exec_isub (d a b : BitVec 2) (s : BitVec 3) (c : BitVec 4) (st : State) : exec (.isub d a b s c) st = Machine.execIsub d a b s c st := rfl
theorem exec_imul (d a b : BitVec 2) (s : BitVec 3) (c : BitVec 4) (st : State) : exec (.imul d a b s c) st = Machine.execImul d a b s c st := rfl
theorem exec_imulh (d a b : BitVec 2) (s : BitVec 3) (c : BitVec 4) (u : BitVec 1) (st : State) : exec (.imulh d a b s c u) st = Machine.execImulh d a b s c u st := rfl
theorem exec_iand (d a b : BitVec 2) (s : BitVec 3) (c : BitVec 4) (st : State) : exec (.iand d a b s c) st = Machine.execIand d a b s c st := rfl
theorem exec_ior (d a b : BitVec 2) (s : BitVec 3) (c : BitVec 4) (st : State) : exec (.ior d a b s c) st = Machine.execIor d a b s c st := rfl
theorem exec_ixor (d a b : BitVec 2) (s : BitVec 3) (c : BitVec 4) (st : State) : exec (.ixor d a b s c) st = Machine.execIxor d a b s c st := rfl
theorem exec_ishl (d a b : BitVec 2) (s : BitVec 3) (c : BitVec 4) (st : State) : exec (.ishl d a b s c) st = Machine.execIshl d a b s c st := rfl
theorem exec_ishr (d a b : BitVec 2) (s : BitVec 3) (c : BitVec 4) (st : State) : exec (.ishr d a b s c) st = Machine.execIshr d a b s c st := rfl
theorem exec_isar (d a b : BitVec 2) (s : BitVec 3) (c : BitVec 4) (st : State) : exec (.isar d a b s c) st = Machine.execIsar d a b s c st := rfl
theorem exec_imin (d a b : BitVec 2) (s : BitVec 3) (c : BitVec 4) (st : State) : exec (.imin d a b s c) st = Machine.execImin d a b s c st := rfl
theorem exec_imax (d a b : BitVec 2) (s : BitVec 3) (c : BitVec 4) (st : State) : exec (.imax d a b s c) st = Machine.execImax d a b s c st := rfl
theorem exec_iminu (d a b : BitVec 2) (s : BitVec 3) (c : BitVec 4) (st : State) : exec (.iminu d a b s c) st = Machine.execIminu d a b s c st := rfl
theorem exec_imaxu (d a b : BitVec 2) (s : BitVec 3) (c : BitVec 4) (st : State) : exec (.imaxu d a b s c) st = Machine.execImaxu d a b s c st := rfl
theorem exec_icmp (d a b : BitVec 2) (s : BitVec 3) (c : BitVec 4) (k : BitVec 3) (st : State) : exec (.icmp d a b s c k) st = Machine.execIcmp d a b s c k st := rfl
theorem exec_ihash (d a b : BitVec 2) (s : BitVec 3) (c : BitVec 4) (st : State) : exec (.ihash d a b s c) st = Machine.execIhash d a b s c st := rfl
theorem exec_isel (d a b : BitVec 2) (s : BitVec 3) (c : BitVec 2) (st : State) : exec (.isel d a b s c) st = Machine.execIsel d a b s c st := rfl
theorem exec_ipopc (d a : BitVec 2) (c : BitVec 4) (st : State) : exec (.ipopc d a c) st = Machine.execIpopc d a c st := rfl
theorem exec_stageFadd (d a b : BitVec 2) (s : BitVec 3) (c : BitVec 4) (m : BitVec 3) (st : State) : exec (.stageFadd d a b s c m) st = Machine.execStageFadd d a b s c m st := rfl
theorem exec_stageFsub (d a b : BitVec 2) (s : BitVec 3) (c : BitVec 4) (m : BitVec 3) (st : State) : exec (.stageFsub d a b s c m) st = Machine.execStageFsub d a b s c m st := rfl
theorem exec_stageFmul (d a b : BitVec 2) (s : BitVec 3) (c : BitVec 4) (m : BitVec 3) (st : State) : exec (.stageFmul d a b s c m) st = Machine.execStageFmul d a b s c m st := rfl
theorem exec_ffma (d a b : BitVec 2) (s : BitVec 3) (c : BitVec 4) (m : BitVec 3) (st : State) : exec (.ffma d a b s c m) st = Machine.execFfma d a b s c m st := rfl
theorem exec_stageFmin (d a b : BitVec 2) (s : BitVec 3) (c : BitVec 4) (st : State) : exec (.stageFmin d a b s c) st = Machine.execStageFmin d a b s c st := rfl
theorem exec_stageFmax (d a b : BitVec 2) (s : BitVec 3) (c : BitVec 4) (st : State) : exec (.stageFmax d a b s c) st = Machine.execStageFmax d a b s c st := rfl
theorem exec_fcmp (d a b : BitVec 2) (s : BitVec 3) (c : BitVec 4) (k : BitVec 3) (st : State) : exec (.fcmp d a b s c k) st = Machine.execFcmp d a b s c k st := rfl
theorem exec_fexp2 (d a : BitVec 2) (c : BitVec 4) (st : State) : exec (.fexp2 d a c) st = Machine.execFexp2 d a c st := rfl
theorem exec_frcp (d a : BitVec 2) (c : BitVec 4) (st : State) : exec (.frcp d a c) st = Machine.execFrcp d a c st := rfl
theorem exec_frsq (d a : BitVec 2) (c : BitVec 4) (st : State) : exec (.frsq d a c) st = Machine.execFrsq d a c st := rfl
theorem exec_cvt (d a : BitVec 2) (h : BitVec 5) (c x y : BitVec 4) (m : BitVec 3) (st : State) : exec (.cvt d a h c x y m) st = Machine.execCvt d a h c x y m st := rfl
theorem exec_cvtb4 (d a : BitVec 2) (h : BitVec 5) (m : BitVec 3) (s : BitVec 2) (st : State) : exec (.cvtb4 d a h m s) st = Machine.execCvtb4 d a h m s st := rfl
theorem exec_fabsn (d a b : BitVec 2) (s : BitVec 3) (c : BitVec 4) (m : BitVec 2) (st : State) : exec (.fabsn d a b s c m) st = Machine.execFabsn d a b s c m st := rfl
theorem exec_lshuf (d a b : BitVec 2) (s : BitVec 3) (st : State) : exec (.lshuf d a b s) st = Machine.execLshuf d a b s st := rfl
theorem exec_lbcast (d a : BitVec 2) (l : BitVec 4) (st : State) : exec (.lbcast d a l) st = Machine.execLbcast d a l st := rfl
theorem exec_lscan (d a : BitVec 2) (m : BitVec 3) (o : BitVec 4) (st : State) : exec (.lscan d a m o) st = Machine.execLscan d a m o st := rfl
theorem exec_lred (d a : BitVec 2) (m : BitVec 3) (o : BitVec 4) (st : State) : exec (.lred d a m o) st = Machine.execLred d a m o st := rfl
theorem exec_lcompact  (st : State) : exec (.lcompact) st = Machine.execLcompact st := rfl
theorem exec_filter (q : BitVec 1) (st : State) : exec (.filter q) st = Machine.execFilter q st := rfl
theorem exec_fork (d a b : BitVec 2) (s : BitVec 3) (q : BitVec 1) (st : State) : exec (.fork d a b s q) st = Machine.execFork d a b s q st := rfl
theorem exec_recirc (q : BitVec 1) (st : State) : exec (.recirc q) st = Machine.execRecirc q st := rfl
theorem exec_steer (q : BitVec 1) (st : State) : exec (.steer q) st = Machine.execSteer q st := rfl
theorem exec_merge  (st : State) : exec (.merge) st = Machine.execMerge st := rfl
theorem exec_reord  (st : State) : exec (.reord) st = Machine.execReord st := rfl
theorem exec_gen (d a b : BitVec 2) (s : BitVec 3) (i : BitVec 12) (st : State) : exec (.gen d a b s i) st = Machine.execGen d a b s i st := rfl
theorem exec_seqtag  (st : State) : exec (.seqtag) st = Machine.execSeqtag st := rfl
theorem exec_isect (d b : BitVec 2) (st : State) : exec (.isect d b) st = Machine.execIsect d b st := rfl
theorem exec_spld (d a b : BitVec 2) (c : BitVec 4) (z : BitVec 2) (o : BitVec 10) (st : State) : exec (.spld d a b c z o) st = Machine.execSpld d a b c z o st := rfl
theorem exec_spst (d a b : BitVec 2) (c : BitVec 4) (z : BitVec 2) (o : BitVec 10) (st : State) : exec (.spst d a b c z o) st = Machine.execSpst d a b c z o st := rfl
theorem exec_spamo (d a b : BitVec 2) (c : BitVec 4) (k : BitVec 3) (o : BitVec 9) (st : State) : exec (.spamo d a b c k o) st = Machine.execSpamo d a b c k o st := rfl
theorem exec_spfill (d a b : BitVec 2) (c : BitVec 4) (z : BitVec 2) (o : BitVec 10) (st : State) : exec (.spfill d a b c z o) st = Machine.execSpfill d a b c z o st := rfl
theorem exec_spmark (d a b : BitVec 2) (c : BitVec 4) (f : BitVec 1) (st : State) : exec (.spmark d a b c f) st = Machine.execSpmark d a b c f st := rfl
theorem exec_mld (d a : BitVec 2) (c : BitVec 4) (z : BitVec 2) (e : BitVec 4) (n : BitVec 3) (v : BitVec 1) (st : State) : exec (.mld d a c z e n v) st = Machine.execMld d a c z e n v st := rfl
theorem exec_mst (d a : BitVec 2) (c : BitVec 4) (z : BitVec 2) (e : BitVec 4) (n : BitVec 3) (st : State) : exec (.mst d a c z e n) st = Machine.execMst d a c z e n st := rfl
theorem exec_mgath (a : BitVec 2) (c e : BitVec 4) (n : BitVec 3) (st : State) : exec (.mgath a c e n) st = Machine.execMgath a c e n st := rfl
theorem exec_mscat (a : BitVec 2) (c e : BitVec 4) (n : BitVec 3) (st : State) : exec (.mscat a c e n) st = Machine.execMscat a c e n st := rfl
theorem exec_sbars (h s : BitVec 4) (l : BitVec 12) (st : State) : exec (.sbars h s l) st = Machine.execSbars h s l st := rfl
theorem exec_trswap (e m : BitVec 6) (st : State) : exec (.trswap e m) st = Machine.execTrswap e m st := rfl
theorem exec_trload (a b : BitVec 2) (s : BitVec 3) (p : BitVec 2) (q : BitVec 1) (d : BitVec 3) (st : State) : exec (.trload a b s p q d) st = Machine.execTrload a b s p q d st := rfl
theorem exec_trmv (p : BitVec 2) (l : BitVec 1) (q : BitVec 2) (st : State) : exec (.trmv p l q) st = Machine.execTrmv p l q st := rfl
theorem exec_pkout (a : BitVec 2) (h : BitVec 1) (st : State) : exec (.pkout a h) st = Machine.execPkout a h st := rfl
theorem exec_pkin (h : BitVec 1) (st : State) : exec (.pkin h) st = Machine.execPkin h st := rfl
theorem exec_tmerge  (st : State) : exec (.tmerge) st = Machine.execTmerge st := rfl
theorem exec_b4dec (d a : BitVec 2) (st : State) : exec (.b4dec d a) st = Machine.execB4dec d a st := rfl
theorem exec_softacc (d a b : BitVec 2) (s : BitVec 3) (c : BitVec 4) (n : BitVec 1) (m : BitVec 3) (st : State) : exec (.softacc d a b s c n m) st = Machine.execSoftacc d a b s c n m st := rfl
theorem exec_sink  (st : State) : exec (.sink) st = Machine.execSink st := rfl
theorem exec_token (k : BitVec 2) (st : State) : exec (.token k) st = Machine.execToken k st := rfl
theorem exec_blockFetch (slot : Nat) (st : State) : exec (.blockFetch slot) st = Machine.execBlockFetch slot st := rfl
theorem exec_readDeliver (slot idx : Nat) (st : State) : exec (.readDeliver slot idx) st = Machine.execReadDeliver slot idx st := rfl
theorem exec_blockCommit (slot : Nat) (st : State) : exec (.blockCommit slot) st = Machine.execBlockCommit slot st := rfl
theorem exec_bufferedWriteResume (slot : Nat) (st : State) : exec (.bufferedWriteResume slot) st = Machine.execBufferedWriteResume slot st := rfl
theorem exec_blockHang (slot : Nat) (st : State) : exec (.blockHang slot) st = Machine.execBlockHang slot st := rfl
theorem exec_waitPhaseReached (slot : Nat) (st : State) : exec (.waitPhaseReached slot) st = Machine.execWaitPhaseReached slot st := rfl
theorem exec_awaitComplete (slot : Nat) (st : State) : exec (.awaitComplete slot) st = Machine.execAwaitComplete slot st := rfl
theorem exec_pjoinComplete (slot : Nat) (st : State) : exec (.pjoinComplete slot) st = Machine.execPjoinComplete slot st := rfl
theorem exec_mxjoinComplete (slot : Nat) (st : State) : exec (.mxjoinComplete slot) st = Machine.execMxjoinComplete slot st := rfl
theorem exec_taskRetire (slot : Nat) (st : State) : exec (.taskRetire slot) st = Machine.execTaskRetire slot st := rfl
theorem exec_yieldRequeue (slot : Nat) (st : State) : exec (.yieldRequeue slot) st = Machine.execYieldRequeue slot st := rfl
theorem exec_taskPop (slot : Nat) (st : State) : exec (.taskPop slot) st = Machine.execTaskPop slot st := rfl
theorem exec_gangPlace (die : Nat) (st : State) : exec (.gangPlace die) st = Machine.execGangPlace die st := rfl
theorem exec_preemptConsider (die : Nat) (st : State) : exec (.preemptConsider die) st = Machine.execPreemptConsider die st := rfl
theorem exec_checkpointComplete (slot : Nat) (st : State) : exec (.checkpointComplete slot) st = Machine.execCheckpointComplete slot st := rfl
theorem exec_launchOpen (launch : Nat) (st : State) : exec (.launchOpen launch) st = Machine.execLaunchOpen launch st := rfl
theorem exec_heldTaskRelease (unit : Nat) (st : State) : exec (.heldTaskRelease unit) st = Machine.execHeldTaskRelease unit st := rfl
theorem exec_launchFinish (launch : Nat) (st : State) : exec (.launchFinish launch) st = Machine.execLaunchFinish launch st := rfl
theorem exec_triggerRegisterWrite (value : BitVec 64) (st : State) : exec (.triggerRegisterWrite value) st = Machine.execTriggerRegisterWrite value st := rfl
theorem exec_graphRunStart (run : Nat) (st : State) : exec (.graphRunStart run) st = Machine.execGraphRunStart run st := rfl
theorem exec_sprueTrigger (value : BitVec 64) (st : State) : exec (.sprueTrigger value) st = Machine.execSprueTrigger value st := rfl
theorem exec_dispatchStop (scope : BitVec 2) (unit : Nat) (st : State) : exec (.dispatchStop scope unit) st = Machine.execDispatchStop scope unit st := rfl
theorem exec_dispatchGo (scope : BitVec 2) (unit : Nat) (st : State) : exec (.dispatchGo scope unit) st = Machine.execDispatchGo scope unit st := rfl
theorem exec_attest (nonce : BitVec 64) (st : State) : exec (.attest nonce) st = Machine.execAttest nonce st := rfl
theorem exec_telemetry (sensor : Nat) (st : State) : exec (.telemetry sensor) st = Machine.execTelemetry sensor st := rfl
theorem exec_logread  (st : State) : exec (.logread) st = Machine.execLogread st := rfl
theorem exec_logclear (kind : BitVec 8) (unit : BitVec 16) (st : State) : exec (.logclear kind unit) st = Machine.execLogclear kind unit st := rfl
theorem exec_accessRead (pa : BitVec 56) (size : Nat) (st : State) : exec (.accessRead pa size) st = Machine.execAccessRead pa size st := rfl
theorem exec_accessWrite (pa : BitVec 56) (size : Nat) (data : BitVec 64) (st : State) : exec (.accessWrite pa size data) st = Machine.execAccessWrite pa size data st := rfl
theorem exec_specialRegisterWrite (slot : Nat) (st : State) : exec (.specialRegisterWrite slot) st = Machine.execSpecialRegisterWrite slot st := rfl
theorem exec_mouldLoadDone (die entry : Nat) (st : State) : exec (.mouldLoadDone die entry) st = Machine.execMouldLoadDone die entry st := rfl
theorem exec_mouldComplete (die entry : Nat) (st : State) : exec (.mouldComplete die entry) st = Machine.execMouldComplete die entry st := rfl
theorem exec_stageAccessComplete (access : Nat) (st : State) : exec (.stageAccessComplete access) st = Machine.execStageAccessComplete access st := rfl
theorem exec_tokenArrive (die entry pipe : Nat) (st : State) : exec (.tokenArrive die entry pipe) st = Machine.execTokenArrive die entry pipe st := rfl
theorem exec_quantumExpiry (die entry : Nat) (st : State) : exec (.quantumExpiry die entry) st = Machine.execQuantumExpiry die entry st := rfl
theorem exec_mxcfgArm (slot : Nat) (st : State) : exec (.mxcfgArm slot) st = Machine.execMxcfgArm slot st := rfl
theorem exec_passStart (bay entry : Nat) (st : State) : exec (.passStart bay entry) st = Machine.execPassStart bay entry st := rfl
theorem exec_operandRelease (bay entry pass : Nat) (st : State) : exec (.operandRelease bay entry pass) st = Machine.execOperandRelease bay entry pass st := rfl
theorem exec_passAccumulate (bay entry pass : Nat) (st : State) : exec (.passAccumulate bay entry pass) st = Machine.execPassAccumulate bay entry pass st := rfl
theorem exec_writeOut (bay entry : Nat) (st : State) : exec (.writeOut bay entry) st = Machine.execWriteOut bay entry st := rfl
theorem exec_ladleTransferStart (bay chan : Nat) (st : State) : exec (.ladleTransferStart bay chan) st = Machine.execLadleTransferStart bay chan st := rfl
theorem exec_decompBlock (bay chan : Nat) (st : State) : exec (.decompBlock bay chan) st = Machine.execDecompBlock bay chan st := rfl
theorem exec_ladleTransferComplete (bay chan : Nat) (st : State) : exec (.ladleTransferComplete bay chan) st = Machine.execLadleTransferComplete bay chan st := rfl
theorem exec_ladleDoorbellWrite (bay chan : Nat) (data : BitVec 64) (st : State) : exec (.ladleDoorbellWrite bay chan data) st = Machine.execLadleDoorbellWrite bay chan data st := rfl
theorem exec_remoteHallmarkQuery (chip : BitVec 18) (key sel : BitVec 64) (st : State) : exec (.remoteHallmarkQuery chip key sel) st = Machine.execRemoteHallmarkQuery chip key sel st := rfl
theorem exec_remoteHallmarkReport (slot idx : Nat) (answer : BitVec 64) (st : State) : exec (.remoteHallmarkReport slot idx answer) st = Machine.execRemoteHallmarkReport slot idx answer st := rfl
theorem exec_spliceRun (op : Nat) (st : State) : exec (.spliceRun op) st = Machine.execSpliceRun op st := rfl
theorem exec_spliceAbsentTimeout (op : Nat) (st : State) : exec (.spliceAbsentTimeout op) st = Machine.execSpliceAbsentTimeout op st := rfl
theorem exec_repairStart (op : Nat) (st : State) : exec (.repairStart op) st = Machine.execRepairStart op st := rfl
theorem exec_repairTaskRetired (op : Nat) (st : State) : exec (.repairTaskRetired op) st = Machine.execRepairTaskRetired op st := rfl
theorem exec_crucibleBlock (op blk crucible : Nat) (st : State) : exec (.crucibleBlock op blk crucible) st = Machine.execCrucibleBlock op blk crucible st := rfl
theorem exec_kattRevisit (op blk crucible : Nat) (st : State) : exec (.kattRevisit op blk crucible) st = Machine.execKattRevisit op blk crucible st := rfl
theorem exec_kattAbsentTimeout (op blk : Nat) (st : State) : exec (.kattAbsentTimeout op blk) st = Machine.execKattAbsentTimeout op blk st := rfl
theorem exec_kattComplete (op : Nat) (st : State) : exec (.kattComplete op) st = Machine.execKattComplete op st := rfl
theorem exec_watchdogFire (slot : Nat) (st : State) : exec (.watchdogFire slot) st = Machine.execWatchdogFire slot st := rfl
theorem exec_slotctlThaw (slot : Nat) (st : State) : exec (.slotctlThaw slot) st = Machine.execSlotctlThaw slot st := rfl
theorem exec_slotctlKill (slot : Nat) (st : State) : exec (.slotctlKill slot) st = Machine.execSlotctlKill slot st := rfl
theorem exec_slotctlRequeue (slot : Nat) (st : State) : exec (.slotctlRequeue slot) st = Machine.execSlotctlRequeue slot st := rfl
theorem exec_ctxswSave (slot : Nat) (st : State) : exec (.ctxswSave slot) st = Machine.execCtxswSave slot st := rfl
theorem exec_ctxswRestore (slot : Nat) (st : State) : exec (.ctxswRestore slot) st = Machine.execCtxswRestore slot st := rfl
theorem exec_ctxswComplete  (st : State) : exec (.ctxswComplete) st = Machine.execCtxswComplete st := rfl
theorem exec_tracectlFreeze (slot : Nat) (st : State) : exec (.tracectlFreeze slot) st = Machine.execTracectlFreeze slot st := rfl
theorem exec_tracectlThaw (slot : Nat) (st : State) : exec (.tracectlThaw slot) st = Machine.execTracectlThaw slot st := rfl
theorem exec_tracePostFreeze (bay : Nat) (st : State) : exec (.tracePostFreeze bay) st = Machine.execTracePostFreeze bay st := rfl
theorem exec_scrub (kind addr : Nat) (correctable : Bool) (st : State) : exec (.scrub kind addr correctable) st = Machine.execScrub kind addr correctable st := rfl
theorem exec_pageWalk (bay : Nat) (va : BitVec 64) (st : State) : exec (.pageWalk bay va) st = Machine.execPageWalk bay va st := rfl
theorem exec_lineFill (die line victim : Nat) (st : State) : exec (.lineFill die line victim) st = Machine.execLineFill die line victim st := rfl
theorem exec_sliceRetry (die request : Nat) (st : State) : exec (.sliceRetry die request) st = Machine.execSliceRetry die request st := rfl
theorem exec_sliceLeaveService (die slice : Nat) (st : State) : exec (.sliceLeaveService die slice) st = Machine.execSliceLeaveService die slice st := rfl
theorem exec_shootdownComplete (slot : Nat) (st : State) : exec (.shootdownComplete slot) st = Machine.execShootdownComplete slot st := rfl
theorem exec_blockInvalidateComplete (slot : Nat) (st : State) : exec (.blockInvalidateComplete slot) st = Machine.execBlockInvalidateComplete slot st := rfl
theorem exec_wbRewalk (slot : Nat) (st : State) : exec (.wbRewalk slot) st = Machine.execWbRewalk slot st := rfl
theorem exec_migrationCopyDone (op : Nat) (st : State) : exec (.migrationCopyDone op) st = Machine.execMigrationCopyDone op st := rfl
theorem exec_migrationFinish (op : Nat) (st : State) : exec (.migrationFinish op) st = Machine.execMigrationFinish op st := rfl
theorem exec_peerAccessIn (chip : BitVec 18) (kind : BitVec 4) (offset : BitVec 32) (size : Nat) (data : BitVec 64 × BitVec 64) (st : State) : exec (.peerAccessIn chip kind offset size data) st = Machine.execPeerAccessIn chip kind offset size data st := rfl
theorem exec_linkRetransmit (link : Nat) (st : State) : exec (.linkRetransmit link) st = Machine.execLinkRetransmit link st := rfl
theorem exec_linkOutOfService (link : Nat) (st : State) : exec (.linkOutOfService link) st = Machine.execLinkOutOfService link st := rfl
theorem exec_linkPathTimeout (slot idx : Nat) (st : State) : exec (.linkPathTimeout slot idx) st = Machine.execLinkPathTimeout slot idx st := rfl
theorem exec_edgeFailure (edge : Nat) (st : State) : exec (.edgeFailure edge) st = Machine.execEdgeFailure edge st := rfl
theorem exec_partFailure (kind : BitVec 8) (unit : Nat) (st : State) : exec (.partFailure kind unit) st = Machine.execPartFailure kind unit st := rfl
theorem exec_powerThrottle (island : Nat) (limit : BitVec 16) (st : State) : exec (.powerThrottle island limit) st = Machine.execPowerThrottle island limit st := rfl
theorem exec_startController (primary alternate : Bool) (chip host : BitVec 18) (st : State) : exec (.startController primary alternate chip host) st = Machine.execStartController primary alternate chip host st := rfl
theorem exec_dieOpen (die : Nat) (bays tiles : BitVec 32) (slices : BitVec 64) (low high : BitVec 20) (banks pages : List Nat) (st : State) : exec (.dieOpen die bays tiles slices low high banks pages) st = Machine.execDieOpen die bays tiles slices low high banks pages st := rfl
theorem exec_edgeTraining (edge : Nat) (outcome : BitVec 2) (st : State) : exec (.edgeTraining edge outcome) st = Machine.execEdgeTraining edge outcome st := rfl
theorem exec_linkTraining (link : Nat) (outcome : BitVec 2) (st : State) : exec (.linkTraining link outcome) st = Machine.execLinkTraining link outcome st := rfl
theorem exec_fenceScComplete (slot : Nat) (st : State) : exec (.fenceScComplete slot) st = Machine.execFenceScComplete slot st := rfl
theorem exec_writeVisibleOnDie (write die : Nat) (st : State) : exec (.writeVisibleOnDie write die) st = Machine.execWriteVisibleOnDie write die st := rfl

end Sys2Proof.Laws
end

