-- ==== Sys2Proof/Laws/PerInstr.lean ====
section
/-! SUPPORT. A well-formed instruction is what its own word decodes to, constructor by constructor. -/

namespace Sys2Proof.Laws

open Sys2Proof

/-! Numbers of the words of rows with up to seven fields. -/

theorem put_toNat_0 (b : Nat) :
    (put b []).toNat = (b) % 2 ^ 32 := by
  simp [put]

theorem put_toNat_1 (b x0 i0 : Nat) :
    (put b [(x0, i0)]).toNat = (b + x0 * 2 ^ i0) % 2 ^ 32 := by
  simp [put]

theorem put_toNat_2 (b x0 i0 x1 i1 : Nat) :
    (put b [(x0, i0), (x1, i1)]).toNat = (b + x0 * 2 ^ i0 + x1 * 2 ^ i1) % 2 ^ 32 := by
  simp [put]

theorem put_toNat_3 (b x0 i0 x1 i1 x2 i2 : Nat) :
    (put b [(x0, i0), (x1, i1), (x2, i2)]).toNat = (b + x0 * 2 ^ i0 + x1 * 2 ^ i1 + x2 * 2 ^ i2) % 2 ^ 32 := by
  simp [put]

theorem put_toNat_4 (b x0 i0 x1 i1 x2 i2 x3 i3 : Nat) :
    (put b [(x0, i0), (x1, i1), (x2, i2), (x3, i3)]).toNat = (b + x0 * 2 ^ i0 + x1 * 2 ^ i1 + x2 * 2 ^ i2 + x3 * 2 ^ i3) % 2 ^ 32 := by
  simp [put]

theorem put_toNat_5 (b x0 i0 x1 i1 x2 i2 x3 i3 x4 i4 : Nat) :
    (put b [(x0, i0), (x1, i1), (x2, i2), (x3, i3), (x4, i4)]).toNat = (b + x0 * 2 ^ i0 + x1 * 2 ^ i1 + x2 * 2 ^ i2 + x3 * 2 ^ i3 + x4 * 2 ^ i4) % 2 ^ 32 := by
  simp [put]

theorem put_toNat_6 (b x0 i0 x1 i1 x2 i2 x3 i3 x4 i4 x5 i5 : Nat) :
    (put b [(x0, i0), (x1, i1), (x2, i2), (x3, i3), (x4, i4), (x5, i5)]).toNat = (b + x0 * 2 ^ i0 + x1 * 2 ^ i1 + x2 * 2 ^ i2 + x3 * 2 ^ i3 + x4 * 2 ^ i4 + x5 * 2 ^ i5) % 2 ^ 32 := by
  simp [put]

theorem put_toNat_7 (b x0 i0 x1 i1 x2 i2 x3 i3 x4 i4 x5 i5 x6 i6 : Nat) :
    (put b [(x0, i0), (x1, i1), (x2, i2), (x3, i3), (x4, i4), (x5, i5), (x6, i6)]).toNat = (b + x0 * 2 ^ i0 + x1 * 2 ^ i1 + x2 * 2 ^ i2 + x3 * 2 ^ i3 + x4 * 2 ^ i4 + x5 * 2 ^ i5 + x6 * 2 ^ i6) % 2 ^ 32 := by
  simp [put]

/-- Fields of a word of shape 0. -/
theorem shape_0 (k b : Nat) (hk : k < 128) (hb : b = k * 2 ^ 25 + 0) (v0 : BitVec 2) (v1 : BitVec 9) (v2 : BitVec 7) (v3 : BitVec 7) :
    (put b [(v0.toNat, 23), (v1.toNat, 14), (v2.toNat, 7), (v3.toNat, 0)]).toNat / 2 ^ 25 = k ∧
    fld (put b [(v0.toNat, 23), (v1.toNat, 14), (v2.toNat, 7), (v3.toNat, 0)]) 23 2 = v0 ∧
    fld (put b [(v0.toNat, 23), (v1.toNat, 14), (v2.toNat, 7), (v3.toNat, 0)]) 14 9 = v1 ∧
    fld (put b [(v0.toNat, 23), (v1.toNat, 14), (v2.toNat, 7), (v3.toNat, 0)]) 7 7 = v2 ∧
    fld (put b [(v0.toNat, 23), (v1.toNat, 14), (v2.toNat, 7), (v3.toNat, 0)]) 0 7 = v3 ∧
    (put b [(v0.toNat, 23), (v1.toNat, 14), (v2.toNat, 7), (v3.toNat, 0)]).toNat % 128 = v3.toNat := by
  have e : (put b [(v0.toNat, 23), (v1.toNat, 14), (v2.toNat, 7), (v3.toNat, 0)]).toNat = b + v0.toNat * 2 ^ 23 + v1.toNat * 2 ^ 14 + v2.toNat * 2 ^ 7 + v3.toNat * 2 ^ 0 := by
    rw [put_toNat_4]; omega
  generalize put b [(v0.toNat, 23), (v1.toNat, 14), (v2.toNat, 7), (v3.toNat, 0)] = w at e ⊢
  exact ⟨by rw [e]; omega,
    by apply BitVec.eq_of_toNat_eq; simp only [fld, BitVec.toNat_ofNat, e]; omega,
    by apply BitVec.eq_of_toNat_eq; simp only [fld, BitVec.toNat_ofNat, e]; omega,
    by apply BitVec.eq_of_toNat_eq; simp only [fld, BitVec.toNat_ofNat, e]; omega,
    by apply BitVec.eq_of_toNat_eq; simp only [fld, BitVec.toNat_ofNat, e]; omega,
    by rw [e]; omega⟩

/-- Fields of a word of shape 1. -/
theorem shape_1 (k b : Nat) (hk : k < 128) (hb : b = k * 2 ^ 25 + 0) (v0 : BitVec 9) (v1 : BitVec 7) (v2 : BitVec 7) :
    (put b [(v0.toNat, 14), (v1.toNat, 7), (v2.toNat, 0)]).toNat / 2 ^ 25 = k ∧
    fixed (put b [(v0.toNat, 14), (v1.toNat, 7), (v2.toNat, 0)]) [(23, 2, 0)] = true ∧
    fld (put b [(v0.toNat, 14), (v1.toNat, 7), (v2.toNat, 0)]) 14 9 = v0 ∧
    fld (put b [(v0.toNat, 14), (v1.toNat, 7), (v2.toNat, 0)]) 7 7 = v1 ∧
    fld (put b [(v0.toNat, 14), (v1.toNat, 7), (v2.toNat, 0)]) 0 7 = v2 ∧
    (put b [(v0.toNat, 14), (v1.toNat, 7), (v2.toNat, 0)]).toNat % 128 = v2.toNat := by
  have e : (put b [(v0.toNat, 14), (v1.toNat, 7), (v2.toNat, 0)]).toNat = b + v0.toNat * 2 ^ 14 + v1.toNat * 2 ^ 7 + v2.toNat * 2 ^ 0 := by
    rw [put_toNat_3]; omega
  generalize put b [(v0.toNat, 14), (v1.toNat, 7), (v2.toNat, 0)] = w at e ⊢
  exact ⟨by rw [e]; omega,
    by
      unfold fixed
      simp only [List.all_cons, List.all_nil, Bool.and_true, beq_iff_eq, e]
      omega,
    by apply BitVec.eq_of_toNat_eq; simp only [fld, BitVec.toNat_ofNat, e]; omega,
    by apply BitVec.eq_of_toNat_eq; simp only [fld, BitVec.toNat_ofNat, e]; omega,
    by apply BitVec.eq_of_toNat_eq; simp only [fld, BitVec.toNat_ofNat, e]; omega,
    by rw [e]; omega⟩

/-- Fields of a word of shape 2. -/
theorem shape_2 (k b : Nat) (hk : k < 128) (hb : b = k * 2 ^ 25 + 0) (v0 : BitVec 2) (v1 : BitVec 9) (v2 : BitVec 14) :
    (put b [(v0.toNat, 23), (v1.toNat, 14), (v2.toNat, 0)]).toNat / 2 ^ 25 = k ∧
    fld (put b [(v0.toNat, 23), (v1.toNat, 14), (v2.toNat, 0)]) 23 2 = v0 ∧
    fld (put b [(v0.toNat, 23), (v1.toNat, 14), (v2.toNat, 0)]) 14 9 = v1 ∧
    fld (put b [(v0.toNat, 23), (v1.toNat, 14), (v2.toNat, 0)]) 0 14 = v2 := by
  have e : (put b [(v0.toNat, 23), (v1.toNat, 14), (v2.toNat, 0)]).toNat = b + v0.toNat * 2 ^ 23 + v1.toNat * 2 ^ 14 + v2.toNat * 2 ^ 0 := by
    rw [put_toNat_3]; omega
  generalize put b [(v0.toNat, 23), (v1.toNat, 14), (v2.toNat, 0)] = w at e ⊢
  exact ⟨by rw [e]; omega,
    by apply BitVec.eq_of_toNat_eq; simp only [fld, BitVec.toNat_ofNat, e]; omega,
    by apply BitVec.eq_of_toNat_eq; simp only [fld, BitVec.toNat_ofNat, e]; omega,
    by apply BitVec.eq_of_toNat_eq; simp only [fld, BitVec.toNat_ofNat, e]; omega⟩

/-- Fields of a word of shape 3. -/
theorem shape_3 (k b : Nat) (hk : k < 128) (hb : b = k * 2 ^ 25 + 0) (v0 : BitVec 2) (v1 : BitVec 9) (v2 : BitVec 9) :
    (put b [(v0.toNat, 23), (v1.toNat, 14), (v2.toNat, 5)]).toNat / 2 ^ 25 = k ∧
    fixed (put b [(v0.toNat, 23), (v1.toNat, 14), (v2.toNat, 5)]) [(0, 5, 0)] = true ∧
    fld (put b [(v0.toNat, 23), (v1.toNat, 14), (v2.toNat, 5)]) 23 2 = v0 ∧
    fld (put b [(v0.toNat, 23), (v1.toNat, 14), (v2.toNat, 5)]) 14 9 = v1 ∧
    fld (put b [(v0.toNat, 23), (v1.toNat, 14), (v2.toNat, 5)]) 5 9 = v2 := by
  have e : (put b [(v0.toNat, 23), (v1.toNat, 14), (v2.toNat, 5)]).toNat = b + v0.toNat * 2 ^ 23 + v1.toNat * 2 ^ 14 + v2.toNat * 2 ^ 5 := by
    rw [put_toNat_3]; omega
  generalize put b [(v0.toNat, 23), (v1.toNat, 14), (v2.toNat, 5)] = w at e ⊢
  exact ⟨by rw [e]; omega,
    by
      unfold fixed
      simp only [List.all_cons, List.all_nil, Bool.and_true, beq_iff_eq, e]
      omega,
    by apply BitVec.eq_of_toNat_eq; simp only [fld, BitVec.toNat_ofNat, e]; omega,
    by apply BitVec.eq_of_toNat_eq; simp only [fld, BitVec.toNat_ofNat, e]; omega,
    by apply BitVec.eq_of_toNat_eq; simp only [fld, BitVec.toNat_ofNat, e]; omega⟩

/-- Fields of a word of shape 4. -/
theorem shape_4 (k b : Nat) (hk : k < 128) (hb : b = k * 2 ^ 25 + 0) (v0 : BitVec 2) (v1 : BitVec 23) :
    (put b [(v0.toNat, 23), (v1.toNat, 0)]).toNat / 2 ^ 25 = k ∧
    fld (put b [(v0.toNat, 23), (v1.toNat, 0)]) 23 2 = v0 ∧
    fld (put b [(v0.toNat, 23), (v1.toNat, 0)]) 0 23 = v1 := by
  have e : (put b [(v0.toNat, 23), (v1.toNat, 0)]).toNat = b + v0.toNat * 2 ^ 23 + v1.toNat * 2 ^ 0 := by
    rw [put_toNat_2]; omega
  generalize put b [(v0.toNat, 23), (v1.toNat, 0)] = w at e ⊢
  exact ⟨by rw [e]; omega,
    by apply BitVec.eq_of_toNat_eq; simp only [fld, BitVec.toNat_ofNat, e]; omega,
    by apply BitVec.eq_of_toNat_eq; simp only [fld, BitVec.toNat_ofNat, e]; omega⟩

/-- Fields of a word of shape 5. -/
theorem shape_5 (k b : Nat) (hk : k < 128) (hb : b = k * 2 ^ 25 + 7340032) (v0 : BitVec 2) (v1 : BitVec 7) (v2 : BitVec 7) :
    (put b [(v0.toNat, 23), (v1.toNat, 7), (v2.toNat, 0)]).toNat / 2 ^ 25 = k ∧
    fixed (put b [(v0.toNat, 23), (v1.toNat, 7), (v2.toNat, 0)]) [(14, 9, 448)] = true ∧
    fld (put b [(v0.toNat, 23), (v1.toNat, 7), (v2.toNat, 0)]) 23 2 = v0 ∧
    fld (put b [(v0.toNat, 23), (v1.toNat, 7), (v2.toNat, 0)]) 7 7 = v1 ∧
    fld (put b [(v0.toNat, 23), (v1.toNat, 7), (v2.toNat, 0)]) 0 7 = v2 ∧
    (put b [(v0.toNat, 23), (v1.toNat, 7), (v2.toNat, 0)]).toNat % 128 = v2.toNat := by
  have e : (put b [(v0.toNat, 23), (v1.toNat, 7), (v2.toNat, 0)]).toNat = b + v0.toNat * 2 ^ 23 + v1.toNat * 2 ^ 7 + v2.toNat * 2 ^ 0 := by
    rw [put_toNat_3]; omega
  generalize put b [(v0.toNat, 23), (v1.toNat, 7), (v2.toNat, 0)] = w at e ⊢
  exact ⟨by rw [e]; omega,
    by
      unfold fixed
      simp only [List.all_cons, List.all_nil, Bool.and_true, beq_iff_eq, e]
      omega,
    by apply BitVec.eq_of_toNat_eq; simp only [fld, BitVec.toNat_ofNat, e]; omega,
    by apply BitVec.eq_of_toNat_eq; simp only [fld, BitVec.toNat_ofNat, e]; omega,
    by apply BitVec.eq_of_toNat_eq; simp only [fld, BitVec.toNat_ofNat, e]; omega,
    by rw [e]; omega⟩

/-- Fields of a word of shape 6. -/
theorem shape_6 (k b : Nat) (hk : k < 128) (hb : b = k * 2 ^ 25 + 7340032) (v0 : BitVec 2) (v1 : BitVec 14) :
    (put b [(v0.toNat, 23), (v1.toNat, 0)]).toNat / 2 ^ 25 = k ∧
    fixed (put b [(v0.toNat, 23), (v1.toNat, 0)]) [(14, 9, 448)] = true ∧
    fld (put b [(v0.toNat, 23), (v1.toNat, 0)]) 23 2 = v0 ∧
    fld (put b [(v0.toNat, 23), (v1.toNat, 0)]) 0 14 = v1 := by
  have e : (put b [(v0.toNat, 23), (v1.toNat, 0)]).toNat = b + v0.toNat * 2 ^ 23 + v1.toNat * 2 ^ 0 := by
    rw [put_toNat_2]; omega
  generalize put b [(v0.toNat, 23), (v1.toNat, 0)] = w at e ⊢
  exact ⟨by rw [e]; omega,
    by
      unfold fixed
      simp only [List.all_cons, List.all_nil, Bool.and_true, beq_iff_eq, e]
      omega,
    by apply BitVec.eq_of_toNat_eq; simp only [fld, BitVec.toNat_ofNat, e]; omega,
    by apply BitVec.eq_of_toNat_eq; simp only [fld, BitVec.toNat_ofNat, e]; omega⟩

/-- Fields of a word of shape 7. -/
theorem shape_7 (k b : Nat) (hk : k < 128) (hb : b = k * 2 ^ 25 + 0) (v0 : BitVec 2) (v1 : BitVec 9) (v2 : BitVec 7) (v3 : BitVec 3) (v4 : BitVec 1) (v5 : BitVec 2) :
    (put b [(v0.toNat, 23), (v1.toNat, 14), (v2.toNat, 7), (v3.toNat, 4), (v4.toNat, 2), (v5.toNat, 0)]).toNat / 2 ^ 25 = k ∧
    fixed (put b [(v0.toNat, 23), (v1.toNat, 14), (v2.toNat, 7), (v3.toNat, 4), (v4.toNat, 2), (v5.toNat, 0)]) [(3, 1, 0)] = true ∧
    fld (put b [(v0.toNat, 23), (v1.toNat, 14), (v2.toNat, 7), (v3.toNat, 4), (v4.toNat, 2), (v5.toNat, 0)]) 23 2 = v0 ∧
    fld (put b [(v0.toNat, 23), (v1.toNat, 14), (v2.toNat, 7), (v3.toNat, 4), (v4.toNat, 2), (v5.toNat, 0)]) 14 9 = v1 ∧
    fld (put b [(v0.toNat, 23), (v1.toNat, 14), (v2.toNat, 7), (v3.toNat, 4), (v4.toNat, 2), (v5.toNat, 0)]) 7 7 = v2 ∧
    fld (put b [(v0.toNat, 23), (v1.toNat, 14), (v2.toNat, 7), (v3.toNat, 4), (v4.toNat, 2), (v5.toNat, 0)]) 4 3 = v3 ∧
    fld (put b [(v0.toNat, 23), (v1.toNat, 14), (v2.toNat, 7), (v3.toNat, 4), (v4.toNat, 2), (v5.toNat, 0)]) 2 1 = v4 ∧
    fld (put b [(v0.toNat, 23), (v1.toNat, 14), (v2.toNat, 7), (v3.toNat, 4), (v4.toNat, 2), (v5.toNat, 0)]) 0 2 = v5 := by
  have e : (put b [(v0.toNat, 23), (v1.toNat, 14), (v2.toNat, 7), (v3.toNat, 4), (v4.toNat, 2), (v5.toNat, 0)]).toNat = b + v0.toNat * 2 ^ 23 + v1.toNat * 2 ^ 14 + v2.toNat * 2 ^ 7 + v3.toNat * 2 ^ 4 + v4.toNat * 2 ^ 2 + v5.toNat * 2 ^ 0 := by
    rw [put_toNat_6]; omega
  generalize put b [(v0.toNat, 23), (v1.toNat, 14), (v2.toNat, 7), (v3.toNat, 4), (v4.toNat, 2), (v5.toNat, 0)] = w at e ⊢
  exact ⟨by rw [e]; omega,
    by
      unfold fixed
      simp only [List.all_cons, List.all_nil, Bool.and_true, beq_iff_eq, e]
      omega,
    by apply BitVec.eq_of_toNat_eq; simp only [fld, BitVec.toNat_ofNat, e]; omega,
    by apply BitVec.eq_of_toNat_eq; simp only [fld, BitVec.toNat_ofNat, e]; omega,
    by apply BitVec.eq_of_toNat_eq; simp only [fld, BitVec.toNat_ofNat, e]; omega,
    by apply BitVec.eq_of_toNat_eq; simp only [fld, BitVec.toNat_ofNat, e]; omega,
    by apply BitVec.eq_of_toNat_eq; simp only [fld, BitVec.toNat_ofNat, e]; omega,
    by apply BitVec.eq_of_toNat_eq; simp only [fld, BitVec.toNat_ofNat, e]; omega⟩

/-- Fields of a word of shape 8. -/
theorem shape_8 (k b : Nat) (hk : k < 128) (hb : b = k * 2 ^ 25 + 7340032) (v0 : BitVec 2) (v1 : BitVec 7) (v2 : BitVec 3) (v3 : BitVec 2) :
    (put b [(v0.toNat, 23), (v1.toNat, 7), (v2.toNat, 4), (v3.toNat, 0)]).toNat / 2 ^ 25 = k ∧
    fixed (put b [(v0.toNat, 23), (v1.toNat, 7), (v2.toNat, 4), (v3.toNat, 0)]) [(2, 2, 0), (14, 9, 448)] = true ∧
    fld (put b [(v0.toNat, 23), (v1.toNat, 7), (v2.toNat, 4), (v3.toNat, 0)]) 23 2 = v0 ∧
    fld (put b [(v0.toNat, 23), (v1.toNat, 7), (v2.toNat, 4), (v3.toNat, 0)]) 7 7 = v1 ∧
    fld (put b [(v0.toNat, 23), (v1.toNat, 7), (v2.toNat, 4), (v3.toNat, 0)]) 4 3 = v2 ∧
    fld (put b [(v0.toNat, 23), (v1.toNat, 7), (v2.toNat, 4), (v3.toNat, 0)]) 0 2 = v3 := by
  have e : (put b [(v0.toNat, 23), (v1.toNat, 7), (v2.toNat, 4), (v3.toNat, 0)]).toNat = b + v0.toNat * 2 ^ 23 + v1.toNat * 2 ^ 7 + v2.toNat * 2 ^ 4 + v3.toNat * 2 ^ 0 := by
    rw [put_toNat_4]; omega
  generalize put b [(v0.toNat, 23), (v1.toNat, 7), (v2.toNat, 4), (v3.toNat, 0)] = w at e ⊢
  exact ⟨by rw [e]; omega,
    by
      unfold fixed
      simp only [List.all_cons, List.all_nil, Bool.and_true, Bool.and_eq_true, beq_iff_eq, e]
      omega,
    by apply BitVec.eq_of_toNat_eq; simp only [fld, BitVec.toNat_ofNat, e]; omega,
    by apply BitVec.eq_of_toNat_eq; simp only [fld, BitVec.toNat_ofNat, e]; omega,
    by apply BitVec.eq_of_toNat_eq; simp only [fld, BitVec.toNat_ofNat, e]; omega,
    by apply BitVec.eq_of_toNat_eq; simp only [fld, BitVec.toNat_ofNat, e]; omega⟩

/-- Fields of a word of shape 9. -/
theorem shape_9 (k b : Nat) (hk : k < 128) (hb : b = k * 2 ^ 25 + 0) (v0 : BitVec 2) (v1 : BitVec 9) (v2 : BitVec 7) (v3 : BitVec 3) (v4 : BitVec 1) (v5 : BitVec 3) :
    (put b [(v0.toNat, 23), (v1.toNat, 14), (v2.toNat, 7), (v3.toNat, 4), (v4.toNat, 3), (v5.toNat, 0)]).toNat / 2 ^ 25 = k ∧
    fld (put b [(v0.toNat, 23), (v1.toNat, 14), (v2.toNat, 7), (v3.toNat, 4), (v4.toNat, 3), (v5.toNat, 0)]) 23 2 = v0 ∧
    fld (put b [(v0.toNat, 23), (v1.toNat, 14), (v2.toNat, 7), (v3.toNat, 4), (v4.toNat, 3), (v5.toNat, 0)]) 14 9 = v1 ∧
    fld (put b [(v0.toNat, 23), (v1.toNat, 14), (v2.toNat, 7), (v3.toNat, 4), (v4.toNat, 3), (v5.toNat, 0)]) 7 7 = v2 ∧
    fld (put b [(v0.toNat, 23), (v1.toNat, 14), (v2.toNat, 7), (v3.toNat, 4), (v4.toNat, 3), (v5.toNat, 0)]) 4 3 = v3 ∧
    fld (put b [(v0.toNat, 23), (v1.toNat, 14), (v2.toNat, 7), (v3.toNat, 4), (v4.toNat, 3), (v5.toNat, 0)]) 3 1 = v4 ∧
    fld (put b [(v0.toNat, 23), (v1.toNat, 14), (v2.toNat, 7), (v3.toNat, 4), (v4.toNat, 3), (v5.toNat, 0)]) 0 3 = v5 := by
  have e : (put b [(v0.toNat, 23), (v1.toNat, 14), (v2.toNat, 7), (v3.toNat, 4), (v4.toNat, 3), (v5.toNat, 0)]).toNat = b + v0.toNat * 2 ^ 23 + v1.toNat * 2 ^ 14 + v2.toNat * 2 ^ 7 + v3.toNat * 2 ^ 4 + v4.toNat * 2 ^ 3 + v5.toNat * 2 ^ 0 := by
    rw [put_toNat_6]; omega
  generalize put b [(v0.toNat, 23), (v1.toNat, 14), (v2.toNat, 7), (v3.toNat, 4), (v4.toNat, 3), (v5.toNat, 0)] = w at e ⊢
  exact ⟨by rw [e]; omega,
    by apply BitVec.eq_of_toNat_eq; simp only [fld, BitVec.toNat_ofNat, e]; omega,
    by apply BitVec.eq_of_toNat_eq; simp only [fld, BitVec.toNat_ofNat, e]; omega,
    by apply BitVec.eq_of_toNat_eq; simp only [fld, BitVec.toNat_ofNat, e]; omega,
    by apply BitVec.eq_of_toNat_eq; simp only [fld, BitVec.toNat_ofNat, e]; omega,
    by apply BitVec.eq_of_toNat_eq; simp only [fld, BitVec.toNat_ofNat, e]; omega,
    by apply BitVec.eq_of_toNat_eq; simp only [fld, BitVec.toNat_ofNat, e]; omega⟩

/-- Fields of a word of shape 10. -/
theorem shape_10 (k b : Nat) (hk : k < 128) (hb : b = k * 2 ^ 25 + 0) (v0 : BitVec 9) (v1 : BitVec 7) (v2 : BitVec 3) (v3 : BitVec 2) :
    (put b [(v0.toNat, 14), (v1.toNat, 7), (v2.toNat, 4), (v3.toNat, 0)]).toNat / 2 ^ 25 = k ∧
    fixed (put b [(v0.toNat, 14), (v1.toNat, 7), (v2.toNat, 4), (v3.toNat, 0)]) [(2, 2, 0), (23, 2, 0)] = true ∧
    fld (put b [(v0.toNat, 14), (v1.toNat, 7), (v2.toNat, 4), (v3.toNat, 0)]) 14 9 = v0 ∧
    fld (put b [(v0.toNat, 14), (v1.toNat, 7), (v2.toNat, 4), (v3.toNat, 0)]) 7 7 = v1 ∧
    fld (put b [(v0.toNat, 14), (v1.toNat, 7), (v2.toNat, 4), (v3.toNat, 0)]) 4 3 = v2 ∧
    fld (put b [(v0.toNat, 14), (v1.toNat, 7), (v2.toNat, 4), (v3.toNat, 0)]) 0 2 = v3 := by
  have e : (put b [(v0.toNat, 14), (v1.toNat, 7), (v2.toNat, 4), (v3.toNat, 0)]).toNat = b + v0.toNat * 2 ^ 14 + v1.toNat * 2 ^ 7 + v2.toNat * 2 ^ 4 + v3.toNat * 2 ^ 0 := by
    rw [put_toNat_4]; omega
  generalize put b [(v0.toNat, 14), (v1.toNat, 7), (v2.toNat, 4), (v3.toNat, 0)] = w at e ⊢
  exact ⟨by rw [e]; omega,
    by
      unfold fixed
      simp only [List.all_cons, List.all_nil, Bool.and_true, Bool.and_eq_true, beq_iff_eq, e]
      omega,
    by apply BitVec.eq_of_toNat_eq; simp only [fld, BitVec.toNat_ofNat, e]; omega,
    by apply BitVec.eq_of_toNat_eq; simp only [fld, BitVec.toNat_ofNat, e]; omega,
    by apply BitVec.eq_of_toNat_eq; simp only [fld, BitVec.toNat_ofNat, e]; omega,
    by apply BitVec.eq_of_toNat_eq; simp only [fld, BitVec.toNat_ofNat, e]; omega⟩

/-- Fields of a word of shape 11. -/
theorem shape_11 (k b : Nat) (hk : k < 128) (hb : b = k * 2 ^ 25 + 7340032) (v0 : BitVec 2) (v1 : BitVec 7) (v2 : BitVec 3) (v3 : BitVec 2) (v4 : BitVec 2) :
    (put b [(v0.toNat, 23), (v1.toNat, 7), (v2.toNat, 4), (v3.toNat, 2), (v4.toNat, 0)]).toNat / 2 ^ 25 = k ∧
    fixed (put b [(v0.toNat, 23), (v1.toNat, 7), (v2.toNat, 4), (v3.toNat, 2), (v4.toNat, 0)]) [(14, 9, 448)] = true ∧
    fld (put b [(v0.toNat, 23), (v1.toNat, 7), (v2.toNat, 4), (v3.toNat, 2), (v4.toNat, 0)]) 23 2 = v0 ∧
    fld (put b [(v0.toNat, 23), (v1.toNat, 7), (v2.toNat, 4), (v3.toNat, 2), (v4.toNat, 0)]) 7 7 = v1 ∧
    fld (put b [(v0.toNat, 23), (v1.toNat, 7), (v2.toNat, 4), (v3.toNat, 2), (v4.toNat, 0)]) 4 3 = v2 ∧
    fld (put b [(v0.toNat, 23), (v1.toNat, 7), (v2.toNat, 4), (v3.toNat, 2), (v4.toNat, 0)]) 2 2 = v3 ∧
    fld (put b [(v0.toNat, 23), (v1.toNat, 7), (v2.toNat, 4), (v3.toNat, 2), (v4.toNat, 0)]) 0 2 = v4 := by
  have e : (put b [(v0.toNat, 23), (v1.toNat, 7), (v2.toNat, 4), (v3.toNat, 2), (v4.toNat, 0)]).toNat = b + v0.toNat * 2 ^ 23 + v1.toNat * 2 ^ 7 + v2.toNat * 2 ^ 4 + v3.toNat * 2 ^ 2 + v4.toNat * 2 ^ 0 := by
    rw [put_toNat_5]; omega
  generalize put b [(v0.toNat, 23), (v1.toNat, 7), (v2.toNat, 4), (v3.toNat, 2), (v4.toNat, 0)] = w at e ⊢
  exact ⟨by rw [e]; omega,
    by
      unfold fixed
      simp only [List.all_cons, List.all_nil, Bool.and_true, beq_iff_eq, e]
      omega,
    by apply BitVec.eq_of_toNat_eq; simp only [fld, BitVec.toNat_ofNat, e]; omega,
    by apply BitVec.eq_of_toNat_eq; simp only [fld, BitVec.toNat_ofNat, e]; omega,
    by apply BitVec.eq_of_toNat_eq; simp only [fld, BitVec.toNat_ofNat, e]; omega,
    by apply BitVec.eq_of_toNat_eq; simp only [fld, BitVec.toNat_ofNat, e]; omega,
    by apply BitVec.eq_of_toNat_eq; simp only [fld, BitVec.toNat_ofNat, e]; omega⟩

/-- Fields of a word of shape 12. -/
theorem shape_12 (k b : Nat) (hk : k < 128) (hb : b = k * 2 ^ 25 + 7340032) (v0 : BitVec 2) (v1 : BitVec 7) :
    (put b [(v0.toNat, 23), (v1.toNat, 7)]).toNat / 2 ^ 25 = k ∧
    fixed (put b [(v0.toNat, 23), (v1.toNat, 7)]) [(0, 7, 0), (14, 9, 448)] = true ∧
    fld (put b [(v0.toNat, 23), (v1.toNat, 7)]) 23 2 = v0 ∧
    fld (put b [(v0.toNat, 23), (v1.toNat, 7)]) 7 7 = v1 := by
  have e : (put b [(v0.toNat, 23), (v1.toNat, 7)]).toNat = b + v0.toNat * 2 ^ 23 + v1.toNat * 2 ^ 7 := by
    rw [put_toNat_2]; omega
  generalize put b [(v0.toNat, 23), (v1.toNat, 7)] = w at e ⊢
  exact ⟨by rw [e]; omega,
    by
      unfold fixed
      simp only [List.all_cons, List.all_nil, Bool.and_true, Bool.and_eq_true, beq_iff_eq, e]
      omega,
    by apply BitVec.eq_of_toNat_eq; simp only [fld, BitVec.toNat_ofNat, e]; omega,
    by apply BitVec.eq_of_toNat_eq; simp only [fld, BitVec.toNat_ofNat, e]; omega⟩

/-- Fields of a word of shape 13. -/
theorem shape_13 (k b : Nat) (hk : k < 128) (hb : b = k * 2 ^ 25 + 0) (v0 : BitVec 4) :
    (put b [(v0.toNat, 12)]).toNat / 2 ^ 25 = k ∧
    fixed (put b [(v0.toNat, 12)]) [(0, 12, 0), (16, 9, 0)] = true ∧
    fld (put b [(v0.toNat, 12)]) 12 4 = v0 := by
  have e : (put b [(v0.toNat, 12)]).toNat = b + v0.toNat * 2 ^ 12 := by
    rw [put_toNat_1]; omega
  generalize put b [(v0.toNat, 12)] = w at e ⊢
  exact ⟨by rw [e]; omega,
    by
      unfold fixed
      simp only [List.all_cons, List.all_nil, Bool.and_true, Bool.and_eq_true, beq_iff_eq, e]
      omega,
    by apply BitVec.eq_of_toNat_eq; simp only [fld, BitVec.toNat_ofNat, e]; omega⟩

/-- Fields of a word of shape 14. -/
theorem shape_14 (k b : Nat) (hk : k < 128) (hb : b = k * 2 ^ 25 + 0) (v0 : BitVec 2) (v1 : BitVec 2) (v2 : BitVec 2) (v3 : BitVec 3) (v4 : BitVec 4) :
    (put b [(v0.toNat, 23), (v1.toNat, 21), (v2.toNat, 19), (v3.toNat, 16), (v4.toNat, 12)]).toNat / 2 ^ 25 = k ∧
    fixed (put b [(v0.toNat, 23), (v1.toNat, 21), (v2.toNat, 19), (v3.toNat, 16), (v4.toNat, 12)]) [(0, 12, 0)] = true ∧
    fld (put b [(v0.toNat, 23), (v1.toNat, 21), (v2.toNat, 19), (v3.toNat, 16), (v4.toNat, 12)]) 23 2 = v0 ∧
    fld (put b [(v0.toNat, 23), (v1.toNat, 21), (v2.toNat, 19), (v3.toNat, 16), (v4.toNat, 12)]) 21 2 = v1 ∧
    fld (put b [(v0.toNat, 23), (v1.toNat, 21), (v2.toNat, 19), (v3.toNat, 16), (v4.toNat, 12)]) 19 2 = v2 ∧
    fld (put b [(v0.toNat, 23), (v1.toNat, 21), (v2.toNat, 19), (v3.toNat, 16), (v4.toNat, 12)]) 16 3 = v3 ∧
    fld (put b [(v0.toNat, 23), (v1.toNat, 21), (v2.toNat, 19), (v3.toNat, 16), (v4.toNat, 12)]) 12 4 = v4 := by
  have e : (put b [(v0.toNat, 23), (v1.toNat, 21), (v2.toNat, 19), (v3.toNat, 16), (v4.toNat, 12)]).toNat = b + v0.toNat * 2 ^ 23 + v1.toNat * 2 ^ 21 + v2.toNat * 2 ^ 19 + v3.toNat * 2 ^ 16 + v4.toNat * 2 ^ 12 := by
    rw [put_toNat_5]; omega
  generalize put b [(v0.toNat, 23), (v1.toNat, 21), (v2.toNat, 19), (v3.toNat, 16), (v4.toNat, 12)] = w at e ⊢
  exact ⟨by rw [e]; omega,
    by
      unfold fixed
      simp only [List.all_cons, List.all_nil, Bool.and_true, beq_iff_eq, e]
      omega,
    by apply BitVec.eq_of_toNat_eq; simp only [fld, BitVec.toNat_ofNat, e]; omega,
    by apply BitVec.eq_of_toNat_eq; simp only [fld, BitVec.toNat_ofNat, e]; omega,
    by apply BitVec.eq_of_toNat_eq; simp only [fld, BitVec.toNat_ofNat, e]; omega,
    by apply BitVec.eq_of_toNat_eq; simp only [fld, BitVec.toNat_ofNat, e]; omega,
    by apply BitVec.eq_of_toNat_eq; simp only [fld, BitVec.toNat_ofNat, e]; omega⟩

/-- Fields of a word of shape 15. -/
theorem shape_15 (k b : Nat) (hk : k < 128) (hb : b = k * 2 ^ 25 + 0) (v0 : BitVec 2) (v1 : BitVec 2) (v2 : BitVec 2) (v3 : BitVec 3) (v4 : BitVec 4) (v5 : BitVec 1) :
    (put b [(v0.toNat, 23), (v1.toNat, 21), (v2.toNat, 19), (v3.toNat, 16), (v4.toNat, 12), (v5.toNat, 0)]).toNat / 2 ^ 25 = k ∧
    fixed (put b [(v0.toNat, 23), (v1.toNat, 21), (v2.toNat, 19), (v3.toNat, 16), (v4.toNat, 12), (v5.toNat, 0)]) [(1, 11, 0)] = true ∧
    fld (put b [(v0.toNat, 23), (v1.toNat, 21), (v2.toNat, 19), (v3.toNat, 16), (v4.toNat, 12), (v5.toNat, 0)]) 23 2 = v0 ∧
    fld (put b [(v0.toNat, 23), (v1.toNat, 21), (v2.toNat, 19), (v3.toNat, 16), (v4.toNat, 12), (v5.toNat, 0)]) 21 2 = v1 ∧
    fld (put b [(v0.toNat, 23), (v1.toNat, 21), (v2.toNat, 19), (v3.toNat, 16), (v4.toNat, 12), (v5.toNat, 0)]) 19 2 = v2 ∧
    fld (put b [(v0.toNat, 23), (v1.toNat, 21), (v2.toNat, 19), (v3.toNat, 16), (v4.toNat, 12), (v5.toNat, 0)]) 16 3 = v3 ∧
    fld (put b [(v0.toNat, 23), (v1.toNat, 21), (v2.toNat, 19), (v3.toNat, 16), (v4.toNat, 12), (v5.toNat, 0)]) 12 4 = v4 ∧
    fld (put b [(v0.toNat, 23), (v1.toNat, 21), (v2.toNat, 19), (v3.toNat, 16), (v4.toNat, 12), (v5.toNat, 0)]) 0 1 = v5 := by
  have e : (put b [(v0.toNat, 23), (v1.toNat, 21), (v2.toNat, 19), (v3.toNat, 16), (v4.toNat, 12), (v5.toNat, 0)]).toNat = b + v0.toNat * 2 ^ 23 + v1.toNat * 2 ^ 21 + v2.toNat * 2 ^ 19 + v3.toNat * 2 ^ 16 + v4.toNat * 2 ^ 12 + v5.toNat * 2 ^ 0 := by
    rw [put_toNat_6]; omega
  generalize put b [(v0.toNat, 23), (v1.toNat, 21), (v2.toNat, 19), (v3.toNat, 16), (v4.toNat, 12), (v5.toNat, 0)] = w at e ⊢
  exact ⟨by rw [e]; omega,
    by
      unfold fixed
      simp only [List.all_cons, List.all_nil, Bool.and_true, beq_iff_eq, e]
      omega,
    by apply BitVec.eq_of_toNat_eq; simp only [fld, BitVec.toNat_ofNat, e]; omega,
    by apply BitVec.eq_of_toNat_eq; simp only [fld, BitVec.toNat_ofNat, e]; omega,
    by apply BitVec.eq_of_toNat_eq; simp only [fld, BitVec.toNat_ofNat, e]; omega,
    by apply BitVec.eq_of_toNat_eq; simp only [fld, BitVec.toNat_ofNat, e]; omega,
    by apply BitVec.eq_of_toNat_eq; simp only [fld, BitVec.toNat_ofNat, e]; omega,
    by apply BitVec.eq_of_toNat_eq; simp only [fld, BitVec.toNat_ofNat, e]; omega⟩

/-- Fields of a word of shape 16. -/
theorem shape_16 (k b : Nat) (hk : k < 128) (hb : b = k * 2 ^ 25 + 0) (v0 : BitVec 2) (v1 : BitVec 2) (v2 : BitVec 2) (v3 : BitVec 3) (v4 : BitVec 4) (v5 : BitVec 3) :
    (put b [(v0.toNat, 23), (v1.toNat, 21), (v2.toNat, 19), (v3.toNat, 16), (v4.toNat, 12), (v5.toNat, 0)]).toNat / 2 ^ 25 = k ∧
    fixed (put b [(v0.toNat, 23), (v1.toNat, 21), (v2.toNat, 19), (v3.toNat, 16), (v4.toNat, 12), (v5.toNat, 0)]) [(3, 9, 0)] = true ∧
    fld (put b [(v0.toNat, 23), (v1.toNat, 21), (v2.toNat, 19), (v3.toNat, 16), (v4.toNat, 12), (v5.toNat, 0)]) 23 2 = v0 ∧
    fld (put b [(v0.toNat, 23), (v1.toNat, 21), (v2.toNat, 19), (v3.toNat, 16), (v4.toNat, 12), (v5.toNat, 0)]) 21 2 = v1 ∧
    fld (put b [(v0.toNat, 23), (v1.toNat, 21), (v2.toNat, 19), (v3.toNat, 16), (v4.toNat, 12), (v5.toNat, 0)]) 19 2 = v2 ∧
    fld (put b [(v0.toNat, 23), (v1.toNat, 21), (v2.toNat, 19), (v3.toNat, 16), (v4.toNat, 12), (v5.toNat, 0)]) 16 3 = v3 ∧
    fld (put b [(v0.toNat, 23), (v1.toNat, 21), (v2.toNat, 19), (v3.toNat, 16), (v4.toNat, 12), (v5.toNat, 0)]) 12 4 = v4 ∧
    fld (put b [(v0.toNat, 23), (v1.toNat, 21), (v2.toNat, 19), (v3.toNat, 16), (v4.toNat, 12), (v5.toNat, 0)]) 0 3 = v5 := by
  have e : (put b [(v0.toNat, 23), (v1.toNat, 21), (v2.toNat, 19), (v3.toNat, 16), (v4.toNat, 12), (v5.toNat, 0)]).toNat = b + v0.toNat * 2 ^ 23 + v1.toNat * 2 ^ 21 + v2.toNat * 2 ^ 19 + v3.toNat * 2 ^ 16 + v4.toNat * 2 ^ 12 + v5.toNat * 2 ^ 0 := by
    rw [put_toNat_6]; omega
  generalize put b [(v0.toNat, 23), (v1.toNat, 21), (v2.toNat, 19), (v3.toNat, 16), (v4.toNat, 12), (v5.toNat, 0)] = w at e ⊢
  exact ⟨by rw [e]; omega,
    by
      unfold fixed
      simp only [List.all_cons, List.all_nil, Bool.and_true, beq_iff_eq, e]
      omega,
    by apply BitVec.eq_of_toNat_eq; simp only [fld, BitVec.toNat_ofNat, e]; omega,
    by apply BitVec.eq_of_toNat_eq; simp only [fld, BitVec.toNat_ofNat, e]; omega,
    by apply BitVec.eq_of_toNat_eq; simp only [fld, BitVec.toNat_ofNat, e]; omega,
    by apply BitVec.eq_of_toNat_eq; simp only [fld, BitVec.toNat_ofNat, e]; omega,
    by apply BitVec.eq_of_toNat_eq; simp only [fld, BitVec.toNat_ofNat, e]; omega,
    by apply BitVec.eq_of_toNat_eq; simp only [fld, BitVec.toNat_ofNat, e]; omega⟩

/-- Fields of a word of shape 17. -/
theorem shape_17 (k b : Nat) (hk : k < 128) (hb : b = k * 2 ^ 25 + 0) (v0 : BitVec 2) (v1 : BitVec 2) (v2 : BitVec 2) (v3 : BitVec 3) (v4 : BitVec 2) :
    (put b [(v0.toNat, 23), (v1.toNat, 21), (v2.toNat, 19), (v3.toNat, 16), (v4.toNat, 12)]).toNat / 2 ^ 25 = k ∧
    fixed (put b [(v0.toNat, 23), (v1.toNat, 21), (v2.toNat, 19), (v3.toNat, 16), (v4.toNat, 12)]) [(0, 12, 0), (14, 2, 0)] = true ∧
    fld (put b [(v0.toNat, 23), (v1.toNat, 21), (v2.toNat, 19), (v3.toNat, 16), (v4.toNat, 12)]) 23 2 = v0 ∧
    fld (put b [(v0.toNat, 23), (v1.toNat, 21), (v2.toNat, 19), (v3.toNat, 16), (v4.toNat, 12)]) 21 2 = v1 ∧
    fld (put b [(v0.toNat, 23), (v1.toNat, 21), (v2.toNat, 19), (v3.toNat, 16), (v4.toNat, 12)]) 19 2 = v2 ∧
    fld (put b [(v0.toNat, 23), (v1.toNat, 21), (v2.toNat, 19), (v3.toNat, 16), (v4.toNat, 12)]) 16 3 = v3 ∧
    fld (put b [(v0.toNat, 23), (v1.toNat, 21), (v2.toNat, 19), (v3.toNat, 16), (v4.toNat, 12)]) 12 2 = v4 := by
  have e : (put b [(v0.toNat, 23), (v1.toNat, 21), (v2.toNat, 19), (v3.toNat, 16), (v4.toNat, 12)]).toNat = b + v0.toNat * 2 ^ 23 + v1.toNat * 2 ^ 21 + v2.toNat * 2 ^ 19 + v3.toNat * 2 ^ 16 + v4.toNat * 2 ^ 12 := by
    rw [put_toNat_5]; omega
  generalize put b [(v0.toNat, 23), (v1.toNat, 21), (v2.toNat, 19), (v3.toNat, 16), (v4.toNat, 12)] = w at e ⊢
  exact ⟨by rw [e]; omega,
    by
      unfold fixed
      simp only [List.all_cons, List.all_nil, Bool.and_true, Bool.and_eq_true, beq_iff_eq, e]
      omega,
    by apply BitVec.eq_of_toNat_eq; simp only [fld, BitVec.toNat_ofNat, e]; omega,
    by apply BitVec.eq_of_toNat_eq; simp only [fld, BitVec.toNat_ofNat, e]; omega,
    by apply BitVec.eq_of_toNat_eq; simp only [fld, BitVec.toNat_ofNat, e]; omega,
    by apply BitVec.eq_of_toNat_eq; simp only [fld, BitVec.toNat_ofNat, e]; omega,
    by apply BitVec.eq_of_toNat_eq; simp only [fld, BitVec.toNat_ofNat, e]; omega⟩

/-- Fields of a word of shape 18. -/
theorem shape_18 (k b : Nat) (hk : k < 128) (hb : b = k * 2 ^ 25 + 0) (v0 : BitVec 2) (v1 : BitVec 2) (v2 : BitVec 4) :
    (put b [(v0.toNat, 23), (v1.toNat, 21), (v2.toNat, 12)]).toNat / 2 ^ 25 = k ∧
    fixed (put b [(v0.toNat, 23), (v1.toNat, 21), (v2.toNat, 12)]) [(0, 12, 0), (16, 5, 0)] = true ∧
    fld (put b [(v0.toNat, 23), (v1.toNat, 21), (v2.toNat, 12)]) 23 2 = v0 ∧
    fld (put b [(v0.toNat, 23), (v1.toNat, 21), (v2.toNat, 12)]) 21 2 = v1 ∧
    fld (put b [(v0.toNat, 23), (v1.toNat, 21), (v2.toNat, 12)]) 12 4 = v2 := by
  have e : (put b [(v0.toNat, 23), (v1.toNat, 21), (v2.toNat, 12)]).toNat = b + v0.toNat * 2 ^ 23 + v1.toNat * 2 ^ 21 + v2.toNat * 2 ^ 12 := by
    rw [put_toNat_3]; omega
  generalize put b [(v0.toNat, 23), (v1.toNat, 21), (v2.toNat, 12)] = w at e ⊢
  exact ⟨by rw [e]; omega,
    by
      unfold fixed
      simp only [List.all_cons, List.all_nil, Bool.and_true, Bool.and_eq_true, beq_iff_eq, e]
      omega,
    by apply BitVec.eq_of_toNat_eq; simp only [fld, BitVec.toNat_ofNat, e]; omega,
    by apply BitVec.eq_of_toNat_eq; simp only [fld, BitVec.toNat_ofNat, e]; omega,
    by apply BitVec.eq_of_toNat_eq; simp only [fld, BitVec.toNat_ofNat, e]; omega⟩

/-- Fields of a word of shape 19. -/
theorem shape_19 (k b : Nat) (hk : k < 128) (hb : b = k * 2 ^ 25 + 0) (v0 : BitVec 2) (v1 : BitVec 2) (v2 : BitVec 5) (v3 : BitVec 4) (v4 : BitVec 4) (v5 : BitVec 4) (v6 : BitVec 3) :
    (put b [(v0.toNat, 23), (v1.toNat, 21), (v2.toNat, 16), (v3.toNat, 12), (v4.toNat, 8), (v5.toNat, 4), (v6.toNat, 0)]).toNat / 2 ^ 25 = k ∧
    fixed (put b [(v0.toNat, 23), (v1.toNat, 21), (v2.toNat, 16), (v3.toNat, 12), (v4.toNat, 8), (v5.toNat, 4), (v6.toNat, 0)]) [(3, 1, 0)] = true ∧
    fld (put b [(v0.toNat, 23), (v1.toNat, 21), (v2.toNat, 16), (v3.toNat, 12), (v4.toNat, 8), (v5.toNat, 4), (v6.toNat, 0)]) 23 2 = v0 ∧
    fld (put b [(v0.toNat, 23), (v1.toNat, 21), (v2.toNat, 16), (v3.toNat, 12), (v4.toNat, 8), (v5.toNat, 4), (v6.toNat, 0)]) 21 2 = v1 ∧
    fld (put b [(v0.toNat, 23), (v1.toNat, 21), (v2.toNat, 16), (v3.toNat, 12), (v4.toNat, 8), (v5.toNat, 4), (v6.toNat, 0)]) 16 5 = v2 ∧
    fld (put b [(v0.toNat, 23), (v1.toNat, 21), (v2.toNat, 16), (v3.toNat, 12), (v4.toNat, 8), (v5.toNat, 4), (v6.toNat, 0)]) 12 4 = v3 ∧
    fld (put b [(v0.toNat, 23), (v1.toNat, 21), (v2.toNat, 16), (v3.toNat, 12), (v4.toNat, 8), (v5.toNat, 4), (v6.toNat, 0)]) 8 4 = v4 ∧
    fld (put b [(v0.toNat, 23), (v1.toNat, 21), (v2.toNat, 16), (v3.toNat, 12), (v4.toNat, 8), (v5.toNat, 4), (v6.toNat, 0)]) 4 4 = v5 ∧
    fld (put b [(v0.toNat, 23), (v1.toNat, 21), (v2.toNat, 16), (v3.toNat, 12), (v4.toNat, 8), (v5.toNat, 4), (v6.toNat, 0)]) 0 3 = v6 := by
  have e : (put b [(v0.toNat, 23), (v1.toNat, 21), (v2.toNat, 16), (v3.toNat, 12), (v4.toNat, 8), (v5.toNat, 4), (v6.toNat, 0)]).toNat = b + v0.toNat * 2 ^ 23 + v1.toNat * 2 ^ 21 + v2.toNat * 2 ^ 16 + v3.toNat * 2 ^ 12 + v4.toNat * 2 ^ 8 + v5.toNat * 2 ^ 4 + v6.toNat * 2 ^ 0 := by
    rw [put_toNat_7]; omega
  generalize put b [(v0.toNat, 23), (v1.toNat, 21), (v2.toNat, 16), (v3.toNat, 12), (v4.toNat, 8), (v5.toNat, 4), (v6.toNat, 0)] = w at e ⊢
  exact ⟨by rw [e]; omega,
    by
      unfold fixed
      simp only [List.all_cons, List.all_nil, Bool.and_true, beq_iff_eq, e]
      omega,
    by apply BitVec.eq_of_toNat_eq; simp only [fld, BitVec.toNat_ofNat, e]; omega,
    by apply BitVec.eq_of_toNat_eq; simp only [fld, BitVec.toNat_ofNat, e]; omega,
    by apply BitVec.eq_of_toNat_eq; simp only [fld, BitVec.toNat_ofNat, e]; omega,
    by apply BitVec.eq_of_toNat_eq; simp only [fld, BitVec.toNat_ofNat, e]; omega,
    by apply BitVec.eq_of_toNat_eq; simp only [fld, BitVec.toNat_ofNat, e]; omega,
    by apply BitVec.eq_of_toNat_eq; simp only [fld, BitVec.toNat_ofNat, e]; omega,
    by apply BitVec.eq_of_toNat_eq; simp only [fld, BitVec.toNat_ofNat, e]; omega⟩

/-- Fields of a word of shape 20. -/
theorem shape_20 (k b : Nat) (hk : k < 128) (hb : b = k * 2 ^ 25 + 0) (v0 : BitVec 2) (v1 : BitVec 2) (v2 : BitVec 5) (v3 : BitVec 3) (v4 : BitVec 2) :
    (put b [(v0.toNat, 23), (v1.toNat, 21), (v2.toNat, 16), (v3.toNat, 2), (v4.toNat, 0)]).toNat / 2 ^ 25 = k ∧
    fixed (put b [(v0.toNat, 23), (v1.toNat, 21), (v2.toNat, 16), (v3.toNat, 2), (v4.toNat, 0)]) [(5, 11, 0)] = true ∧
    fld (put b [(v0.toNat, 23), (v1.toNat, 21), (v2.toNat, 16), (v3.toNat, 2), (v4.toNat, 0)]) 23 2 = v0 ∧
    fld (put b [(v0.toNat, 23), (v1.toNat, 21), (v2.toNat, 16), (v3.toNat, 2), (v4.toNat, 0)]) 21 2 = v1 ∧
    fld (put b [(v0.toNat, 23), (v1.toNat, 21), (v2.toNat, 16), (v3.toNat, 2), (v4.toNat, 0)]) 16 5 = v2 ∧
    fld (put b [(v0.toNat, 23), (v1.toNat, 21), (v2.toNat, 16), (v3.toNat, 2), (v4.toNat, 0)]) 2 3 = v3 ∧
    fld (put b [(v0.toNat, 23), (v1.toNat, 21), (v2.toNat, 16), (v3.toNat, 2), (v4.toNat, 0)]) 0 2 = v4 := by
  have e : (put b [(v0.toNat, 23), (v1.toNat, 21), (v2.toNat, 16), (v3.toNat, 2), (v4.toNat, 0)]).toNat = b + v0.toNat * 2 ^ 23 + v1.toNat * 2 ^ 21 + v2.toNat * 2 ^ 16 + v3.toNat * 2 ^ 2 + v4.toNat * 2 ^ 0 := by
    rw [put_toNat_5]; omega
  generalize put b [(v0.toNat, 23), (v1.toNat, 21), (v2.toNat, 16), (v3.toNat, 2), (v4.toNat, 0)] = w at e ⊢
  exact ⟨by rw [e]; omega,
    by
      unfold fixed
      simp only [List.all_cons, List.all_nil, Bool.and_true, beq_iff_eq, e]
      omega,
    by apply BitVec.eq_of_toNat_eq; simp only [fld, BitVec.toNat_ofNat, e]; omega,
    by apply BitVec.eq_of_toNat_eq; simp only [fld, BitVec.toNat_ofNat, e]; omega,
    by apply BitVec.eq_of_toNat_eq; simp only [fld, BitVec.toNat_ofNat, e]; omega,
    by apply BitVec.eq_of_toNat_eq; simp only [fld, BitVec.toNat_ofNat, e]; omega,
    by apply BitVec.eq_of_toNat_eq; simp only [fld, BitVec.toNat_ofNat, e]; omega⟩

/-- Fields of a word of shape 21. -/
theorem shape_21 (k b : Nat) (hk : k < 128) (hb : b = k * 2 ^ 25 + 0) (v0 : BitVec 2) (v1 : BitVec 2) (v2 : BitVec 2) (v3 : BitVec 3) (v4 : BitVec 4) (v5 : BitVec 2) :
    (put b [(v0.toNat, 23), (v1.toNat, 21), (v2.toNat, 19), (v3.toNat, 16), (v4.toNat, 12), (v5.toNat, 0)]).toNat / 2 ^ 25 = k ∧
    fixed (put b [(v0.toNat, 23), (v1.toNat, 21), (v2.toNat, 19), (v3.toNat, 16), (v4.toNat, 12), (v5.toNat, 0)]) [(2, 10, 0)] = true ∧
    fld (put b [(v0.toNat, 23), (v1.toNat, 21), (v2.toNat, 19), (v3.toNat, 16), (v4.toNat, 12), (v5.toNat, 0)]) 23 2 = v0 ∧
    fld (put b [(v0.toNat, 23), (v1.toNat, 21), (v2.toNat, 19), (v3.toNat, 16), (v4.toNat, 12), (v5.toNat, 0)]) 21 2 = v1 ∧
    fld (put b [(v0.toNat, 23), (v1.toNat, 21), (v2.toNat, 19), (v3.toNat, 16), (v4.toNat, 12), (v5.toNat, 0)]) 19 2 = v2 ∧
    fld (put b [(v0.toNat, 23), (v1.toNat, 21), (v2.toNat, 19), (v3.toNat, 16), (v4.toNat, 12), (v5.toNat, 0)]) 16 3 = v3 ∧
    fld (put b [(v0.toNat, 23), (v1.toNat, 21), (v2.toNat, 19), (v3.toNat, 16), (v4.toNat, 12), (v5.toNat, 0)]) 12 4 = v4 ∧
    fld (put b [(v0.toNat, 23), (v1.toNat, 21), (v2.toNat, 19), (v3.toNat, 16), (v4.toNat, 12), (v5.toNat, 0)]) 0 2 = v5 := by
  have e : (put b [(v0.toNat, 23), (v1.toNat, 21), (v2.toNat, 19), (v3.toNat, 16), (v4.toNat, 12), (v5.toNat, 0)]).toNat = b + v0.toNat * 2 ^ 23 + v1.toNat * 2 ^ 21 + v2.toNat * 2 ^ 19 + v3.toNat * 2 ^ 16 + v4.toNat * 2 ^ 12 + v5.toNat * 2 ^ 0 := by
    rw [put_toNat_6]; omega
  generalize put b [(v0.toNat, 23), (v1.toNat, 21), (v2.toNat, 19), (v3.toNat, 16), (v4.toNat, 12), (v5.toNat, 0)] = w at e ⊢
  exact ⟨by rw [e]; omega,
    by
      unfold fixed
      simp only [List.all_cons, List.all_nil, Bool.and_true, beq_iff_eq, e]
      omega,
    by apply BitVec.eq_of_toNat_eq; simp only [fld, BitVec.toNat_ofNat, e]; omega,
    by apply BitVec.eq_of_toNat_eq; simp only [fld, BitVec.toNat_ofNat, e]; omega,
    by apply BitVec.eq_of_toNat_eq; simp only [fld, BitVec.toNat_ofNat, e]; omega,
    by apply BitVec.eq_of_toNat_eq; simp only [fld, BitVec.toNat_ofNat, e]; omega,
    by apply BitVec.eq_of_toNat_eq; simp only [fld, BitVec.toNat_ofNat, e]; omega,
    by apply BitVec.eq_of_toNat_eq; simp only [fld, BitVec.toNat_ofNat, e]; omega⟩

/-- Fields of a word of shape 22. -/
theorem shape_22 (k b : Nat) (hk : k < 128) (hb : b = k * 2 ^ 25 + 0) (v0 : BitVec 2) (v1 : BitVec 2) (v2 : BitVec 2) (v3 : BitVec 3) :
    (put b [(v0.toNat, 23), (v1.toNat, 21), (v2.toNat, 19), (v3.toNat, 16)]).toNat / 2 ^ 25 = k ∧
    fixed (put b [(v0.toNat, 23), (v1.toNat, 21), (v2.toNat, 19), (v3.toNat, 16)]) [(0, 16, 0)] = true ∧
    fld (put b [(v0.toNat, 23), (v1.toNat, 21), (v2.toNat, 19), (v3.toNat, 16)]) 23 2 = v0 ∧
    fld (put b [(v0.toNat, 23), (v1.toNat, 21), (v2.toNat, 19), (v3.toNat, 16)]) 21 2 = v1 ∧
    fld (put b [(v0.toNat, 23), (v1.toNat, 21), (v2.toNat, 19), (v3.toNat, 16)]) 19 2 = v2 ∧
    fld (put b [(v0.toNat, 23), (v1.toNat, 21), (v2.toNat, 19), (v3.toNat, 16)]) 16 3 = v3 := by
  have e : (put b [(v0.toNat, 23), (v1.toNat, 21), (v2.toNat, 19), (v3.toNat, 16)]).toNat = b + v0.toNat * 2 ^ 23 + v1.toNat * 2 ^ 21 + v2.toNat * 2 ^ 19 + v3.toNat * 2 ^ 16 := by
    rw [put_toNat_4]; omega
  generalize put b [(v0.toNat, 23), (v1.toNat, 21), (v2.toNat, 19), (v3.toNat, 16)] = w at e ⊢
  exact ⟨by rw [e]; omega,
    by
      unfold fixed
      simp only [List.all_cons, List.all_nil, Bool.and_true, beq_iff_eq, e]
      omega,
    by apply BitVec.eq_of_toNat_eq; simp only [fld, BitVec.toNat_ofNat, e]; omega,
    by apply BitVec.eq_of_toNat_eq; simp only [fld, BitVec.toNat_ofNat, e]; omega,
    by apply BitVec.eq_of_toNat_eq; simp only [fld, BitVec.toNat_ofNat, e]; omega,
    by apply BitVec.eq_of_toNat_eq; simp only [fld, BitVec.toNat_ofNat, e]; omega⟩

/-- Fields of a word of shape 23. -/
theorem shape_23 (k b : Nat) (hk : k < 128) (hb : b = k * 2 ^ 25 + 0) (v0 : BitVec 2) (v1 : BitVec 2) (v2 : BitVec 4) :
    (put b [(v0.toNat, 23), (v1.toNat, 21), (v2.toNat, 0)]).toNat / 2 ^ 25 = k ∧
    fixed (put b [(v0.toNat, 23), (v1.toNat, 21), (v2.toNat, 0)]) [(4, 17, 0)] = true ∧
    fld (put b [(v0.toNat, 23), (v1.toNat, 21), (v2.toNat, 0)]) 23 2 = v0 ∧
    fld (put b [(v0.toNat, 23), (v1.toNat, 21), (v2.toNat, 0)]) 21 2 = v1 ∧
    fld (put b [(v0.toNat, 23), (v1.toNat, 21), (v2.toNat, 0)]) 0 4 = v2 := by
  have e : (put b [(v0.toNat, 23), (v1.toNat, 21), (v2.toNat, 0)]).toNat = b + v0.toNat * 2 ^ 23 + v1.toNat * 2 ^ 21 + v2.toNat * 2 ^ 0 := by
    rw [put_toNat_3]; omega
  generalize put b [(v0.toNat, 23), (v1.toNat, 21), (v2.toNat, 0)] = w at e ⊢
  exact ⟨by rw [e]; omega,
    by
      unfold fixed
      simp only [List.all_cons, List.all_nil, Bool.and_true, beq_iff_eq, e]
      omega,
    by apply BitVec.eq_of_toNat_eq; simp only [fld, BitVec.toNat_ofNat, e]; omega,
    by apply BitVec.eq_of_toNat_eq; simp only [fld, BitVec.toNat_ofNat, e]; omega,
    by apply BitVec.eq_of_toNat_eq; simp only [fld, BitVec.toNat_ofNat, e]; omega⟩

/-- Fields of a word of shape 24. -/
theorem shape_24 (k b : Nat) (hk : k < 128) (hb : b = k * 2 ^ 25 + 0) (v0 : BitVec 2) (v1 : BitVec 2) (v2 : BitVec 3) (v3 : BitVec 4) :
    (put b [(v0.toNat, 23), (v1.toNat, 21), (v2.toNat, 4), (v3.toNat, 0)]).toNat / 2 ^ 25 = k ∧
    fixed (put b [(v0.toNat, 23), (v1.toNat, 21), (v2.toNat, 4), (v3.toNat, 0)]) [(7, 14, 0)] = true ∧
    fld (put b [(v0.toNat, 23), (v1.toNat, 21), (v2.toNat, 4), (v3.toNat, 0)]) 23 2 = v0 ∧
    fld (put b [(v0.toNat, 23), (v1.toNat, 21), (v2.toNat, 4), (v3.toNat, 0)]) 21 2 = v1 ∧
    fld (put b [(v0.toNat, 23), (v1.toNat, 21), (v2.toNat, 4), (v3.toNat, 0)]) 4 3 = v2 ∧
    fld (put b [(v0.toNat, 23), (v1.toNat, 21), (v2.toNat, 4), (v3.toNat, 0)]) 0 4 = v3 := by
  have e : (put b [(v0.toNat, 23), (v1.toNat, 21), (v2.toNat, 4), (v3.toNat, 0)]).toNat = b + v0.toNat * 2 ^ 23 + v1.toNat * 2 ^ 21 + v2.toNat * 2 ^ 4 + v3.toNat * 2 ^ 0 := by
    rw [put_toNat_4]; omega
  generalize put b [(v0.toNat, 23), (v1.toNat, 21), (v2.toNat, 4), (v3.toNat, 0)] = w at e ⊢
  exact ⟨by rw [e]; omega,
    by
      unfold fixed
      simp only [List.all_cons, List.all_nil, Bool.and_true, beq_iff_eq, e]
      omega,
    by apply BitVec.eq_of_toNat_eq; simp only [fld, BitVec.toNat_ofNat, e]; omega,
    by apply BitVec.eq_of_toNat_eq; simp only [fld, BitVec.toNat_ofNat, e]; omega,
    by apply BitVec.eq_of_toNat_eq; simp only [fld, BitVec.toNat_ofNat, e]; omega,
    by apply BitVec.eq_of_toNat_eq; simp only [fld, BitVec.toNat_ofNat, e]; omega⟩

/-- Fields of a word of shape 25. -/
theorem shape_25 (k b : Nat) (hk : k < 128) (hb : b = k * 2 ^ 25 + 0) :
    (put b []).toNat / 2 ^ 25 = k ∧
    fixed (put b []) [(0, 25, 0)] = true := by
  have e : (put b []).toNat = b := by
    rw [put_toNat_0]; omega
  generalize put b [] = w at e ⊢
  exact ⟨by rw [e]; omega,
    by
      unfold fixed
      simp only [List.all_cons, List.all_nil, Bool.and_true, beq_iff_eq, e]
      omega⟩

/-- Fields of a word of shape 26. -/
theorem shape_26 (k b : Nat) (hk : k < 128) (hb : b = k * 2 ^ 25 + 0) (v0 : BitVec 1) :
    (put b [(v0.toNat, 0)]).toNat / 2 ^ 25 = k ∧
    fixed (put b [(v0.toNat, 0)]) [(1, 24, 0)] = true ∧
    fld (put b [(v0.toNat, 0)]) 0 1 = v0 := by
  have e : (put b [(v0.toNat, 0)]).toNat = b + v0.toNat * 2 ^ 0 := by
    rw [put_toNat_1]; omega
  generalize put b [(v0.toNat, 0)] = w at e ⊢
  exact ⟨by rw [e]; omega,
    by
      unfold fixed
      simp only [List.all_cons, List.all_nil, Bool.and_true, beq_iff_eq, e]
      omega,
    by apply BitVec.eq_of_toNat_eq; simp only [fld, BitVec.toNat_ofNat, e]; omega⟩

/-- Fields of a word of shape 27. -/
theorem shape_27 (k b : Nat) (hk : k < 128) (hb : b = k * 2 ^ 25 + 0) (v0 : BitVec 2) (v1 : BitVec 2) (v2 : BitVec 2) (v3 : BitVec 3) (v4 : BitVec 1) :
    (put b [(v0.toNat, 23), (v1.toNat, 21), (v2.toNat, 19), (v3.toNat, 16), (v4.toNat, 0)]).toNat / 2 ^ 25 = k ∧
    fixed (put b [(v0.toNat, 23), (v1.toNat, 21), (v2.toNat, 19), (v3.toNat, 16), (v4.toNat, 0)]) [(1, 15, 0)] = true ∧
    fld (put b [(v0.toNat, 23), (v1.toNat, 21), (v2.toNat, 19), (v3.toNat, 16), (v4.toNat, 0)]) 23 2 = v0 ∧
    fld (put b [(v0.toNat, 23), (v1.toNat, 21), (v2.toNat, 19), (v3.toNat, 16), (v4.toNat, 0)]) 21 2 = v1 ∧
    fld (put b [(v0.toNat, 23), (v1.toNat, 21), (v2.toNat, 19), (v3.toNat, 16), (v4.toNat, 0)]) 19 2 = v2 ∧
    fld (put b [(v0.toNat, 23), (v1.toNat, 21), (v2.toNat, 19), (v3.toNat, 16), (v4.toNat, 0)]) 16 3 = v3 ∧
    fld (put b [(v0.toNat, 23), (v1.toNat, 21), (v2.toNat, 19), (v3.toNat, 16), (v4.toNat, 0)]) 0 1 = v4 := by
  have e : (put b [(v0.toNat, 23), (v1.toNat, 21), (v2.toNat, 19), (v3.toNat, 16), (v4.toNat, 0)]).toNat = b + v0.toNat * 2 ^ 23 + v1.toNat * 2 ^ 21 + v2.toNat * 2 ^ 19 + v3.toNat * 2 ^ 16 + v4.toNat * 2 ^ 0 := by
    rw [put_toNat_5]; omega
  generalize put b [(v0.toNat, 23), (v1.toNat, 21), (v2.toNat, 19), (v3.toNat, 16), (v4.toNat, 0)] = w at e ⊢
  exact ⟨by rw [e]; omega,
    by
      unfold fixed
      simp only [List.all_cons, List.all_nil, Bool.and_true, beq_iff_eq, e]
      omega,
    by apply BitVec.eq_of_toNat_eq; simp only [fld, BitVec.toNat_ofNat, e]; omega,
    by apply BitVec.eq_of_toNat_eq; simp only [fld, BitVec.toNat_ofNat, e]; omega,
    by apply BitVec.eq_of_toNat_eq; simp only [fld, BitVec.toNat_ofNat, e]; omega,
    by apply BitVec.eq_of_toNat_eq; simp only [fld, BitVec.toNat_ofNat, e]; omega,
    by apply BitVec.eq_of_toNat_eq; simp only [fld, BitVec.toNat_ofNat, e]; omega⟩

/-- Fields of a word of shape 28. -/
theorem shape_28 (k b : Nat) (hk : k < 128) (hb : b = k * 2 ^ 25 + 0) (v0 : BitVec 2) (v1 : BitVec 2) (v2 : BitVec 2) (v3 : BitVec 3) (v4 : BitVec 12) :
    (put b [(v0.toNat, 23), (v1.toNat, 21), (v2.toNat, 19), (v3.toNat, 16), (v4.toNat, 0)]).toNat / 2 ^ 25 = k ∧
    fixed (put b [(v0.toNat, 23), (v1.toNat, 21), (v2.toNat, 19), (v3.toNat, 16), (v4.toNat, 0)]) [(12, 4, 0)] = true ∧
    fld (put b [(v0.toNat, 23), (v1.toNat, 21), (v2.toNat, 19), (v3.toNat, 16), (v4.toNat, 0)]) 23 2 = v0 ∧
    fld (put b [(v0.toNat, 23), (v1.toNat, 21), (v2.toNat, 19), (v3.toNat, 16), (v4.toNat, 0)]) 21 2 = v1 ∧
    fld (put b [(v0.toNat, 23), (v1.toNat, 21), (v2.toNat, 19), (v3.toNat, 16), (v4.toNat, 0)]) 19 2 = v2 ∧
    fld (put b [(v0.toNat, 23), (v1.toNat, 21), (v2.toNat, 19), (v3.toNat, 16), (v4.toNat, 0)]) 16 3 = v3 ∧
    fld (put b [(v0.toNat, 23), (v1.toNat, 21), (v2.toNat, 19), (v3.toNat, 16), (v4.toNat, 0)]) 0 12 = v4 := by
  have e : (put b [(v0.toNat, 23), (v1.toNat, 21), (v2.toNat, 19), (v3.toNat, 16), (v4.toNat, 0)]).toNat = b + v0.toNat * 2 ^ 23 + v1.toNat * 2 ^ 21 + v2.toNat * 2 ^ 19 + v3.toNat * 2 ^ 16 + v4.toNat * 2 ^ 0 := by
    rw [put_toNat_5]; omega
  generalize put b [(v0.toNat, 23), (v1.toNat, 21), (v2.toNat, 19), (v3.toNat, 16), (v4.toNat, 0)] = w at e ⊢
  exact ⟨by rw [e]; omega,
    by
      unfold fixed
      simp only [List.all_cons, List.all_nil, Bool.and_true, beq_iff_eq, e]
      omega,
    by apply BitVec.eq_of_toNat_eq; simp only [fld, BitVec.toNat_ofNat, e]; omega,
    by apply BitVec.eq_of_toNat_eq; simp only [fld, BitVec.toNat_ofNat, e]; omega,
    by apply BitVec.eq_of_toNat_eq; simp only [fld, BitVec.toNat_ofNat, e]; omega,
    by apply BitVec.eq_of_toNat_eq; simp only [fld, BitVec.toNat_ofNat, e]; omega,
    by apply BitVec.eq_of_toNat_eq; simp only [fld, BitVec.toNat_ofNat, e]; omega⟩

/-- Fields of a word of shape 29. -/
theorem shape_29 (k b : Nat) (hk : k < 128) (hb : b = k * 2 ^ 25 + 0) (v0 : BitVec 2) (v1 : BitVec 2) :
    (put b [(v0.toNat, 23), (v1.toNat, 19)]).toNat / 2 ^ 25 = k ∧
    fixed (put b [(v0.toNat, 23), (v1.toNat, 19)]) [(0, 19, 0), (21, 2, 0)] = true ∧
    fld (put b [(v0.toNat, 23), (v1.toNat, 19)]) 23 2 = v0 ∧
    fld (put b [(v0.toNat, 23), (v1.toNat, 19)]) 19 2 = v1 := by
  have e : (put b [(v0.toNat, 23), (v1.toNat, 19)]).toNat = b + v0.toNat * 2 ^ 23 + v1.toNat * 2 ^ 19 := by
    rw [put_toNat_2]; omega
  generalize put b [(v0.toNat, 23), (v1.toNat, 19)] = w at e ⊢
  exact ⟨by rw [e]; omega,
    by
      unfold fixed
      simp only [List.all_cons, List.all_nil, Bool.and_true, Bool.and_eq_true, beq_iff_eq, e]
      omega,
    by apply BitVec.eq_of_toNat_eq; simp only [fld, BitVec.toNat_ofNat, e]; omega,
    by apply BitVec.eq_of_toNat_eq; simp only [fld, BitVec.toNat_ofNat, e]; omega⟩

/-- Fields of a word of shape 30. -/
theorem shape_30 (k b : Nat) (hk : k < 128) (hb : b = k * 2 ^ 25 + 0) (v0 : BitVec 2) (v1 : BitVec 2) (v2 : BitVec 2) (v3 : BitVec 4) (v4 : BitVec 2) (v5 : BitVec 10) :
    (put b [(v0.toNat, 23), (v1.toNat, 21), (v2.toNat, 19), (v3.toNat, 12), (v4.toNat, 10), (v5.toNat, 0)]).toNat / 2 ^ 25 = k ∧
    fixed (put b [(v0.toNat, 23), (v1.toNat, 21), (v2.toNat, 19), (v3.toNat, 12), (v4.toNat, 10), (v5.toNat, 0)]) [(16, 3, 0)] = true ∧
    fld (put b [(v0.toNat, 23), (v1.toNat, 21), (v2.toNat, 19), (v3.toNat, 12), (v4.toNat, 10), (v5.toNat, 0)]) 23 2 = v0 ∧
    fld (put b [(v0.toNat, 23), (v1.toNat, 21), (v2.toNat, 19), (v3.toNat, 12), (v4.toNat, 10), (v5.toNat, 0)]) 21 2 = v1 ∧
    fld (put b [(v0.toNat, 23), (v1.toNat, 21), (v2.toNat, 19), (v3.toNat, 12), (v4.toNat, 10), (v5.toNat, 0)]) 19 2 = v2 ∧
    fld (put b [(v0.toNat, 23), (v1.toNat, 21), (v2.toNat, 19), (v3.toNat, 12), (v4.toNat, 10), (v5.toNat, 0)]) 12 4 = v3 ∧
    fld (put b [(v0.toNat, 23), (v1.toNat, 21), (v2.toNat, 19), (v3.toNat, 12), (v4.toNat, 10), (v5.toNat, 0)]) 10 2 = v4 ∧
    fld (put b [(v0.toNat, 23), (v1.toNat, 21), (v2.toNat, 19), (v3.toNat, 12), (v4.toNat, 10), (v5.toNat, 0)]) 0 10 = v5 := by
  have e : (put b [(v0.toNat, 23), (v1.toNat, 21), (v2.toNat, 19), (v3.toNat, 12), (v4.toNat, 10), (v5.toNat, 0)]).toNat = b + v0.toNat * 2 ^ 23 + v1.toNat * 2 ^ 21 + v2.toNat * 2 ^ 19 + v3.toNat * 2 ^ 12 + v4.toNat * 2 ^ 10 + v5.toNat * 2 ^ 0 := by
    rw [put_toNat_6]; omega
  generalize put b [(v0.toNat, 23), (v1.toNat, 21), (v2.toNat, 19), (v3.toNat, 12), (v4.toNat, 10), (v5.toNat, 0)] = w at e ⊢
  exact ⟨by rw [e]; omega,
    by
      unfold fixed
      simp only [List.all_cons, List.all_nil, Bool.and_true, beq_iff_eq, e]
      omega,
    by apply BitVec.eq_of_toNat_eq; simp only [fld, BitVec.toNat_ofNat, e]; omega,
    by apply BitVec.eq_of_toNat_eq; simp only [fld, BitVec.toNat_ofNat, e]; omega,
    by apply BitVec.eq_of_toNat_eq; simp only [fld, BitVec.toNat_ofNat, e]; omega,
    by apply BitVec.eq_of_toNat_eq; simp only [fld, BitVec.toNat_ofNat, e]; omega,
    by apply BitVec.eq_of_toNat_eq; simp only [fld, BitVec.toNat_ofNat, e]; omega,
    by apply BitVec.eq_of_toNat_eq; simp only [fld, BitVec.toNat_ofNat, e]; omega⟩

/-- Fields of a word of shape 31. -/
theorem shape_31 (k b : Nat) (hk : k < 128) (hb : b = k * 2 ^ 25 + 0) (v0 : BitVec 2) (v1 : BitVec 2) (v2 : BitVec 2) (v3 : BitVec 4) (v4 : BitVec 3) (v5 : BitVec 9) :
    (put b [(v0.toNat, 23), (v1.toNat, 21), (v2.toNat, 19), (v3.toNat, 12), (v4.toNat, 9), (v5.toNat, 0)]).toNat / 2 ^ 25 = k ∧
    fixed (put b [(v0.toNat, 23), (v1.toNat, 21), (v2.toNat, 19), (v3.toNat, 12), (v4.toNat, 9), (v5.toNat, 0)]) [(16, 3, 0)] = true ∧
    fld (put b [(v0.toNat, 23), (v1.toNat, 21), (v2.toNat, 19), (v3.toNat, 12), (v4.toNat, 9), (v5.toNat, 0)]) 23 2 = v0 ∧
    fld (put b [(v0.toNat, 23), (v1.toNat, 21), (v2.toNat, 19), (v3.toNat, 12), (v4.toNat, 9), (v5.toNat, 0)]) 21 2 = v1 ∧
    fld (put b [(v0.toNat, 23), (v1.toNat, 21), (v2.toNat, 19), (v3.toNat, 12), (v4.toNat, 9), (v5.toNat, 0)]) 19 2 = v2 ∧
    fld (put b [(v0.toNat, 23), (v1.toNat, 21), (v2.toNat, 19), (v3.toNat, 12), (v4.toNat, 9), (v5.toNat, 0)]) 12 4 = v3 ∧
    fld (put b [(v0.toNat, 23), (v1.toNat, 21), (v2.toNat, 19), (v3.toNat, 12), (v4.toNat, 9), (v5.toNat, 0)]) 9 3 = v4 ∧
    fld (put b [(v0.toNat, 23), (v1.toNat, 21), (v2.toNat, 19), (v3.toNat, 12), (v4.toNat, 9), (v5.toNat, 0)]) 0 9 = v5 := by
  have e : (put b [(v0.toNat, 23), (v1.toNat, 21), (v2.toNat, 19), (v3.toNat, 12), (v4.toNat, 9), (v5.toNat, 0)]).toNat = b + v0.toNat * 2 ^ 23 + v1.toNat * 2 ^ 21 + v2.toNat * 2 ^ 19 + v3.toNat * 2 ^ 12 + v4.toNat * 2 ^ 9 + v5.toNat * 2 ^ 0 := by
    rw [put_toNat_6]; omega
  generalize put b [(v0.toNat, 23), (v1.toNat, 21), (v2.toNat, 19), (v3.toNat, 12), (v4.toNat, 9), (v5.toNat, 0)] = w at e ⊢
  exact ⟨by rw [e]; omega,
    by
      unfold fixed
      simp only [List.all_cons, List.all_nil, Bool.and_true, beq_iff_eq, e]
      omega,
    by apply BitVec.eq_of_toNat_eq; simp only [fld, BitVec.toNat_ofNat, e]; omega,
    by apply BitVec.eq_of_toNat_eq; simp only [fld, BitVec.toNat_ofNat, e]; omega,
    by apply BitVec.eq_of_toNat_eq; simp only [fld, BitVec.toNat_ofNat, e]; omega,
    by apply BitVec.eq_of_toNat_eq; simp only [fld, BitVec.toNat_ofNat, e]; omega,
    by apply BitVec.eq_of_toNat_eq; simp only [fld, BitVec.toNat_ofNat, e]; omega,
    by apply BitVec.eq_of_toNat_eq; simp only [fld, BitVec.toNat_ofNat, e]; omega⟩

/-- Fields of a word of shape 32. -/
theorem shape_32 (k b : Nat) (hk : k < 128) (hb : b = k * 2 ^ 25 + 0) (v0 : BitVec 2) (v1 : BitVec 2) (v2 : BitVec 2) (v3 : BitVec 4) (v4 : BitVec 1) :
    (put b [(v0.toNat, 23), (v1.toNat, 21), (v2.toNat, 19), (v3.toNat, 12), (v4.toNat, 0)]).toNat / 2 ^ 25 = k ∧
    fixed (put b [(v0.toNat, 23), (v1.toNat, 21), (v2.toNat, 19), (v3.toNat, 12), (v4.toNat, 0)]) [(1, 11, 0), (16, 3, 0)] = true ∧
    fld (put b [(v0.toNat, 23), (v1.toNat, 21), (v2.toNat, 19), (v3.toNat, 12), (v4.toNat, 0)]) 23 2 = v0 ∧
    fld (put b [(v0.toNat, 23), (v1.toNat, 21), (v2.toNat, 19), (v3.toNat, 12), (v4.toNat, 0)]) 21 2 = v1 ∧
    fld (put b [(v0.toNat, 23), (v1.toNat, 21), (v2.toNat, 19), (v3.toNat, 12), (v4.toNat, 0)]) 19 2 = v2 ∧
    fld (put b [(v0.toNat, 23), (v1.toNat, 21), (v2.toNat, 19), (v3.toNat, 12), (v4.toNat, 0)]) 12 4 = v3 ∧
    fld (put b [(v0.toNat, 23), (v1.toNat, 21), (v2.toNat, 19), (v3.toNat, 12), (v4.toNat, 0)]) 0 1 = v4 := by
  have e : (put b [(v0.toNat, 23), (v1.toNat, 21), (v2.toNat, 19), (v3.toNat, 12), (v4.toNat, 0)]).toNat = b + v0.toNat * 2 ^ 23 + v1.toNat * 2 ^ 21 + v2.toNat * 2 ^ 19 + v3.toNat * 2 ^ 12 + v4.toNat * 2 ^ 0 := by
    rw [put_toNat_5]; omega
  generalize put b [(v0.toNat, 23), (v1.toNat, 21), (v2.toNat, 19), (v3.toNat, 12), (v4.toNat, 0)] = w at e ⊢
  exact ⟨by rw [e]; omega,
    by
      unfold fixed
      simp only [List.all_cons, List.all_nil, Bool.and_true, Bool.and_eq_true, beq_iff_eq, e]
      omega,
    by apply BitVec.eq_of_toNat_eq; simp only [fld, BitVec.toNat_ofNat, e]; omega,
    by apply BitVec.eq_of_toNat_eq; simp only [fld, BitVec.toNat_ofNat, e]; omega,
    by apply BitVec.eq_of_toNat_eq; simp only [fld, BitVec.toNat_ofNat, e]; omega,
    by apply BitVec.eq_of_toNat_eq; simp only [fld, BitVec.toNat_ofNat, e]; omega,
    by apply BitVec.eq_of_toNat_eq; simp only [fld, BitVec.toNat_ofNat, e]; omega⟩

/-- Fields of a word of shape 33. -/
theorem shape_33 (k b : Nat) (hk : k < 128) (hb : b = k * 2 ^ 25 + 0) (v0 : BitVec 2) (v1 : BitVec 2) (v2 : BitVec 4) (v3 : BitVec 2) (v4 : BitVec 4) (v5 : BitVec 3) (v6 : BitVec 1) :
    (put b [(v0.toNat, 23), (v1.toNat, 21), (v2.toNat, 12), (v3.toNat, 10), (v4.toNat, 6), (v5.toNat, 3), (v6.toNat, 2)]).toNat / 2 ^ 25 = k ∧
    fixed (put b [(v0.toNat, 23), (v1.toNat, 21), (v2.toNat, 12), (v3.toNat, 10), (v4.toNat, 6), (v5.toNat, 3), (v6.toNat, 2)]) [(0, 2, 0), (16, 5, 0)] = true ∧
    fld (put b [(v0.toNat, 23), (v1.toNat, 21), (v2.toNat, 12), (v3.toNat, 10), (v4.toNat, 6), (v5.toNat, 3), (v6.toNat, 2)]) 23 2 = v0 ∧
    fld (put b [(v0.toNat, 23), (v1.toNat, 21), (v2.toNat, 12), (v3.toNat, 10), (v4.toNat, 6), (v5.toNat, 3), (v6.toNat, 2)]) 21 2 = v1 ∧
    fld (put b [(v0.toNat, 23), (v1.toNat, 21), (v2.toNat, 12), (v3.toNat, 10), (v4.toNat, 6), (v5.toNat, 3), (v6.toNat, 2)]) 12 4 = v2 ∧
    fld (put b [(v0.toNat, 23), (v1.toNat, 21), (v2.toNat, 12), (v3.toNat, 10), (v4.toNat, 6), (v5.toNat, 3), (v6.toNat, 2)]) 10 2 = v3 ∧
    fld (put b [(v0.toNat, 23), (v1.toNat, 21), (v2.toNat, 12), (v3.toNat, 10), (v4.toNat, 6), (v5.toNat, 3), (v6.toNat, 2)]) 6 4 = v4 ∧
    fld (put b [(v0.toNat, 23), (v1.toNat, 21), (v2.toNat, 12), (v3.toNat, 10), (v4.toNat, 6), (v5.toNat, 3), (v6.toNat, 2)]) 3 3 = v5 ∧
    fld (put b [(v0.toNat, 23), (v1.toNat, 21), (v2.toNat, 12), (v3.toNat, 10), (v4.toNat, 6), (v5.toNat, 3), (v6.toNat, 2)]) 2 1 = v6 := by
  have e : (put b [(v0.toNat, 23), (v1.toNat, 21), (v2.toNat, 12), (v3.toNat, 10), (v4.toNat, 6), (v5.toNat, 3), (v6.toNat, 2)]).toNat = b + v0.toNat * 2 ^ 23 + v1.toNat * 2 ^ 21 + v2.toNat * 2 ^ 12 + v3.toNat * 2 ^ 10 + v4.toNat * 2 ^ 6 + v5.toNat * 2 ^ 3 + v6.toNat * 2 ^ 2 := by
    rw [put_toNat_7]; omega
  generalize put b [(v0.toNat, 23), (v1.toNat, 21), (v2.toNat, 12), (v3.toNat, 10), (v4.toNat, 6), (v5.toNat, 3), (v6.toNat, 2)] = w at e ⊢
  exact ⟨by rw [e]; omega,
    by
      unfold fixed
      simp only [List.all_cons, List.all_nil, Bool.and_true, Bool.and_eq_true, beq_iff_eq, e]
      omega,
    by apply BitVec.eq_of_toNat_eq; simp only [fld, BitVec.toNat_ofNat, e]; omega,
    by apply BitVec.eq_of_toNat_eq; simp only [fld, BitVec.toNat_ofNat, e]; omega,
    by apply BitVec.eq_of_toNat_eq; simp only [fld, BitVec.toNat_ofNat, e]; omega,
    by apply BitVec.eq_of_toNat_eq; simp only [fld, BitVec.toNat_ofNat, e]; omega,
    by apply BitVec.eq_of_toNat_eq; simp only [fld, BitVec.toNat_ofNat, e]; omega,
    by apply BitVec.eq_of_toNat_eq; simp only [fld, BitVec.toNat_ofNat, e]; omega,
    by apply BitVec.eq_of_toNat_eq; simp only [fld, BitVec.toNat_ofNat, e]; omega⟩

/-- Fields of a word of shape 34. -/
theorem shape_34 (k b : Nat) (hk : k < 128) (hb : b = k * 2 ^ 25 + 0) (v0 : BitVec 2) (v1 : BitVec 2) (v2 : BitVec 4) (v3 : BitVec 2) (v4 : BitVec 4) (v5 : BitVec 3) :
    (put b [(v0.toNat, 23), (v1.toNat, 21), (v2.toNat, 12), (v3.toNat, 10), (v4.toNat, 6), (v5.toNat, 3)]).toNat / 2 ^ 25 = k ∧
    fixed (put b [(v0.toNat, 23), (v1.toNat, 21), (v2.toNat, 12), (v3.toNat, 10), (v4.toNat, 6), (v5.toNat, 3)]) [(0, 3, 0), (16, 5, 0)] = true ∧
    fld (put b [(v0.toNat, 23), (v1.toNat, 21), (v2.toNat, 12), (v3.toNat, 10), (v4.toNat, 6), (v5.toNat, 3)]) 23 2 = v0 ∧
    fld (put b [(v0.toNat, 23), (v1.toNat, 21), (v2.toNat, 12), (v3.toNat, 10), (v4.toNat, 6), (v5.toNat, 3)]) 21 2 = v1 ∧
    fld (put b [(v0.toNat, 23), (v1.toNat, 21), (v2.toNat, 12), (v3.toNat, 10), (v4.toNat, 6), (v5.toNat, 3)]) 12 4 = v2 ∧
    fld (put b [(v0.toNat, 23), (v1.toNat, 21), (v2.toNat, 12), (v3.toNat, 10), (v4.toNat, 6), (v5.toNat, 3)]) 10 2 = v3 ∧
    fld (put b [(v0.toNat, 23), (v1.toNat, 21), (v2.toNat, 12), (v3.toNat, 10), (v4.toNat, 6), (v5.toNat, 3)]) 6 4 = v4 ∧
    fld (put b [(v0.toNat, 23), (v1.toNat, 21), (v2.toNat, 12), (v3.toNat, 10), (v4.toNat, 6), (v5.toNat, 3)]) 3 3 = v5 := by
  have e : (put b [(v0.toNat, 23), (v1.toNat, 21), (v2.toNat, 12), (v3.toNat, 10), (v4.toNat, 6), (v5.toNat, 3)]).toNat = b + v0.toNat * 2 ^ 23 + v1.toNat * 2 ^ 21 + v2.toNat * 2 ^ 12 + v3.toNat * 2 ^ 10 + v4.toNat * 2 ^ 6 + v5.toNat * 2 ^ 3 := by
    rw [put_toNat_6]; omega
  generalize put b [(v0.toNat, 23), (v1.toNat, 21), (v2.toNat, 12), (v3.toNat, 10), (v4.toNat, 6), (v5.toNat, 3)] = w at e ⊢
  exact ⟨by rw [e]; omega,
    by
      unfold fixed
      simp only [List.all_cons, List.all_nil, Bool.and_true, Bool.and_eq_true, beq_iff_eq, e]
      omega,
    by apply BitVec.eq_of_toNat_eq; simp only [fld, BitVec.toNat_ofNat, e]; omega,
    by apply BitVec.eq_of_toNat_eq; simp only [fld, BitVec.toNat_ofNat, e]; omega,
    by apply BitVec.eq_of_toNat_eq; simp only [fld, BitVec.toNat_ofNat, e]; omega,
    by apply BitVec.eq_of_toNat_eq; simp only [fld, BitVec.toNat_ofNat, e]; omega,
    by apply BitVec.eq_of_toNat_eq; simp only [fld, BitVec.toNat_ofNat, e]; omega,
    by apply BitVec.eq_of_toNat_eq; simp only [fld, BitVec.toNat_ofNat, e]; omega⟩

/-- Fields of a word of shape 35. -/
theorem shape_35 (k b : Nat) (hk : k < 128) (hb : b = k * 2 ^ 25 + 0) (v0 : BitVec 2) (v1 : BitVec 4) (v2 : BitVec 4) (v3 : BitVec 3) :
    (put b [(v0.toNat, 21), (v1.toNat, 12), (v2.toNat, 6), (v3.toNat, 3)]).toNat / 2 ^ 25 = k ∧
    fixed (put b [(v0.toNat, 21), (v1.toNat, 12), (v2.toNat, 6), (v3.toNat, 3)]) [(0, 3, 0), (10, 2, 0), (16, 5, 0), (23, 2, 0)] = true ∧
    fld (put b [(v0.toNat, 21), (v1.toNat, 12), (v2.toNat, 6), (v3.toNat, 3)]) 21 2 = v0 ∧
    fld (put b [(v0.toNat, 21), (v1.toNat, 12), (v2.toNat, 6), (v3.toNat, 3)]) 12 4 = v1 ∧
    fld (put b [(v0.toNat, 21), (v1.toNat, 12), (v2.toNat, 6), (v3.toNat, 3)]) 6 4 = v2 ∧
    fld (put b [(v0.toNat, 21), (v1.toNat, 12), (v2.toNat, 6), (v3.toNat, 3)]) 3 3 = v3 := by
  have e : (put b [(v0.toNat, 21), (v1.toNat, 12), (v2.toNat, 6), (v3.toNat, 3)]).toNat = b + v0.toNat * 2 ^ 21 + v1.toNat * 2 ^ 12 + v2.toNat * 2 ^ 6 + v3.toNat * 2 ^ 3 := by
    rw [put_toNat_4]; omega
  generalize put b [(v0.toNat, 21), (v1.toNat, 12), (v2.toNat, 6), (v3.toNat, 3)] = w at e ⊢
  exact ⟨by rw [e]; omega,
    by
      unfold fixed
      simp only [List.all_cons, List.all_nil, Bool.and_true, Bool.and_eq_true, beq_iff_eq, e]
      omega,
    by apply BitVec.eq_of_toNat_eq; simp only [fld, BitVec.toNat_ofNat, e]; omega,
    by apply BitVec.eq_of_toNat_eq; simp only [fld, BitVec.toNat_ofNat, e]; omega,
    by apply BitVec.eq_of_toNat_eq; simp only [fld, BitVec.toNat_ofNat, e]; omega,
    by apply BitVec.eq_of_toNat_eq; simp only [fld, BitVec.toNat_ofNat, e]; omega⟩

/-- Fields of a word of shape 36. -/
theorem shape_36 (k b : Nat) (hk : k < 128) (hb : b = k * 2 ^ 25 + 0) (v0 : BitVec 4) (v1 : BitVec 4) (v2 : BitVec 12) :
    (put b [(v0.toNat, 21), (v1.toNat, 12), (v2.toNat, 0)]).toNat / 2 ^ 25 = k ∧
    fixed (put b [(v0.toNat, 21), (v1.toNat, 12), (v2.toNat, 0)]) [(16, 5, 0)] = true ∧
    fld (put b [(v0.toNat, 21), (v1.toNat, 12), (v2.toNat, 0)]) 21 4 = v0 ∧
    fld (put b [(v0.toNat, 21), (v1.toNat, 12), (v2.toNat, 0)]) 12 4 = v1 ∧
    fld (put b [(v0.toNat, 21), (v1.toNat, 12), (v2.toNat, 0)]) 0 12 = v2 := by
  have e : (put b [(v0.toNat, 21), (v1.toNat, 12), (v2.toNat, 0)]).toNat = b + v0.toNat * 2 ^ 21 + v1.toNat * 2 ^ 12 + v2.toNat * 2 ^ 0 := by
    rw [put_toNat_3]; omega
  generalize put b [(v0.toNat, 21), (v1.toNat, 12), (v2.toNat, 0)] = w at e ⊢
  exact ⟨by rw [e]; omega,
    by
      unfold fixed
      simp only [List.all_cons, List.all_nil, Bool.and_true, beq_iff_eq, e]
      omega,
    by apply BitVec.eq_of_toNat_eq; simp only [fld, BitVec.toNat_ofNat, e]; omega,
    by apply BitVec.eq_of_toNat_eq; simp only [fld, BitVec.toNat_ofNat, e]; omega,
    by apply BitVec.eq_of_toNat_eq; simp only [fld, BitVec.toNat_ofNat, e]; omega⟩

/-- Fields of a word of shape 37. -/
theorem shape_37 (k b : Nat) (hk : k < 128) (hb : b = k * 2 ^ 25 + 0) (v0 : BitVec 6) (v1 : BitVec 6) :
    (put b [(v0.toNat, 6), (v1.toNat, 0)]).toNat / 2 ^ 25 = k ∧
    fixed (put b [(v0.toNat, 6), (v1.toNat, 0)]) [(12, 13, 0)] = true ∧
    fld (put b [(v0.toNat, 6), (v1.toNat, 0)]) 6 6 = v0 ∧
    fld (put b [(v0.toNat, 6), (v1.toNat, 0)]) 0 6 = v1 := by
  have e : (put b [(v0.toNat, 6), (v1.toNat, 0)]).toNat = b + v0.toNat * 2 ^ 6 + v1.toNat * 2 ^ 0 := by
    rw [put_toNat_2]; omega
  generalize put b [(v0.toNat, 6), (v1.toNat, 0)] = w at e ⊢
  exact ⟨by rw [e]; omega,
    by
      unfold fixed
      simp only [List.all_cons, List.all_nil, Bool.and_true, beq_iff_eq, e]
      omega,
    by apply BitVec.eq_of_toNat_eq; simp only [fld, BitVec.toNat_ofNat, e]; omega,
    by apply BitVec.eq_of_toNat_eq; simp only [fld, BitVec.toNat_ofNat, e]; omega⟩

/-- Fields of a word of shape 38. -/
theorem shape_38 (k b : Nat) (hk : k < 128) (hb : b = k * 2 ^ 25 + 0) (v0 : BitVec 2) (v1 : BitVec 2) (v2 : BitVec 3) (v3 : BitVec 2) (v4 : BitVec 1) (v5 : BitVec 3) :
    (put b [(v0.toNat, 21), (v1.toNat, 19), (v2.toNat, 16), (v3.toNat, 14), (v4.toNat, 3), (v5.toNat, 0)]).toNat / 2 ^ 25 = k ∧
    fixed (put b [(v0.toNat, 21), (v1.toNat, 19), (v2.toNat, 16), (v3.toNat, 14), (v4.toNat, 3), (v5.toNat, 0)]) [(4, 10, 0), (23, 2, 0)] = true ∧
    fld (put b [(v0.toNat, 21), (v1.toNat, 19), (v2.toNat, 16), (v3.toNat, 14), (v4.toNat, 3), (v5.toNat, 0)]) 21 2 = v0 ∧
    fld (put b [(v0.toNat, 21), (v1.toNat, 19), (v2.toNat, 16), (v3.toNat, 14), (v4.toNat, 3), (v5.toNat, 0)]) 19 2 = v1 ∧
    fld (put b [(v0.toNat, 21), (v1.toNat, 19), (v2.toNat, 16), (v3.toNat, 14), (v4.toNat, 3), (v5.toNat, 0)]) 16 3 = v2 ∧
    fld (put b [(v0.toNat, 21), (v1.toNat, 19), (v2.toNat, 16), (v3.toNat, 14), (v4.toNat, 3), (v5.toNat, 0)]) 14 2 = v3 ∧
    fld (put b [(v0.toNat, 21), (v1.toNat, 19), (v2.toNat, 16), (v3.toNat, 14), (v4.toNat, 3), (v5.toNat, 0)]) 3 1 = v4 ∧
    fld (put b [(v0.toNat, 21), (v1.toNat, 19), (v2.toNat, 16), (v3.toNat, 14), (v4.toNat, 3), (v5.toNat, 0)]) 0 3 = v5 := by
  have e : (put b [(v0.toNat, 21), (v1.toNat, 19), (v2.toNat, 16), (v3.toNat, 14), (v4.toNat, 3), (v5.toNat, 0)]).toNat = b + v0.toNat * 2 ^ 21 + v1.toNat * 2 ^ 19 + v2.toNat * 2 ^ 16 + v3.toNat * 2 ^ 14 + v4.toNat * 2 ^ 3 + v5.toNat * 2 ^ 0 := by
    rw [put_toNat_6]; omega
  generalize put b [(v0.toNat, 21), (v1.toNat, 19), (v2.toNat, 16), (v3.toNat, 14), (v4.toNat, 3), (v5.toNat, 0)] = w at e ⊢
  exact ⟨by rw [e]; omega,
    by
      unfold fixed
      simp only [List.all_cons, List.all_nil, Bool.and_true, Bool.and_eq_true, beq_iff_eq, e]
      omega,
    by apply BitVec.eq_of_toNat_eq; simp only [fld, BitVec.toNat_ofNat, e]; omega,
    by apply BitVec.eq_of_toNat_eq; simp only [fld, BitVec.toNat_ofNat, e]; omega,
    by apply BitVec.eq_of_toNat_eq; simp only [fld, BitVec.toNat_ofNat, e]; omega,
    by apply BitVec.eq_of_toNat_eq; simp only [fld, BitVec.toNat_ofNat, e]; omega,
    by apply BitVec.eq_of_toNat_eq; simp only [fld, BitVec.toNat_ofNat, e]; omega,
    by apply BitVec.eq_of_toNat_eq; simp only [fld, BitVec.toNat_ofNat, e]; omega⟩

/-- Fields of a word of shape 39. -/
theorem shape_39 (k b : Nat) (hk : k < 128) (hb : b = k * 2 ^ 25 + 0) (v0 : BitVec 2) (v1 : BitVec 1) (v2 : BitVec 2) :
    (put b [(v0.toNat, 14), (v1.toNat, 2), (v2.toNat, 0)]).toNat / 2 ^ 25 = k ∧
    fixed (put b [(v0.toNat, 14), (v1.toNat, 2), (v2.toNat, 0)]) [(3, 11, 0), (16, 9, 0)] = true ∧
    fld (put b [(v0.toNat, 14), (v1.toNat, 2), (v2.toNat, 0)]) 14 2 = v0 ∧
    fld (put b [(v0.toNat, 14), (v1.toNat, 2), (v2.toNat, 0)]) 2 1 = v1 ∧
    fld (put b [(v0.toNat, 14), (v1.toNat, 2), (v2.toNat, 0)]) 0 2 = v2 := by
  have e : (put b [(v0.toNat, 14), (v1.toNat, 2), (v2.toNat, 0)]).toNat = b + v0.toNat * 2 ^ 14 + v1.toNat * 2 ^ 2 + v2.toNat * 2 ^ 0 := by
    rw [put_toNat_3]; omega
  generalize put b [(v0.toNat, 14), (v1.toNat, 2), (v2.toNat, 0)] = w at e ⊢
  exact ⟨by rw [e]; omega,
    by
      unfold fixed
      simp only [List.all_cons, List.all_nil, Bool.and_true, Bool.and_eq_true, beq_iff_eq, e]
      omega,
    by apply BitVec.eq_of_toNat_eq; simp only [fld, BitVec.toNat_ofNat, e]; omega,
    by apply BitVec.eq_of_toNat_eq; simp only [fld, BitVec.toNat_ofNat, e]; omega,
    by apply BitVec.eq_of_toNat_eq; simp only [fld, BitVec.toNat_ofNat, e]; omega⟩

/-- Fields of a word of shape 40. -/
theorem shape_40 (k b : Nat) (hk : k < 128) (hb : b = k * 2 ^ 25 + 0) (v0 : BitVec 2) (v1 : BitVec 1) :
    (put b [(v0.toNat, 21), (v1.toNat, 0)]).toNat / 2 ^ 25 = k ∧
    fixed (put b [(v0.toNat, 21), (v1.toNat, 0)]) [(1, 20, 0), (23, 2, 0)] = true ∧
    fld (put b [(v0.toNat, 21), (v1.toNat, 0)]) 21 2 = v0 ∧
    fld (put b [(v0.toNat, 21), (v1.toNat, 0)]) 0 1 = v1 := by
  have e : (put b [(v0.toNat, 21), (v1.toNat, 0)]).toNat = b + v0.toNat * 2 ^ 21 + v1.toNat * 2 ^ 0 := by
    rw [put_toNat_2]; omega
  generalize put b [(v0.toNat, 21), (v1.toNat, 0)] = w at e ⊢
  exact ⟨by rw [e]; omega,
    by
      unfold fixed
      simp only [List.all_cons, List.all_nil, Bool.and_true, Bool.and_eq_true, beq_iff_eq, e]
      omega,
    by apply BitVec.eq_of_toNat_eq; simp only [fld, BitVec.toNat_ofNat, e]; omega,
    by apply BitVec.eq_of_toNat_eq; simp only [fld, BitVec.toNat_ofNat, e]; omega⟩

/-- Fields of a word of shape 41. -/
theorem shape_41 (k b : Nat) (hk : k < 128) (hb : b = k * 2 ^ 25 + 196608) :
    (put b []).toNat / 2 ^ 25 = k ∧
    fixed (put b []) [(0, 25, 196608)] = true := by
  have e : (put b []).toNat = b := by
    rw [put_toNat_0]; omega
  generalize put b [] = w at e ⊢
  exact ⟨by rw [e]; omega,
    by
      unfold fixed
      simp only [List.all_cons, List.all_nil, Bool.and_true, beq_iff_eq, e]
      omega⟩

/-- Fields of a word of shape 42. -/
theorem shape_42 (k b : Nat) (hk : k < 128) (hb : b = k * 2 ^ 25 + 0) (v0 : BitVec 2) (v1 : BitVec 2) :
    (put b [(v0.toNat, 23), (v1.toNat, 21)]).toNat / 2 ^ 25 = k ∧
    fixed (put b [(v0.toNat, 23), (v1.toNat, 21)]) [(0, 21, 0)] = true ∧
    fld (put b [(v0.toNat, 23), (v1.toNat, 21)]) 23 2 = v0 ∧
    fld (put b [(v0.toNat, 23), (v1.toNat, 21)]) 21 2 = v1 := by
  have e : (put b [(v0.toNat, 23), (v1.toNat, 21)]).toNat = b + v0.toNat * 2 ^ 23 + v1.toNat * 2 ^ 21 := by
    rw [put_toNat_2]; omega
  generalize put b [(v0.toNat, 23), (v1.toNat, 21)] = w at e ⊢
  exact ⟨by rw [e]; omega,
    by
      unfold fixed
      simp only [List.all_cons, List.all_nil, Bool.and_true, beq_iff_eq, e]
      omega,
    by apply BitVec.eq_of_toNat_eq; simp only [fld, BitVec.toNat_ofNat, e]; omega,
    by apply BitVec.eq_of_toNat_eq; simp only [fld, BitVec.toNat_ofNat, e]; omega⟩

/-- Fields of a word of shape 43. -/
theorem shape_43 (k b : Nat) (hk : k < 128) (hb : b = k * 2 ^ 25 + 0) (v0 : BitVec 2) (v1 : BitVec 2) (v2 : BitVec 2) (v3 : BitVec 3) (v4 : BitVec 4) (v5 : BitVec 1) (v6 : BitVec 3) :
    (put b [(v0.toNat, 23), (v1.toNat, 21), (v2.toNat, 19), (v3.toNat, 16), (v4.toNat, 12), (v5.toNat, 3), (v6.toNat, 0)]).toNat / 2 ^ 25 = k ∧
    fixed (put b [(v0.toNat, 23), (v1.toNat, 21), (v2.toNat, 19), (v3.toNat, 16), (v4.toNat, 12), (v5.toNat, 3), (v6.toNat, 0)]) [(4, 8, 0)] = true ∧
    fld (put b [(v0.toNat, 23), (v1.toNat, 21), (v2.toNat, 19), (v3.toNat, 16), (v4.toNat, 12), (v5.toNat, 3), (v6.toNat, 0)]) 23 2 = v0 ∧
    fld (put b [(v0.toNat, 23), (v1.toNat, 21), (v2.toNat, 19), (v3.toNat, 16), (v4.toNat, 12), (v5.toNat, 3), (v6.toNat, 0)]) 21 2 = v1 ∧
    fld (put b [(v0.toNat, 23), (v1.toNat, 21), (v2.toNat, 19), (v3.toNat, 16), (v4.toNat, 12), (v5.toNat, 3), (v6.toNat, 0)]) 19 2 = v2 ∧
    fld (put b [(v0.toNat, 23), (v1.toNat, 21), (v2.toNat, 19), (v3.toNat, 16), (v4.toNat, 12), (v5.toNat, 3), (v6.toNat, 0)]) 16 3 = v3 ∧
    fld (put b [(v0.toNat, 23), (v1.toNat, 21), (v2.toNat, 19), (v3.toNat, 16), (v4.toNat, 12), (v5.toNat, 3), (v6.toNat, 0)]) 12 4 = v4 ∧
    fld (put b [(v0.toNat, 23), (v1.toNat, 21), (v2.toNat, 19), (v3.toNat, 16), (v4.toNat, 12), (v5.toNat, 3), (v6.toNat, 0)]) 3 1 = v5 ∧
    fld (put b [(v0.toNat, 23), (v1.toNat, 21), (v2.toNat, 19), (v3.toNat, 16), (v4.toNat, 12), (v5.toNat, 3), (v6.toNat, 0)]) 0 3 = v6 := by
  have e : (put b [(v0.toNat, 23), (v1.toNat, 21), (v2.toNat, 19), (v3.toNat, 16), (v4.toNat, 12), (v5.toNat, 3), (v6.toNat, 0)]).toNat = b + v0.toNat * 2 ^ 23 + v1.toNat * 2 ^ 21 + v2.toNat * 2 ^ 19 + v3.toNat * 2 ^ 16 + v4.toNat * 2 ^ 12 + v5.toNat * 2 ^ 3 + v6.toNat * 2 ^ 0 := by
    rw [put_toNat_7]; omega
  generalize put b [(v0.toNat, 23), (v1.toNat, 21), (v2.toNat, 19), (v3.toNat, 16), (v4.toNat, 12), (v5.toNat, 3), (v6.toNat, 0)] = w at e ⊢
  exact ⟨by rw [e]; omega,
    by
      unfold fixed
      simp only [List.all_cons, List.all_nil, Bool.and_true, beq_iff_eq, e]
      omega,
    by apply BitVec.eq_of_toNat_eq; simp only [fld, BitVec.toNat_ofNat, e]; omega,
    by apply BitVec.eq_of_toNat_eq; simp only [fld, BitVec.toNat_ofNat, e]; omega,
    by apply BitVec.eq_of_toNat_eq; simp only [fld, BitVec.toNat_ofNat, e]; omega,
    by apply BitVec.eq_of_toNat_eq; simp only [fld, BitVec.toNat_ofNat, e]; omega,
    by apply BitVec.eq_of_toNat_eq; simp only [fld, BitVec.toNat_ofNat, e]; omega,
    by apply BitVec.eq_of_toNat_eq; simp only [fld, BitVec.toNat_ofNat, e]; omega,
    by apply BitVec.eq_of_toNat_eq; simp only [fld, BitVec.toNat_ofNat, e]; omega⟩

/-- Fields of a word of shape 44. -/
theorem shape_44 (k b : Nat) (hk : k < 128) (hb : b = k * 2 ^ 25 + 0) (v0 : BitVec 2) :
    (put b [(v0.toNat, 0)]).toNat / 2 ^ 25 = k ∧
    fixed (put b [(v0.toNat, 0)]) [(2, 23, 0)] = true ∧
    fld (put b [(v0.toNat, 0)]) 0 2 = v0 := by
  have e : (put b [(v0.toNat, 0)]).toNat = b + v0.toNat * 2 ^ 0 := by
    rw [put_toNat_1]; omega
  generalize put b [(v0.toNat, 0)] = w at e ⊢
  exact ⟨by rw [e]; omega,
    by
      unfold fixed
      simp only [List.all_cons, List.all_nil, Bool.and_true, beq_iff_eq, e]
      omega,
    by apply BitVec.eq_of_toNat_eq; simp only [fld, BitVec.toNat_ofNat, e]; omega⟩

/-- The instruction's word, decoded where such a word stands, gives the instruction. -/
def Encode.Statement (i : Instr) : Prop :=
  i.wf = true → ∀ w, encode i = some w →
    (i.home = .block → decodeSeq w = .ok i) ∧ (i.home = .fabric → decodeStage w = .ok i)

theorem Encode.add (p : BitVec 2) (t : BitVec 9) (l r : BitVec 7) : Encode.Statement (.add p t l r) := by
  intro hw wd he
  have hs := shape_0 1 0x2000000 (by decide) (by decide) p t l r
  obtain ⟨h0, g0, g1, g2, g3, hr⟩ := hs
  replace he := Option.some.inj he
  rw [he] at h0 g0 g1 g2 g3 hr
  refine ⟨fun _ => ?_, (fun h => nomatch h)⟩
  have e : decodeSeq wd = accept .illegalForm (.add (fld wd 23 2) (fld wd 14 9) (fld wd 7 7) (fld wd 0 7)) := by
    unfold decodeSeq; rw [h0]; rfl
  rw [e, g0, g1, g2, g3]
  unfold accept
  rw [if_pos hw]

theorem Encode.sub (p : BitVec 2) (t : BitVec 9) (l r : BitVec 7) : Encode.Statement (.sub p t l r) := by
  intro hw wd he
  have hs := shape_0 2 0x4000000 (by decide) (by decide) p t l r
  obtain ⟨h0, g0, g1, g2, g3, hr⟩ := hs
  replace he := Option.some.inj he
  rw [he] at h0 g0 g1 g2 g3 hr
  refine ⟨fun _ => ?_, (fun h => nomatch h)⟩
  have e : decodeSeq wd = accept .illegalForm (.sub (fld wd 23 2) (fld wd 14 9) (fld wd 7 7) (fld wd 0 7)) := by
    unfold decodeSeq; rw [h0]; rfl
  rw [e, g0, g1, g2, g3]
  unfold accept
  rw [if_pos hw]

theorem Encode.mul (p : BitVec 2) (t : BitVec 9) (l r : BitVec 7) : Encode.Statement (.mul p t l r) := by
  intro hw wd he
  have hs := shape_0 3 0x6000000 (by decide) (by decide) p t l r
  obtain ⟨h0, g0, g1, g2, g3, hr⟩ := hs
  replace he := Option.some.inj he
  rw [he] at h0 g0 g1 g2 g3 hr
  refine ⟨fun _ => ?_, (fun h => nomatch h)⟩
  have e : decodeSeq wd = accept .illegalForm (.mul (fld wd 23 2) (fld wd 14 9) (fld wd 7 7) (fld wd 0 7)) := by
    unfold decodeSeq; rw [h0]; rfl
  rw [e, g0, g1, g2, g3]
  unfold accept
  rw [if_pos hw]

theorem Encode.mulh (p : BitVec 2) (t : BitVec 9) (l r : BitVec 7) : Encode.Statement (.mulh p t l r) := by
  intro hw wd he
  have hs := shape_0 4 0x8000000 (by decide) (by decide) p t l r
  obtain ⟨h0, g0, g1, g2, g3, hr⟩ := hs
  replace he := Option.some.inj he
  rw [he] at h0 g0 g1 g2 g3 hr
  refine ⟨fun _ => ?_, (fun h => nomatch h)⟩
  have e : decodeSeq wd = accept .illegalForm (.mulh (fld wd 23 2) (fld wd 14 9) (fld wd 7 7) (fld wd 0 7)) := by
    unfold decodeSeq; rw [h0]; rfl
  rw [e, g0, g1, g2, g3]
  unfold accept
  rw [if_pos hw]

theorem Encode.mulhu (p : BitVec 2) (t : BitVec 9) (l r : BitVec 7) : Encode.Statement (.mulhu p t l r) := by
  intro hw wd he
  have hs := shape_0 5 0xa000000 (by decide) (by decide) p t l r
  obtain ⟨h0, g0, g1, g2, g3, hr⟩ := hs
  replace he := Option.some.inj he
  rw [he] at h0 g0 g1 g2 g3 hr
  refine ⟨fun _ => ?_, (fun h => nomatch h)⟩
  have e : decodeSeq wd = accept .illegalForm (.mulhu (fld wd 23 2) (fld wd 14 9) (fld wd 7 7) (fld wd 0 7)) := by
    unfold decodeSeq; rw [h0]; rfl
  rw [e, g0, g1, g2, g3]
  unfold accept
  rw [if_pos hw]

theorem Encode.div (p : BitVec 2) (t : BitVec 9) (l r : BitVec 7) : Encode.Statement (.div p t l r) := by
  intro hw wd he
  have hs := shape_0 6 0xc000000 (by decide) (by decide) p t l r
  obtain ⟨h0, g0, g1, g2, g3, hr⟩ := hs
  replace he := Option.some.inj he
  rw [he] at h0 g0 g1 g2 g3 hr
  refine ⟨fun _ => ?_, (fun h => nomatch h)⟩
  have e : decodeSeq wd = accept .illegalForm (.div (fld wd 23 2) (fld wd 14 9) (fld wd 7 7) (fld wd 0 7)) := by
    unfold decodeSeq; rw [h0]; rfl
  rw [e, g0, g1, g2, g3]
  unfold accept
  rw [if_pos hw]

theorem Encode.divu (p : BitVec 2) (t : BitVec 9) (l r : BitVec 7) : Encode.Statement (.divu p t l r) := by
  intro hw wd he
  have hs := shape_0 7 0xe000000 (by decide) (by decide) p t l r
  obtain ⟨h0, g0, g1, g2, g3, hr⟩ := hs
  replace he := Option.some.inj he
  rw [he] at h0 g0 g1 g2 g3 hr
  refine ⟨fun _ => ?_, (fun h => nomatch h)⟩
  have e : decodeSeq wd = accept .illegalForm (.divu (fld wd 23 2) (fld wd 14 9) (fld wd 7 7) (fld wd 0 7)) := by
    unfold decodeSeq; rw [h0]; rfl
  rw [e, g0, g1, g2, g3]
  unfold accept
  rw [if_pos hw]

theorem Encode.rem (p : BitVec 2) (t : BitVec 9) (l r : BitVec 7) : Encode.Statement (.rem p t l r) := by
  intro hw wd he
  have hs := shape_0 8 0x10000000 (by decide) (by decide) p t l r
  obtain ⟨h0, g0, g1, g2, g3, hr⟩ := hs
  replace he := Option.some.inj he
  rw [he] at h0 g0 g1 g2 g3 hr
  refine ⟨fun _ => ?_, (fun h => nomatch h)⟩
  have e : decodeSeq wd = accept .illegalForm (.rem (fld wd 23 2) (fld wd 14 9) (fld wd 7 7) (fld wd 0 7)) := by
    unfold decodeSeq; rw [h0]; rfl
  rw [e, g0, g1, g2, g3]
  unfold accept
  rw [if_pos hw]

theorem Encode.remu (p : BitVec 2) (t : BitVec 9) (l r : BitVec 7) : Encode.Statement (.remu p t l r) := by
  intro hw wd he
  have hs := shape_0 9 0x12000000 (by decide) (by decide) p t l r
  obtain ⟨h0, g0, g1, g2, g3, hr⟩ := hs
  replace he := Option.some.inj he
  rw [he] at h0 g0 g1 g2 g3 hr
  refine ⟨fun _ => ?_, (fun h => nomatch h)⟩
  have e : decodeSeq wd = accept .illegalForm (.remu (fld wd 23 2) (fld wd 14 9) (fld wd 7 7) (fld wd 0 7)) := by
    unfold decodeSeq; rw [h0]; rfl
  rw [e, g0, g1, g2, g3]
  unfold accept
  rw [if_pos hw]

theorem Encode.and (p : BitVec 2) (t : BitVec 9) (l r : BitVec 7) : Encode.Statement (.and p t l r) := by
  intro hw wd he
  have hs := shape_0 10 0x14000000 (by decide) (by decide) p t l r
  obtain ⟨h0, g0, g1, g2, g3, hr⟩ := hs
  replace he := Option.some.inj he
  rw [he] at h0 g0 g1 g2 g3 hr
  refine ⟨fun _ => ?_, (fun h => nomatch h)⟩
  have e : decodeSeq wd = accept .illegalForm (.and (fld wd 23 2) (fld wd 14 9) (fld wd 7 7) (fld wd 0 7)) := by
    unfold decodeSeq; rw [h0]; rfl
  rw [e, g0, g1, g2, g3]
  unfold accept
  rw [if_pos hw]

theorem Encode.or (p : BitVec 2) (t : BitVec 9) (l r : BitVec 7) : Encode.Statement (.or p t l r) := by
  intro hw wd he
  have hs := shape_0 11 0x16000000 (by decide) (by decide) p t l r
  obtain ⟨h0, g0, g1, g2, g3, hr⟩ := hs
  replace he := Option.some.inj he
  rw [he] at h0 g0 g1 g2 g3 hr
  refine ⟨fun _ => ?_, (fun h => nomatch h)⟩
  have e : decodeSeq wd = accept .illegalForm (.or (fld wd 23 2) (fld wd 14 9) (fld wd 7 7) (fld wd 0 7)) := by
    unfold decodeSeq; rw [h0]; rfl
  rw [e, g0, g1, g2, g3]
  unfold accept
  rw [if_pos hw]

theorem Encode.xor (p : BitVec 2) (t : BitVec 9) (l r : BitVec 7) : Encode.Statement (.xor p t l r) := by
  intro hw wd he
  have hs := shape_0 12 0x18000000 (by decide) (by decide) p t l r
  obtain ⟨h0, g0, g1, g2, g3, hr⟩ := hs
  replace he := Option.some.inj he
  rw [he] at h0 g0 g1 g2 g3 hr
  refine ⟨fun _ => ?_, (fun h => nomatch h)⟩
  have e : decodeSeq wd = accept .illegalForm (.xor (fld wd 23 2) (fld wd 14 9) (fld wd 7 7) (fld wd 0 7)) := by
    unfold decodeSeq; rw [h0]; rfl
  rw [e, g0, g1, g2, g3]
  unfold accept
  rw [if_pos hw]

theorem Encode.andn (p : BitVec 2) (t : BitVec 9) (l r : BitVec 7) : Encode.Statement (.andn p t l r) := by
  intro hw wd he
  have hs := shape_0 13 0x1a000000 (by decide) (by decide) p t l r
  obtain ⟨h0, g0, g1, g2, g3, hr⟩ := hs
  replace he := Option.some.inj he
  rw [he] at h0 g0 g1 g2 g3 hr
  refine ⟨fun _ => ?_, (fun h => nomatch h)⟩
  have e : decodeSeq wd = accept .illegalForm (.andn (fld wd 23 2) (fld wd 14 9) (fld wd 7 7) (fld wd 0 7)) := by
    unfold decodeSeq; rw [h0]; rfl
  rw [e, g0, g1, g2, g3]
  unfold accept
  rw [if_pos hw]

theorem Encode.shl (p : BitVec 2) (t : BitVec 9) (l r : BitVec 7) : Encode.Statement (.shl p t l r) := by
  intro hw wd he
  have hs := shape_0 14 0x1c000000 (by decide) (by decide) p t l r
  obtain ⟨h0, g0, g1, g2, g3, hr⟩ := hs
  replace he := Option.some.inj he
  rw [he] at h0 g0 g1 g2 g3 hr
  refine ⟨fun _ => ?_, (fun h => nomatch h)⟩
  have e : decodeSeq wd = accept .illegalForm (.shl (fld wd 23 2) (fld wd 14 9) (fld wd 7 7) (fld wd 0 7)) := by
    unfold decodeSeq; rw [h0]; rfl
  rw [e, g0, g1, g2, g3]
  unfold accept
  rw [if_pos hw]

theorem Encode.shr (p : BitVec 2) (t : BitVec 9) (l r : BitVec 7) : Encode.Statement (.shr p t l r) := by
  intro hw wd he
  have hs := shape_0 15 0x1e000000 (by decide) (by decide) p t l r
  obtain ⟨h0, g0, g1, g2, g3, hr⟩ := hs
  replace he := Option.some.inj he
  rw [he] at h0 g0 g1 g2 g3 hr
  refine ⟨fun _ => ?_, (fun h => nomatch h)⟩
  have e : decodeSeq wd = accept .illegalForm (.shr (fld wd 23 2) (fld wd 14 9) (fld wd 7 7) (fld wd 0 7)) := by
    unfold decodeSeq; rw [h0]; rfl
  rw [e, g0, g1, g2, g3]
  unfold accept
  rw [if_pos hw]

theorem Encode.sar (p : BitVec 2) (t : BitVec 9) (l r : BitVec 7) : Encode.Statement (.sar p t l r) := by
  intro hw wd he
  have hs := shape_0 16 0x20000000 (by decide) (by decide) p t l r
  obtain ⟨h0, g0, g1, g2, g3, hr⟩ := hs
  replace he := Option.some.inj he
  rw [he] at h0 g0 g1 g2 g3 hr
  refine ⟨fun _ => ?_, (fun h => nomatch h)⟩
  have e : decodeSeq wd = accept .illegalForm (.sar (fld wd 23 2) (fld wd 14 9) (fld wd 7 7) (fld wd 0 7)) := by
    unfold decodeSeq; rw [h0]; rfl
  rw [e, g0, g1, g2, g3]
  unfold accept
  rw [if_pos hw]

theorem Encode.rotl (p : BitVec 2) (t : BitVec 9) (l r : BitVec 7) : Encode.Statement (.rotl p t l r) := by
  intro hw wd he
  have hs := shape_0 17 0x22000000 (by decide) (by decide) p t l r
  obtain ⟨h0, g0, g1, g2, g3, hr⟩ := hs
  replace he := Option.some.inj he
  rw [he] at h0 g0 g1 g2 g3 hr
  refine ⟨fun _ => ?_, (fun h => nomatch h)⟩
  have e : decodeSeq wd = accept .illegalForm (.rotl (fld wd 23 2) (fld wd 14 9) (fld wd 7 7) (fld wd 0 7)) := by
    unfold decodeSeq; rw [h0]; rfl
  rw [e, g0, g1, g2, g3]
  unfold accept
  rw [if_pos hw]

theorem Encode.min (p : BitVec 2) (t : BitVec 9) (l r : BitVec 7) : Encode.Statement (.min p t l r) := by
  intro hw wd he
  have hs := shape_0 18 0x24000000 (by decide) (by decide) p t l r
  obtain ⟨h0, g0, g1, g2, g3, hr⟩ := hs
  replace he := Option.some.inj he
  rw [he] at h0 g0 g1 g2 g3 hr
  refine ⟨fun _ => ?_, (fun h => nomatch h)⟩
  have e : decodeSeq wd = accept .illegalForm (.min (fld wd 23 2) (fld wd 14 9) (fld wd 7 7) (fld wd 0 7)) := by
    unfold decodeSeq; rw [h0]; rfl
  rw [e, g0, g1, g2, g3]
  unfold accept
  rw [if_pos hw]

theorem Encode.max (p : BitVec 2) (t : BitVec 9) (l r : BitVec 7) : Encode.Statement (.max p t l r) := by
  intro hw wd he
  have hs := shape_0 19 0x26000000 (by decide) (by decide) p t l r
  obtain ⟨h0, g0, g1, g2, g3, hr⟩ := hs
  replace he := Option.some.inj he
  rw [he] at h0 g0 g1 g2 g3 hr
  refine ⟨fun _ => ?_, (fun h => nomatch h)⟩
  have e : decodeSeq wd = accept .illegalForm (.max (fld wd 23 2) (fld wd 14 9) (fld wd 7 7) (fld wd 0 7)) := by
    unfold decodeSeq; rw [h0]; rfl
  rw [e, g0, g1, g2, g3]
  unfold accept
  rw [if_pos hw]

theorem Encode.minu (p : BitVec 2) (t : BitVec 9) (l r : BitVec 7) : Encode.Statement (.minu p t l r) := by
  intro hw wd he
  have hs := shape_0 20 0x28000000 (by decide) (by decide) p t l r
  obtain ⟨h0, g0, g1, g2, g3, hr⟩ := hs
  replace he := Option.some.inj he
  rw [he] at h0 g0 g1 g2 g3 hr
  refine ⟨fun _ => ?_, (fun h => nomatch h)⟩
  have e : decodeSeq wd = accept .illegalForm (.minu (fld wd 23 2) (fld wd 14 9) (fld wd 7 7) (fld wd 0 7)) := by
    unfold decodeSeq; rw [h0]; rfl
  rw [e, g0, g1, g2, g3]
  unfold accept
  rw [if_pos hw]

theorem Encode.maxu (p : BitVec 2) (t : BitVec 9) (l r : BitVec 7) : Encode.Statement (.maxu p t l r) := by
  intro hw wd he
  have hs := shape_0 21 0x2a000000 (by decide) (by decide) p t l r
  obtain ⟨h0, g0, g1, g2, g3, hr⟩ := hs
  replace he := Option.some.inj he
  rw [he] at h0 g0 g1 g2 g3 hr
  refine ⟨fun _ => ?_, (fun h => nomatch h)⟩
  have e : decodeSeq wd = accept .illegalForm (.maxu (fld wd 23 2) (fld wd 14 9) (fld wd 7 7) (fld wd 0 7)) := by
    unfold decodeSeq; rw [h0]; rfl
  rw [e, g0, g1, g2, g3]
  unfold accept
  rw [if_pos hw]

theorem Encode.shadd1 (t : BitVec 9) (l r : BitVec 7) : Encode.Statement (.shadd1 t l r) := by
  intro hw wd he
  have hs := shape_1 22 0x2c000000 (by decide) (by decide) t l r
  obtain ⟨h0, hf, g0, g1, g2, hr⟩ := hs
  replace he := Option.some.inj he
  rw [he] at h0 hf g0 g1 g2 hr
  refine ⟨fun _ => ?_, (fun h => nomatch h)⟩
  have e : decodeSeq wd = if fixed wd [(23, 2, 0)] then accept .illegalForm (.shadd1 (fld wd 14 9) (fld wd 7 7) (fld wd 0 7)) else .error .illegalForm := by
    unfold decodeSeq; rw [h0]; rfl
  rw [e, if_pos hf, g0, g1, g2]
  unfold accept
  rw [if_pos hw]

theorem Encode.shadd2 (t : BitVec 9) (l r : BitVec 7) : Encode.Statement (.shadd2 t l r) := by
  intro hw wd he
  have hs := shape_1 23 0x2e000000 (by decide) (by decide) t l r
  obtain ⟨h0, hf, g0, g1, g2, hr⟩ := hs
  replace he := Option.some.inj he
  rw [he] at h0 hf g0 g1 g2 hr
  refine ⟨fun _ => ?_, (fun h => nomatch h)⟩
  have e : decodeSeq wd = if fixed wd [(23, 2, 0)] then accept .illegalForm (.shadd2 (fld wd 14 9) (fld wd 7 7) (fld wd 0 7)) else .error .illegalForm := by
    unfold decodeSeq; rw [h0]; rfl
  rw [e, if_pos hf, g0, g1, g2]
  unfold accept
  rw [if_pos hw]

theorem Encode.shadd3 (t : BitVec 9) (l r : BitVec 7) : Encode.Statement (.shadd3 t l r) := by
  intro hw wd he
  have hs := shape_1 24 0x30000000 (by decide) (by decide) t l r
  obtain ⟨h0, hf, g0, g1, g2, hr⟩ := hs
  replace he := Option.some.inj he
  rw [he] at h0 hf g0 g1 g2 hr
  refine ⟨fun _ => ?_, (fun h => nomatch h)⟩
  have e : decodeSeq wd = if fixed wd [(23, 2, 0)] then accept .illegalForm (.shadd3 (fld wd 14 9) (fld wd 7 7) (fld wd 0 7)) else .error .illegalForm := by
    unfold decodeSeq; rw [h0]; rfl
  rw [e, if_pos hf, g0, g1, g2]
  unfold accept
  rw [if_pos hw]

theorem Encode.shadd4 (t : BitVec 9) (l r : BitVec 7) : Encode.Statement (.shadd4 t l r) := by
  intro hw wd he
  have hs := shape_1 25 0x32000000 (by decide) (by decide) t l r
  obtain ⟨h0, hf, g0, g1, g2, hr⟩ := hs
  replace he := Option.some.inj he
  rw [he] at h0 hf g0 g1 g2 hr
  refine ⟨fun _ => ?_, (fun h => nomatch h)⟩
  have e : decodeSeq wd = if fixed wd [(23, 2, 0)] then accept .illegalForm (.shadd4 (fld wd 14 9) (fld wd 7 7) (fld wd 0 7)) else .error .illegalForm := by
    unfold decodeSeq; rw [h0]; rfl
  rw [e, if_pos hf, g0, g1, g2]
  unfold accept
  rw [if_pos hw]

theorem Encode.clz (p : BitVec 2) (t : BitVec 9) (l r : BitVec 7) : Encode.Statement (.clz p t l r) := by
  intro hw wd he
  have hs := shape_0 26 0x34000000 (by decide) (by decide) p t l r
  obtain ⟨h0, g0, g1, g2, g3, hr⟩ := hs
  replace he := Option.some.inj he
  rw [he] at h0 g0 g1 g2 g3 hr
  refine ⟨fun _ => ?_, (fun h => nomatch h)⟩
  have e : decodeSeq wd = accept .illegalForm (.clz (fld wd 23 2) (fld wd 14 9) (fld wd 7 7) (fld wd 0 7)) := by
    unfold decodeSeq; rw [h0]; rfl
  rw [e, g0, g1, g2, g3]
  unfold accept
  rw [if_pos hw]

theorem Encode.ctz (p : BitVec 2) (t : BitVec 9) (l r : BitVec 7) : Encode.Statement (.ctz p t l r) := by
  intro hw wd he
  have hs := shape_0 27 0x36000000 (by decide) (by decide) p t l r
  obtain ⟨h0, g0, g1, g2, g3, hr⟩ := hs
  replace he := Option.some.inj he
  rw [he] at h0 g0 g1 g2 g3 hr
  refine ⟨fun _ => ?_, (fun h => nomatch h)⟩
  have e : decodeSeq wd = accept .illegalForm (.ctz (fld wd 23 2) (fld wd 14 9) (fld wd 7 7) (fld wd 0 7)) := by
    unfold decodeSeq; rw [h0]; rfl
  rw [e, g0, g1, g2, g3]
  unfold accept
  rw [if_pos hw]

theorem Encode.popc (p : BitVec 2) (t : BitVec 9) (l r : BitVec 7) : Encode.Statement (.popc p t l r) := by
  intro hw wd he
  have hs := shape_0 28 0x38000000 (by decide) (by decide) p t l r
  obtain ⟨h0, g0, g1, g2, g3, hr⟩ := hs
  replace he := Option.some.inj he
  rw [he] at h0 g0 g1 g2 g3 hr
  refine ⟨fun _ => ?_, (fun h => nomatch h)⟩
  have e : decodeSeq wd = accept .illegalForm (.popc (fld wd 23 2) (fld wd 14 9) (fld wd 7 7) (fld wd 0 7)) := by
    unfold decodeSeq; rw [h0]; rfl
  rw [e, g0, g1, g2, g3]
  unfold accept
  rw [if_pos hw]

theorem Encode.sext (p : BitVec 2) (t : BitVec 9) (l r : BitVec 7) : Encode.Statement (.sext p t l r) := by
  intro hw wd he
  have hs := shape_0 29 0x3a000000 (by decide) (by decide) p t l r
  obtain ⟨h0, g0, g1, g2, g3, hr⟩ := hs
  replace he := Option.some.inj he
  rw [he] at h0 g0 g1 g2 g3 hr
  refine ⟨fun _ => ?_, (fun h => nomatch h)⟩
  have e : decodeSeq wd = accept .illegalForm (.sext (fld wd 23 2) (fld wd 14 9) (fld wd 7 7) (fld wd 0 7)) := by
    unfold decodeSeq; rw [h0]; rfl
  rw [e, g0, g1, g2, g3]
  unfold accept
  rw [if_pos hw]

theorem Encode.zext (p : BitVec 2) (t : BitVec 9) (l r : BitVec 7) : Encode.Statement (.zext p t l r) := by
  intro hw wd he
  have hs := shape_0 30 0x3c000000 (by decide) (by decide) p t l r
  obtain ⟨h0, g0, g1, g2, g3, hr⟩ := hs
  replace he := Option.some.inj he
  rw [he] at h0 g0 g1 g2 g3 hr
  refine ⟨fun _ => ?_, (fun h => nomatch h)⟩
  have e : decodeSeq wd = accept .illegalForm (.zext (fld wd 23 2) (fld wd 14 9) (fld wd 7 7) (fld wd 0 7)) := by
    unfold decodeSeq; rw [h0]; rfl
  rw [e, g0, g1, g2, g3]
  unfold accept
  rw [if_pos hw]

theorem Encode.addw (p : BitVec 2) (t : BitVec 9) (l r : BitVec 7) : Encode.Statement (.addw p t l r) := by
  intro hw wd he
  have hs := shape_0 31 0x3e000000 (by decide) (by decide) p t l r
  obtain ⟨h0, g0, g1, g2, g3, hr⟩ := hs
  replace he := Option.some.inj he
  rw [he] at h0 g0 g1 g2 g3 hr
  refine ⟨fun _ => ?_, (fun h => nomatch h)⟩
  have e : decodeSeq wd = accept .illegalForm (.addw (fld wd 23 2) (fld wd 14 9) (fld wd 7 7) (fld wd 0 7)) := by
    unfold decodeSeq; rw [h0]; rfl
  rw [e, g0, g1, g2, g3]
  unfold accept
  rw [if_pos hw]

theorem Encode.ceq (p : BitVec 2) (t : BitVec 9) (l r : BitVec 7) : Encode.Statement (.ceq p t l r) := by
  intro hw wd he
  have hs := shape_0 32 0x40000000 (by decide) (by decide) p t l r
  obtain ⟨h0, g0, g1, g2, g3, hr⟩ := hs
  replace he := Option.some.inj he
  rw [he] at h0 g0 g1 g2 g3 hr
  refine ⟨fun _ => ?_, (fun h => nomatch h)⟩
  have e : decodeSeq wd = accept .illegalForm (.ceq (fld wd 23 2) (fld wd 14 9) (fld wd 7 7) (fld wd 0 7)) := by
    unfold decodeSeq; rw [h0]; rfl
  rw [e, g0, g1, g2, g3]
  unfold accept
  rw [if_pos hw]

theorem Encode.cne (p : BitVec 2) (t : BitVec 9) (l r : BitVec 7) : Encode.Statement (.cne p t l r) := by
  intro hw wd he
  have hs := shape_0 33 0x42000000 (by decide) (by decide) p t l r
  obtain ⟨h0, g0, g1, g2, g3, hr⟩ := hs
  replace he := Option.some.inj he
  rw [he] at h0 g0 g1 g2 g3 hr
  refine ⟨fun _ => ?_, (fun h => nomatch h)⟩
  have e : decodeSeq wd = accept .illegalForm (.cne (fld wd 23 2) (fld wd 14 9) (fld wd 7 7) (fld wd 0 7)) := by
    unfold decodeSeq; rw [h0]; rfl
  rw [e, g0, g1, g2, g3]
  unfold accept
  rw [if_pos hw]

theorem Encode.clt (p : BitVec 2) (t : BitVec 9) (l r : BitVec 7) : Encode.Statement (.clt p t l r) := by
  intro hw wd he
  have hs := shape_0 34 0x44000000 (by decide) (by decide) p t l r
  obtain ⟨h0, g0, g1, g2, g3, hr⟩ := hs
  replace he := Option.some.inj he
  rw [he] at h0 g0 g1 g2 g3 hr
  refine ⟨fun _ => ?_, (fun h => nomatch h)⟩
  have e : decodeSeq wd = accept .illegalForm (.clt (fld wd 23 2) (fld wd 14 9) (fld wd 7 7) (fld wd 0 7)) := by
    unfold decodeSeq; rw [h0]; rfl
  rw [e, g0, g1, g2, g3]
  unfold accept
  rw [if_pos hw]

theorem Encode.cltu (p : BitVec 2) (t : BitVec 9) (l r : BitVec 7) : Encode.Statement (.cltu p t l r) := by
  intro hw wd he
  have hs := shape_0 35 0x46000000 (by decide) (by decide) p t l r
  obtain ⟨h0, g0, g1, g2, g3, hr⟩ := hs
  replace he := Option.some.inj he
  rw [he] at h0 g0 g1 g2 g3 hr
  refine ⟨fun _ => ?_, (fun h => nomatch h)⟩
  have e : decodeSeq wd = accept .illegalForm (.cltu (fld wd 23 2) (fld wd 14 9) (fld wd 7 7) (fld wd 0 7)) := by
    unfold decodeSeq; rw [h0]; rfl
  rw [e, g0, g1, g2, g3]
  unfold accept
  rw [if_pos hw]

theorem Encode.cle (p : BitVec 2) (t : BitVec 9) (l r : BitVec 7) : Encode.Statement (.cle p t l r) := by
  intro hw wd he
  have hs := shape_0 36 0x48000000 (by decide) (by decide) p t l r
  obtain ⟨h0, g0, g1, g2, g3, hr⟩ := hs
  replace he := Option.some.inj he
  rw [he] at h0 g0 g1 g2 g3 hr
  refine ⟨fun _ => ?_, (fun h => nomatch h)⟩
  have e : decodeSeq wd = accept .illegalForm (.cle (fld wd 23 2) (fld wd 14 9) (fld wd 7 7) (fld wd 0 7)) := by
    unfold decodeSeq; rw [h0]; rfl
  rw [e, g0, g1, g2, g3]
  unfold accept
  rw [if_pos hw]

theorem Encode.cleu (p : BitVec 2) (t : BitVec 9) (l r : BitVec 7) : Encode.Statement (.cleu p t l r) := by
  intro hw wd he
  have hs := shape_0 37 0x4a000000 (by decide) (by decide) p t l r
  obtain ⟨h0, g0, g1, g2, g3, hr⟩ := hs
  replace he := Option.some.inj he
  rw [he] at h0 g0 g1 g2 g3 hr
  refine ⟨fun _ => ?_, (fun h => nomatch h)⟩
  have e : decodeSeq wd = accept .illegalForm (.cleu (fld wd 23 2) (fld wd 14 9) (fld wd 7 7) (fld wd 0 7)) := by
    unfold decodeSeq; rw [h0]; rfl
  rw [e, g0, g1, g2, g3]
  unfold accept
  rw [if_pos hw]

theorem Encode.tz (p : BitVec 2) (t : BitVec 9) (l r : BitVec 7) : Encode.Statement (.tz p t l r) := by
  intro hw wd he
  have hs := shape_0 38 0x4c000000 (by decide) (by decide) p t l r
  obtain ⟨h0, g0, g1, g2, g3, hr⟩ := hs
  replace he := Option.some.inj he
  rw [he] at h0 g0 g1 g2 g3 hr
  refine ⟨fun _ => ?_, (fun h => nomatch h)⟩
  have e : decodeSeq wd = accept .illegalForm (.tz (fld wd 23 2) (fld wd 14 9) (fld wd 7 7) (fld wd 0 7)) := by
    unfold decodeSeq; rw [h0]; rfl
  rw [e, g0, g1, g2, g3]
  unfold accept
  rw [if_pos hw]

theorem Encode.tnz (p : BitVec 2) (t : BitVec 9) (l r : BitVec 7) : Encode.Statement (.tnz p t l r) := by
  intro hw wd he
  have hs := shape_0 39 0x4e000000 (by decide) (by decide) p t l r
  obtain ⟨h0, g0, g1, g2, g3, hr⟩ := hs
  replace he := Option.some.inj he
  rw [he] at h0 g0 g1 g2 g3 hr
  refine ⟨fun _ => ?_, (fun h => nomatch h)⟩
  have e : decodeSeq wd = accept .illegalForm (.tnz (fld wd 23 2) (fld wd 14 9) (fld wd 7 7) (fld wd 0 7)) := by
    unfold decodeSeq; rw [h0]; rfl
  rw [e, g0, g1, g2, g3]
  unfold accept
  rw [if_pos hw]

theorem Encode.sel (t : BitVec 9) (l r : BitVec 7) : Encode.Statement (.sel t l r) := by
  intro hw wd he
  have hs := shape_1 40 0x50000000 (by decide) (by decide) t l r
  obtain ⟨h0, hf, g0, g1, g2, hr⟩ := hs
  replace he := Option.some.inj he
  rw [he] at h0 hf g0 g1 g2 hr
  refine ⟨fun _ => ?_, (fun h => nomatch h)⟩
  have e : decodeSeq wd = if fixed wd [(23, 2, 0)] then accept .illegalForm (.sel (fld wd 14 9) (fld wd 7 7) (fld wd 0 7)) else .error .illegalForm := by
    unfold decodeSeq; rw [h0]; rfl
  rw [e, if_pos hf, g0, g1, g2]
  unfold accept
  rw [if_pos hw]

theorem Encode.not (p : BitVec 2) (t : BitVec 9) (l r : BitVec 7) : Encode.Statement (.not p t l r) := by
  intro hw wd he
  have hs := shape_0 41 0x52000000 (by decide) (by decide) p t l r
  obtain ⟨h0, g0, g1, g2, g3, hr⟩ := hs
  replace he := Option.some.inj he
  rw [he] at h0 g0 g1 g2 g3 hr
  refine ⟨fun _ => ?_, (fun h => nomatch h)⟩
  have e : decodeSeq wd = accept .illegalForm (.not (fld wd 23 2) (fld wd 14 9) (fld wd 7 7) (fld wd 0 7)) := by
    unfold decodeSeq; rw [h0]; rfl
  rw [e, g0, g1, g2, g3]
  unfold accept
  rw [if_pos hw]

theorem Encode.const (p : BitVec 2) (t : BitVec 9) (i : BitVec 14) : Encode.Statement (.const p t i) := by
  intro hw wd he
  have hs := shape_2 42 0x54000000 (by decide) (by decide) p t i
  obtain ⟨h0, g0, g1, g2⟩ := hs
  replace he := Option.some.inj he
  rw [he] at h0 g0 g1 g2
  refine ⟨fun _ => ?_, (fun h => nomatch h)⟩
  have e : decodeSeq wd = accept .illegalForm (.const (fld wd 23 2) (fld wd 14 9) (fld wd 0 14)) := by
    unfold decodeSeq; rw [h0]; rfl
  rw [e, g0, g1, g2]
  unfold accept
  rw [if_pos hw]

theorem Encode.constx (p : BitVec 2) (t : BitVec 9) (i : BitVec 14) : Encode.Statement (.constx p t i) := by
  intro hw wd he
  have hs := shape_2 43 0x56000000 (by decide) (by decide) p t i
  obtain ⟨h0, g0, g1, g2⟩ := hs
  replace he := Option.some.inj he
  rw [he] at h0 g0 g1 g2
  refine ⟨fun _ => ?_, (fun h => nomatch h)⟩
  have e : decodeSeq wd = accept .illegalForm (.constx (fld wd 23 2) (fld wd 14 9) (fld wd 0 14)) := by
    unfold decodeSeq; rw [h0]; rfl
  rw [e, g0, g1, g2]
  unfold accept
  rw [if_pos hw]

theorem Encode.mov (p : BitVec 2) (t : BitVec 9) (l r : BitVec 7) : Encode.Statement (.mov p t l r) := by
  intro hw wd he
  have hs := shape_0 44 0x58000000 (by decide) (by decide) p t l r
  obtain ⟨h0, g0, g1, g2, g3, hr⟩ := hs
  replace he := Option.some.inj he
  rw [he] at h0 g0 g1 g2 g3 hr
  refine ⟨fun _ => ?_, (fun h => nomatch h)⟩
  have e : decodeSeq wd = accept .illegalForm (.mov (fld wd 23 2) (fld wd 14 9) (fld wd 7 7) (fld wd 0 7)) := by
    unfold decodeSeq; rw [h0]; rfl
  rw [e, g0, g1, g2, g3]
  unfold accept
  rw [if_pos hw]

theorem Encode.fan (p : BitVec 2) (t u : BitVec 9) : Encode.Statement (.fan p t u) := by
  intro hw wd he
  have hs := shape_3 45 0x5a000000 (by decide) (by decide) p t u
  obtain ⟨h0, hf, g0, g1, g2⟩ := hs
  replace he := Option.some.inj he
  rw [he] at h0 hf g0 g1 g2
  refine ⟨fun _ => ?_, (fun h => nomatch h)⟩
  have e : decodeSeq wd = if fixed wd [(0, 5, 0)] then accept .illegalForm (.fan (fld wd 23 2) (fld wd 14 9) (fld wd 5 9)) else .error .illegalForm := by
    unfold decodeSeq; rw [h0]; rfl
  rw [e, if_pos hf, g0, g1, g2]
  unfold accept
  rw [if_pos hw]

theorem Encode.srrd (p : BitVec 2) (t : BitVec 9) (n : BitVec 14) : Encode.Statement (.srrd p t n) := by
  intro hw wd he
  have hs := shape_2 46 0x5c000000 (by decide) (by decide) p t n
  obtain ⟨h0, g0, g1, g2⟩ := hs
  replace he := Option.some.inj he
  rw [he] at h0 g0 g1 g2
  refine ⟨fun _ => ?_, (fun h => nomatch h)⟩
  have e : decodeSeq wd = accept .illegalForm (.srrd (fld wd 23 2) (fld wd 14 9) (fld wd 0 14)) := by
    unfold decodeSeq; rw [h0]; rfl
  rw [e, g0, g1, g2]
  unfold accept
  rw [if_pos hw]

theorem Encode.srwr (p : BitVec 2) (t : BitVec 9) (n : BitVec 14) : Encode.Statement (.srwr p t n) := by
  intro hw wd he
  have hs := shape_2 47 0x5e000000 (by decide) (by decide) p t n
  obtain ⟨h0, g0, g1, g2⟩ := hs
  replace he := Option.some.inj he
  rw [he] at h0 g0 g1 g2
  refine ⟨fun _ => ?_, (fun h => nomatch h)⟩
  have e : decodeSeq wd = accept .illegalForm (.srwr (fld wd 23 2) (fld wd 14 9) (fld wd 0 14)) := by
    unfold decodeSeq; rw [h0]; rfl
  rw [e, g0, g1, g2]
  unfold accept
  rw [if_pos hw]

theorem Encode.bri (p : BitVec 2) (o : BitVec 23) : Encode.Statement (.bri p o) := by
  intro hw wd he
  have hs := shape_4 48 0x60000000 (by decide) (by decide) p o
  obtain ⟨h0, g0, g1⟩ := hs
  replace he := Option.some.inj he
  rw [he] at h0 g0 g1
  refine ⟨fun _ => ?_, (fun h => nomatch h)⟩
  have e : decodeSeq wd = accept .illegalForm (.bri (fld wd 23 2) (fld wd 0 23)) := by
    unfold decodeSeq; rw [h0]; rfl
  rw [e, g0, g1]
  unfold accept
  rw [if_pos hw]

theorem Encode.br (p : BitVec 2) (l r : BitVec 7) : Encode.Statement (.br p l r) := by
  intro hw wd he
  have hs := shape_5 49 0x62700000 (by decide) (by decide) p l r
  obtain ⟨h0, hf, g0, g1, g2, hr⟩ := hs
  replace he := Option.some.inj he
  rw [he] at h0 hf g0 g1 g2 hr
  refine ⟨fun _ => ?_, (fun h => nomatch h)⟩
  have e : decodeSeq wd = if fixed wd [(14, 9, 448)] then accept .illegalForm (.br (fld wd 23 2) (fld wd 7 7) (fld wd 0 7)) else .error .illegalForm := by
    unfold decodeSeq; rw [h0]; rfl
  rw [e, if_pos hf, g0, g1, g2]
  unfold accept
  rw [if_pos hw]

theorem Encode.calli (p : BitVec 2) (o : BitVec 23) : Encode.Statement (.calli p o) := by
  intro hw wd he
  have hs := shape_4 50 0x64000000 (by decide) (by decide) p o
  obtain ⟨h0, g0, g1⟩ := hs
  replace he := Option.some.inj he
  rw [he] at h0 g0 g1
  refine ⟨fun _ => ?_, (fun h => nomatch h)⟩
  have e : decodeSeq wd = accept .illegalForm (.calli (fld wd 23 2) (fld wd 0 23)) := by
    unfold decodeSeq; rw [h0]; rfl
  rw [e, g0, g1]
  unfold accept
  rw [if_pos hw]

theorem Encode.call (p : BitVec 2) (l r : BitVec 7) : Encode.Statement (.call p l r) := by
  intro hw wd he
  have hs := shape_5 51 0x66700000 (by decide) (by decide) p l r
  obtain ⟨h0, hf, g0, g1, g2, hr⟩ := hs
  replace he := Option.some.inj he
  rw [he] at h0 hf g0 g1 g2 hr
  refine ⟨fun _ => ?_, (fun h => nomatch h)⟩
  have e : decodeSeq wd = if fixed wd [(14, 9, 448)] then accept .illegalForm (.call (fld wd 23 2) (fld wd 7 7) (fld wd 0 7)) else .error .illegalForm := by
    unfold decodeSeq; rw [h0]; rfl
  rw [e, if_pos hf, g0, g1, g2]
  unfold accept
  rw [if_pos hw]

theorem Encode.exit (p : BitVec 2) (l r : BitVec 7) : Encode.Statement (.exit p l r) := by
  intro hw wd he
  have hs := shape_5 52 0x68700000 (by decide) (by decide) p l r
  obtain ⟨h0, hf, g0, g1, g2, hr⟩ := hs
  replace he := Option.some.inj he
  rw [he] at h0 hf g0 g1 g2 hr
  refine ⟨fun _ => ?_, (fun h => nomatch h)⟩
  have e : decodeSeq wd = if fixed wd [(14, 9, 448)] then accept .illegalForm (.exit (fld wd 23 2) (fld wd 7 7) (fld wd 0 7)) else .error .illegalForm := by
    unfold decodeSeq; rw [h0]; rfl
  rw [e, if_pos hf, g0, g1, g2]
  unfold accept
  rw [if_pos hw]

theorem Encode.yield (p : BitVec 2) (l r : BitVec 7) : Encode.Statement (.yield p l r) := by
  intro hw wd he
  have hs := shape_5 53 0x6a700000 (by decide) (by decide) p l r
  obtain ⟨h0, hf, g0, g1, g2, hr⟩ := hs
  replace he := Option.some.inj he
  rw [he] at h0 hf g0 g1 g2 hr
  refine ⟨fun _ => ?_, (fun h => nomatch h)⟩
  have e : decodeSeq wd = if fixed wd [(14, 9, 448)] then accept .illegalForm (.yield (fld wd 23 2) (fld wd 7 7) (fld wd 0 7)) else .error .illegalForm := by
    unfold decodeSeq; rw [h0]; rfl
  rw [e, if_pos hf, g0, g1, g2]
  unfold accept
  rw [if_pos hw]

theorem Encode.trap (p : BitVec 2) (i : BitVec 14) : Encode.Statement (.trap p i) := by
  intro hw wd he
  have hs := shape_6 54 0x6c700000 (by decide) (by decide) p i
  obtain ⟨h0, hf, g0, g1⟩ := hs
  replace he := Option.some.inj he
  rw [he] at h0 hf g0 g1
  refine ⟨fun _ => ?_, (fun h => nomatch h)⟩
  have e : decodeSeq wd = if fixed wd [(14, 9, 448)] then accept .illegalForm (.trap (fld wd 23 2) (fld wd 0 14)) else .error .illegalForm := by
    unfold decodeSeq; rw [h0]; rfl
  rw [e, if_pos hf, g0, g1]
  unfold accept
  rw [if_pos hw]

theorem Encode.eret (p : BitVec 2) (l r : BitVec 7) : Encode.Statement (.eret p l r) := by
  intro hw wd he
  have hs := shape_5 55 0x6e700000 (by decide) (by decide) p l r
  obtain ⟨h0, hf, g0, g1, g2, hr⟩ := hs
  replace he := Option.some.inj he
  rw [he] at h0 hf g0 g1 g2 hr
  refine ⟨fun _ => ?_, (fun h => nomatch h)⟩
  have e : decodeSeq wd = if fixed wd [(14, 9, 448)] then accept .illegalForm (.eret (fld wd 23 2) (fld wd 7 7) (fld wd 0 7)) else .error .illegalForm := by
    unfold decodeSeq; rw [h0]; rfl
  rw [e, if_pos hf, g0, g1, g2]
  unfold accept
  rw [if_pos hw]

theorem Encode.fadd (p : BitVec 2) (t : BitVec 9) (l r : BitVec 7) : Encode.Statement (.fadd p t l r) := by
  intro hw wd he
  have hs := shape_0 56 0x70000000 (by decide) (by decide) p t l r
  obtain ⟨h0, g0, g1, g2, g3, hr⟩ := hs
  replace he := Option.some.inj he
  rw [he] at h0 g0 g1 g2 g3 hr
  refine ⟨fun _ => ?_, (fun h => nomatch h)⟩
  have e : decodeSeq wd = accept .illegalForm (.fadd (fld wd 23 2) (fld wd 14 9) (fld wd 7 7) (fld wd 0 7)) := by
    unfold decodeSeq; rw [h0]; rfl
  rw [e, g0, g1, g2, g3]
  unfold accept
  rw [if_pos hw]

theorem Encode.fsub (p : BitVec 2) (t : BitVec 9) (l r : BitVec 7) : Encode.Statement (.fsub p t l r) := by
  intro hw wd he
  have hs := shape_0 57 0x72000000 (by decide) (by decide) p t l r
  obtain ⟨h0, g0, g1, g2, g3, hr⟩ := hs
  replace he := Option.some.inj he
  rw [he] at h0 g0 g1 g2 g3 hr
  refine ⟨fun _ => ?_, (fun h => nomatch h)⟩
  have e : decodeSeq wd = accept .illegalForm (.fsub (fld wd 23 2) (fld wd 14 9) (fld wd 7 7) (fld wd 0 7)) := by
    unfold decodeSeq; rw [h0]; rfl
  rw [e, g0, g1, g2, g3]
  unfold accept
  rw [if_pos hw]

theorem Encode.fmul (p : BitVec 2) (t : BitVec 9) (l r : BitVec 7) : Encode.Statement (.fmul p t l r) := by
  intro hw wd he
  have hs := shape_0 58 0x74000000 (by decide) (by decide) p t l r
  obtain ⟨h0, g0, g1, g2, g3, hr⟩ := hs
  replace he := Option.some.inj he
  rw [he] at h0 g0 g1 g2 g3 hr
  refine ⟨fun _ => ?_, (fun h => nomatch h)⟩
  have e : decodeSeq wd = accept .illegalForm (.fmul (fld wd 23 2) (fld wd 14 9) (fld wd 7 7) (fld wd 0 7)) := by
    unfold decodeSeq; rw [h0]; rfl
  rw [e, g0, g1, g2, g3]
  unfold accept
  rw [if_pos hw]

theorem Encode.fdiv (p : BitVec 2) (t : BitVec 9) (l r : BitVec 7) : Encode.Statement (.fdiv p t l r) := by
  intro hw wd he
  have hs := shape_0 59 0x76000000 (by decide) (by decide) p t l r
  obtain ⟨h0, g0, g1, g2, g3, hr⟩ := hs
  replace he := Option.some.inj he
  rw [he] at h0 g0 g1 g2 g3 hr
  refine ⟨fun _ => ?_, (fun h => nomatch h)⟩
  have e : decodeSeq wd = accept .illegalForm (.fdiv (fld wd 23 2) (fld wd 14 9) (fld wd 7 7) (fld wd 0 7)) := by
    unfold decodeSeq; rw [h0]; rfl
  rw [e, g0, g1, g2, g3]
  unfold accept
  rw [if_pos hw]

theorem Encode.fmin (p : BitVec 2) (t : BitVec 9) (l r : BitVec 7) : Encode.Statement (.fmin p t l r) := by
  intro hw wd he
  have hs := shape_0 60 0x78000000 (by decide) (by decide) p t l r
  obtain ⟨h0, g0, g1, g2, g3, hr⟩ := hs
  replace he := Option.some.inj he
  rw [he] at h0 g0 g1 g2 g3 hr
  refine ⟨fun _ => ?_, (fun h => nomatch h)⟩
  have e : decodeSeq wd = accept .illegalForm (.fmin (fld wd 23 2) (fld wd 14 9) (fld wd 7 7) (fld wd 0 7)) := by
    unfold decodeSeq; rw [h0]; rfl
  rw [e, g0, g1, g2, g3]
  unfold accept
  rw [if_pos hw]

theorem Encode.fmax (p : BitVec 2) (t : BitVec 9) (l r : BitVec 7) : Encode.Statement (.fmax p t l r) := by
  intro hw wd he
  have hs := shape_0 61 0x7a000000 (by decide) (by decide) p t l r
  obtain ⟨h0, g0, g1, g2, g3, hr⟩ := hs
  replace he := Option.some.inj he
  rw [he] at h0 g0 g1 g2 g3 hr
  refine ⟨fun _ => ?_, (fun h => nomatch h)⟩
  have e : decodeSeq wd = accept .illegalForm (.fmax (fld wd 23 2) (fld wd 14 9) (fld wd 7 7) (fld wd 0 7)) := by
    unfold decodeSeq; rw [h0]; rfl
  rw [e, g0, g1, g2, g3]
  unfold accept
  rw [if_pos hw]

theorem Encode.fclt (p : BitVec 2) (t : BitVec 9) (l r : BitVec 7) : Encode.Statement (.fclt p t l r) := by
  intro hw wd he
  have hs := shape_0 62 0x7c000000 (by decide) (by decide) p t l r
  obtain ⟨h0, g0, g1, g2, g3, hr⟩ := hs
  replace he := Option.some.inj he
  rw [he] at h0 g0 g1 g2 g3 hr
  refine ⟨fun _ => ?_, (fun h => nomatch h)⟩
  have e : decodeSeq wd = accept .illegalForm (.fclt (fld wd 23 2) (fld wd 14 9) (fld wd 7 7) (fld wd 0 7)) := by
    unfold decodeSeq; rw [h0]; rfl
  rw [e, g0, g1, g2, g3]
  unfold accept
  rw [if_pos hw]

theorem Encode.fceq (p : BitVec 2) (t : BitVec 9) (l r : BitVec 7) : Encode.Statement (.fceq p t l r) := by
  intro hw wd he
  have hs := shape_0 63 0x7e000000 (by decide) (by decide) p t l r
  obtain ⟨h0, g0, g1, g2, g3, hr⟩ := hs
  replace he := Option.some.inj he
  rw [he] at h0 g0 g1 g2 g3 hr
  refine ⟨fun _ => ?_, (fun h => nomatch h)⟩
  have e : decodeSeq wd = accept .illegalForm (.fceq (fld wd 23 2) (fld wd 14 9) (fld wd 7 7) (fld wd 0 7)) := by
    unfold decodeSeq; rw [h0]; rfl
  rw [e, g0, g1, g2, g3]
  unfold accept
  rw [if_pos hw]

theorem Encode.fcle (p : BitVec 2) (t : BitVec 9) (l r : BitVec 7) : Encode.Statement (.fcle p t l r) := by
  intro hw wd he
  have hs := shape_0 64 0x80000000 (by decide) (by decide) p t l r
  obtain ⟨h0, g0, g1, g2, g3, hr⟩ := hs
  replace he := Option.some.inj he
  rw [he] at h0 g0 g1 g2 g3 hr
  refine ⟨fun _ => ?_, (fun h => nomatch h)⟩
  have e : decodeSeq wd = accept .illegalForm (.fcle (fld wd 23 2) (fld wd 14 9) (fld wd 7 7) (fld wd 0 7)) := by
    unfold decodeSeq; rw [h0]; rfl
  rw [e, g0, g1, g2, g3]
  unfold accept
  rw [if_pos hw]

theorem Encode.cvtif (p : BitVec 2) (t : BitVec 9) (l r : BitVec 7) : Encode.Statement (.cvtif p t l r) := by
  intro hw wd he
  have hs := shape_0 65 0x82000000 (by decide) (by decide) p t l r
  obtain ⟨h0, g0, g1, g2, g3, hr⟩ := hs
  replace he := Option.some.inj he
  rw [he] at h0 g0 g1 g2 g3 hr
  refine ⟨fun _ => ?_, (fun h => nomatch h)⟩
  have e : decodeSeq wd = accept .illegalForm (.cvtif (fld wd 23 2) (fld wd 14 9) (fld wd 7 7) (fld wd 0 7)) := by
    unfold decodeSeq; rw [h0]; rfl
  rw [e, g0, g1, g2, g3]
  unfold accept
  rw [if_pos hw]

theorem Encode.cvtfi (p : BitVec 2) (t : BitVec 9) (l r : BitVec 7) : Encode.Statement (.cvtfi p t l r) := by
  intro hw wd he
  have hs := shape_0 66 0x84000000 (by decide) (by decide) p t l r
  obtain ⟨h0, g0, g1, g2, g3, hr⟩ := hs
  replace he := Option.some.inj he
  rw [he] at h0 g0 g1 g2 g3 hr
  refine ⟨fun _ => ?_, (fun h => nomatch h)⟩
  have e : decodeSeq wd = accept .illegalForm (.cvtfi (fld wd 23 2) (fld wd 14 9) (fld wd 7 7) (fld wd 0 7)) := by
    unfold decodeSeq; rw [h0]; rfl
  rw [e, g0, g1, g2, g3]
  unfold accept
  rw [if_pos hw]

theorem Encode.fsqrt (p : BitVec 2) (t : BitVec 9) (l r : BitVec 7) : Encode.Statement (.fsqrt p t l r) := by
  intro hw wd he
  have hs := shape_0 67 0x86000000 (by decide) (by decide) p t l r
  obtain ⟨h0, g0, g1, g2, g3, hr⟩ := hs
  replace he := Option.some.inj he
  rw [he] at h0 g0 g1 g2 g3 hr
  refine ⟨fun _ => ?_, (fun h => nomatch h)⟩
  have e : decodeSeq wd = accept .illegalForm (.fsqrt (fld wd 23 2) (fld wd 14 9) (fld wd 7 7) (fld wd 0 7)) := by
    unfold decodeSeq; rw [h0]; rfl
  rw [e, g0, g1, g2, g3]
  unfold accept
  rw [if_pos hw]

theorem Encode.ld8 (p : BitVec 2) (t : BitVec 9) (l r : BitVec 7) : Encode.Statement (.ld8 p t l r) := by
  intro hw wd he
  have hs := shape_0 68 0x88000000 (by decide) (by decide) p t l r
  obtain ⟨h0, g0, g1, g2, g3, hr⟩ := hs
  replace he := Option.some.inj he
  rw [he] at h0 g0 g1 g2 g3 hr
  refine ⟨fun _ => ?_, (fun h => nomatch h)⟩
  have e : decodeSeq wd = accept .illegalForm (.ld8 (fld wd 23 2) (fld wd 14 9) (fld wd 7 7) (fld wd 0 7)) := by
    unfold decodeSeq; rw [h0]; rfl
  rw [e, g0, g1, g2, g3]
  unfold accept
  rw [if_pos hw]

theorem Encode.ld8s (p : BitVec 2) (t : BitVec 9) (l r : BitVec 7) : Encode.Statement (.ld8s p t l r) := by
  intro hw wd he
  have hs := shape_0 69 0x8a000000 (by decide) (by decide) p t l r
  obtain ⟨h0, g0, g1, g2, g3, hr⟩ := hs
  replace he := Option.some.inj he
  rw [he] at h0 g0 g1 g2 g3 hr
  refine ⟨fun _ => ?_, (fun h => nomatch h)⟩
  have e : decodeSeq wd = accept .illegalForm (.ld8s (fld wd 23 2) (fld wd 14 9) (fld wd 7 7) (fld wd 0 7)) := by
    unfold decodeSeq; rw [h0]; rfl
  rw [e, g0, g1, g2, g3]
  unfold accept
  rw [if_pos hw]

theorem Encode.ld16 (p : BitVec 2) (t : BitVec 9) (l r : BitVec 7) : Encode.Statement (.ld16 p t l r) := by
  intro hw wd he
  have hs := shape_0 70 0x8c000000 (by decide) (by decide) p t l r
  obtain ⟨h0, g0, g1, g2, g3, hr⟩ := hs
  replace he := Option.some.inj he
  rw [he] at h0 g0 g1 g2 g3 hr
  refine ⟨fun _ => ?_, (fun h => nomatch h)⟩
  have e : decodeSeq wd = accept .illegalForm (.ld16 (fld wd 23 2) (fld wd 14 9) (fld wd 7 7) (fld wd 0 7)) := by
    unfold decodeSeq; rw [h0]; rfl
  rw [e, g0, g1, g2, g3]
  unfold accept
  rw [if_pos hw]

theorem Encode.ld16s (p : BitVec 2) (t : BitVec 9) (l r : BitVec 7) : Encode.Statement (.ld16s p t l r) := by
  intro hw wd he
  have hs := shape_0 71 0x8e000000 (by decide) (by decide) p t l r
  obtain ⟨h0, g0, g1, g2, g3, hr⟩ := hs
  replace he := Option.some.inj he
  rw [he] at h0 g0 g1 g2 g3 hr
  refine ⟨fun _ => ?_, (fun h => nomatch h)⟩
  have e : decodeSeq wd = accept .illegalForm (.ld16s (fld wd 23 2) (fld wd 14 9) (fld wd 7 7) (fld wd 0 7)) := by
    unfold decodeSeq; rw [h0]; rfl
  rw [e, g0, g1, g2, g3]
  unfold accept
  rw [if_pos hw]

theorem Encode.ld32 (p : BitVec 2) (t : BitVec 9) (l r : BitVec 7) : Encode.Statement (.ld32 p t l r) := by
  intro hw wd he
  have hs := shape_0 72 0x90000000 (by decide) (by decide) p t l r
  obtain ⟨h0, g0, g1, g2, g3, hr⟩ := hs
  replace he := Option.some.inj he
  rw [he] at h0 g0 g1 g2 g3 hr
  refine ⟨fun _ => ?_, (fun h => nomatch h)⟩
  have e : decodeSeq wd = accept .illegalForm (.ld32 (fld wd 23 2) (fld wd 14 9) (fld wd 7 7) (fld wd 0 7)) := by
    unfold decodeSeq; rw [h0]; rfl
  rw [e, g0, g1, g2, g3]
  unfold accept
  rw [if_pos hw]

theorem Encode.ld32s (p : BitVec 2) (t : BitVec 9) (l r : BitVec 7) : Encode.Statement (.ld32s p t l r) := by
  intro hw wd he
  have hs := shape_0 73 0x92000000 (by decide) (by decide) p t l r
  obtain ⟨h0, g0, g1, g2, g3, hr⟩ := hs
  replace he := Option.some.inj he
  rw [he] at h0 g0 g1 g2 g3 hr
  refine ⟨fun _ => ?_, (fun h => nomatch h)⟩
  have e : decodeSeq wd = accept .illegalForm (.ld32s (fld wd 23 2) (fld wd 14 9) (fld wd 7 7) (fld wd 0 7)) := by
    unfold decodeSeq; rw [h0]; rfl
  rw [e, g0, g1, g2, g3]
  unfold accept
  rw [if_pos hw]

theorem Encode.ld64 (p : BitVec 2) (t : BitVec 9) (l r : BitVec 7) : Encode.Statement (.ld64 p t l r) := by
  intro hw wd he
  have hs := shape_0 74 0x94000000 (by decide) (by decide) p t l r
  obtain ⟨h0, g0, g1, g2, g3, hr⟩ := hs
  replace he := Option.some.inj he
  rw [he] at h0 g0 g1 g2 g3 hr
  refine ⟨fun _ => ?_, (fun h => nomatch h)⟩
  have e : decodeSeq wd = accept .illegalForm (.ld64 (fld wd 23 2) (fld wd 14 9) (fld wd 7 7) (fld wd 0 7)) := by
    unfold decodeSeq; rw [h0]; rfl
  rw [e, g0, g1, g2, g3]
  unfold accept
  rw [if_pos hw]

theorem Encode.ldaq (p : BitVec 2) (t : BitVec 9) (l : BitVec 7) (s : BitVec 3) (x : BitVec 1) (z : BitVec 2) : Encode.Statement (.ldaq p t l s x z) := by
  intro hw wd he
  have hs := shape_7 75 0x96000000 (by decide) (by decide) p t l s x z
  obtain ⟨h0, hf, g0, g1, g2, g3, g4, g5⟩ := hs
  replace he := Option.some.inj he
  rw [he] at h0 hf g0 g1 g2 g3 g4 g5
  refine ⟨fun _ => ?_, (fun h => nomatch h)⟩
  have e : decodeSeq wd = if fixed wd [(3, 1, 0)] then accept .illegalForm (.ldaq (fld wd 23 2) (fld wd 14 9) (fld wd 7 7) (fld wd 4 3) (fld wd 2 1) (fld wd 0 2)) else .error .illegalForm := by
    unfold decodeSeq; rw [h0]; rfl
  rw [e, if_pos hf, g0, g1, g2, g3, g4, g5]
  unfold accept
  rw [if_pos hw]

theorem Encode.st8 (p : BitVec 2) (o : BitVec 9) (l r : BitVec 7) : Encode.Statement (.st8 p o l r) := by
  intro hw wd he
  have hs := shape_0 76 0x98000000 (by decide) (by decide) p o l r
  obtain ⟨h0, g0, g1, g2, g3, hr⟩ := hs
  replace he := Option.some.inj he
  rw [he] at h0 g0 g1 g2 g3 hr
  refine ⟨fun _ => ?_, (fun h => nomatch h)⟩
  have e : decodeSeq wd = accept .illegalForm (.st8 (fld wd 23 2) (fld wd 14 9) (fld wd 7 7) (fld wd 0 7)) := by
    unfold decodeSeq; rw [h0]; rfl
  rw [e, g0, g1, g2, g3]
  unfold accept
  rw [if_pos hw]

theorem Encode.st16 (p : BitVec 2) (o : BitVec 9) (l r : BitVec 7) : Encode.Statement (.st16 p o l r) := by
  intro hw wd he
  have hs := shape_0 77 0x9a000000 (by decide) (by decide) p o l r
  obtain ⟨h0, g0, g1, g2, g3, hr⟩ := hs
  replace he := Option.some.inj he
  rw [he] at h0 g0 g1 g2 g3 hr
  refine ⟨fun _ => ?_, (fun h => nomatch h)⟩
  have e : decodeSeq wd = accept .illegalForm (.st16 (fld wd 23 2) (fld wd 14 9) (fld wd 7 7) (fld wd 0 7)) := by
    unfold decodeSeq; rw [h0]; rfl
  rw [e, g0, g1, g2, g3]
  unfold accept
  rw [if_pos hw]

theorem Encode.st32 (p : BitVec 2) (o : BitVec 9) (l r : BitVec 7) : Encode.Statement (.st32 p o l r) := by
  intro hw wd he
  have hs := shape_0 78 0x9c000000 (by decide) (by decide) p o l r
  obtain ⟨h0, g0, g1, g2, g3, hr⟩ := hs
  replace he := Option.some.inj he
  rw [he] at h0 g0 g1 g2 g3 hr
  refine ⟨fun _ => ?_, (fun h => nomatch h)⟩
  have e : decodeSeq wd = accept .illegalForm (.st32 (fld wd 23 2) (fld wd 14 9) (fld wd 7 7) (fld wd 0 7)) := by
    unfold decodeSeq; rw [h0]; rfl
  rw [e, g0, g1, g2, g3]
  unfold accept
  rw [if_pos hw]

theorem Encode.st64 (p : BitVec 2) (o : BitVec 9) (l r : BitVec 7) : Encode.Statement (.st64 p o l r) := by
  intro hw wd he
  have hs := shape_0 79 0x9e000000 (by decide) (by decide) p o l r
  obtain ⟨h0, g0, g1, g2, g3, hr⟩ := hs
  replace he := Option.some.inj he
  rw [he] at h0 g0 g1 g2 g3 hr
  refine ⟨fun _ => ?_, (fun h => nomatch h)⟩
  have e : decodeSeq wd = accept .illegalForm (.st64 (fld wd 23 2) (fld wd 14 9) (fld wd 7 7) (fld wd 0 7)) := by
    unfold decodeSeq; rw [h0]; rfl
  rw [e, g0, g1, g2, g3]
  unfold accept
  rw [if_pos hw]

theorem Encode.strl (p : BitVec 2) (l : BitVec 7) (s : BitVec 3) (z : BitVec 2) : Encode.Statement (.strl p l s z) := by
  intro hw wd he
  have hs := shape_8 80 0xa0700000 (by decide) (by decide) p l s z
  obtain ⟨h0, hf, g0, g1, g2, g3⟩ := hs
  replace he := Option.some.inj he
  rw [he] at h0 hf g0 g1 g2 g3
  refine ⟨fun _ => ?_, (fun h => nomatch h)⟩
  have e : decodeSeq wd = if fixed wd [(2, 2, 0), (14, 9, 448)] then accept .illegalForm (.strl (fld wd 23 2) (fld wd 7 7) (fld wd 4 3) (fld wd 0 2)) else .error .illegalForm := by
    unfold decodeSeq; rw [h0]; rfl
  rw [e, if_pos hf, g0, g1, g2, g3]
  unfold accept
  rw [if_pos hw]

theorem Encode.amo64 (p : BitVec 2) (t : BitVec 9) (l : BitVec 7) (s : BitVec 3) (k : BitVec 1) (o : BitVec 3) : Encode.Statement (.amo64 p t l s k o) := by
  intro hw wd he
  have hs := shape_9 81 0xa2000000 (by decide) (by decide) p t l s k o
  obtain ⟨h0, g0, g1, g2, g3, g4, g5⟩ := hs
  replace he := Option.some.inj he
  rw [he] at h0 g0 g1 g2 g3 g4 g5
  refine ⟨fun _ => ?_, (fun h => nomatch h)⟩
  have e : decodeSeq wd = accept .illegalForm (.amo64 (fld wd 23 2) (fld wd 14 9) (fld wd 7 7) (fld wd 4 3) (fld wd 3 1) (fld wd 0 3)) := by
    unfold decodeSeq; rw [h0]; rfl
  rw [e, g0, g1, g2, g3, g4, g5]
  unfold accept
  rw [if_pos hw]

theorem Encode.amo32 (p : BitVec 2) (t : BitVec 9) (l : BitVec 7) (s : BitVec 3) (k : BitVec 1) (o : BitVec 3) : Encode.Statement (.amo32 p t l s k o) := by
  intro hw wd he
  have hs := shape_9 82 0xa4000000 (by decide) (by decide) p t l s k o
  obtain ⟨h0, g0, g1, g2, g3, g4, g5⟩ := hs
  replace he := Option.some.inj he
  rw [he] at h0 g0 g1 g2 g3 g4 g5
  refine ⟨fun _ => ?_, (fun h => nomatch h)⟩
  have e : decodeSeq wd = accept .illegalForm (.amo32 (fld wd 23 2) (fld wd 14 9) (fld wd 7 7) (fld wd 4 3) (fld wd 3 1) (fld wd 0 3)) := by
    unfold decodeSeq; rw [h0]; rfl
  rw [e, g0, g1, g2, g3, g4, g5]
  unfold accept
  rw [if_pos hw]

theorem Encode.cas64 (t : BitVec 9) (l : BitVec 7) (s : BitVec 3) (k : BitVec 2) : Encode.Statement (.cas64 t l s k) := by
  intro hw wd he
  have hs := shape_10 83 0xa6000000 (by decide) (by decide) t l s k
  obtain ⟨h0, hf, g0, g1, g2, g3⟩ := hs
  replace he := Option.some.inj he
  rw [he] at h0 hf g0 g1 g2 g3
  refine ⟨fun _ => ?_, (fun h => nomatch h)⟩
  have e : decodeSeq wd = if fixed wd [(2, 2, 0), (23, 2, 0)] then accept .illegalForm (.cas64 (fld wd 14 9) (fld wd 7 7) (fld wd 4 3) (fld wd 0 2)) else .error .illegalForm := by
    unfold decodeSeq; rw [h0]; rfl
  rw [e, if_pos hf, g0, g1, g2, g3]
  unfold accept
  rw [if_pos hw]

theorem Encode.fence (p : BitVec 2) (l : BitVec 7) (s : BitVec 3) (e k : BitVec 2) : Encode.Statement (.fence p l s e k) := by
  intro hw wd he
  have hs := shape_11 84 0xa8700000 (by decide) (by decide) p l s e k
  obtain ⟨h0, hf, g0, g1, g2, g3, g4⟩ := hs
  replace he := Option.some.inj he
  rw [he] at h0 hf g0 g1 g2 g3 g4
  refine ⟨fun _ => ?_, (fun h => nomatch h)⟩
  have e : decodeSeq wd = if fixed wd [(14, 9, 448)] then accept .illegalForm (.fence (fld wd 23 2) (fld wd 7 7) (fld wd 4 3) (fld wd 2 2) (fld wd 0 2)) else .error .illegalForm := by
    unfold decodeSeq; rw [h0]; rfl
  rw [e, if_pos hf, g0, g1, g2, g3, g4]
  unfold accept
  rw [if_pos hw]

theorem Encode.sbar (p : BitVec 2) (l : BitVec 7) : Encode.Statement (.sbar p l) := by
  intro hw wd he
  have hs := shape_12 85 0xaa700000 (by decide) (by decide) p l
  obtain ⟨h0, hf, g0, g1⟩ := hs
  replace he := Option.some.inj he
  rw [he] at h0 hf g0 g1
  refine ⟨fun _ => ?_, (fun h => nomatch h)⟩
  have e : decodeSeq wd = if fixed wd [(0, 7, 0), (14, 9, 448)] then accept .illegalForm (.sbar (fld wd 23 2) (fld wd 7 7)) else .error .illegalForm := by
    unfold decodeSeq; rw [h0]; rfl
  rw [e, if_pos hf, g0, g1]
  unfold accept
  rw [if_pos hw]

theorem Encode.pref (p : BitVec 2) (l r : BitVec 7) : Encode.Statement (.pref p l r) := by
  intro hw wd he
  have hs := shape_5 86 0xac700000 (by decide) (by decide) p l r
  obtain ⟨h0, hf, g0, g1, g2, hr⟩ := hs
  replace he := Option.some.inj he
  rw [he] at h0 hf g0 g1 g2 hr
  refine ⟨fun _ => ?_, (fun h => nomatch h)⟩
  have e : decodeSeq wd = if fixed wd [(14, 9, 448)] then accept .illegalForm (.pref (fld wd 23 2) (fld wd 7 7) (fld wd 0 7)) else .error .illegalForm := by
    unfold decodeSeq; rw [h0]; rfl
  rw [e, if_pos hf, g0, g1, g2]
  unfold accept
  rw [if_pos hw]

theorem Encode.spawn (p : BitVec 2) (t : BitVec 9) (l r : BitVec 7) : Encode.Statement (.spawn p t l r) := by
  intro hw wd he
  have hs := shape_0 87 0xae000000 (by decide) (by decide) p t l r
  obtain ⟨h0, g0, g1, g2, g3, hr⟩ := hs
  replace he := Option.some.inj he
  rw [he] at h0 g0 g1 g2 g3 hr
  refine ⟨fun _ => ?_, (fun h => nomatch h)⟩
  have e : decodeSeq wd = accept .illegalForm (.spawn (fld wd 23 2) (fld wd 14 9) (fld wd 7 7) (fld wd 0 7)) := by
    unfold decodeSeq; rw [h0]; rfl
  rw [e, g0, g1, g2, g3]
  unfold accept
  rw [if_pos hw]

theorem Encode.joindec (p : BitVec 2) (t : BitVec 9) (l r : BitVec 7) : Encode.Statement (.joindec p t l r) := by
  intro hw wd he
  have hs := shape_0 88 0xb0000000 (by decide) (by decide) p t l r
  obtain ⟨h0, g0, g1, g2, g3, hr⟩ := hs
  replace he := Option.some.inj he
  rw [he] at h0 g0 g1 g2 g3 hr
  refine ⟨fun _ => ?_, (fun h => nomatch h)⟩
  have e : decodeSeq wd = accept .illegalForm (.joindec (fld wd 23 2) (fld wd 14 9) (fld wd 7 7) (fld wd 0 7)) := by
    unfold decodeSeq; rw [h0]; rfl
  rw [e, g0, g1, g2, g3]
  unfold accept
  rw [if_pos hw]

theorem Encode.gang (p : BitVec 2) (t : BitVec 9) (l r : BitVec 7) : Encode.Statement (.gang p t l r) := by
  intro hw wd he
  have hs := shape_0 89 0xb2000000 (by decide) (by decide) p t l r
  obtain ⟨h0, g0, g1, g2, g3, hr⟩ := hs
  replace he := Option.some.inj he
  rw [he] at h0 g0 g1 g2 g3 hr
  refine ⟨fun _ => ?_, (fun h => nomatch h)⟩
  have e : decodeSeq wd = accept .illegalForm (.gang (fld wd 23 2) (fld wd 14 9) (fld wd 7 7) (fld wd 0 7)) := by
    unfold decodeSeq; rw [h0]; rfl
  rw [e, g0, g1, g2, g3]
  unfold accept
  rw [if_pos hw]

theorem Encode.rvinit (p : BitVec 2) (t : BitVec 9) (l r : BitVec 7) : Encode.Statement (.rvinit p t l r) := by
  intro hw wd he
  have hs := shape_0 90 0xb4000000 (by decide) (by decide) p t l r
  obtain ⟨h0, g0, g1, g2, g3, hr⟩ := hs
  replace he := Option.some.inj he
  rw [he] at h0 g0 g1 g2 g3 hr
  refine ⟨fun _ => ?_, (fun h => nomatch h)⟩
  have e : decodeSeq wd = accept .illegalForm (.rvinit (fld wd 23 2) (fld wd 14 9) (fld wd 7 7) (fld wd 0 7)) := by
    unfold decodeSeq; rw [h0]; rfl
  rw [e, g0, g1, g2, g3]
  unfold accept
  rw [if_pos hw]

theorem Encode.arrive (p : BitVec 2) (t : BitVec 9) (l r : BitVec 7) : Encode.Statement (.arrive p t l r) := by
  intro hw wd he
  have hs := shape_0 91 0xb6000000 (by decide) (by decide) p t l r
  obtain ⟨h0, g0, g1, g2, g3, hr⟩ := hs
  replace he := Option.some.inj he
  rw [he] at h0 g0 g1 g2 g3 hr
  refine ⟨fun _ => ?_, (fun h => nomatch h)⟩
  have e : decodeSeq wd = accept .illegalForm (.arrive (fld wd 23 2) (fld wd 14 9) (fld wd 7 7) (fld wd 0 7)) := by
    unfold decodeSeq; rw [h0]; rfl
  rw [e, g0, g1, g2, g3]
  unfold accept
  rw [if_pos hw]

theorem Encode.wait (p : BitVec 2) (l r : BitVec 7) : Encode.Statement (.wait p l r) := by
  intro hw wd he
  have hs := shape_5 92 0xb8700000 (by decide) (by decide) p l r
  obtain ⟨h0, hf, g0, g1, g2, hr⟩ := hs
  replace he := Option.some.inj he
  rw [he] at h0 hf g0 g1 g2 hr
  refine ⟨fun _ => ?_, (fun h => nomatch h)⟩
  have e : decodeSeq wd = if fixed wd [(14, 9, 448)] then accept .illegalForm (.wait (fld wd 23 2) (fld wd 7 7) (fld wd 0 7)) else .error .illegalForm := by
    unfold decodeSeq; rw [h0]; rfl
  rw [e, if_pos hf, g0, g1, g2]
  unfold accept
  rw [if_pos hw]

theorem Encode.est (p : BitVec 2) (t : BitVec 9) (l r : BitVec 7) : Encode.Statement (.est p t l r) := by
  intro hw wd he
  have hs := shape_0 93 0xba000000 (by decide) (by decide) p t l r
  obtain ⟨h0, g0, g1, g2, g3, hr⟩ := hs
  replace he := Option.some.inj he
  rw [he] at h0 g0 g1 g2 g3 hr
  refine ⟨fun _ => ?_, (fun h => nomatch h)⟩
  have e : decodeSeq wd = accept .illegalForm (.est (fld wd 23 2) (fld wd 14 9) (fld wd 7 7) (fld wd 0 7)) := by
    unfold decodeSeq; rw [h0]; rfl
  rw [e, g0, g1, g2, g3]
  unfold accept
  rw [if_pos hw]

theorem Encode.progress (p : BitVec 2) (t : BitVec 9) (l r : BitVec 7) : Encode.Statement (.progress p t l r) := by
  intro hw wd he
  have hs := shape_0 94 0xbc000000 (by decide) (by decide) p t l r
  obtain ⟨h0, g0, g1, g2, g3, hr⟩ := hs
  replace he := Option.some.inj he
  rw [he] at h0 g0 g1 g2 g3 hr
  refine ⟨fun _ => ?_, (fun h => nomatch h)⟩
  have e : decodeSeq wd = accept .illegalForm (.progress (fld wd 23 2) (fld wd 14 9) (fld wd 7 7) (fld wd 0 7)) := by
    unfold decodeSeq; rw [h0]; rfl
  rw [e, g0, g1, g2, g3]
  unfold accept
  rw [if_pos hw]

theorem Encode.graphgo (p : BitVec 2) (t : BitVec 9) (l r : BitVec 7) : Encode.Statement (.graphgo p t l r) := by
  intro hw wd he
  have hs := shape_0 95 0xbe000000 (by decide) (by decide) p t l r
  obtain ⟨h0, g0, g1, g2, g3, hr⟩ := hs
  replace he := Option.some.inj he
  rw [he] at h0 g0 g1 g2 g3 hr
  refine ⟨fun _ => ?_, (fun h => nomatch h)⟩
  have e : decodeSeq wd = accept .illegalForm (.graphgo (fld wd 23 2) (fld wd 14 9) (fld wd 7 7) (fld wd 0 7)) := by
    unfold decodeSeq; rw [h0]; rfl
  rw [e, g0, g1, g2, g3]
  unfold accept
  rw [if_pos hw]

theorem Encode.mload (p : BitVec 2) (t : BitVec 9) (l r : BitVec 7) : Encode.Statement (.mload p t l r) := by
  intro hw wd he
  have hs := shape_0 96 0xc0000000 (by decide) (by decide) p t l r
  obtain ⟨h0, g0, g1, g2, g3, hr⟩ := hs
  replace he := Option.some.inj he
  rw [he] at h0 g0 g1 g2 g3 hr
  refine ⟨fun _ => ?_, (fun h => nomatch h)⟩
  have e : decodeSeq wd = accept .illegalForm (.mload (fld wd 23 2) (fld wd 14 9) (fld wd 7 7) (fld wd 0 7)) := by
    unfold decodeSeq; rw [h0]; rfl
  rw [e, g0, g1, g2, g3]
  unfold accept
  rw [if_pos hw]

theorem Encode.mstart (p : BitVec 2) (t : BitVec 9) (l r : BitVec 7) : Encode.Statement (.mstart p t l r) := by
  intro hw wd he
  have hs := shape_0 97 0xc2000000 (by decide) (by decide) p t l r
  obtain ⟨h0, g0, g1, g2, g3, hr⟩ := hs
  replace he := Option.some.inj he
  rw [he] at h0 g0 g1 g2 g3 hr
  refine ⟨fun _ => ?_, (fun h => nomatch h)⟩
  have e : decodeSeq wd = accept .illegalForm (.mstart (fld wd 23 2) (fld wd 14 9) (fld wd 7 7) (fld wd 0 7)) := by
    unfold decodeSeq; rw [h0]; rfl
  rw [e, g0, g1, g2, g3]
  unfold accept
  rw [if_pos hw]

theorem Encode.mstopDrain (p : BitVec 2) (t : BitVec 9) (l r : BitVec 7) : Encode.Statement (.mstopDrain p t l r) := by
  intro hw wd he
  have hs := shape_0 98 0xc4000000 (by decide) (by decide) p t l r
  obtain ⟨h0, g0, g1, g2, g3, hr⟩ := hs
  replace he := Option.some.inj he
  rw [he] at h0 g0 g1 g2 g3 hr
  refine ⟨fun _ => ?_, (fun h => nomatch h)⟩
  have e : decodeSeq wd = accept .illegalForm (if wd.toNat % 128 == 0x61 then .mstopAbort (fld wd 23 2) (fld wd 14 9) (fld wd 7 7) (fld wd 0 7) else .mstopDrain (fld wd 23 2) (fld wd 14 9) (fld wd 7 7) (fld wd 0 7)) := by
    unfold decodeSeq; rw [h0]; rfl
  rw [e, hr, g0, g1, g2, g3]
  have hv : (pmOk p && regTargetOk t && (r != 0x61#7)) = true := hw
  simp [← BitVec.toNat_inj] at hv
  rw [if_neg (fun q => by simp [beq_iff_eq.mp q] at hv)]
  unfold accept
  rw [if_pos hw]

theorem Encode.mstopAbort (p : BitVec 2) (t : BitVec 9) (l r : BitVec 7) : Encode.Statement (.mstopAbort p t l r) := by
  intro hw wd he
  have hs := shape_0 98 0xc4000000 (by decide) (by decide) p t l r
  obtain ⟨h0, g0, g1, g2, g3, hr⟩ := hs
  replace he := Option.some.inj he
  rw [he] at h0 g0 g1 g2 g3 hr
  refine ⟨fun _ => ?_, (fun h => nomatch h)⟩
  have e : decodeSeq wd = accept .illegalForm (if wd.toNat % 128 == 0x61 then .mstopAbort (fld wd 23 2) (fld wd 14 9) (fld wd 7 7) (fld wd 0 7) else .mstopDrain (fld wd 23 2) (fld wd 14 9) (fld wd 7 7) (fld wd 0 7)) := by
    unfold decodeSeq; rw [h0]; rfl
  rw [e, hr, g0, g1, g2, g3]
  have hv : (pmOk p && regTargetOk t && (r = 0x61#7)) = true := hw
  simp [← BitVec.toNat_inj] at hv
  rw [if_pos (beq_iff_eq.mpr (by simpa using hv.2))]
  unfold accept
  rw [if_pos hw]

theorem Encode.inject (p : BitVec 2) (t : BitVec 9) (l r : BitVec 7) : Encode.Statement (.inject p t l r) := by
  intro hw wd he
  have hs := shape_0 99 0xc6000000 (by decide) (by decide) p t l r
  obtain ⟨h0, g0, g1, g2, g3, hr⟩ := hs
  replace he := Option.some.inj he
  rw [he] at h0 g0 g1 g2 g3 hr
  refine ⟨fun _ => ?_, (fun h => nomatch h)⟩
  have e : decodeSeq wd = accept .illegalForm (.inject (fld wd 23 2) (fld wd 14 9) (fld wd 7 7) (fld wd 0 7)) := by
    unfold decodeSeq; rw [h0]; rfl
  rw [e, g0, g1, g2, g3]
  unfold accept
  rw [if_pos hw]

theorem Encode.collect (p : BitVec 2) (t : BitVec 9) (l r : BitVec 7) : Encode.Statement (.collect p t l r) := by
  intro hw wd he
  have hs := shape_0 100 0xc8000000 (by decide) (by decide) p t l r
  obtain ⟨h0, g0, g1, g2, g3, hr⟩ := hs
  replace he := Option.some.inj he
  rw [he] at h0 g0 g1 g2 g3 hr
  refine ⟨fun _ => ?_, (fun h => nomatch h)⟩
  have e : decodeSeq wd = accept .illegalForm (.collect (fld wd 23 2) (fld wd 14 9) (fld wd 7 7) (fld wd 0 7)) := by
    unfold decodeSeq; rw [h0]; rfl
  rw [e, g0, g1, g2, g3]
  unfold accept
  rw [if_pos hw]

theorem Encode.pourLoadt (p : BitVec 2) (t : BitVec 9) (l r : BitVec 7) : Encode.Statement (.pourLoadt p t l r) := by
  intro hw wd he
  have hs := shape_0 101 0xca000000 (by decide) (by decide) p t l r
  obtain ⟨h0, g0, g1, g2, g3, hr⟩ := hs
  replace he := Option.some.inj he
  rw [he] at h0 g0 g1 g2 g3 hr
  refine ⟨fun _ => ?_, (fun h => nomatch h)⟩
  have e : decodeSeq wd = accept .illegalForm (if isImm (fld wd 0 7) then .pourStart (fld wd 23 2) (fld wd 14 9) (fld wd 7 7) (fld wd 0 7) else .pourLoadt (fld wd 23 2) (fld wd 14 9) (fld wd 7 7) (fld wd 0 7)) := by
    unfold decodeSeq; rw [h0]; rfl
  rw [e, g0, g1, g2, g3]
  have hv : (pmOk p && regTargetOk t && !isImm r) = true := hw
  simp at hv
  rw [if_neg (by simpa using hv.2)]
  unfold accept
  rw [if_pos hw]

theorem Encode.pourStart (p : BitVec 2) (t : BitVec 9) (l r : BitVec 7) : Encode.Statement (.pourStart p t l r) := by
  intro hw wd he
  have hs := shape_0 101 0xca000000 (by decide) (by decide) p t l r
  obtain ⟨h0, g0, g1, g2, g3, hr⟩ := hs
  replace he := Option.some.inj he
  rw [he] at h0 g0 g1 g2 g3 hr
  refine ⟨fun _ => ?_, (fun h => nomatch h)⟩
  have e : decodeSeq wd = accept .illegalForm (if isImm (fld wd 0 7) then .pourStart (fld wd 23 2) (fld wd 14 9) (fld wd 7 7) (fld wd 0 7) else .pourLoadt (fld wd 23 2) (fld wd 14 9) (fld wd 7 7) (fld wd 0 7)) := by
    unfold decodeSeq; rw [h0]; rfl
  rw [e, g0, g1, g2, g3]
  have hv : (pmOk p && regTargetOk t && isImm r) = true := hw
  simp at hv
  rw [if_pos hv.2]
  unfold accept
  rw [if_pos hw]

theorem Encode.pjoin (p : BitVec 2) (l r : BitVec 7) : Encode.Statement (.pjoin p l r) := by
  intro hw wd he
  have hs := shape_5 102 0xcc700000 (by decide) (by decide) p l r
  obtain ⟨h0, hf, g0, g1, g2, hr⟩ := hs
  replace he := Option.some.inj he
  rw [he] at h0 hf g0 g1 g2 hr
  refine ⟨fun _ => ?_, (fun h => nomatch h)⟩
  have e : decodeSeq wd = if fixed wd [(14, 9, 448)] then accept .illegalForm (.pjoin (fld wd 23 2) (fld wd 7 7) (fld wd 0 7)) else .error .illegalForm := by
    unfold decodeSeq; rw [h0]; rfl
  rw [e, if_pos hf, g0, g1, g2]
  unfold accept
  rw [if_pos hw]

theorem Encode.mxcfg (p : BitVec 2) (t : BitVec 9) (l r : BitVec 7) : Encode.Statement (.mxcfg p t l r) := by
  intro hw wd he
  have hs := shape_0 103 0xce000000 (by decide) (by decide) p t l r
  obtain ⟨h0, g0, g1, g2, g3, hr⟩ := hs
  replace he := Option.some.inj he
  rw [he] at h0 g0 g1 g2 g3 hr
  refine ⟨fun _ => ?_, (fun h => nomatch h)⟩
  have e : decodeSeq wd = accept .illegalForm (.mxcfg (fld wd 23 2) (fld wd 14 9) (fld wd 7 7) (fld wd 0 7)) := by
    unfold decodeSeq; rw [h0]; rfl
  rw [e, g0, g1, g2, g3]
  unfold accept
  rw [if_pos hw]

theorem Encode.mxjoin (p : BitVec 2) (l r : BitVec 7) : Encode.Statement (.mxjoin p l r) := by
  intro hw wd he
  have hs := shape_5 104 0xd0700000 (by decide) (by decide) p l r
  obtain ⟨h0, hf, g0, g1, g2, hr⟩ := hs
  replace he := Option.some.inj he
  rw [he] at h0 hf g0 g1 g2 hr
  refine ⟨fun _ => ?_, (fun h => nomatch h)⟩
  have e : decodeSeq wd = if fixed wd [(14, 9, 448)] then accept .illegalForm (.mxjoin (fld wd 23 2) (fld wd 7 7) (fld wd 0 7)) else .error .illegalForm := by
    unfold decodeSeq; rw [h0]; rfl
  rw [e, if_pos hf, g0, g1, g2]
  unfold accept
  rw [if_pos hw]

theorem Encode.spalloc (p : BitVec 2) (t : BitVec 9) (l r : BitVec 7) : Encode.Statement (.spalloc p t l r) := by
  intro hw wd he
  have hs := shape_0 105 0xd2000000 (by decide) (by decide) p t l r
  obtain ⟨h0, g0, g1, g2, g3, hr⟩ := hs
  replace he := Option.some.inj he
  rw [he] at h0 g0 g1 g2 g3 hr
  refine ⟨fun _ => ?_, (fun h => nomatch h)⟩
  have e : decodeSeq wd = accept .illegalForm (.spalloc (fld wd 23 2) (fld wd 14 9) (fld wd 7 7) (fld wd 0 7)) := by
    unfold decodeSeq; rw [h0]; rfl
  rw [e, g0, g1, g2, g3]
  unfold accept
  rw [if_pos hw]

theorem Encode.spfree (p : BitVec 2) (t : BitVec 9) (l r : BitVec 7) : Encode.Statement (.spfree p t l r) := by
  intro hw wd he
  have hs := shape_0 106 0xd4000000 (by decide) (by decide) p t l r
  obtain ⟨h0, g0, g1, g2, g3, hr⟩ := hs
  replace he := Option.some.inj he
  rw [he] at h0 g0 g1 g2 g3 hr
  refine ⟨fun _ => ?_, (fun h => nomatch h)⟩
  have e : decodeSeq wd = accept .illegalForm (.spfree (fld wd 23 2) (fld wd 14 9) (fld wd 7 7) (fld wd 0 7)) := by
    unfold decodeSeq; rw [h0]; rfl
  rw [e, g0, g1, g2, g3]
  unfold accept
  rw [if_pos hw]

theorem Encode.hmdecl (p : BitVec 2) (t : BitVec 9) (l r : BitVec 7) : Encode.Statement (.hmdecl p t l r) := by
  intro hw wd he
  have hs := shape_0 107 0xd6000000 (by decide) (by decide) p t l r
  obtain ⟨h0, g0, g1, g2, g3, hr⟩ := hs
  replace he := Option.some.inj he
  rw [he] at h0 g0 g1 g2 g3 hr
  refine ⟨fun _ => ?_, (fun h => nomatch h)⟩
  have e : decodeSeq wd = accept .illegalForm (.hmdecl (fld wd 23 2) (fld wd 14 9) (fld wd 7 7) (fld wd 0 7)) := by
    unfold decodeSeq; rw [h0]; rfl
  rw [e, g0, g1, g2, g3]
  unfold accept
  rw [if_pos hw]

theorem Encode.stamp (p : BitVec 2) (t : BitVec 9) (l r : BitVec 7) : Encode.Statement (.stamp p t l r) := by
  intro hw wd he
  have hs := shape_0 108 0xd8000000 (by decide) (by decide) p t l r
  obtain ⟨h0, g0, g1, g2, g3, hr⟩ := hs
  replace he := Option.some.inj he
  rw [he] at h0 g0 g1 g2 g3 hr
  refine ⟨fun _ => ?_, (fun h => nomatch h)⟩
  have e : decodeSeq wd = accept .illegalForm (.stamp (fld wd 23 2) (fld wd 14 9) (fld wd 7 7) (fld wd 0 7)) := by
    unfold decodeSeq; rw [h0]; rfl
  rw [e, g0, g1, g2, g3]
  unfold accept
  rw [if_pos hw]

theorem Encode.await (p : BitVec 2) (l r : BitVec 7) : Encode.Statement (.await p l r) := by
  intro hw wd he
  have hs := shape_5 109 0xda700000 (by decide) (by decide) p l r
  obtain ⟨h0, hf, g0, g1, g2, hr⟩ := hs
  replace he := Option.some.inj he
  rw [he] at h0 hf g0 g1 g2 hr
  refine ⟨fun _ => ?_, (fun h => nomatch h)⟩
  have e : decodeSeq wd = if fixed wd [(14, 9, 448)] then accept .illegalForm (.await (fld wd 23 2) (fld wd 7 7) (fld wd 0 7)) else .error .illegalForm := by
    unfold decodeSeq; rw [h0]; rfl
  rw [e, if_pos hf, g0, g1, g2]
  unfold accept
  rw [if_pos hw]

theorem Encode.hmtest (p : BitVec 2) (t : BitVec 9) (l r : BitVec 7) : Encode.Statement (.hmtest p t l r) := by
  intro hw wd he
  have hs := shape_0 110 0xdc000000 (by decide) (by decide) p t l r
  obtain ⟨h0, g0, g1, g2, g3, hr⟩ := hs
  replace he := Option.some.inj he
  rw [he] at h0 g0 g1 g2 g3 hr
  refine ⟨fun _ => ?_, (fun h => nomatch h)⟩
  have e : decodeSeq wd = accept .illegalForm (.hmtest (fld wd 23 2) (fld wd 14 9) (fld wd 7 7) (fld wd 0 7)) := by
    unfold decodeSeq; rw [h0]; rfl
  rw [e, g0, g1, g2, g3]
  unfold accept
  rw [if_pos hw]

theorem Encode.hmretire (p : BitVec 2) (t : BitVec 9) (l r : BitVec 7) : Encode.Statement (.hmretire p t l r) := by
  intro hw wd he
  have hs := shape_0 111 0xde000000 (by decide) (by decide) p t l r
  obtain ⟨h0, g0, g1, g2, g3, hr⟩ := hs
  replace he := Option.some.inj he
  rw [he] at h0 g0 g1 g2 g3 hr
  refine ⟨fun _ => ?_, (fun h => nomatch h)⟩
  have e : decodeSeq wd = accept .illegalForm (.hmretire (fld wd 23 2) (fld wd 14 9) (fld wd 7 7) (fld wd 0 7)) := by
    unfold decodeSeq; rw [h0]; rfl
  rw [e, g0, g1, g2, g3]
  unfold accept
  rw [if_pos hw]

theorem Encode.kvmap (p : BitVec 2) (t : BitVec 9) (l r : BitVec 7) : Encode.Statement (.kvmap p t l r) := by
  intro hw wd he
  have hs := shape_0 112 0xe0000000 (by decide) (by decide) p t l r
  obtain ⟨h0, g0, g1, g2, g3, hr⟩ := hs
  replace he := Option.some.inj he
  rw [he] at h0 g0 g1 g2 g3 hr
  refine ⟨fun _ => ?_, (fun h => nomatch h)⟩
  have e : decodeSeq wd = accept .illegalForm (.kvmap (fld wd 23 2) (fld wd 14 9) (fld wd 7 7) (fld wd 0 7)) := by
    unfold decodeSeq; rw [h0]; rfl
  rw [e, g0, g1, g2, g3]
  unfold accept
  rw [if_pos hw]

theorem Encode.kvfork (p : BitVec 2) (t : BitVec 9) (l r : BitVec 7) : Encode.Statement (.kvfork p t l r) := by
  intro hw wd he
  have hs := shape_0 113 0xe2000000 (by decide) (by decide) p t l r
  obtain ⟨h0, g0, g1, g2, g3, hr⟩ := hs
  replace he := Option.some.inj he
  rw [he] at h0 g0 g1 g2 g3 hr
  refine ⟨fun _ => ?_, (fun h => nomatch h)⟩
  have e : decodeSeq wd = accept .illegalForm (.kvfork (fld wd 23 2) (fld wd 14 9) (fld wd 7 7) (fld wd 0 7)) := by
    unfold decodeSeq; rw [h0]; rfl
  rw [e, g0, g1, g2, g3]
  unfold accept
  rw [if_pos hw]

theorem Encode.kvappend (p : BitVec 2) (t : BitVec 9) (l r : BitVec 7) : Encode.Statement (.kvappend p t l r) := by
  intro hw wd he
  have hs := shape_0 114 0xe4000000 (by decide) (by decide) p t l r
  obtain ⟨h0, g0, g1, g2, g3, hr⟩ := hs
  replace he := Option.some.inj he
  rw [he] at h0 g0 g1 g2 g3 hr
  refine ⟨fun _ => ?_, (fun h => nomatch h)⟩
  have e : decodeSeq wd = accept .illegalForm (.kvappend (fld wd 23 2) (fld wd 14 9) (fld wd 7 7) (fld wd 0 7)) := by
    unfold decodeSeq; rw [h0]; rfl
  rw [e, g0, g1, g2, g3]
  unfold accept
  rw [if_pos hw]

theorem Encode.kvfree (p : BitVec 2) (t : BitVec 9) (l r : BitVec 7) : Encode.Statement (.kvfree p t l r) := by
  intro hw wd he
  have hs := shape_0 115 0xe6000000 (by decide) (by decide) p t l r
  obtain ⟨h0, g0, g1, g2, g3, hr⟩ := hs
  replace he := Option.some.inj he
  rw [he] at h0 g0 g1 g2 g3 hr
  refine ⟨fun _ => ?_, (fun h => nomatch h)⟩
  have e : decodeSeq wd = accept .illegalForm (.kvfree (fld wd 23 2) (fld wd 14 9) (fld wd 7 7) (fld wd 0 7)) := by
    unfold decodeSeq; rw [h0]; rfl
  rw [e, g0, g1, g2, g3]
  unfold accept
  rw [if_pos hw]

theorem Encode.pfxh (p : BitVec 2) (t : BitVec 9) (l r : BitVec 7) : Encode.Statement (.pfxh p t l r) := by
  intro hw wd he
  have hs := shape_0 116 0xe8000000 (by decide) (by decide) p t l r
  obtain ⟨h0, g0, g1, g2, g3, hr⟩ := hs
  replace he := Option.some.inj he
  rw [he] at h0 g0 g1 g2 g3 hr
  refine ⟨fun _ => ?_, (fun h => nomatch h)⟩
  have e : decodeSeq wd = accept .illegalForm (.pfxh (fld wd 23 2) (fld wd 14 9) (fld wd 7 7) (fld wd 0 7)) := by
    unfold decodeSeq; rw [h0]; rfl
  rw [e, g0, g1, g2, g3]
  unfold accept
  rw [if_pos hw]

theorem Encode.pfxlook (p : BitVec 2) (t : BitVec 9) (l r : BitVec 7) : Encode.Statement (.pfxlook p t l r) := by
  intro hw wd he
  have hs := shape_0 117 0xea000000 (by decide) (by decide) p t l r
  obtain ⟨h0, g0, g1, g2, g3, hr⟩ := hs
  replace he := Option.some.inj he
  rw [he] at h0 g0 g1 g2 g3 hr
  refine ⟨fun _ => ?_, (fun h => nomatch h)⟩
  have e : decodeSeq wd = accept .illegalForm (.pfxlook (fld wd 23 2) (fld wd 14 9) (fld wd 7 7) (fld wd 0 7)) := by
    unfold decodeSeq; rw [h0]; rfl
  rw [e, g0, g1, g2, g3]
  unfold accept
  rw [if_pos hw]

theorem Encode.pfxins (p : BitVec 2) (t : BitVec 9) (l r : BitVec 7) : Encode.Statement (.pfxins p t l r) := by
  intro hw wd he
  have hs := shape_0 118 0xec000000 (by decide) (by decide) p t l r
  obtain ⟨h0, g0, g1, g2, g3, hr⟩ := hs
  replace he := Option.some.inj he
  rw [he] at h0 g0 g1 g2 g3 hr
  refine ⟨fun _ => ?_, (fun h => nomatch h)⟩
  have e : decodeSeq wd = accept .illegalForm (.pfxins (fld wd 23 2) (fld wd 14 9) (fld wd 7 7) (fld wd 0 7)) := by
    unfold decodeSeq; rw [h0]; rfl
  rw [e, g0, g1, g2, g3]
  unfold accept
  rw [if_pos hw]

theorem Encode.splice (p : BitVec 2) (t : BitVec 9) (l r : BitVec 7) : Encode.Statement (.splice p t l r) := by
  intro hw wd he
  have hs := shape_0 119 0xee000000 (by decide) (by decide) p t l r
  obtain ⟨h0, g0, g1, g2, g3, hr⟩ := hs
  replace he := Option.some.inj he
  rw [he] at h0 g0 g1 g2 g3 hr
  refine ⟨fun _ => ?_, (fun h => nomatch h)⟩
  have e : decodeSeq wd = accept .illegalForm (.splice (fld wd 23 2) (fld wd 14 9) (fld wd 7 7) (fld wd 0 7)) := by
    unfold decodeSeq; rw [h0]; rfl
  rw [e, g0, g1, g2, g3]
  unfold accept
  rw [if_pos hw]

theorem Encode.repair (p : BitVec 2) (t : BitVec 9) (l r : BitVec 7) : Encode.Statement (.repair p t l r) := by
  intro hw wd he
  have hs := shape_0 120 0xf0000000 (by decide) (by decide) p t l r
  obtain ⟨h0, g0, g1, g2, g3, hr⟩ := hs
  replace he := Option.some.inj he
  rw [he] at h0 g0 g1 g2 g3 hr
  refine ⟨fun _ => ?_, (fun h => nomatch h)⟩
  have e : decodeSeq wd = accept .illegalForm (.repair (fld wd 23 2) (fld wd 14 9) (fld wd 7 7) (fld wd 0 7)) := by
    unfold decodeSeq; rw [h0]; rfl
  rw [e, g0, g1, g2, g3]
  unfold accept
  rw [if_pos hw]

theorem Encode.katt (p : BitVec 2) (t : BitVec 9) (l r : BitVec 7) : Encode.Statement (.katt p t l r) := by
  intro hw wd he
  have hs := shape_0 121 0xf2000000 (by decide) (by decide) p t l r
  obtain ⟨h0, g0, g1, g2, g3, hr⟩ := hs
  replace he := Option.some.inj he
  rw [he] at h0 g0 g1 g2 g3 hr
  refine ⟨fun _ => ?_, (fun h => nomatch h)⟩
  have e : decodeSeq wd = accept .illegalForm (.katt (fld wd 23 2) (fld wd 14 9) (fld wd 7 7) (fld wd 0 7)) := by
    unfold decodeSeq; rw [h0]; rfl
  rw [e, g0, g1, g2, g3]
  unfold accept
  rw [if_pos hw]

theorem Encode.cacheopBinv (p : BitVec 2) (t : BitVec 9) (l r : BitVec 7) : Encode.Statement (.cacheopBinv p t l r) := by
  intro hw wd he
  have hs := shape_0 122 0xf4000000 (by decide) (by decide) p t l r
  obtain ⟨h0, g0, g1, g2, g3, hr⟩ := hs
  replace he := Option.some.inj he
  rw [he] at h0 g0 g1 g2 g3 hr
  refine ⟨fun _ => ?_, (fun h => nomatch h)⟩
  have e : decodeSeq wd = accept .illegalForm (if wd.toNat % 128 == 0x61 then .cacheopBinvdie (fld wd 23 2) (fld wd 14 9) (fld wd 7 7) (fld wd 0 7) else .cacheopBinv (fld wd 23 2) (fld wd 14 9) (fld wd 7 7) (fld wd 0 7)) := by
    unfold decodeSeq; rw [h0]; rfl
  rw [e, hr, g0, g1, g2, g3]
  have hv : (pmOk p && regTargetOk t && (r != 0x61#7)) = true := hw
  simp [← BitVec.toNat_inj] at hv
  rw [if_neg (fun q => by simp [beq_iff_eq.mp q] at hv)]
  unfold accept
  rw [if_pos hw]

theorem Encode.cacheopBinvdie (p : BitVec 2) (t : BitVec 9) (l r : BitVec 7) : Encode.Statement (.cacheopBinvdie p t l r) := by
  intro hw wd he
  have hs := shape_0 122 0xf4000000 (by decide) (by decide) p t l r
  obtain ⟨h0, g0, g1, g2, g3, hr⟩ := hs
  replace he := Option.some.inj he
  rw [he] at h0 g0 g1 g2 g3 hr
  refine ⟨fun _ => ?_, (fun h => nomatch h)⟩
  have e : decodeSeq wd = accept .illegalForm (if wd.toNat % 128 == 0x61 then .cacheopBinvdie (fld wd 23 2) (fld wd 14 9) (fld wd 7 7) (fld wd 0 7) else .cacheopBinv (fld wd 23 2) (fld wd 14 9) (fld wd 7 7) (fld wd 0 7)) := by
    unfold decodeSeq; rw [h0]; rfl
  rw [e, hr, g0, g1, g2, g3]
  have hv : (pmOk p && regTargetOk t && (r = 0x61#7)) = true := hw
  simp [← BitVec.toNat_inj] at hv
  rw [if_pos (beq_iff_eq.mpr (by simpa using hv.2))]
  unfold accept
  rw [if_pos hw]

theorem Encode.tlbopPage (p : BitVec 2) (t : BitVec 9) (l r : BitVec 7) : Encode.Statement (.tlbopPage p t l r) := by
  intro hw wd he
  have hs := shape_0 123 0xf6000000 (by decide) (by decide) p t l r
  obtain ⟨h0, g0, g1, g2, g3, hr⟩ := hs
  replace he := Option.some.inj he
  rw [he] at h0 g0 g1 g2 g3 hr
  refine ⟨fun _ => ?_, (fun h => nomatch h)⟩
  have e : decodeSeq wd = accept .illegalForm (if wd.toNat % 128 == 0x61 then .tlbopAll (fld wd 23 2) (fld wd 14 9) (fld wd 7 7) (fld wd 0 7) else .tlbopPage (fld wd 23 2) (fld wd 14 9) (fld wd 7 7) (fld wd 0 7)) := by
    unfold decodeSeq; rw [h0]; rfl
  rw [e, hr, g0, g1, g2, g3]
  have hv : (pmOk p && regTargetOk t && (r != 0x61#7)) = true := hw
  simp [← BitVec.toNat_inj] at hv
  rw [if_neg (fun q => by simp [beq_iff_eq.mp q] at hv)]
  unfold accept
  rw [if_pos hw]

theorem Encode.tlbopAll (p : BitVec 2) (t : BitVec 9) (l r : BitVec 7) : Encode.Statement (.tlbopAll p t l r) := by
  intro hw wd he
  have hs := shape_0 123 0xf6000000 (by decide) (by decide) p t l r
  obtain ⟨h0, g0, g1, g2, g3, hr⟩ := hs
  replace he := Option.some.inj he
  rw [he] at h0 g0 g1 g2 g3 hr
  refine ⟨fun _ => ?_, (fun h => nomatch h)⟩
  have e : decodeSeq wd = accept .illegalForm (if wd.toNat % 128 == 0x61 then .tlbopAll (fld wd 23 2) (fld wd 14 9) (fld wd 7 7) (fld wd 0 7) else .tlbopPage (fld wd 23 2) (fld wd 14 9) (fld wd 7 7) (fld wd 0 7)) := by
    unfold decodeSeq; rw [h0]; rfl
  rw [e, hr, g0, g1, g2, g3]
  have hv : (pmOk p && regTargetOk t && (r = 0x61#7)) = true := hw
  simp [← BitVec.toNat_inj] at hv
  rw [if_pos (beq_iff_eq.mpr (by simpa using hv.2))]
  unfold accept
  rw [if_pos hw]

theorem Encode.traceMark (p : BitVec 2) (t : BitVec 9) (l r : BitVec 7) : Encode.Statement (.traceMark p t l r) := by
  intro hw wd he
  have hs := shape_0 124 0xf8000000 (by decide) (by decide) p t l r
  obtain ⟨h0, g0, g1, g2, g3, hr⟩ := hs
  replace he := Option.some.inj he
  rw [he] at h0 g0 g1 g2 g3 hr
  refine ⟨fun _ => ?_, (fun h => nomatch h)⟩
  have e : decodeSeq wd = accept .illegalForm (if wd.toNat % 128 == 0x61 then .traceFreeze (fld wd 23 2) (fld wd 14 9) (fld wd 7 7) (fld wd 0 7) else if wd.toNat % 128 == 0x62 then .traceThaw (fld wd 23 2) (fld wd 14 9) (fld wd 7 7) (fld wd 0 7) else .traceMark (fld wd 23 2) (fld wd 14 9) (fld wd 7 7) (fld wd 0 7)) := by
    unfold decodeSeq; rw [h0]; rfl
  rw [e, hr, g0, g1, g2, g3]
  have hv : (pmOk p && regTargetOk t && (r != 0x61#7 && r != 0x62#7)) = true := hw
  simp [← BitVec.toNat_inj] at hv
  rw [if_neg (fun q => by simp [beq_iff_eq.mp q] at hv), if_neg (fun q => by simp [beq_iff_eq.mp q] at hv)]
  unfold accept
  rw [if_pos hw]

theorem Encode.traceFreeze (p : BitVec 2) (t : BitVec 9) (l r : BitVec 7) : Encode.Statement (.traceFreeze p t l r) := by
  intro hw wd he
  have hs := shape_0 124 0xf8000000 (by decide) (by decide) p t l r
  obtain ⟨h0, g0, g1, g2, g3, hr⟩ := hs
  replace he := Option.some.inj he
  rw [he] at h0 g0 g1 g2 g3 hr
  refine ⟨fun _ => ?_, (fun h => nomatch h)⟩
  have e : decodeSeq wd = accept .illegalForm (if wd.toNat % 128 == 0x61 then .traceFreeze (fld wd 23 2) (fld wd 14 9) (fld wd 7 7) (fld wd 0 7) else if wd.toNat % 128 == 0x62 then .traceThaw (fld wd 23 2) (fld wd 14 9) (fld wd 7 7) (fld wd 0 7) else .traceMark (fld wd 23 2) (fld wd 14 9) (fld wd 7 7) (fld wd 0 7)) := by
    unfold decodeSeq; rw [h0]; rfl
  rw [e, hr, g0, g1, g2, g3]
  have hv : (pmOk p && regTargetOk t && (r = 0x61#7)) = true := hw
  simp [← BitVec.toNat_inj] at hv
  rw [if_pos (beq_iff_eq.mpr (by simpa using hv.2))]
  unfold accept
  rw [if_pos hw]

theorem Encode.traceThaw (p : BitVec 2) (t : BitVec 9) (l r : BitVec 7) : Encode.Statement (.traceThaw p t l r) := by
  intro hw wd he
  have hs := shape_0 124 0xf8000000 (by decide) (by decide) p t l r
  obtain ⟨h0, g0, g1, g2, g3, hr⟩ := hs
  replace he := Option.some.inj he
  rw [he] at h0 g0 g1 g2 g3 hr
  refine ⟨fun _ => ?_, (fun h => nomatch h)⟩
  have e : decodeSeq wd = accept .illegalForm (if wd.toNat % 128 == 0x61 then .traceFreeze (fld wd 23 2) (fld wd 14 9) (fld wd 7 7) (fld wd 0 7) else if wd.toNat % 128 == 0x62 then .traceThaw (fld wd 23 2) (fld wd 14 9) (fld wd 7 7) (fld wd 0 7) else .traceMark (fld wd 23 2) (fld wd 14 9) (fld wd 7 7) (fld wd 0 7)) := by
    unfold decodeSeq; rw [h0]; rfl
  rw [e, hr, g0, g1, g2, g3]
  have hv : (pmOk p && regTargetOk t && (r = 0x62#7)) = true := hw
  simp [← BitVec.toNat_inj] at hv
  rw [if_neg (fun q => by simp [beq_iff_eq.mp q] at hv), if_pos (beq_iff_eq.mpr (by simpa using hv.2))]
  unfold accept
  rw [if_pos hw]

theorem Encode.migrate (p : BitVec 2) (t : BitVec 9) (l r : BitVec 7) : Encode.Statement (.migrate p t l r) := by
  intro hw wd he
  have hs := shape_0 125 0xfa000000 (by decide) (by decide) p t l r
  obtain ⟨h0, g0, g1, g2, g3, hr⟩ := hs
  replace he := Option.some.inj he
  rw [he] at h0 g0 g1 g2 g3 hr
  refine ⟨fun _ => ?_, (fun h => nomatch h)⟩
  have e : decodeSeq wd = accept .illegalForm (.migrate (fld wd 23 2) (fld wd 14 9) (fld wd 7 7) (fld wd 0 7)) := by
    unfold decodeSeq; rw [h0]; rfl
  rw [e, g0, g1, g2, g3]
  unfold accept
  rw [if_pos hw]

theorem Encode.haltStop (p : BitVec 2) (t : BitVec 9) (l r : BitVec 7) : Encode.Statement (.haltStop p t l r) := by
  intro hw wd he
  have hs := shape_0 126 0xfc000000 (by decide) (by decide) p t l r
  obtain ⟨h0, g0, g1, g2, g3, hr⟩ := hs
  replace he := Option.some.inj he
  rw [he] at h0 g0 g1 g2 g3 hr
  refine ⟨fun _ => ?_, (fun h => nomatch h)⟩
  have e : decodeSeq wd = accept .illegalForm (if wd.toNat % 128 == 0x61 then .haltGo (fld wd 23 2) (fld wd 14 9) (fld wd 7 7) (fld wd 0 7) else .haltStop (fld wd 23 2) (fld wd 14 9) (fld wd 7 7) (fld wd 0 7)) := by
    unfold decodeSeq; rw [h0]; rfl
  rw [e, hr, g0, g1, g2, g3]
  have hv : (pmOk p && regTargetOk t && (r != 0x61#7)) = true := hw
  simp [← BitVec.toNat_inj] at hv
  rw [if_neg (fun q => by simp [beq_iff_eq.mp q] at hv)]
  unfold accept
  rw [if_pos hw]

theorem Encode.haltGo (p : BitVec 2) (t : BitVec 9) (l r : BitVec 7) : Encode.Statement (.haltGo p t l r) := by
  intro hw wd he
  have hs := shape_0 126 0xfc000000 (by decide) (by decide) p t l r
  obtain ⟨h0, g0, g1, g2, g3, hr⟩ := hs
  replace he := Option.some.inj he
  rw [he] at h0 g0 g1 g2 g3 hr
  refine ⟨fun _ => ?_, (fun h => nomatch h)⟩
  have e : decodeSeq wd = accept .illegalForm (if wd.toNat % 128 == 0x61 then .haltGo (fld wd 23 2) (fld wd 14 9) (fld wd 7 7) (fld wd 0 7) else .haltStop (fld wd 23 2) (fld wd 14 9) (fld wd 7 7) (fld wd 0 7)) := by
    unfold decodeSeq; rw [h0]; rfl
  rw [e, hr, g0, g1, g2, g3]
  have hv : (pmOk p && regTargetOk t && (r = 0x61#7)) = true := hw
  simp [← BitVec.toNat_inj] at hv
  rw [if_pos (beq_iff_eq.mpr (by simpa using hv.2))]
  unfold accept
  rw [if_pos hw]

theorem Encode.pass (c : BitVec 4) : Encode.Statement (.pass c) := by
  intro hw wd he
  have hs := shape_13 0 0x0 (by decide) (by decide) c
  obtain ⟨h0, hf, g0⟩ := hs
  replace he := Option.some.inj he
  rw [he] at h0 hf g0
  refine ⟨(fun h => nomatch h), fun _ => ?_⟩
  have e : decodeStage wd = if fixed wd [(0, 12, 0), (16, 9, 0)] then accept .mouldInvalid (.pass (fld wd 12 4)) else .error .mouldInvalid := by
    unfold decodeStage; rw [h0]; rfl
  rw [e, if_pos hf, g0]
  unfold accept
  rw [if_pos hw]

theorem Encode.iadd (d a b : BitVec 2) (s : BitVec 3) (c : BitVec 4) : Encode.Statement (.iadd d a b s c) := by
  intro hw wd he
  have hs := shape_14 1 0x2000000 (by decide) (by decide) d a b s c
  obtain ⟨h0, hf, g0, g1, g2, g3, g4⟩ := hs
  replace he := Option.some.inj he
  rw [he] at h0 hf g0 g1 g2 g3 g4
  refine ⟨(fun h => nomatch h), fun _ => ?_⟩
  have e : decodeStage wd = if fixed wd [(0, 12, 0)] then accept .mouldInvalid (.iadd (fld wd 23 2) (fld wd 21 2) (fld wd 19 2) (fld wd 16 3) (fld wd 12 4)) else .error .mouldInvalid := by
    unfold decodeStage; rw [h0]; rfl
  rw [e, if_pos hf, g0, g1, g2, g3, g4]
  unfold accept
  rw [if_pos hw]

theorem Encode.isub (d a b : BitVec 2) (s : BitVec 3) (c : BitVec 4) : Encode.Statement (.isub d a b s c) := by
  intro hw wd he
  have hs := shape_14 2 0x4000000 (by decide) (by decide) d a b s c
  obtain ⟨h0, hf, g0, g1, g2, g3, g4⟩ := hs
  replace he := Option.some.inj he
  rw [he] at h0 hf g0 g1 g2 g3 g4
  refine ⟨(fun h => nomatch h), fun _ => ?_⟩
  have e : decodeStage wd = if fixed wd [(0, 12, 0)] then accept .mouldInvalid (.isub (fld wd 23 2) (fld wd 21 2) (fld wd 19 2) (fld wd 16 3) (fld wd 12 4)) else .error .mouldInvalid := by
    unfold decodeStage; rw [h0]; rfl
  rw [e, if_pos hf, g0, g1, g2, g3, g4]
  unfold accept
  rw [if_pos hw]

theorem Encode.imul (d a b : BitVec 2) (s : BitVec 3) (c : BitVec 4) : Encode.Statement (.imul d a b s c) := by
  intro hw wd he
  have hs := shape_14 3 0x6000000 (by decide) (by decide) d a b s c
  obtain ⟨h0, hf, g0, g1, g2, g3, g4⟩ := hs
  replace he := Option.some.inj he
  rw [he] at h0 hf g0 g1 g2 g3 g4
  refine ⟨(fun h => nomatch h), fun _ => ?_⟩
  have e : decodeStage wd = if fixed wd [(0, 12, 0)] then accept .mouldInvalid (.imul (fld wd 23 2) (fld wd 21 2) (fld wd 19 2) (fld wd 16 3) (fld wd 12 4)) else .error .mouldInvalid := by
    unfold decodeStage; rw [h0]; rfl
  rw [e, if_pos hf, g0, g1, g2, g3, g4]
  unfold accept
  rw [if_pos hw]

theorem Encode.imulh (d a b : BitVec 2) (s : BitVec 3) (c : BitVec 4) (u : BitVec 1) : Encode.Statement (.imulh d a b s c u) := by
  intro hw wd he
  have hs := shape_15 4 0x8000000 (by decide) (by decide) d a b s c u
  obtain ⟨h0, hf, g0, g1, g2, g3, g4, g5⟩ := hs
  replace he := Option.some.inj he
  rw [he] at h0 hf g0 g1 g2 g3 g4 g5
  refine ⟨(fun h => nomatch h), fun _ => ?_⟩
  have e : decodeStage wd = if fixed wd [(1, 11, 0)] then accept .mouldInvalid (.imulh (fld wd 23 2) (fld wd 21 2) (fld wd 19 2) (fld wd 16 3) (fld wd 12 4) (fld wd 0 1)) else .error .mouldInvalid := by
    unfold decodeStage; rw [h0]; rfl
  rw [e, if_pos hf, g0, g1, g2, g3, g4, g5]
  unfold accept
  rw [if_pos hw]

theorem Encode.iand (d a b : BitVec 2) (s : BitVec 3) (c : BitVec 4) : Encode.Statement (.iand d a b s c) := by
  intro hw wd he
  have hs := shape_14 5 0xa000000 (by decide) (by decide) d a b s c
  obtain ⟨h0, hf, g0, g1, g2, g3, g4⟩ := hs
  replace he := Option.some.inj he
  rw [he] at h0 hf g0 g1 g2 g3 g4
  refine ⟨(fun h => nomatch h), fun _ => ?_⟩
  have e : decodeStage wd = if fixed wd [(0, 12, 0)] then accept .mouldInvalid (.iand (fld wd 23 2) (fld wd 21 2) (fld wd 19 2) (fld wd 16 3) (fld wd 12 4)) else .error .mouldInvalid := by
    unfold decodeStage; rw [h0]; rfl
  rw [e, if_pos hf, g0, g1, g2, g3, g4]
  unfold accept
  rw [if_pos hw]

theorem Encode.ior (d a b : BitVec 2) (s : BitVec 3) (c : BitVec 4) : Encode.Statement (.ior d a b s c) := by
  intro hw wd he
  have hs := shape_14 6 0xc000000 (by decide) (by decide) d a b s c
  obtain ⟨h0, hf, g0, g1, g2, g3, g4⟩ := hs
  replace he := Option.some.inj he
  rw [he] at h0 hf g0 g1 g2 g3 g4
  refine ⟨(fun h => nomatch h), fun _ => ?_⟩
  have e : decodeStage wd = if fixed wd [(0, 12, 0)] then accept .mouldInvalid (.ior (fld wd 23 2) (fld wd 21 2) (fld wd 19 2) (fld wd 16 3) (fld wd 12 4)) else .error .mouldInvalid := by
    unfold decodeStage; rw [h0]; rfl
  rw [e, if_pos hf, g0, g1, g2, g3, g4]
  unfold accept
  rw [if_pos hw]

theorem Encode.ixor (d a b : BitVec 2) (s : BitVec 3) (c : BitVec 4) : Encode.Statement (.ixor d a b s c) := by
  intro hw wd he
  have hs := shape_14 7 0xe000000 (by decide) (by decide) d a b s c
  obtain ⟨h0, hf, g0, g1, g2, g3, g4⟩ := hs
  replace he := Option.some.inj he
  rw [he] at h0 hf g0 g1 g2 g3 g4
  refine ⟨(fun h => nomatch h), fun _ => ?_⟩
  have e : decodeStage wd = if fixed wd [(0, 12, 0)] then accept .mouldInvalid (.ixor (fld wd 23 2) (fld wd 21 2) (fld wd 19 2) (fld wd 16 3) (fld wd 12 4)) else .error .mouldInvalid := by
    unfold decodeStage; rw [h0]; rfl
  rw [e, if_pos hf, g0, g1, g2, g3, g4]
  unfold accept
  rw [if_pos hw]

theorem Encode.ishl (d a b : BitVec 2) (s : BitVec 3) (c : BitVec 4) : Encode.Statement (.ishl d a b s c) := by
  intro hw wd he
  have hs := shape_14 8 0x10000000 (by decide) (by decide) d a b s c
  obtain ⟨h0, hf, g0, g1, g2, g3, g4⟩ := hs
  replace he := Option.some.inj he
  rw [he] at h0 hf g0 g1 g2 g3 g4
  refine ⟨(fun h => nomatch h), fun _ => ?_⟩
  have e : decodeStage wd = if fixed wd [(0, 12, 0)] then accept .mouldInvalid (.ishl (fld wd 23 2) (fld wd 21 2) (fld wd 19 2) (fld wd 16 3) (fld wd 12 4)) else .error .mouldInvalid := by
    unfold decodeStage; rw [h0]; rfl
  rw [e, if_pos hf, g0, g1, g2, g3, g4]
  unfold accept
  rw [if_pos hw]

theorem Encode.ishr (d a b : BitVec 2) (s : BitVec 3) (c : BitVec 4) : Encode.Statement (.ishr d a b s c) := by
  intro hw wd he
  have hs := shape_14 9 0x12000000 (by decide) (by decide) d a b s c
  obtain ⟨h0, hf, g0, g1, g2, g3, g4⟩ := hs
  replace he := Option.some.inj he
  rw [he] at h0 hf g0 g1 g2 g3 g4
  refine ⟨(fun h => nomatch h), fun _ => ?_⟩
  have e : decodeStage wd = if fixed wd [(0, 12, 0)] then accept .mouldInvalid (.ishr (fld wd 23 2) (fld wd 21 2) (fld wd 19 2) (fld wd 16 3) (fld wd 12 4)) else .error .mouldInvalid := by
    unfold decodeStage; rw [h0]; rfl
  rw [e, if_pos hf, g0, g1, g2, g3, g4]
  unfold accept
  rw [if_pos hw]

theorem Encode.isar (d a b : BitVec 2) (s : BitVec 3) (c : BitVec 4) : Encode.Statement (.isar d a b s c) := by
  intro hw wd he
  have hs := shape_14 10 0x14000000 (by decide) (by decide) d a b s c
  obtain ⟨h0, hf, g0, g1, g2, g3, g4⟩ := hs
  replace he := Option.some.inj he
  rw [he] at h0 hf g0 g1 g2 g3 g4
  refine ⟨(fun h => nomatch h), fun _ => ?_⟩
  have e : decodeStage wd = if fixed wd [(0, 12, 0)] then accept .mouldInvalid (.isar (fld wd 23 2) (fld wd 21 2) (fld wd 19 2) (fld wd 16 3) (fld wd 12 4)) else .error .mouldInvalid := by
    unfold decodeStage; rw [h0]; rfl
  rw [e, if_pos hf, g0, g1, g2, g3, g4]
  unfold accept
  rw [if_pos hw]

theorem Encode.imin (d a b : BitVec 2) (s : BitVec 3) (c : BitVec 4) : Encode.Statement (.imin d a b s c) := by
  intro hw wd he
  have hs := shape_14 11 0x16000000 (by decide) (by decide) d a b s c
  obtain ⟨h0, hf, g0, g1, g2, g3, g4⟩ := hs
  replace he := Option.some.inj he
  rw [he] at h0 hf g0 g1 g2 g3 g4
  refine ⟨(fun h => nomatch h), fun _ => ?_⟩
  have e : decodeStage wd = if fixed wd [(0, 12, 0)] then accept .mouldInvalid (.imin (fld wd 23 2) (fld wd 21 2) (fld wd 19 2) (fld wd 16 3) (fld wd 12 4)) else .error .mouldInvalid := by
    unfold decodeStage; rw [h0]; rfl
  rw [e, if_pos hf, g0, g1, g2, g3, g4]
  unfold accept
  rw [if_pos hw]

theorem Encode.imax (d a b : BitVec 2) (s : BitVec 3) (c : BitVec 4) : Encode.Statement (.imax d a b s c) := by
  intro hw wd he
  have hs := shape_14 12 0x18000000 (by decide) (by decide) d a b s c
  obtain ⟨h0, hf, g0, g1, g2, g3, g4⟩ := hs
  replace he := Option.some.inj he
  rw [he] at h0 hf g0 g1 g2 g3 g4
  refine ⟨(fun h => nomatch h), fun _ => ?_⟩
  have e : decodeStage wd = if fixed wd [(0, 12, 0)] then accept .mouldInvalid (.imax (fld wd 23 2) (fld wd 21 2) (fld wd 19 2) (fld wd 16 3) (fld wd 12 4)) else .error .mouldInvalid := by
    unfold decodeStage; rw [h0]; rfl
  rw [e, if_pos hf, g0, g1, g2, g3, g4]
  unfold accept
  rw [if_pos hw]

theorem Encode.iminu (d a b : BitVec 2) (s : BitVec 3) (c : BitVec 4) : Encode.Statement (.iminu d a b s c) := by
  intro hw wd he
  have hs := shape_14 13 0x1a000000 (by decide) (by decide) d a b s c
  obtain ⟨h0, hf, g0, g1, g2, g3, g4⟩ := hs
  replace he := Option.some.inj he
  rw [he] at h0 hf g0 g1 g2 g3 g4
  refine ⟨(fun h => nomatch h), fun _ => ?_⟩
  have e : decodeStage wd = if fixed wd [(0, 12, 0)] then accept .mouldInvalid (.iminu (fld wd 23 2) (fld wd 21 2) (fld wd 19 2) (fld wd 16 3) (fld wd 12 4)) else .error .mouldInvalid := by
    unfold decodeStage; rw [h0]; rfl
  rw [e, if_pos hf, g0, g1, g2, g3, g4]
  unfold accept
  rw [if_pos hw]

theorem Encode.imaxu (d a b : BitVec 2) (s : BitVec 3) (c : BitVec 4) : Encode.Statement (.imaxu d a b s c) := by
  intro hw wd he
  have hs := shape_14 14 0x1c000000 (by decide) (by decide) d a b s c
  obtain ⟨h0, hf, g0, g1, g2, g3, g4⟩ := hs
  replace he := Option.some.inj he
  rw [he] at h0 hf g0 g1 g2 g3 g4
  refine ⟨(fun h => nomatch h), fun _ => ?_⟩
  have e : decodeStage wd = if fixed wd [(0, 12, 0)] then accept .mouldInvalid (.imaxu (fld wd 23 2) (fld wd 21 2) (fld wd 19 2) (fld wd 16 3) (fld wd 12 4)) else .error .mouldInvalid := by
    unfold decodeStage; rw [h0]; rfl
  rw [e, if_pos hf, g0, g1, g2, g3, g4]
  unfold accept
  rw [if_pos hw]

theorem Encode.icmp (d a b : BitVec 2) (s : BitVec 3) (c : BitVec 4) (k : BitVec 3) : Encode.Statement (.icmp d a b s c k) := by
  intro hw wd he
  have hs := shape_16 15 0x1e000000 (by decide) (by decide) d a b s c k
  obtain ⟨h0, hf, g0, g1, g2, g3, g4, g5⟩ := hs
  replace he := Option.some.inj he
  rw [he] at h0 hf g0 g1 g2 g3 g4 g5
  refine ⟨(fun h => nomatch h), fun _ => ?_⟩
  have e : decodeStage wd = if fixed wd [(3, 9, 0)] then accept .mouldInvalid (.icmp (fld wd 23 2) (fld wd 21 2) (fld wd 19 2) (fld wd 16 3) (fld wd 12 4) (fld wd 0 3)) else .error .mouldInvalid := by
    unfold decodeStage; rw [h0]; rfl
  rw [e, if_pos hf, g0, g1, g2, g3, g4, g5]
  unfold accept
  rw [if_pos hw]

theorem Encode.ihash (d a b : BitVec 2) (s : BitVec 3) (c : BitVec 4) : Encode.Statement (.ihash d a b s c) := by
  intro hw wd he
  have hs := shape_14 16 0x20000000 (by decide) (by decide) d a b s c
  obtain ⟨h0, hf, g0, g1, g2, g3, g4⟩ := hs
  replace he := Option.some.inj he
  rw [he] at h0 hf g0 g1 g2 g3 g4
  refine ⟨(fun h => nomatch h), fun _ => ?_⟩
  have e : decodeStage wd = if fixed wd [(0, 12, 0)] then accept .mouldInvalid (.ihash (fld wd 23 2) (fld wd 21 2) (fld wd 19 2) (fld wd 16 3) (fld wd 12 4)) else .error .mouldInvalid := by
    unfold decodeStage; rw [h0]; rfl
  rw [e, if_pos hf, g0, g1, g2, g3, g4]
  unfold accept
  rw [if_pos hw]

theorem Encode.isel (d a b : BitVec 2) (s : BitVec 3) (c : BitVec 2) : Encode.Statement (.isel d a b s c) := by
  intro hw wd he
  have hs := shape_17 17 0x22000000 (by decide) (by decide) d a b s c
  obtain ⟨h0, hf, g0, g1, g2, g3, g4⟩ := hs
  replace he := Option.some.inj he
  rw [he] at h0 hf g0 g1 g2 g3 g4
  refine ⟨(fun h => nomatch h), fun _ => ?_⟩
  have e : decodeStage wd = if fixed wd [(0, 12, 0), (14, 2, 0)] then accept .mouldInvalid (.isel (fld wd 23 2) (fld wd 21 2) (fld wd 19 2) (fld wd 16 3) (fld wd 12 2)) else .error .mouldInvalid := by
    unfold decodeStage; rw [h0]; rfl
  rw [e, if_pos hf, g0, g1, g2, g3, g4]
  unfold accept
  rw [if_pos hw]

theorem Encode.ipopc (d a : BitVec 2) (c : BitVec 4) : Encode.Statement (.ipopc d a c) := by
  intro hw wd he
  have hs := shape_18 18 0x24000000 (by decide) (by decide) d a c
  obtain ⟨h0, hf, g0, g1, g2⟩ := hs
  replace he := Option.some.inj he
  rw [he] at h0 hf g0 g1 g2
  refine ⟨(fun h => nomatch h), fun _ => ?_⟩
  have e : decodeStage wd = if fixed wd [(0, 12, 0), (16, 5, 0)] then accept .mouldInvalid (.ipopc (fld wd 23 2) (fld wd 21 2) (fld wd 12 4)) else .error .mouldInvalid := by
    unfold decodeStage; rw [h0]; rfl
  rw [e, if_pos hf, g0, g1, g2]
  unfold accept
  rw [if_pos hw]

theorem Encode.stageFadd (d a b : BitVec 2) (s : BitVec 3) (c : BitVec 4) (m : BitVec 3) : Encode.Statement (.stageFadd d a b s c m) := by
  intro hw wd he
  have hs := shape_16 19 0x26000000 (by decide) (by decide) d a b s c m
  obtain ⟨h0, hf, g0, g1, g2, g3, g4, g5⟩ := hs
  replace he := Option.some.inj he
  rw [he] at h0 hf g0 g1 g2 g3 g4 g5
  refine ⟨(fun h => nomatch h), fun _ => ?_⟩
  have e : decodeStage wd = if fixed wd [(3, 9, 0)] then accept .mouldInvalid (.stageFadd (fld wd 23 2) (fld wd 21 2) (fld wd 19 2) (fld wd 16 3) (fld wd 12 4) (fld wd 0 3)) else .error .mouldInvalid := by
    unfold decodeStage; rw [h0]; rfl
  rw [e, if_pos hf, g0, g1, g2, g3, g4, g5]
  unfold accept
  rw [if_pos hw]

theorem Encode.stageFsub (d a b : BitVec 2) (s : BitVec 3) (c : BitVec 4) (m : BitVec 3) : Encode.Statement (.stageFsub d a b s c m) := by
  intro hw wd he
  have hs := shape_16 20 0x28000000 (by decide) (by decide) d a b s c m
  obtain ⟨h0, hf, g0, g1, g2, g3, g4, g5⟩ := hs
  replace he := Option.some.inj he
  rw [he] at h0 hf g0 g1 g2 g3 g4 g5
  refine ⟨(fun h => nomatch h), fun _ => ?_⟩
  have e : decodeStage wd = if fixed wd [(3, 9, 0)] then accept .mouldInvalid (.stageFsub (fld wd 23 2) (fld wd 21 2) (fld wd 19 2) (fld wd 16 3) (fld wd 12 4) (fld wd 0 3)) else .error .mouldInvalid := by
    unfold decodeStage; rw [h0]; rfl
  rw [e, if_pos hf, g0, g1, g2, g3, g4, g5]
  unfold accept
  rw [if_pos hw]

theorem Encode.stageFmul (d a b : BitVec 2) (s : BitVec 3) (c : BitVec 4) (m : BitVec 3) : Encode.Statement (.stageFmul d a b s c m) := by
  intro hw wd he
  have hs := shape_16 21 0x2a000000 (by decide) (by decide) d a b s c m
  obtain ⟨h0, hf, g0, g1, g2, g3, g4, g5⟩ := hs
  replace he := Option.some.inj he
  rw [he] at h0 hf g0 g1 g2 g3 g4 g5
  refine ⟨(fun h => nomatch h), fun _ => ?_⟩
  have e : decodeStage wd = if fixed wd [(3, 9, 0)] then accept .mouldInvalid (.stageFmul (fld wd 23 2) (fld wd 21 2) (fld wd 19 2) (fld wd 16 3) (fld wd 12 4) (fld wd 0 3)) else .error .mouldInvalid := by
    unfold decodeStage; rw [h0]; rfl
  rw [e, if_pos hf, g0, g1, g2, g3, g4, g5]
  unfold accept
  rw [if_pos hw]

theorem Encode.ffma (d a b : BitVec 2) (s : BitVec 3) (c : BitVec 4) (m : BitVec 3) : Encode.Statement (.ffma d a b s c m) := by
  intro hw wd he
  have hs := shape_16 22 0x2c000000 (by decide) (by decide) d a b s c m
  obtain ⟨h0, hf, g0, g1, g2, g3, g4, g5⟩ := hs
  replace he := Option.some.inj he
  rw [he] at h0 hf g0 g1 g2 g3 g4 g5
  refine ⟨(fun h => nomatch h), fun _ => ?_⟩
  have e : decodeStage wd = if fixed wd [(3, 9, 0)] then accept .mouldInvalid (.ffma (fld wd 23 2) (fld wd 21 2) (fld wd 19 2) (fld wd 16 3) (fld wd 12 4) (fld wd 0 3)) else .error .mouldInvalid := by
    unfold decodeStage; rw [h0]; rfl
  rw [e, if_pos hf, g0, g1, g2, g3, g4, g5]
  unfold accept
  rw [if_pos hw]

theorem Encode.stageFmin (d a b : BitVec 2) (s : BitVec 3) (c : BitVec 4) : Encode.Statement (.stageFmin d a b s c) := by
  intro hw wd he
  have hs := shape_14 23 0x2e000000 (by decide) (by decide) d a b s c
  obtain ⟨h0, hf, g0, g1, g2, g3, g4⟩ := hs
  replace he := Option.some.inj he
  rw [he] at h0 hf g0 g1 g2 g3 g4
  refine ⟨(fun h => nomatch h), fun _ => ?_⟩
  have e : decodeStage wd = if fixed wd [(0, 12, 0)] then accept .mouldInvalid (.stageFmin (fld wd 23 2) (fld wd 21 2) (fld wd 19 2) (fld wd 16 3) (fld wd 12 4)) else .error .mouldInvalid := by
    unfold decodeStage; rw [h0]; rfl
  rw [e, if_pos hf, g0, g1, g2, g3, g4]
  unfold accept
  rw [if_pos hw]

theorem Encode.stageFmax (d a b : BitVec 2) (s : BitVec 3) (c : BitVec 4) : Encode.Statement (.stageFmax d a b s c) := by
  intro hw wd he
  have hs := shape_14 24 0x30000000 (by decide) (by decide) d a b s c
  obtain ⟨h0, hf, g0, g1, g2, g3, g4⟩ := hs
  replace he := Option.some.inj he
  rw [he] at h0 hf g0 g1 g2 g3 g4
  refine ⟨(fun h => nomatch h), fun _ => ?_⟩
  have e : decodeStage wd = if fixed wd [(0, 12, 0)] then accept .mouldInvalid (.stageFmax (fld wd 23 2) (fld wd 21 2) (fld wd 19 2) (fld wd 16 3) (fld wd 12 4)) else .error .mouldInvalid := by
    unfold decodeStage; rw [h0]; rfl
  rw [e, if_pos hf, g0, g1, g2, g3, g4]
  unfold accept
  rw [if_pos hw]

theorem Encode.fcmp (d a b : BitVec 2) (s : BitVec 3) (c : BitVec 4) (k : BitVec 3) : Encode.Statement (.fcmp d a b s c k) := by
  intro hw wd he
  have hs := shape_16 25 0x32000000 (by decide) (by decide) d a b s c k
  obtain ⟨h0, hf, g0, g1, g2, g3, g4, g5⟩ := hs
  replace he := Option.some.inj he
  rw [he] at h0 hf g0 g1 g2 g3 g4 g5
  refine ⟨(fun h => nomatch h), fun _ => ?_⟩
  have e : decodeStage wd = if fixed wd [(3, 9, 0)] then accept .mouldInvalid (.fcmp (fld wd 23 2) (fld wd 21 2) (fld wd 19 2) (fld wd 16 3) (fld wd 12 4) (fld wd 0 3)) else .error .mouldInvalid := by
    unfold decodeStage; rw [h0]; rfl
  rw [e, if_pos hf, g0, g1, g2, g3, g4, g5]
  unfold accept
  rw [if_pos hw]

theorem Encode.fexp2 (d a : BitVec 2) (c : BitVec 4) : Encode.Statement (.fexp2 d a c) := by
  intro hw wd he
  have hs := shape_18 26 0x34000000 (by decide) (by decide) d a c
  obtain ⟨h0, hf, g0, g1, g2⟩ := hs
  replace he := Option.some.inj he
  rw [he] at h0 hf g0 g1 g2
  refine ⟨(fun h => nomatch h), fun _ => ?_⟩
  have e : decodeStage wd = if fixed wd [(0, 12, 0), (16, 5, 0)] then accept .mouldInvalid (.fexp2 (fld wd 23 2) (fld wd 21 2) (fld wd 12 4)) else .error .mouldInvalid := by
    unfold decodeStage; rw [h0]; rfl
  rw [e, if_pos hf, g0, g1, g2]
  unfold accept
  rw [if_pos hw]

theorem Encode.frcp (d a : BitVec 2) (c : BitVec 4) : Encode.Statement (.frcp d a c) := by
  intro hw wd he
  have hs := shape_18 27 0x36000000 (by decide) (by decide) d a c
  obtain ⟨h0, hf, g0, g1, g2⟩ := hs
  replace he := Option.some.inj he
  rw [he] at h0 hf g0 g1 g2
  refine ⟨(fun h => nomatch h), fun _ => ?_⟩
  have e : decodeStage wd = if fixed wd [(0, 12, 0), (16, 5, 0)] then accept .mouldInvalid (.frcp (fld wd 23 2) (fld wd 21 2) (fld wd 12 4)) else .error .mouldInvalid := by
    unfold decodeStage; rw [h0]; rfl
  rw [e, if_pos hf, g0, g1, g2]
  unfold accept
  rw [if_pos hw]

theorem Encode.frsq (d a : BitVec 2) (c : BitVec 4) : Encode.Statement (.frsq d a c) := by
  intro hw wd he
  have hs := shape_18 28 0x38000000 (by decide) (by decide) d a c
  obtain ⟨h0, hf, g0, g1, g2⟩ := hs
  replace he := Option.some.inj he
  rw [he] at h0 hf g0 g1 g2
  refine ⟨(fun h => nomatch h), fun _ => ?_⟩
  have e : decodeStage wd = if fixed wd [(0, 12, 0), (16, 5, 0)] then accept .mouldInvalid (.frsq (fld wd 23 2) (fld wd 21 2) (fld wd 12 4)) else .error .mouldInvalid := by
    unfold decodeStage; rw [h0]; rfl
  rw [e, if_pos hf, g0, g1, g2]
  unfold accept
  rw [if_pos hw]

theorem Encode.cvt (d a : BitVec 2) (h : BitVec 5) (c x y : BitVec 4) (m : BitVec 3) : Encode.Statement (.cvt d a h c x y m) := by
  intro hw wd he
  have hs := shape_19 29 0x3a000000 (by decide) (by decide) d a h c x y m
  obtain ⟨h0, hf, g0, g1, g2, g3, g4, g5, g6⟩ := hs
  replace he := Option.some.inj he
  rw [he] at h0 hf g0 g1 g2 g3 g4 g5 g6
  refine ⟨(fun h => nomatch h), fun _ => ?_⟩
  have e : decodeStage wd = if fixed wd [(3, 1, 0)] then accept .mouldInvalid (.cvt (fld wd 23 2) (fld wd 21 2) (fld wd 16 5) (fld wd 12 4) (fld wd 8 4) (fld wd 4 4) (fld wd 0 3)) else .error .mouldInvalid := by
    unfold decodeStage; rw [h0]; rfl
  rw [e, if_pos hf, g0, g1, g2, g3, g4, g5, g6]
  unfold accept
  rw [if_pos hw]

theorem Encode.cvtb4 (d a : BitVec 2) (h : BitVec 5) (m : BitVec 3) (s : BitVec 2) : Encode.Statement (.cvtb4 d a h m s) := by
  intro hw wd he
  have hs := shape_20 30 0x3c000000 (by decide) (by decide) d a h m s
  obtain ⟨h0, hf, g0, g1, g2, g3, g4⟩ := hs
  replace he := Option.some.inj he
  rw [he] at h0 hf g0 g1 g2 g3 g4
  refine ⟨(fun h => nomatch h), fun _ => ?_⟩
  have e : decodeStage wd = if fixed wd [(5, 11, 0)] then accept .mouldInvalid (.cvtb4 (fld wd 23 2) (fld wd 21 2) (fld wd 16 5) (fld wd 2 3) (fld wd 0 2)) else .error .mouldInvalid := by
    unfold decodeStage; rw [h0]; rfl
  rw [e, if_pos hf, g0, g1, g2, g3, g4]
  unfold accept
  rw [if_pos hw]

theorem Encode.fabsn (d a b : BitVec 2) (s : BitVec 3) (c : BitVec 4) (m : BitVec 2) : Encode.Statement (.fabsn d a b s c m) := by
  intro hw wd he
  have hs := shape_21 31 0x3e000000 (by decide) (by decide) d a b s c m
  obtain ⟨h0, hf, g0, g1, g2, g3, g4, g5⟩ := hs
  replace he := Option.some.inj he
  rw [he] at h0 hf g0 g1 g2 g3 g4 g5
  refine ⟨(fun h => nomatch h), fun _ => ?_⟩
  have e : decodeStage wd = if fixed wd [(2, 10, 0)] then accept .mouldInvalid (.fabsn (fld wd 23 2) (fld wd 21 2) (fld wd 19 2) (fld wd 16 3) (fld wd 12 4) (fld wd 0 2)) else .error .mouldInvalid := by
    unfold decodeStage; rw [h0]; rfl
  rw [e, if_pos hf, g0, g1, g2, g3, g4, g5]
  unfold accept
  rw [if_pos hw]

theorem Encode.lshuf (d a b : BitVec 2) (s : BitVec 3) : Encode.Statement (.lshuf d a b s) := by
  intro hw wd he
  have hs := shape_22 32 0x40000000 (by decide) (by decide) d a b s
  obtain ⟨h0, hf, g0, g1, g2, g3⟩ := hs
  replace he := Option.some.inj he
  rw [he] at h0 hf g0 g1 g2 g3
  refine ⟨(fun h => nomatch h), fun _ => ?_⟩
  have e : decodeStage wd = if fixed wd [(0, 16, 0)] then accept .mouldInvalid (.lshuf (fld wd 23 2) (fld wd 21 2) (fld wd 19 2) (fld wd 16 3)) else .error .mouldInvalid := by
    unfold decodeStage; rw [h0]; rfl
  rw [e, if_pos hf, g0, g1, g2, g3]
  unfold accept
  rw [if_pos hw]

theorem Encode.lbcast (d a : BitVec 2) (l : BitVec 4) : Encode.Statement (.lbcast d a l) := by
  intro hw wd he
  have hs := shape_23 33 0x42000000 (by decide) (by decide) d a l
  obtain ⟨h0, hf, g0, g1, g2⟩ := hs
  replace he := Option.some.inj he
  rw [he] at h0 hf g0 g1 g2
  refine ⟨(fun h => nomatch h), fun _ => ?_⟩
  have e : decodeStage wd = if fixed wd [(4, 17, 0)] then accept .mouldInvalid (.lbcast (fld wd 23 2) (fld wd 21 2) (fld wd 0 4)) else .error .mouldInvalid := by
    unfold decodeStage; rw [h0]; rfl
  rw [e, if_pos hf, g0, g1, g2]
  unfold accept
  rw [if_pos hw]

theorem Encode.lscan (d a : BitVec 2) (m : BitVec 3) (o : BitVec 4) : Encode.Statement (.lscan d a m o) := by
  intro hw wd he
  have hs := shape_24 34 0x44000000 (by decide) (by decide) d a m o
  obtain ⟨h0, hf, g0, g1, g2, g3⟩ := hs
  replace he := Option.some.inj he
  rw [he] at h0 hf g0 g1 g2 g3
  refine ⟨(fun h => nomatch h), fun _ => ?_⟩
  have e : decodeStage wd = if fixed wd [(7, 14, 0)] then accept .mouldInvalid (.lscan (fld wd 23 2) (fld wd 21 2) (fld wd 4 3) (fld wd 0 4)) else .error .mouldInvalid := by
    unfold decodeStage; rw [h0]; rfl
  rw [e, if_pos hf, g0, g1, g2, g3]
  unfold accept
  rw [if_pos hw]

theorem Encode.lred (d a : BitVec 2) (m : BitVec 3) (o : BitVec 4) : Encode.Statement (.lred d a m o) := by
  intro hw wd he
  have hs := shape_24 35 0x46000000 (by decide) (by decide) d a m o
  obtain ⟨h0, hf, g0, g1, g2, g3⟩ := hs
  replace he := Option.some.inj he
  rw [he] at h0 hf g0 g1 g2 g3
  refine ⟨(fun h => nomatch h), fun _ => ?_⟩
  have e : decodeStage wd = if fixed wd [(7, 14, 0)] then accept .mouldInvalid (.lred (fld wd 23 2) (fld wd 21 2) (fld wd 4 3) (fld wd 0 4)) else .error .mouldInvalid := by
    unfold decodeStage; rw [h0]; rfl
  rw [e, if_pos hf, g0, g1, g2, g3]
  unfold accept
  rw [if_pos hw]

theorem Encode.lcompact  : Encode.Statement (.lcompact) := by
  intro hw wd he
  have hs := shape_25 36 0x48000000 (by decide) (by decide)
  obtain ⟨h0, hf⟩ := hs
  replace he := Option.some.inj he
  rw [he] at h0 hf
  refine ⟨(fun h => nomatch h), fun _ => ?_⟩
  have e : decodeStage wd = if fixed wd [(0, 25, 0)] then accept .mouldInvalid (.lcompact) else .error .mouldInvalid := by
    unfold decodeStage; rw [h0]; rfl
  rw [e, if_pos hf]
  unfold accept
  rw [if_pos hw]

theorem Encode.filter (q : BitVec 1) : Encode.Statement (.filter q) := by
  intro hw wd he
  have hs := shape_26 37 0x4a000000 (by decide) (by decide) q
  obtain ⟨h0, hf, g0⟩ := hs
  replace he := Option.some.inj he
  rw [he] at h0 hf g0
  refine ⟨(fun h => nomatch h), fun _ => ?_⟩
  have e : decodeStage wd = if fixed wd [(1, 24, 0)] then accept .mouldInvalid (.filter (fld wd 0 1)) else .error .mouldInvalid := by
    unfold decodeStage; rw [h0]; rfl
  rw [e, if_pos hf, g0]
  unfold accept
  rw [if_pos hw]

theorem Encode.fork (d a b : BitVec 2) (s : BitVec 3) (q : BitVec 1) : Encode.Statement (.fork d a b s q) := by
  intro hw wd he
  have hs := shape_27 38 0x4c000000 (by decide) (by decide) d a b s q
  obtain ⟨h0, hf, g0, g1, g2, g3, g4⟩ := hs
  replace he := Option.some.inj he
  rw [he] at h0 hf g0 g1 g2 g3 g4
  refine ⟨(fun h => nomatch h), fun _ => ?_⟩
  have e : decodeStage wd = if fixed wd [(1, 15, 0)] then accept .mouldInvalid (.fork (fld wd 23 2) (fld wd 21 2) (fld wd 19 2) (fld wd 16 3) (fld wd 0 1)) else .error .mouldInvalid := by
    unfold decodeStage; rw [h0]; rfl
  rw [e, if_pos hf, g0, g1, g2, g3, g4]
  unfold accept
  rw [if_pos hw]

theorem Encode.recirc (q : BitVec 1) : Encode.Statement (.recirc q) := by
  intro hw wd he
  have hs := shape_26 39 0x4e000000 (by decide) (by decide) q
  obtain ⟨h0, hf, g0⟩ := hs
  replace he := Option.some.inj he
  rw [he] at h0 hf g0
  refine ⟨(fun h => nomatch h), fun _ => ?_⟩
  have e : decodeStage wd = if fixed wd [(1, 24, 0)] then accept .mouldInvalid (.recirc (fld wd 0 1)) else .error .mouldInvalid := by
    unfold decodeStage; rw [h0]; rfl
  rw [e, if_pos hf, g0]
  unfold accept
  rw [if_pos hw]

theorem Encode.steer (q : BitVec 1) : Encode.Statement (.steer q) := by
  intro hw wd he
  have hs := shape_26 40 0x50000000 (by decide) (by decide) q
  obtain ⟨h0, hf, g0⟩ := hs
  replace he := Option.some.inj he
  rw [he] at h0 hf g0
  refine ⟨(fun h => nomatch h), fun _ => ?_⟩
  have e : decodeStage wd = if fixed wd [(1, 24, 0)] then accept .mouldInvalid (.steer (fld wd 0 1)) else .error .mouldInvalid := by
    unfold decodeStage; rw [h0]; rfl
  rw [e, if_pos hf, g0]
  unfold accept
  rw [if_pos hw]

theorem Encode.merge  : Encode.Statement (.merge) := by
  intro hw wd he
  have hs := shape_25 41 0x52000000 (by decide) (by decide)
  obtain ⟨h0, hf⟩ := hs
  replace he := Option.some.inj he
  rw [he] at h0 hf
  refine ⟨(fun h => nomatch h), fun _ => ?_⟩
  have e : decodeStage wd = if fixed wd [(0, 25, 0)] then accept .mouldInvalid (.merge) else .error .mouldInvalid := by
    unfold decodeStage; rw [h0]; rfl
  rw [e, if_pos hf]
  unfold accept
  rw [if_pos hw]

theorem Encode.reord  : Encode.Statement (.reord) := by
  intro hw wd he
  have hs := shape_25 42 0x54000000 (by decide) (by decide)
  obtain ⟨h0, hf⟩ := hs
  replace he := Option.some.inj he
  rw [he] at h0 hf
  refine ⟨(fun h => nomatch h), fun _ => ?_⟩
  have e : decodeStage wd = if fixed wd [(0, 25, 0)] then accept .mouldInvalid (.reord) else .error .mouldInvalid := by
    unfold decodeStage; rw [h0]; rfl
  rw [e, if_pos hf]
  unfold accept
  rw [if_pos hw]

theorem Encode.gen (d a b : BitVec 2) (s : BitVec 3) (i : BitVec 12) : Encode.Statement (.gen d a b s i) := by
  intro hw wd he
  have hs := shape_28 43 0x56000000 (by decide) (by decide) d a b s i
  obtain ⟨h0, hf, g0, g1, g2, g3, g4⟩ := hs
  replace he := Option.some.inj he
  rw [he] at h0 hf g0 g1 g2 g3 g4
  refine ⟨(fun h => nomatch h), fun _ => ?_⟩
  have e : decodeStage wd = if fixed wd [(12, 4, 0)] then accept .mouldInvalid (.gen (fld wd 23 2) (fld wd 21 2) (fld wd 19 2) (fld wd 16 3) (fld wd 0 12)) else .error .mouldInvalid := by
    unfold decodeStage; rw [h0]; rfl
  rw [e, if_pos hf, g0, g1, g2, g3, g4]
  unfold accept
  rw [if_pos hw]

theorem Encode.seqtag  : Encode.Statement (.seqtag) := by
  intro hw wd he
  have hs := shape_25 44 0x58000000 (by decide) (by decide)
  obtain ⟨h0, hf⟩ := hs
  replace he := Option.some.inj he
  rw [he] at h0 hf
  refine ⟨(fun h => nomatch h), fun _ => ?_⟩
  have e : decodeStage wd = if fixed wd [(0, 25, 0)] then accept .mouldInvalid (.seqtag) else .error .mouldInvalid := by
    unfold decodeStage; rw [h0]; rfl
  rw [e, if_pos hf]
  unfold accept
  rw [if_pos hw]

theorem Encode.isect (d b : BitVec 2) : Encode.Statement (.isect d b) := by
  intro hw wd he
  have hs := shape_29 45 0x5a000000 (by decide) (by decide) d b
  obtain ⟨h0, hf, g0, g1⟩ := hs
  replace he := Option.some.inj he
  rw [he] at h0 hf g0 g1
  refine ⟨(fun h => nomatch h), fun _ => ?_⟩
  have e : decodeStage wd = if fixed wd [(0, 19, 0), (21, 2, 0)] then accept .mouldInvalid (.isect (fld wd 23 2) (fld wd 19 2)) else .error .mouldInvalid := by
    unfold decodeStage; rw [h0]; rfl
  rw [e, if_pos hf, g0, g1]
  unfold accept
  rw [if_pos hw]

theorem Encode.spld (d a b : BitVec 2) (c : BitVec 4) (z : BitVec 2) (o : BitVec 10) : Encode.Statement (.spld d a b c z o) := by
  intro hw wd he
  have hs := shape_30 46 0x5c000000 (by decide) (by decide) d a b c z o
  obtain ⟨h0, hf, g0, g1, g2, g3, g4, g5⟩ := hs
  replace he := Option.some.inj he
  rw [he] at h0 hf g0 g1 g2 g3 g4 g5
  refine ⟨(fun h => nomatch h), fun _ => ?_⟩
  have e : decodeStage wd = if fixed wd [(16, 3, 0)] then accept .mouldInvalid (.spld (fld wd 23 2) (fld wd 21 2) (fld wd 19 2) (fld wd 12 4) (fld wd 10 2) (fld wd 0 10)) else .error .mouldInvalid := by
    unfold decodeStage; rw [h0]; rfl
  rw [e, if_pos hf, g0, g1, g2, g3, g4, g5]
  unfold accept
  rw [if_pos hw]

theorem Encode.spst (d a b : BitVec 2) (c : BitVec 4) (z : BitVec 2) (o : BitVec 10) : Encode.Statement (.spst d a b c z o) := by
  intro hw wd he
  have hs := shape_30 47 0x5e000000 (by decide) (by decide) d a b c z o
  obtain ⟨h0, hf, g0, g1, g2, g3, g4, g5⟩ := hs
  replace he := Option.some.inj he
  rw [he] at h0 hf g0 g1 g2 g3 g4 g5
  refine ⟨(fun h => nomatch h), fun _ => ?_⟩
  have e : decodeStage wd = if fixed wd [(16, 3, 0)] then accept .mouldInvalid (.spst (fld wd 23 2) (fld wd 21 2) (fld wd 19 2) (fld wd 12 4) (fld wd 10 2) (fld wd 0 10)) else .error .mouldInvalid := by
    unfold decodeStage; rw [h0]; rfl
  rw [e, if_pos hf, g0, g1, g2, g3, g4, g5]
  unfold accept
  rw [if_pos hw]

theorem Encode.spamo (d a b : BitVec 2) (c : BitVec 4) (k : BitVec 3) (o : BitVec 9) : Encode.Statement (.spamo d a b c k o) := by
  intro hw wd he
  have hs := shape_31 48 0x60000000 (by decide) (by decide) d a b c k o
  obtain ⟨h0, hf, g0, g1, g2, g3, g4, g5⟩ := hs
  replace he := Option.some.inj he
  rw [he] at h0 hf g0 g1 g2 g3 g4 g5
  refine ⟨(fun h => nomatch h), fun _ => ?_⟩
  have e : decodeStage wd = if fixed wd [(16, 3, 0)] then accept .mouldInvalid (.spamo (fld wd 23 2) (fld wd 21 2) (fld wd 19 2) (fld wd 12 4) (fld wd 9 3) (fld wd 0 9)) else .error .mouldInvalid := by
    unfold decodeStage; rw [h0]; rfl
  rw [e, if_pos hf, g0, g1, g2, g3, g4, g5]
  unfold accept
  rw [if_pos hw]

theorem Encode.spfill (d a b : BitVec 2) (c : BitVec 4) (z : BitVec 2) (o : BitVec 10) : Encode.Statement (.spfill d a b c z o) := by
  intro hw wd he
  have hs := shape_30 49 0x62000000 (by decide) (by decide) d a b c z o
  obtain ⟨h0, hf, g0, g1, g2, g3, g4, g5⟩ := hs
  replace he := Option.some.inj he
  rw [he] at h0 hf g0 g1 g2 g3 g4 g5
  refine ⟨(fun h => nomatch h), fun _ => ?_⟩
  have e : decodeStage wd = if fixed wd [(16, 3, 0)] then accept .mouldInvalid (.spfill (fld wd 23 2) (fld wd 21 2) (fld wd 19 2) (fld wd 12 4) (fld wd 10 2) (fld wd 0 10)) else .error .mouldInvalid := by
    unfold decodeStage; rw [h0]; rfl
  rw [e, if_pos hf, g0, g1, g2, g3, g4, g5]
  unfold accept
  rw [if_pos hw]

theorem Encode.spmark (d a b : BitVec 2) (c : BitVec 4) (f : BitVec 1) : Encode.Statement (.spmark d a b c f) := by
  intro hw wd he
  have hs := shape_32 50 0x64000000 (by decide) (by decide) d a b c f
  obtain ⟨h0, hf, g0, g1, g2, g3, g4⟩ := hs
  replace he := Option.some.inj he
  rw [he] at h0 hf g0 g1 g2 g3 g4
  refine ⟨(fun h => nomatch h), fun _ => ?_⟩
  have e : decodeStage wd = if fixed wd [(1, 11, 0), (16, 3, 0)] then accept .mouldInvalid (.spmark (fld wd 23 2) (fld wd 21 2) (fld wd 19 2) (fld wd 12 4) (fld wd 0 1)) else .error .mouldInvalid := by
    unfold decodeStage; rw [h0]; rfl
  rw [e, if_pos hf, g0, g1, g2, g3, g4]
  unfold accept
  rw [if_pos hw]

theorem Encode.mld (d a : BitVec 2) (c : BitVec 4) (z : BitVec 2) (e : BitVec 4) (n : BitVec 3) (v : BitVec 1) : Encode.Statement (.mld d a c z e n v) := by
  intro hw wd he
  have hs := shape_33 51 0x66000000 (by decide) (by decide) d a c z e n v
  obtain ⟨h0, hf, g0, g1, g2, g3, g4, g5, g6⟩ := hs
  replace he := Option.some.inj he
  rw [he] at h0 hf g0 g1 g2 g3 g4 g5 g6
  refine ⟨(fun h => nomatch h), fun _ => ?_⟩
  have e : decodeStage wd = if fixed wd [(0, 2, 0), (16, 5, 0)] then accept .mouldInvalid (.mld (fld wd 23 2) (fld wd 21 2) (fld wd 12 4) (fld wd 10 2) (fld wd 6 4) (fld wd 3 3) (fld wd 2 1)) else .error .mouldInvalid := by
    unfold decodeStage; rw [h0]; rfl
  rw [e, if_pos hf, g0, g1, g2, g3, g4, g5, g6]
  unfold accept
  rw [if_pos hw]

theorem Encode.mst (d a : BitVec 2) (c : BitVec 4) (z : BitVec 2) (e : BitVec 4) (n : BitVec 3) : Encode.Statement (.mst d a c z e n) := by
  intro hw wd he
  have hs := shape_34 52 0x68000000 (by decide) (by decide) d a c z e n
  obtain ⟨h0, hf, g0, g1, g2, g3, g4, g5⟩ := hs
  replace he := Option.some.inj he
  rw [he] at h0 hf g0 g1 g2 g3 g4 g5
  refine ⟨(fun h => nomatch h), fun _ => ?_⟩
  have e : decodeStage wd = if fixed wd [(0, 3, 0), (16, 5, 0)] then accept .mouldInvalid (.mst (fld wd 23 2) (fld wd 21 2) (fld wd 12 4) (fld wd 10 2) (fld wd 6 4) (fld wd 3 3)) else .error .mouldInvalid := by
    unfold decodeStage; rw [h0]; rfl
  rw [e, if_pos hf, g0, g1, g2, g3, g4, g5]
  unfold accept
  rw [if_pos hw]

theorem Encode.mgath (a : BitVec 2) (c e : BitVec 4) (n : BitVec 3) : Encode.Statement (.mgath a c e n) := by
  intro hw wd he
  have hs := shape_35 53 0x6a000000 (by decide) (by decide) a c e n
  obtain ⟨h0, hf, g0, g1, g2, g3⟩ := hs
  replace he := Option.some.inj he
  rw [he] at h0 hf g0 g1 g2 g3
  refine ⟨(fun h => nomatch h), fun _ => ?_⟩
  have e : decodeStage wd = if fixed wd [(0, 3, 0), (10, 2, 0), (16, 5, 0), (23, 2, 0)] then accept .mouldInvalid (.mgath (fld wd 21 2) (fld wd 12 4) (fld wd 6 4) (fld wd 3 3)) else .error .mouldInvalid := by
    unfold decodeStage; rw [h0]; rfl
  rw [e, if_pos hf, g0, g1, g2, g3]
  unfold accept
  rw [if_pos hw]

theorem Encode.mscat (a : BitVec 2) (c e : BitVec 4) (n : BitVec 3) : Encode.Statement (.mscat a c e n) := by
  intro hw wd he
  have hs := shape_35 54 0x6c000000 (by decide) (by decide) a c e n
  obtain ⟨h0, hf, g0, g1, g2, g3⟩ := hs
  replace he := Option.some.inj he
  rw [he] at h0 hf g0 g1 g2 g3
  refine ⟨(fun h => nomatch h), fun _ => ?_⟩
  have e : decodeStage wd = if fixed wd [(0, 3, 0), (10, 2, 0), (16, 5, 0), (23, 2, 0)] then accept .mouldInvalid (.mscat (fld wd 21 2) (fld wd 12 4) (fld wd 6 4) (fld wd 3 3)) else .error .mouldInvalid := by
    unfold decodeStage; rw [h0]; rfl
  rw [e, if_pos hf, g0, g1, g2, g3]
  unfold accept
  rw [if_pos hw]

theorem Encode.sbars (h s : BitVec 4) (l : BitVec 12) : Encode.Statement (.sbars h s l) := by
  intro hw wd he
  have hs := shape_36 55 0x6e000000 (by decide) (by decide) h s l
  obtain ⟨h0, hf, g0, g1, g2⟩ := hs
  replace he := Option.some.inj he
  rw [he] at h0 hf g0 g1 g2
  refine ⟨(fun h => nomatch h), fun _ => ?_⟩
  have e : decodeStage wd = if fixed wd [(16, 5, 0)] then accept .mouldInvalid (.sbars (fld wd 21 4) (fld wd 12 4) (fld wd 0 12)) else .error .mouldInvalid := by
    unfold decodeStage; rw [h0]; rfl
  rw [e, if_pos hf, g0, g1, g2]
  unfold accept
  rw [if_pos hw]

theorem Encode.trswap (e m : BitVec 6) : Encode.Statement (.trswap e m) := by
  intro hw wd he
  have hs := shape_37 56 0x70000000 (by decide) (by decide) e m
  obtain ⟨h0, hf, g0, g1⟩ := hs
  replace he := Option.some.inj he
  rw [he] at h0 hf g0 g1
  refine ⟨(fun h => nomatch h), fun _ => ?_⟩
  have e : decodeStage wd = if fixed wd [(12, 13, 0)] then accept .mouldInvalid (.trswap (fld wd 6 6) (fld wd 0 6)) else .error .mouldInvalid := by
    unfold decodeStage; rw [h0]; rfl
  rw [e, if_pos hf, g0, g1]
  unfold accept
  rw [if_pos hw]

theorem Encode.trload (a b : BitVec 2) (s : BitVec 3) (p : BitVec 2) (q : BitVec 1) (d : BitVec 3) : Encode.Statement (.trload a b s p q d) := by
  intro hw wd he
  have hs := shape_38 57 0x72000000 (by decide) (by decide) a b s p q d
  obtain ⟨h0, hf, g0, g1, g2, g3, g4, g5⟩ := hs
  replace he := Option.some.inj he
  rw [he] at h0 hf g0 g1 g2 g3 g4 g5
  refine ⟨(fun h => nomatch h), fun _ => ?_⟩
  have e : decodeStage wd = if fixed wd [(4, 10, 0), (23, 2, 0)] then accept .mouldInvalid (.trload (fld wd 21 2) (fld wd 19 2) (fld wd 16 3) (fld wd 14 2) (fld wd 3 1) (fld wd 0 3)) else .error .mouldInvalid := by
    unfold decodeStage; rw [h0]; rfl
  rw [e, if_pos hf, g0, g1, g2, g3, g4, g5]
  unfold accept
  rw [if_pos hw]

theorem Encode.trmv (p : BitVec 2) (l : BitVec 1) (q : BitVec 2) : Encode.Statement (.trmv p l q) := by
  intro hw wd he
  have hs := shape_39 58 0x74000000 (by decide) (by decide) p l q
  obtain ⟨h0, hf, g0, g1, g2⟩ := hs
  replace he := Option.some.inj he
  rw [he] at h0 hf g0 g1 g2
  refine ⟨(fun h => nomatch h), fun _ => ?_⟩
  have e : decodeStage wd = if fixed wd [(3, 11, 0), (16, 9, 0)] then accept .mouldInvalid (.trmv (fld wd 14 2) (fld wd 2 1) (fld wd 0 2)) else .error .mouldInvalid := by
    unfold decodeStage; rw [h0]; rfl
  rw [e, if_pos hf, g0, g1, g2]
  unfold accept
  rw [if_pos hw]

theorem Encode.pkout (a : BitVec 2) (h : BitVec 1) : Encode.Statement (.pkout a h) := by
  intro hw wd he
  have hs := shape_40 59 0x76000000 (by decide) (by decide) a h
  obtain ⟨h0, hf, g0, g1⟩ := hs
  replace he := Option.some.inj he
  rw [he] at h0 hf g0 g1
  refine ⟨(fun h => nomatch h), fun _ => ?_⟩
  have e : decodeStage wd = if fixed wd [(1, 20, 0), (23, 2, 0)] then accept .mouldInvalid (.pkout (fld wd 21 2) (fld wd 0 1)) else .error .mouldInvalid := by
    unfold decodeStage; rw [h0]; rfl
  rw [e, if_pos hf, g0, g1]
  unfold accept
  rw [if_pos hw]

theorem Encode.pkin (h : BitVec 1) : Encode.Statement (.pkin h) := by
  intro hw wd he
  have hs := shape_26 60 0x78000000 (by decide) (by decide) h
  obtain ⟨h0, hf, g0⟩ := hs
  replace he := Option.some.inj he
  rw [he] at h0 hf g0
  refine ⟨(fun h => nomatch h), fun _ => ?_⟩
  have e : decodeStage wd = if fixed wd [(1, 24, 0)] then accept .mouldInvalid (.pkin (fld wd 0 1)) else .error .mouldInvalid := by
    unfold decodeStage; rw [h0]; rfl
  rw [e, if_pos hf, g0]
  unfold accept
  rw [if_pos hw]

theorem Encode.tmerge  : Encode.Statement (.tmerge) := by
  intro hw wd he
  have hs := shape_41 61 0x7a030000 (by decide) (by decide)
  obtain ⟨h0, hf⟩ := hs
  replace he := Option.some.inj he
  rw [he] at h0 hf
  refine ⟨(fun h => nomatch h), fun _ => ?_⟩
  have e : decodeStage wd = if fixed wd [(0, 25, 196608)] then accept .mouldInvalid (.tmerge) else .error .mouldInvalid := by
    unfold decodeStage; rw [h0]; rfl
  rw [e, if_pos hf]
  unfold accept
  rw [if_pos hw]

theorem Encode.b4dec (d a : BitVec 2) : Encode.Statement (.b4dec d a) := by
  intro hw wd he
  have hs := shape_42 62 0x7c000000 (by decide) (by decide) d a
  obtain ⟨h0, hf, g0, g1⟩ := hs
  replace he := Option.some.inj he
  rw [he] at h0 hf g0 g1
  refine ⟨(fun h => nomatch h), fun _ => ?_⟩
  have e : decodeStage wd = if fixed wd [(0, 21, 0)] then accept .mouldInvalid (.b4dec (fld wd 23 2) (fld wd 21 2)) else .error .mouldInvalid := by
    unfold decodeStage; rw [h0]; rfl
  rw [e, if_pos hf, g0, g1]
  unfold accept
  rw [if_pos hw]

theorem Encode.softacc (d a b : BitVec 2) (s : BitVec 3) (c : BitVec 4) (n : BitVec 1) (m : BitVec 3) : Encode.Statement (.softacc d a b s c n m) := by
  intro hw wd he
  have hs := shape_43 63 0x7e000000 (by decide) (by decide) d a b s c n m
  obtain ⟨h0, hf, g0, g1, g2, g3, g4, g5, g6⟩ := hs
  replace he := Option.some.inj he
  rw [he] at h0 hf g0 g1 g2 g3 g4 g5 g6
  refine ⟨(fun h => nomatch h), fun _ => ?_⟩
  have e : decodeStage wd = if fixed wd [(4, 8, 0)] then accept .mouldInvalid (.softacc (fld wd 23 2) (fld wd 21 2) (fld wd 19 2) (fld wd 16 3) (fld wd 12 4) (fld wd 3 1) (fld wd 0 3)) else .error .mouldInvalid := by
    unfold decodeStage; rw [h0]; rfl
  rw [e, if_pos hf, g0, g1, g2, g3, g4, g5, g6]
  unfold accept
  rw [if_pos hw]

theorem Encode.sink  : Encode.Statement (.sink) := by
  intro hw wd he
  have hs := shape_25 64 0x80000000 (by decide) (by decide)
  obtain ⟨h0, hf⟩ := hs
  replace he := Option.some.inj he
  rw [he] at h0 hf
  refine ⟨(fun h => nomatch h), fun _ => ?_⟩
  have e : decodeStage wd = if fixed wd [(0, 25, 0)] then accept .mouldInvalid (.sink) else .error .mouldInvalid := by
    unfold decodeStage; rw [h0]; rfl
  rw [e, if_pos hf]
  unfold accept
  rw [if_pos hw]

theorem Encode.token (k : BitVec 2) : Encode.Statement (.token k) := by
  intro hw wd he
  have hs := shape_44 65 0x82000000 (by decide) (by decide) k
  obtain ⟨h0, hf, g0⟩ := hs
  replace he := Option.some.inj he
  rw [he] at h0 hf g0
  refine ⟨(fun h => nomatch h), fun _ => ?_⟩
  have e : decodeStage wd = if fixed wd [(2, 23, 0)] then accept .mouldInvalid (.token (fld wd 0 2)) else .error .mouldInvalid := by
    unfold decodeStage; rw [h0]; rfl
  rw [e, if_pos hf, g0]
  unfold accept
  rw [if_pos hw]

theorem Encode.blockFetch (slot : Nat) : Encode.Statement (.blockFetch slot) := by
  intro _ _ h; cases h

theorem Encode.readDeliver (slot idx : Nat) : Encode.Statement (.readDeliver slot idx) := by
  intro _ _ h; cases h

theorem Encode.blockCommit (slot : Nat) : Encode.Statement (.blockCommit slot) := by
  intro _ _ h; cases h

theorem Encode.bufferedWriteResume (slot : Nat) : Encode.Statement (.bufferedWriteResume slot) := by
  intro _ _ h; cases h

theorem Encode.blockHang (slot : Nat) : Encode.Statement (.blockHang slot) := by
  intro _ _ h; cases h

theorem Encode.waitPhaseReached (slot : Nat) : Encode.Statement (.waitPhaseReached slot) := by
  intro _ _ h; cases h

theorem Encode.awaitComplete (slot : Nat) : Encode.Statement (.awaitComplete slot) := by
  intro _ _ h; cases h

theorem Encode.pjoinComplete (slot : Nat) : Encode.Statement (.pjoinComplete slot) := by
  intro _ _ h; cases h

theorem Encode.mxjoinComplete (slot : Nat) : Encode.Statement (.mxjoinComplete slot) := by
  intro _ _ h; cases h

theorem Encode.taskRetire (slot : Nat) : Encode.Statement (.taskRetire slot) := by
  intro _ _ h; cases h

theorem Encode.yieldRequeue (slot : Nat) : Encode.Statement (.yieldRequeue slot) := by
  intro _ _ h; cases h

theorem Encode.taskPop (slot : Nat) : Encode.Statement (.taskPop slot) := by
  intro _ _ h; cases h

theorem Encode.gangPlace (die : Nat) : Encode.Statement (.gangPlace die) := by
  intro _ _ h; cases h

theorem Encode.preemptConsider (die : Nat) : Encode.Statement (.preemptConsider die) := by
  intro _ _ h; cases h

theorem Encode.checkpointComplete (slot : Nat) : Encode.Statement (.checkpointComplete slot) := by
  intro _ _ h; cases h

theorem Encode.launchOpen (launch : Nat) : Encode.Statement (.launchOpen launch) := by
  intro _ _ h; cases h

theorem Encode.heldTaskRelease (unit : Nat) : Encode.Statement (.heldTaskRelease unit) := by
  intro _ _ h; cases h

theorem Encode.launchFinish (launch : Nat) : Encode.Statement (.launchFinish launch) := by
  intro _ _ h; cases h

theorem Encode.triggerRegisterWrite (value : BitVec 64) : Encode.Statement (.triggerRegisterWrite value) := by
  intro _ _ h; cases h

theorem Encode.graphRunStart (run : Nat) : Encode.Statement (.graphRunStart run) := by
  intro _ _ h; cases h

theorem Encode.sprueTrigger (value : BitVec 64) : Encode.Statement (.sprueTrigger value) := by
  intro _ _ h; cases h

theorem Encode.dispatchStop (scope : BitVec 2) (unit : Nat) : Encode.Statement (.dispatchStop scope unit) := by
  intro _ _ h; cases h

theorem Encode.dispatchGo (scope : BitVec 2) (unit : Nat) : Encode.Statement (.dispatchGo scope unit) := by
  intro _ _ h; cases h

theorem Encode.attest (nonce : BitVec 64) : Encode.Statement (.attest nonce) := by
  intro _ _ h; cases h

theorem Encode.telemetry (sensor : Nat) : Encode.Statement (.telemetry sensor) := by
  intro _ _ h; cases h

theorem Encode.logread  : Encode.Statement (.logread) := by
  intro _ _ h; cases h

theorem Encode.logclear (kind : BitVec 8) (unit : BitVec 16) : Encode.Statement (.logclear kind unit) := by
  intro _ _ h; cases h

theorem Encode.accessRead (pa : BitVec 56) (size : Nat) : Encode.Statement (.accessRead pa size) := by
  intro _ _ h; cases h

theorem Encode.accessWrite (pa : BitVec 56) (size : Nat) (data : BitVec 64) : Encode.Statement (.accessWrite pa size data) := by
  intro _ _ h; cases h

theorem Encode.specialRegisterWrite (slot : Nat) : Encode.Statement (.specialRegisterWrite slot) := by
  intro _ _ h; cases h

theorem Encode.mouldLoadDone (die entry : Nat) : Encode.Statement (.mouldLoadDone die entry) := by
  intro _ _ h; cases h

theorem Encode.mouldComplete (die entry : Nat) : Encode.Statement (.mouldComplete die entry) := by
  intro _ _ h; cases h

theorem Encode.stageAccessComplete (access : Nat) : Encode.Statement (.stageAccessComplete access) := by
  intro _ _ h; cases h

theorem Encode.tokenArrive (die entry pipe : Nat) : Encode.Statement (.tokenArrive die entry pipe) := by
  intro _ _ h; cases h

theorem Encode.quantumExpiry (die entry : Nat) : Encode.Statement (.quantumExpiry die entry) := by
  intro _ _ h; cases h

theorem Encode.mxcfgArm (slot : Nat) : Encode.Statement (.mxcfgArm slot) := by
  intro _ _ h; cases h

theorem Encode.passStart (bay entry : Nat) : Encode.Statement (.passStart bay entry) := by
  intro _ _ h; cases h

theorem Encode.operandRelease (bay entry pass : Nat) : Encode.Statement (.operandRelease bay entry pass) := by
  intro _ _ h; cases h

theorem Encode.passAccumulate (bay entry pass : Nat) : Encode.Statement (.passAccumulate bay entry pass) := by
  intro _ _ h; cases h

theorem Encode.writeOut (bay entry : Nat) : Encode.Statement (.writeOut bay entry) := by
  intro _ _ h; cases h

theorem Encode.ladleTransferStart (bay chan : Nat) : Encode.Statement (.ladleTransferStart bay chan) := by
  intro _ _ h; cases h

theorem Encode.decompBlock (bay chan : Nat) : Encode.Statement (.decompBlock bay chan) := by
  intro _ _ h; cases h

theorem Encode.ladleTransferComplete (bay chan : Nat) : Encode.Statement (.ladleTransferComplete bay chan) := by
  intro _ _ h; cases h

theorem Encode.ladleDoorbellWrite (bay chan : Nat) (data : BitVec 64) : Encode.Statement (.ladleDoorbellWrite bay chan data) := by
  intro _ _ h; cases h

theorem Encode.remoteHallmarkQuery (chip : BitVec 18) (key sel : BitVec 64) : Encode.Statement (.remoteHallmarkQuery chip key sel) := by
  intro _ _ h; cases h

theorem Encode.remoteHallmarkReport (slot idx : Nat) (answer : BitVec 64) : Encode.Statement (.remoteHallmarkReport slot idx answer) := by
  intro _ _ h; cases h

theorem Encode.spliceRun (op : Nat) : Encode.Statement (.spliceRun op) := by
  intro _ _ h; cases h

theorem Encode.spliceAbsentTimeout (op : Nat) : Encode.Statement (.spliceAbsentTimeout op) := by
  intro _ _ h; cases h

theorem Encode.repairStart (op : Nat) : Encode.Statement (.repairStart op) := by
  intro _ _ h; cases h

theorem Encode.repairTaskRetired (op : Nat) : Encode.Statement (.repairTaskRetired op) := by
  intro _ _ h; cases h

theorem Encode.crucibleBlock (op blk crucible : Nat) : Encode.Statement (.crucibleBlock op blk crucible) := by
  intro _ _ h; cases h

theorem Encode.kattRevisit (op blk crucible : Nat) : Encode.Statement (.kattRevisit op blk crucible) := by
  intro _ _ h; cases h

theorem Encode.kattAbsentTimeout (op blk : Nat) : Encode.Statement (.kattAbsentTimeout op blk) := by
  intro _ _ h; cases h

theorem Encode.kattComplete (op : Nat) : Encode.Statement (.kattComplete op) := by
  intro _ _ h; cases h

theorem Encode.watchdogFire (slot : Nat) : Encode.Statement (.watchdogFire slot) := by
  intro _ _ h; cases h

theorem Encode.slotctlThaw (slot : Nat) : Encode.Statement (.slotctlThaw slot) := by
  intro _ _ h; cases h

theorem Encode.slotctlKill (slot : Nat) : Encode.Statement (.slotctlKill slot) := by
  intro _ _ h; cases h

theorem Encode.slotctlRequeue (slot : Nat) : Encode.Statement (.slotctlRequeue slot) := by
  intro _ _ h; cases h

theorem Encode.ctxswSave (slot : Nat) : Encode.Statement (.ctxswSave slot) := by
  intro _ _ h; cases h

theorem Encode.ctxswRestore (slot : Nat) : Encode.Statement (.ctxswRestore slot) := by
  intro _ _ h; cases h

theorem Encode.ctxswComplete  : Encode.Statement (.ctxswComplete) := by
  intro _ _ h; cases h

theorem Encode.tracectlFreeze (slot : Nat) : Encode.Statement (.tracectlFreeze slot) := by
  intro _ _ h; cases h

theorem Encode.tracectlThaw (slot : Nat) : Encode.Statement (.tracectlThaw slot) := by
  intro _ _ h; cases h

theorem Encode.tracePostFreeze (bay : Nat) : Encode.Statement (.tracePostFreeze bay) := by
  intro _ _ h; cases h

theorem Encode.scrub (kind addr : Nat) (correctable : Bool) : Encode.Statement (.scrub kind addr correctable) := by
  intro _ _ h; cases h

theorem Encode.pageWalk (bay : Nat) (va : BitVec 64) : Encode.Statement (.pageWalk bay va) := by
  intro _ _ h; cases h

theorem Encode.lineFill (die line victim : Nat) : Encode.Statement (.lineFill die line victim) := by
  intro _ _ h; cases h

theorem Encode.sliceRetry (die request : Nat) : Encode.Statement (.sliceRetry die request) := by
  intro _ _ h; cases h

theorem Encode.sliceLeaveService (die slice : Nat) : Encode.Statement (.sliceLeaveService die slice) := by
  intro _ _ h; cases h

theorem Encode.shootdownComplete (slot : Nat) : Encode.Statement (.shootdownComplete slot) := by
  intro _ _ h; cases h

theorem Encode.blockInvalidateComplete (slot : Nat) : Encode.Statement (.blockInvalidateComplete slot) := by
  intro _ _ h; cases h

theorem Encode.wbRewalk (slot : Nat) : Encode.Statement (.wbRewalk slot) := by
  intro _ _ h; cases h

theorem Encode.migrationCopyDone (op : Nat) : Encode.Statement (.migrationCopyDone op) := by
  intro _ _ h; cases h

theorem Encode.migrationFinish (op : Nat) : Encode.Statement (.migrationFinish op) := by
  intro _ _ h; cases h

theorem Encode.peerAccessIn (chip : BitVec 18) (kind : BitVec 4) (offset : BitVec 32) (size : Nat) (data : BitVec 64 × BitVec 64) : Encode.Statement (.peerAccessIn chip kind offset size data) := by
  intro _ _ h; cases h

theorem Encode.linkRetransmit (link : Nat) : Encode.Statement (.linkRetransmit link) := by
  intro _ _ h; cases h

theorem Encode.linkOutOfService (link : Nat) : Encode.Statement (.linkOutOfService link) := by
  intro _ _ h; cases h

theorem Encode.linkPathTimeout (slot idx : Nat) : Encode.Statement (.linkPathTimeout slot idx) := by
  intro _ _ h; cases h

theorem Encode.edgeFailure (edge : Nat) : Encode.Statement (.edgeFailure edge) := by
  intro _ _ h; cases h

theorem Encode.partFailure (kind : BitVec 8) (unit : Nat) : Encode.Statement (.partFailure kind unit) := by
  intro _ _ h; cases h

theorem Encode.powerThrottle (island : Nat) (limit : BitVec 16) : Encode.Statement (.powerThrottle island limit) := by
  intro _ _ h; cases h

theorem Encode.startController (primary alternate : Bool) (chip host : BitVec 18) : Encode.Statement (.startController primary alternate chip host) := by
  intro _ _ h; cases h

theorem Encode.dieOpen (die : Nat) (bays tiles : BitVec 32) (slices : BitVec 64) (low high : BitVec 20) (banks pages : List Nat) : Encode.Statement (.dieOpen die bays tiles slices low high banks pages) := by
  intro _ _ h; cases h

theorem Encode.edgeTraining (edge : Nat) (outcome : BitVec 2) : Encode.Statement (.edgeTraining edge outcome) := by
  intro _ _ h; cases h

theorem Encode.linkTraining (link : Nat) (outcome : BitVec 2) : Encode.Statement (.linkTraining link outcome) := by
  intro _ _ h; cases h

theorem Encode.fenceScComplete (slot : Nat) : Encode.Statement (.fenceScComplete slot) := by
  intro _ _ h; cases h

theorem Encode.writeVisibleOnDie (write die : Nat) : Encode.Statement (.writeVisibleOnDie write die) := by
  intro _ _ h; cases h

end Sys2Proof.Laws
end

