-- ==== Sys2Proof/Laws/Forms.lean ====
section
/-! SUPPORT. The operand form that each instruction of a block fires in is the one its word has (05 R63-R67). -/

namespace Sys2Proof.Laws

open Sys2Proof Sys2Proof.Machine

theorem opOf_eq (w : Word32) : opOf w = w.toNat / 2 ^ 25 := rfl
theorem pmOf_eq (w : Word32) : pmOf w = (fld w 23 2).toNat := by simp [pmOf, bitsOf, fld]
theorem lOf_eq (w : Word32) : lOf w = (fld w 7 7).toNat := by simp [lOf, bitsOf, fld]
theorem rOf_eq (w : Word32) : rOf w = (fld w 0 7).toNat := by simp [rOf, bitsOf, fld]
theorem srcOf_eq (r : BitVec 7) : srcOf r = if r.toNat = 0x40 then Src.awaited else Src.spec r.toNat := by
  simp [srcOf, ← BitVec.toNat_inj]
/-- The form of a word, from the operand tables at its operation code. -/
theorem formOf_op (w : Word32) (k : Nat) (lb rb xb tb gb db : Bool) (ho : w.toNat / 2 ^ 25 = k)
    (tab : (usesL k, usesR k, isXF k, threeInput k, isRg k, [0x50, 0x51, 0x52, 0x53].contains k) = (lb, rb, xb, tb, gb, db)) :
    formOf w = ⟨pmOf w, tb, if lb && (xb || lOf w == 0x40) then .awaited else if lb then .spec (lOf w) else .unused,
      if db || (rb && rOf w == 0x40) then .awaited else if rb then .spec (rOf w) else .unused, gb⟩ := by
  have h : opOf w = k := ho
  simp only [Prod.mk.injEq] at tab
  obtain ⟨h1, h2, h3, h4, h5, h6⟩ := tab
  simp only [formOf, awaitsL, awaitsR, h, h1, h2, h3, h4, h5, h6]
theorem pm_fixed (w : Word32) (fs : List (Nat × Nat × Nat)) (h : fixed w fs = true) (hm : (23, 2, 0) ∈ fs) : pmOf w = 0 := by
  have := (List.all_eq_true.mp h) _ hm
  simpa [pmOf, bitsOf] using this

theorem form_add (p : BitVec 2) (t : BitVec 9) (l r : BitVec 7) (_hw : Instr.wf (.add p t l r) = true) (w : Word32)
    (h : encode (.add p t l r) = some w) : formOf w = (formR p l r) := by
  have hs := shape_0 1 0x2000000 (by decide) (by decide) p t l r
  obtain ⟨h0, g0, g1, g2, g3, hr⟩ := hs
  replace h := Option.some.inj h
  rw [h] at h0 g0 g1 g2 g3 hr
  rw [formOf_op w 1 true true false false false false h0 rfl]
  simp [pmOf_eq, g0, lOf_eq, g2, rOf_eq, g3, formR, srcOf_eq]
theorem runs_add (p : BitVec 2) (t : BitVec 9) (l r : BitVec 7) (hw : Instr.wf (.add p t l r) = true) (w : Word32)
    (h : encode (.add p t l r) = some w) : ∃ act, ∀ st, exec (.add p t l r) st = fire (formOf w) act st := by
  rw [form_add p t l r hw w h]
  exact ⟨_, fun st => by
    change Machine.execAdd p t l r st = _
    unfold execAdd fireValue; rfl⟩

theorem form_sub (p : BitVec 2) (t : BitVec 9) (l r : BitVec 7) (_hw : Instr.wf (.sub p t l r) = true) (w : Word32)
    (h : encode (.sub p t l r) = some w) : formOf w = (formR p l r) := by
  have hs := shape_0 2 0x4000000 (by decide) (by decide) p t l r
  obtain ⟨h0, g0, g1, g2, g3, hr⟩ := hs
  replace h := Option.some.inj h
  rw [h] at h0 g0 g1 g2 g3 hr
  rw [formOf_op w 2 true true false false false false h0 rfl]
  simp [pmOf_eq, g0, lOf_eq, g2, rOf_eq, g3, formR, srcOf_eq]
theorem runs_sub (p : BitVec 2) (t : BitVec 9) (l r : BitVec 7) (hw : Instr.wf (.sub p t l r) = true) (w : Word32)
    (h : encode (.sub p t l r) = some w) : ∃ act, ∀ st, exec (.sub p t l r) st = fire (formOf w) act st := by
  rw [form_sub p t l r hw w h]
  exact ⟨_, fun st => by
    change Machine.execSub p t l r st = _
    unfold execSub fireValue; rfl⟩

theorem form_mul (p : BitVec 2) (t : BitVec 9) (l r : BitVec 7) (_hw : Instr.wf (.mul p t l r) = true) (w : Word32)
    (h : encode (.mul p t l r) = some w) : formOf w = (formR p l r) := by
  have hs := shape_0 3 0x6000000 (by decide) (by decide) p t l r
  obtain ⟨h0, g0, g1, g2, g3, hr⟩ := hs
  replace h := Option.some.inj h
  rw [h] at h0 g0 g1 g2 g3 hr
  rw [formOf_op w 3 true true false false false false h0 rfl]
  simp [pmOf_eq, g0, lOf_eq, g2, rOf_eq, g3, formR, srcOf_eq]
theorem runs_mul (p : BitVec 2) (t : BitVec 9) (l r : BitVec 7) (hw : Instr.wf (.mul p t l r) = true) (w : Word32)
    (h : encode (.mul p t l r) = some w) : ∃ act, ∀ st, exec (.mul p t l r) st = fire (formOf w) act st := by
  rw [form_mul p t l r hw w h]
  exact ⟨_, fun st => by
    change Machine.execMul p t l r st = _
    unfold execMul fireValue; rfl⟩

theorem form_mulh (p : BitVec 2) (t : BitVec 9) (l r : BitVec 7) (_hw : Instr.wf (.mulh p t l r) = true) (w : Word32)
    (h : encode (.mulh p t l r) = some w) : formOf w = (formR p l r) := by
  have hs := shape_0 4 0x8000000 (by decide) (by decide) p t l r
  obtain ⟨h0, g0, g1, g2, g3, hr⟩ := hs
  replace h := Option.some.inj h
  rw [h] at h0 g0 g1 g2 g3 hr
  rw [formOf_op w 4 true true false false false false h0 rfl]
  simp [pmOf_eq, g0, lOf_eq, g2, rOf_eq, g3, formR, srcOf_eq]
theorem runs_mulh (p : BitVec 2) (t : BitVec 9) (l r : BitVec 7) (hw : Instr.wf (.mulh p t l r) = true) (w : Word32)
    (h : encode (.mulh p t l r) = some w) : ∃ act, ∀ st, exec (.mulh p t l r) st = fire (formOf w) act st := by
  rw [form_mulh p t l r hw w h]
  exact ⟨_, fun st => by
    change Machine.execMulh p t l r st = _
    unfold execMulh fireValue; rfl⟩

theorem form_mulhu (p : BitVec 2) (t : BitVec 9) (l r : BitVec 7) (_hw : Instr.wf (.mulhu p t l r) = true) (w : Word32)
    (h : encode (.mulhu p t l r) = some w) : formOf w = (formR p l r) := by
  have hs := shape_0 5 0xa000000 (by decide) (by decide) p t l r
  obtain ⟨h0, g0, g1, g2, g3, hr⟩ := hs
  replace h := Option.some.inj h
  rw [h] at h0 g0 g1 g2 g3 hr
  rw [formOf_op w 5 true true false false false false h0 rfl]
  simp [pmOf_eq, g0, lOf_eq, g2, rOf_eq, g3, formR, srcOf_eq]
theorem runs_mulhu (p : BitVec 2) (t : BitVec 9) (l r : BitVec 7) (hw : Instr.wf (.mulhu p t l r) = true) (w : Word32)
    (h : encode (.mulhu p t l r) = some w) : ∃ act, ∀ st, exec (.mulhu p t l r) st = fire (formOf w) act st := by
  rw [form_mulhu p t l r hw w h]
  exact ⟨_, fun st => by
    change Machine.execMulhu p t l r st = _
    unfold execMulhu fireValue; rfl⟩

theorem form_div (p : BitVec 2) (t : BitVec 9) (l r : BitVec 7) (_hw : Instr.wf (.div p t l r) = true) (w : Word32)
    (h : encode (.div p t l r) = some w) : formOf w = (formR p l r) := by
  have hs := shape_0 6 0xc000000 (by decide) (by decide) p t l r
  obtain ⟨h0, g0, g1, g2, g3, hr⟩ := hs
  replace h := Option.some.inj h
  rw [h] at h0 g0 g1 g2 g3 hr
  rw [formOf_op w 6 true true false false false false h0 rfl]
  simp [pmOf_eq, g0, lOf_eq, g2, rOf_eq, g3, formR, srcOf_eq]
theorem runs_div (p : BitVec 2) (t : BitVec 9) (l r : BitVec 7) (hw : Instr.wf (.div p t l r) = true) (w : Word32)
    (h : encode (.div p t l r) = some w) : ∃ act, ∀ st, exec (.div p t l r) st = fire (formOf w) act st := by
  rw [form_div p t l r hw w h]
  exact ⟨_, fun st => by
    change Machine.execDiv p t l r st = _
    unfold execDiv fireValue; rfl⟩

theorem form_divu (p : BitVec 2) (t : BitVec 9) (l r : BitVec 7) (_hw : Instr.wf (.divu p t l r) = true) (w : Word32)
    (h : encode (.divu p t l r) = some w) : formOf w = (formR p l r) := by
  have hs := shape_0 7 0xe000000 (by decide) (by decide) p t l r
  obtain ⟨h0, g0, g1, g2, g3, hr⟩ := hs
  replace h := Option.some.inj h
  rw [h] at h0 g0 g1 g2 g3 hr
  rw [formOf_op w 7 true true false false false false h0 rfl]
  simp [pmOf_eq, g0, lOf_eq, g2, rOf_eq, g3, formR, srcOf_eq]
theorem runs_divu (p : BitVec 2) (t : BitVec 9) (l r : BitVec 7) (hw : Instr.wf (.divu p t l r) = true) (w : Word32)
    (h : encode (.divu p t l r) = some w) : ∃ act, ∀ st, exec (.divu p t l r) st = fire (formOf w) act st := by
  rw [form_divu p t l r hw w h]
  exact ⟨_, fun st => by
    change Machine.execDivu p t l r st = _
    unfold execDivu fireValue; rfl⟩

theorem form_rem (p : BitVec 2) (t : BitVec 9) (l r : BitVec 7) (_hw : Instr.wf (.rem p t l r) = true) (w : Word32)
    (h : encode (.rem p t l r) = some w) : formOf w = (formR p l r) := by
  have hs := shape_0 8 0x10000000 (by decide) (by decide) p t l r
  obtain ⟨h0, g0, g1, g2, g3, hr⟩ := hs
  replace h := Option.some.inj h
  rw [h] at h0 g0 g1 g2 g3 hr
  rw [formOf_op w 8 true true false false false false h0 rfl]
  simp [pmOf_eq, g0, lOf_eq, g2, rOf_eq, g3, formR, srcOf_eq]
theorem runs_rem (p : BitVec 2) (t : BitVec 9) (l r : BitVec 7) (hw : Instr.wf (.rem p t l r) = true) (w : Word32)
    (h : encode (.rem p t l r) = some w) : ∃ act, ∀ st, exec (.rem p t l r) st = fire (formOf w) act st := by
  rw [form_rem p t l r hw w h]
  exact ⟨_, fun st => by
    change Machine.execRem p t l r st = _
    unfold execRem fireValue; rfl⟩

theorem form_remu (p : BitVec 2) (t : BitVec 9) (l r : BitVec 7) (_hw : Instr.wf (.remu p t l r) = true) (w : Word32)
    (h : encode (.remu p t l r) = some w) : formOf w = (formR p l r) := by
  have hs := shape_0 9 0x12000000 (by decide) (by decide) p t l r
  obtain ⟨h0, g0, g1, g2, g3, hr⟩ := hs
  replace h := Option.some.inj h
  rw [h] at h0 g0 g1 g2 g3 hr
  rw [formOf_op w 9 true true false false false false h0 rfl]
  simp [pmOf_eq, g0, lOf_eq, g2, rOf_eq, g3, formR, srcOf_eq]
theorem runs_remu (p : BitVec 2) (t : BitVec 9) (l r : BitVec 7) (hw : Instr.wf (.remu p t l r) = true) (w : Word32)
    (h : encode (.remu p t l r) = some w) : ∃ act, ∀ st, exec (.remu p t l r) st = fire (formOf w) act st := by
  rw [form_remu p t l r hw w h]
  exact ⟨_, fun st => by
    change Machine.execRemu p t l r st = _
    unfold execRemu fireValue; rfl⟩

theorem form_and (p : BitVec 2) (t : BitVec 9) (l r : BitVec 7) (_hw : Instr.wf (.and p t l r) = true) (w : Word32)
    (h : encode (.and p t l r) = some w) : formOf w = (formR p l r) := by
  have hs := shape_0 10 0x14000000 (by decide) (by decide) p t l r
  obtain ⟨h0, g0, g1, g2, g3, hr⟩ := hs
  replace h := Option.some.inj h
  rw [h] at h0 g0 g1 g2 g3 hr
  rw [formOf_op w 10 true true false false false false h0 rfl]
  simp [pmOf_eq, g0, lOf_eq, g2, rOf_eq, g3, formR, srcOf_eq]
theorem runs_and (p : BitVec 2) (t : BitVec 9) (l r : BitVec 7) (hw : Instr.wf (.and p t l r) = true) (w : Word32)
    (h : encode (.and p t l r) = some w) : ∃ act, ∀ st, exec (.and p t l r) st = fire (formOf w) act st := by
  rw [form_and p t l r hw w h]
  exact ⟨_, fun st => by
    change Machine.execAnd p t l r st = _
    unfold execAnd fireValue; rfl⟩

theorem form_or (p : BitVec 2) (t : BitVec 9) (l r : BitVec 7) (_hw : Instr.wf (.or p t l r) = true) (w : Word32)
    (h : encode (.or p t l r) = some w) : formOf w = (formR p l r) := by
  have hs := shape_0 11 0x16000000 (by decide) (by decide) p t l r
  obtain ⟨h0, g0, g1, g2, g3, hr⟩ := hs
  replace h := Option.some.inj h
  rw [h] at h0 g0 g1 g2 g3 hr
  rw [formOf_op w 11 true true false false false false h0 rfl]
  simp [pmOf_eq, g0, lOf_eq, g2, rOf_eq, g3, formR, srcOf_eq]
theorem runs_or (p : BitVec 2) (t : BitVec 9) (l r : BitVec 7) (hw : Instr.wf (.or p t l r) = true) (w : Word32)
    (h : encode (.or p t l r) = some w) : ∃ act, ∀ st, exec (.or p t l r) st = fire (formOf w) act st := by
  rw [form_or p t l r hw w h]
  exact ⟨_, fun st => by
    change Machine.execOr p t l r st = _
    unfold execOr fireValue; rfl⟩

theorem form_xor (p : BitVec 2) (t : BitVec 9) (l r : BitVec 7) (_hw : Instr.wf (.xor p t l r) = true) (w : Word32)
    (h : encode (.xor p t l r) = some w) : formOf w = (formR p l r) := by
  have hs := shape_0 12 0x18000000 (by decide) (by decide) p t l r
  obtain ⟨h0, g0, g1, g2, g3, hr⟩ := hs
  replace h := Option.some.inj h
  rw [h] at h0 g0 g1 g2 g3 hr
  rw [formOf_op w 12 true true false false false false h0 rfl]
  simp [pmOf_eq, g0, lOf_eq, g2, rOf_eq, g3, formR, srcOf_eq]
theorem runs_xor (p : BitVec 2) (t : BitVec 9) (l r : BitVec 7) (hw : Instr.wf (.xor p t l r) = true) (w : Word32)
    (h : encode (.xor p t l r) = some w) : ∃ act, ∀ st, exec (.xor p t l r) st = fire (formOf w) act st := by
  rw [form_xor p t l r hw w h]
  exact ⟨_, fun st => by
    change Machine.execXor p t l r st = _
    unfold execXor fireValue; rfl⟩

theorem form_andn (p : BitVec 2) (t : BitVec 9) (l r : BitVec 7) (_hw : Instr.wf (.andn p t l r) = true) (w : Word32)
    (h : encode (.andn p t l r) = some w) : formOf w = (formR p l r) := by
  have hs := shape_0 13 0x1a000000 (by decide) (by decide) p t l r
  obtain ⟨h0, g0, g1, g2, g3, hr⟩ := hs
  replace h := Option.some.inj h
  rw [h] at h0 g0 g1 g2 g3 hr
  rw [formOf_op w 13 true true false false false false h0 rfl]
  simp [pmOf_eq, g0, lOf_eq, g2, rOf_eq, g3, formR, srcOf_eq]
theorem runs_andn (p : BitVec 2) (t : BitVec 9) (l r : BitVec 7) (hw : Instr.wf (.andn p t l r) = true) (w : Word32)
    (h : encode (.andn p t l r) = some w) : ∃ act, ∀ st, exec (.andn p t l r) st = fire (formOf w) act st := by
  rw [form_andn p t l r hw w h]
  exact ⟨_, fun st => by
    change Machine.execAndn p t l r st = _
    unfold execAndn fireValue; rfl⟩

theorem form_shl (p : BitVec 2) (t : BitVec 9) (l r : BitVec 7) (_hw : Instr.wf (.shl p t l r) = true) (w : Word32)
    (h : encode (.shl p t l r) = some w) : formOf w = (formR p l r) := by
  have hs := shape_0 14 0x1c000000 (by decide) (by decide) p t l r
  obtain ⟨h0, g0, g1, g2, g3, hr⟩ := hs
  replace h := Option.some.inj h
  rw [h] at h0 g0 g1 g2 g3 hr
  rw [formOf_op w 14 true true false false false false h0 rfl]
  simp [pmOf_eq, g0, lOf_eq, g2, rOf_eq, g3, formR, srcOf_eq]
theorem runs_shl (p : BitVec 2) (t : BitVec 9) (l r : BitVec 7) (hw : Instr.wf (.shl p t l r) = true) (w : Word32)
    (h : encode (.shl p t l r) = some w) : ∃ act, ∀ st, exec (.shl p t l r) st = fire (formOf w) act st := by
  rw [form_shl p t l r hw w h]
  exact ⟨_, fun st => by
    change Machine.execShl p t l r st = _
    unfold execShl fireValue; rfl⟩

theorem form_shr (p : BitVec 2) (t : BitVec 9) (l r : BitVec 7) (_hw : Instr.wf (.shr p t l r) = true) (w : Word32)
    (h : encode (.shr p t l r) = some w) : formOf w = (formR p l r) := by
  have hs := shape_0 15 0x1e000000 (by decide) (by decide) p t l r
  obtain ⟨h0, g0, g1, g2, g3, hr⟩ := hs
  replace h := Option.some.inj h
  rw [h] at h0 g0 g1 g2 g3 hr
  rw [formOf_op w 15 true true false false false false h0 rfl]
  simp [pmOf_eq, g0, lOf_eq, g2, rOf_eq, g3, formR, srcOf_eq]
theorem runs_shr (p : BitVec 2) (t : BitVec 9) (l r : BitVec 7) (hw : Instr.wf (.shr p t l r) = true) (w : Word32)
    (h : encode (.shr p t l r) = some w) : ∃ act, ∀ st, exec (.shr p t l r) st = fire (formOf w) act st := by
  rw [form_shr p t l r hw w h]
  exact ⟨_, fun st => by
    change Machine.execShr p t l r st = _
    unfold execShr fireValue; rfl⟩

theorem form_sar (p : BitVec 2) (t : BitVec 9) (l r : BitVec 7) (_hw : Instr.wf (.sar p t l r) = true) (w : Word32)
    (h : encode (.sar p t l r) = some w) : formOf w = (formR p l r) := by
  have hs := shape_0 16 0x20000000 (by decide) (by decide) p t l r
  obtain ⟨h0, g0, g1, g2, g3, hr⟩ := hs
  replace h := Option.some.inj h
  rw [h] at h0 g0 g1 g2 g3 hr
  rw [formOf_op w 16 true true false false false false h0 rfl]
  simp [pmOf_eq, g0, lOf_eq, g2, rOf_eq, g3, formR, srcOf_eq]
theorem runs_sar (p : BitVec 2) (t : BitVec 9) (l r : BitVec 7) (hw : Instr.wf (.sar p t l r) = true) (w : Word32)
    (h : encode (.sar p t l r) = some w) : ∃ act, ∀ st, exec (.sar p t l r) st = fire (formOf w) act st := by
  rw [form_sar p t l r hw w h]
  exact ⟨_, fun st => by
    change Machine.execSar p t l r st = _
    unfold execSar fireValue; rfl⟩

theorem form_rotl (p : BitVec 2) (t : BitVec 9) (l r : BitVec 7) (_hw : Instr.wf (.rotl p t l r) = true) (w : Word32)
    (h : encode (.rotl p t l r) = some w) : formOf w = (formR p l r) := by
  have hs := shape_0 17 0x22000000 (by decide) (by decide) p t l r
  obtain ⟨h0, g0, g1, g2, g3, hr⟩ := hs
  replace h := Option.some.inj h
  rw [h] at h0 g0 g1 g2 g3 hr
  rw [formOf_op w 17 true true false false false false h0 rfl]
  simp [pmOf_eq, g0, lOf_eq, g2, rOf_eq, g3, formR, srcOf_eq]
theorem runs_rotl (p : BitVec 2) (t : BitVec 9) (l r : BitVec 7) (hw : Instr.wf (.rotl p t l r) = true) (w : Word32)
    (h : encode (.rotl p t l r) = some w) : ∃ act, ∀ st, exec (.rotl p t l r) st = fire (formOf w) act st := by
  rw [form_rotl p t l r hw w h]
  exact ⟨_, fun st => by
    change Machine.execRotl p t l r st = _
    unfold execRotl fireValue; rfl⟩

theorem form_min (p : BitVec 2) (t : BitVec 9) (l r : BitVec 7) (_hw : Instr.wf (.min p t l r) = true) (w : Word32)
    (h : encode (.min p t l r) = some w) : formOf w = (formR p l r) := by
  have hs := shape_0 18 0x24000000 (by decide) (by decide) p t l r
  obtain ⟨h0, g0, g1, g2, g3, hr⟩ := hs
  replace h := Option.some.inj h
  rw [h] at h0 g0 g1 g2 g3 hr
  rw [formOf_op w 18 true true false false false false h0 rfl]
  simp [pmOf_eq, g0, lOf_eq, g2, rOf_eq, g3, formR, srcOf_eq]
theorem runs_min (p : BitVec 2) (t : BitVec 9) (l r : BitVec 7) (hw : Instr.wf (.min p t l r) = true) (w : Word32)
    (h : encode (.min p t l r) = some w) : ∃ act, ∀ st, exec (.min p t l r) st = fire (formOf w) act st := by
  rw [form_min p t l r hw w h]
  exact ⟨_, fun st => by
    change Machine.execMin p t l r st = _
    unfold execMin fireValue; rfl⟩

theorem form_max (p : BitVec 2) (t : BitVec 9) (l r : BitVec 7) (_hw : Instr.wf (.max p t l r) = true) (w : Word32)
    (h : encode (.max p t l r) = some w) : formOf w = (formR p l r) := by
  have hs := shape_0 19 0x26000000 (by decide) (by decide) p t l r
  obtain ⟨h0, g0, g1, g2, g3, hr⟩ := hs
  replace h := Option.some.inj h
  rw [h] at h0 g0 g1 g2 g3 hr
  rw [formOf_op w 19 true true false false false false h0 rfl]
  simp [pmOf_eq, g0, lOf_eq, g2, rOf_eq, g3, formR, srcOf_eq]
theorem runs_max (p : BitVec 2) (t : BitVec 9) (l r : BitVec 7) (hw : Instr.wf (.max p t l r) = true) (w : Word32)
    (h : encode (.max p t l r) = some w) : ∃ act, ∀ st, exec (.max p t l r) st = fire (formOf w) act st := by
  rw [form_max p t l r hw w h]
  exact ⟨_, fun st => by
    change Machine.execMax p t l r st = _
    unfold execMax fireValue; rfl⟩

theorem form_minu (p : BitVec 2) (t : BitVec 9) (l r : BitVec 7) (_hw : Instr.wf (.minu p t l r) = true) (w : Word32)
    (h : encode (.minu p t l r) = some w) : formOf w = (formR p l r) := by
  have hs := shape_0 20 0x28000000 (by decide) (by decide) p t l r
  obtain ⟨h0, g0, g1, g2, g3, hr⟩ := hs
  replace h := Option.some.inj h
  rw [h] at h0 g0 g1 g2 g3 hr
  rw [formOf_op w 20 true true false false false false h0 rfl]
  simp [pmOf_eq, g0, lOf_eq, g2, rOf_eq, g3, formR, srcOf_eq]
theorem runs_minu (p : BitVec 2) (t : BitVec 9) (l r : BitVec 7) (hw : Instr.wf (.minu p t l r) = true) (w : Word32)
    (h : encode (.minu p t l r) = some w) : ∃ act, ∀ st, exec (.minu p t l r) st = fire (formOf w) act st := by
  rw [form_minu p t l r hw w h]
  exact ⟨_, fun st => by
    change Machine.execMinu p t l r st = _
    unfold execMinu fireValue; rfl⟩

theorem form_maxu (p : BitVec 2) (t : BitVec 9) (l r : BitVec 7) (_hw : Instr.wf (.maxu p t l r) = true) (w : Word32)
    (h : encode (.maxu p t l r) = some w) : formOf w = (formR p l r) := by
  have hs := shape_0 21 0x2a000000 (by decide) (by decide) p t l r
  obtain ⟨h0, g0, g1, g2, g3, hr⟩ := hs
  replace h := Option.some.inj h
  rw [h] at h0 g0 g1 g2 g3 hr
  rw [formOf_op w 21 true true false false false false h0 rfl]
  simp [pmOf_eq, g0, lOf_eq, g2, rOf_eq, g3, formR, srcOf_eq]
theorem runs_maxu (p : BitVec 2) (t : BitVec 9) (l r : BitVec 7) (hw : Instr.wf (.maxu p t l r) = true) (w : Word32)
    (h : encode (.maxu p t l r) = some w) : ∃ act, ∀ st, exec (.maxu p t l r) st = fire (formOf w) act st := by
  rw [form_maxu p t l r hw w h]
  exact ⟨_, fun st => by
    change Machine.execMaxu p t l r st = _
    unfold execMaxu fireValue; rfl⟩

theorem form_shadd1 (t : BitVec 9) (l r : BitVec 7) (_hw : Instr.wf (.shadd1 t l r) = true) (w : Word32)
    (h : encode (.shadd1 t l r) = some w) : formOf w = (formThree l r) := by
  have hs := shape_1 22 0x2c000000 (by decide) (by decide) t l r
  obtain ⟨h0, hf, g0, g1, g2, hr⟩ := hs
  replace h := Option.some.inj h
  rw [h] at h0 hf g0 g1 g2 hr
  rw [formOf_op w 22 true true false true false false h0 rfl]
  simp [lOf_eq, g1, rOf_eq, g2, pm_fixed _ _ hf (by simp), formThree, srcOf_eq]
theorem runs_shadd1 (t : BitVec 9) (l r : BitVec 7) (hw : Instr.wf (.shadd1 t l r) = true) (w : Word32)
    (h : encode (.shadd1 t l r) = some w) : ∃ act, ∀ st, exec (.shadd1 t l r) st = fire (formOf w) act st := by
  rw [form_shadd1 t l r hw w h]
  exact ⟨_, fun st => by
    change Machine.execShadd1 t l r st = _
    unfold execShadd1 fireValue; rfl⟩

theorem form_shadd2 (t : BitVec 9) (l r : BitVec 7) (_hw : Instr.wf (.shadd2 t l r) = true) (w : Word32)
    (h : encode (.shadd2 t l r) = some w) : formOf w = (formThree l r) := by
  have hs := shape_1 23 0x2e000000 (by decide) (by decide) t l r
  obtain ⟨h0, hf, g0, g1, g2, hr⟩ := hs
  replace h := Option.some.inj h
  rw [h] at h0 hf g0 g1 g2 hr
  rw [formOf_op w 23 true true false true false false h0 rfl]
  simp [lOf_eq, g1, rOf_eq, g2, pm_fixed _ _ hf (by simp), formThree, srcOf_eq]
theorem runs_shadd2 (t : BitVec 9) (l r : BitVec 7) (hw : Instr.wf (.shadd2 t l r) = true) (w : Word32)
    (h : encode (.shadd2 t l r) = some w) : ∃ act, ∀ st, exec (.shadd2 t l r) st = fire (formOf w) act st := by
  rw [form_shadd2 t l r hw w h]
  exact ⟨_, fun st => by
    change Machine.execShadd2 t l r st = _
    unfold execShadd2 fireValue; rfl⟩

theorem form_shadd3 (t : BitVec 9) (l r : BitVec 7) (_hw : Instr.wf (.shadd3 t l r) = true) (w : Word32)
    (h : encode (.shadd3 t l r) = some w) : formOf w = (formThree l r) := by
  have hs := shape_1 24 0x30000000 (by decide) (by decide) t l r
  obtain ⟨h0, hf, g0, g1, g2, hr⟩ := hs
  replace h := Option.some.inj h
  rw [h] at h0 hf g0 g1 g2 hr
  rw [formOf_op w 24 true true false true false false h0 rfl]
  simp [lOf_eq, g1, rOf_eq, g2, pm_fixed _ _ hf (by simp), formThree, srcOf_eq]
theorem runs_shadd3 (t : BitVec 9) (l r : BitVec 7) (hw : Instr.wf (.shadd3 t l r) = true) (w : Word32)
    (h : encode (.shadd3 t l r) = some w) : ∃ act, ∀ st, exec (.shadd3 t l r) st = fire (formOf w) act st := by
  rw [form_shadd3 t l r hw w h]
  exact ⟨_, fun st => by
    change Machine.execShadd3 t l r st = _
    unfold execShadd3 fireValue; rfl⟩

theorem form_shadd4 (t : BitVec 9) (l r : BitVec 7) (_hw : Instr.wf (.shadd4 t l r) = true) (w : Word32)
    (h : encode (.shadd4 t l r) = some w) : formOf w = (formThree l r) := by
  have hs := shape_1 25 0x32000000 (by decide) (by decide) t l r
  obtain ⟨h0, hf, g0, g1, g2, hr⟩ := hs
  replace h := Option.some.inj h
  rw [h] at h0 hf g0 g1 g2 hr
  rw [formOf_op w 25 true true false true false false h0 rfl]
  simp [lOf_eq, g1, rOf_eq, g2, pm_fixed _ _ hf (by simp), formThree, srcOf_eq]
theorem runs_shadd4 (t : BitVec 9) (l r : BitVec 7) (hw : Instr.wf (.shadd4 t l r) = true) (w : Word32)
    (h : encode (.shadd4 t l r) = some w) : ∃ act, ∀ st, exec (.shadd4 t l r) st = fire (formOf w) act st := by
  rw [form_shadd4 t l r hw w h]
  exact ⟨_, fun st => by
    change Machine.execShadd4 t l r st = _
    unfold execShadd4 fireValue; rfl⟩

theorem form_clz (p : BitVec 2) (t : BitVec 9) (l r : BitVec 7) (_hw : Instr.wf (.clz p t l r) = true) (w : Word32)
    (h : encode (.clz p t l r) = some w) : formOf w = (formL p l) := by
  have hs := shape_0 26 0x34000000 (by decide) (by decide) p t l r
  obtain ⟨h0, g0, g1, g2, g3, hr⟩ := hs
  replace h := Option.some.inj h
  rw [h] at h0 g0 g1 g2 g3 hr
  rw [formOf_op w 26 true false false false false false h0 rfl]
  simp [pmOf_eq, g0, lOf_eq, g2, formL, srcOf_eq]
theorem runs_clz (p : BitVec 2) (t : BitVec 9) (l r : BitVec 7) (hw : Instr.wf (.clz p t l r) = true) (w : Word32)
    (h : encode (.clz p t l r) = some w) : ∃ act, ∀ st, exec (.clz p t l r) st = fire (formOf w) act st := by
  rw [form_clz p t l r hw w h]
  exact ⟨_, fun st => by
    change Machine.execClz p t l r st = _
    unfold execClz fireValue; rfl⟩

theorem form_ctz (p : BitVec 2) (t : BitVec 9) (l r : BitVec 7) (_hw : Instr.wf (.ctz p t l r) = true) (w : Word32)
    (h : encode (.ctz p t l r) = some w) : formOf w = (formL p l) := by
  have hs := shape_0 27 0x36000000 (by decide) (by decide) p t l r
  obtain ⟨h0, g0, g1, g2, g3, hr⟩ := hs
  replace h := Option.some.inj h
  rw [h] at h0 g0 g1 g2 g3 hr
  rw [formOf_op w 27 true false false false false false h0 rfl]
  simp [pmOf_eq, g0, lOf_eq, g2, formL, srcOf_eq]
theorem runs_ctz (p : BitVec 2) (t : BitVec 9) (l r : BitVec 7) (hw : Instr.wf (.ctz p t l r) = true) (w : Word32)
    (h : encode (.ctz p t l r) = some w) : ∃ act, ∀ st, exec (.ctz p t l r) st = fire (formOf w) act st := by
  rw [form_ctz p t l r hw w h]
  exact ⟨_, fun st => by
    change Machine.execCtz p t l r st = _
    unfold execCtz fireValue; rfl⟩

theorem form_popc (p : BitVec 2) (t : BitVec 9) (l r : BitVec 7) (_hw : Instr.wf (.popc p t l r) = true) (w : Word32)
    (h : encode (.popc p t l r) = some w) : formOf w = (formL p l) := by
  have hs := shape_0 28 0x38000000 (by decide) (by decide) p t l r
  obtain ⟨h0, g0, g1, g2, g3, hr⟩ := hs
  replace h := Option.some.inj h
  rw [h] at h0 g0 g1 g2 g3 hr
  rw [formOf_op w 28 true false false false false false h0 rfl]
  simp [pmOf_eq, g0, lOf_eq, g2, formL, srcOf_eq]
theorem runs_popc (p : BitVec 2) (t : BitVec 9) (l r : BitVec 7) (hw : Instr.wf (.popc p t l r) = true) (w : Word32)
    (h : encode (.popc p t l r) = some w) : ∃ act, ∀ st, exec (.popc p t l r) st = fire (formOf w) act st := by
  rw [form_popc p t l r hw w h]
  exact ⟨_, fun st => by
    change Machine.execPopc p t l r st = _
    unfold execPopc fireValue; rfl⟩

theorem form_sext (p : BitVec 2) (t : BitVec 9) (l r : BitVec 7) (_hw : Instr.wf (.sext p t l r) = true) (w : Word32)
    (h : encode (.sext p t l r) = some w) : formOf w = (formR p l r) := by
  have hs := shape_0 29 0x3a000000 (by decide) (by decide) p t l r
  obtain ⟨h0, g0, g1, g2, g3, hr⟩ := hs
  replace h := Option.some.inj h
  rw [h] at h0 g0 g1 g2 g3 hr
  rw [formOf_op w 29 true true false false false false h0 rfl]
  simp [pmOf_eq, g0, lOf_eq, g2, rOf_eq, g3, formR, srcOf_eq]
theorem runs_sext (p : BitVec 2) (t : BitVec 9) (l r : BitVec 7) (hw : Instr.wf (.sext p t l r) = true) (w : Word32)
    (h : encode (.sext p t l r) = some w) : ∃ act, ∀ st, exec (.sext p t l r) st = fire (formOf w) act st := by
  rw [form_sext p t l r hw w h]
  exact ⟨_, fun st => by
    change Machine.execSext p t l r st = _
    unfold execSext fireValue; rfl⟩

theorem form_zext (p : BitVec 2) (t : BitVec 9) (l r : BitVec 7) (_hw : Instr.wf (.zext p t l r) = true) (w : Word32)
    (h : encode (.zext p t l r) = some w) : formOf w = (formR p l r) := by
  have hs := shape_0 30 0x3c000000 (by decide) (by decide) p t l r
  obtain ⟨h0, g0, g1, g2, g3, hr⟩ := hs
  replace h := Option.some.inj h
  rw [h] at h0 g0 g1 g2 g3 hr
  rw [formOf_op w 30 true true false false false false h0 rfl]
  simp [pmOf_eq, g0, lOf_eq, g2, rOf_eq, g3, formR, srcOf_eq]
theorem runs_zext (p : BitVec 2) (t : BitVec 9) (l r : BitVec 7) (hw : Instr.wf (.zext p t l r) = true) (w : Word32)
    (h : encode (.zext p t l r) = some w) : ∃ act, ∀ st, exec (.zext p t l r) st = fire (formOf w) act st := by
  rw [form_zext p t l r hw w h]
  exact ⟨_, fun st => by
    change Machine.execZext p t l r st = _
    unfold execZext fireValue; rfl⟩

theorem form_addw (p : BitVec 2) (t : BitVec 9) (l r : BitVec 7) (_hw : Instr.wf (.addw p t l r) = true) (w : Word32)
    (h : encode (.addw p t l r) = some w) : formOf w = (formR p l r) := by
  have hs := shape_0 31 0x3e000000 (by decide) (by decide) p t l r
  obtain ⟨h0, g0, g1, g2, g3, hr⟩ := hs
  replace h := Option.some.inj h
  rw [h] at h0 g0 g1 g2 g3 hr
  rw [formOf_op w 31 true true false false false false h0 rfl]
  simp [pmOf_eq, g0, lOf_eq, g2, rOf_eq, g3, formR, srcOf_eq]
theorem runs_addw (p : BitVec 2) (t : BitVec 9) (l r : BitVec 7) (hw : Instr.wf (.addw p t l r) = true) (w : Word32)
    (h : encode (.addw p t l r) = some w) : ∃ act, ∀ st, exec (.addw p t l r) st = fire (formOf w) act st := by
  rw [form_addw p t l r hw w h]
  exact ⟨_, fun st => by
    change Machine.execAddw p t l r st = _
    unfold execAddw fireValue; rfl⟩

theorem form_ceq (p : BitVec 2) (t : BitVec 9) (l r : BitVec 7) (_hw : Instr.wf (.ceq p t l r) = true) (w : Word32)
    (h : encode (.ceq p t l r) = some w) : formOf w = (formR p l r) := by
  have hs := shape_0 32 0x40000000 (by decide) (by decide) p t l r
  obtain ⟨h0, g0, g1, g2, g3, hr⟩ := hs
  replace h := Option.some.inj h
  rw [h] at h0 g0 g1 g2 g3 hr
  rw [formOf_op w 32 true true false false false false h0 rfl]
  simp [pmOf_eq, g0, lOf_eq, g2, rOf_eq, g3, formR, srcOf_eq]
theorem runs_ceq (p : BitVec 2) (t : BitVec 9) (l r : BitVec 7) (hw : Instr.wf (.ceq p t l r) = true) (w : Word32)
    (h : encode (.ceq p t l r) = some w) : ∃ act, ∀ st, exec (.ceq p t l r) st = fire (formOf w) act st := by
  rw [form_ceq p t l r hw w h]
  exact ⟨_, fun st => by
    change Machine.execCeq p t l r st = _
    unfold execCeq fireValue; rfl⟩

theorem form_cne (p : BitVec 2) (t : BitVec 9) (l r : BitVec 7) (_hw : Instr.wf (.cne p t l r) = true) (w : Word32)
    (h : encode (.cne p t l r) = some w) : formOf w = (formR p l r) := by
  have hs := shape_0 33 0x42000000 (by decide) (by decide) p t l r
  obtain ⟨h0, g0, g1, g2, g3, hr⟩ := hs
  replace h := Option.some.inj h
  rw [h] at h0 g0 g1 g2 g3 hr
  rw [formOf_op w 33 true true false false false false h0 rfl]
  simp [pmOf_eq, g0, lOf_eq, g2, rOf_eq, g3, formR, srcOf_eq]
theorem runs_cne (p : BitVec 2) (t : BitVec 9) (l r : BitVec 7) (hw : Instr.wf (.cne p t l r) = true) (w : Word32)
    (h : encode (.cne p t l r) = some w) : ∃ act, ∀ st, exec (.cne p t l r) st = fire (formOf w) act st := by
  rw [form_cne p t l r hw w h]
  exact ⟨_, fun st => by
    change Machine.execCne p t l r st = _
    unfold execCne fireValue; rfl⟩

theorem form_clt (p : BitVec 2) (t : BitVec 9) (l r : BitVec 7) (_hw : Instr.wf (.clt p t l r) = true) (w : Word32)
    (h : encode (.clt p t l r) = some w) : formOf w = (formR p l r) := by
  have hs := shape_0 34 0x44000000 (by decide) (by decide) p t l r
  obtain ⟨h0, g0, g1, g2, g3, hr⟩ := hs
  replace h := Option.some.inj h
  rw [h] at h0 g0 g1 g2 g3 hr
  rw [formOf_op w 34 true true false false false false h0 rfl]
  simp [pmOf_eq, g0, lOf_eq, g2, rOf_eq, g3, formR, srcOf_eq]
theorem runs_clt (p : BitVec 2) (t : BitVec 9) (l r : BitVec 7) (hw : Instr.wf (.clt p t l r) = true) (w : Word32)
    (h : encode (.clt p t l r) = some w) : ∃ act, ∀ st, exec (.clt p t l r) st = fire (formOf w) act st := by
  rw [form_clt p t l r hw w h]
  exact ⟨_, fun st => by
    change Machine.execClt p t l r st = _
    unfold execClt fireValue; rfl⟩

theorem form_cltu (p : BitVec 2) (t : BitVec 9) (l r : BitVec 7) (_hw : Instr.wf (.cltu p t l r) = true) (w : Word32)
    (h : encode (.cltu p t l r) = some w) : formOf w = (formR p l r) := by
  have hs := shape_0 35 0x46000000 (by decide) (by decide) p t l r
  obtain ⟨h0, g0, g1, g2, g3, hr⟩ := hs
  replace h := Option.some.inj h
  rw [h] at h0 g0 g1 g2 g3 hr
  rw [formOf_op w 35 true true false false false false h0 rfl]
  simp [pmOf_eq, g0, lOf_eq, g2, rOf_eq, g3, formR, srcOf_eq]
theorem runs_cltu (p : BitVec 2) (t : BitVec 9) (l r : BitVec 7) (hw : Instr.wf (.cltu p t l r) = true) (w : Word32)
    (h : encode (.cltu p t l r) = some w) : ∃ act, ∀ st, exec (.cltu p t l r) st = fire (formOf w) act st := by
  rw [form_cltu p t l r hw w h]
  exact ⟨_, fun st => by
    change Machine.execCltu p t l r st = _
    unfold execCltu fireValue; rfl⟩

theorem form_cle (p : BitVec 2) (t : BitVec 9) (l r : BitVec 7) (_hw : Instr.wf (.cle p t l r) = true) (w : Word32)
    (h : encode (.cle p t l r) = some w) : formOf w = (formR p l r) := by
  have hs := shape_0 36 0x48000000 (by decide) (by decide) p t l r
  obtain ⟨h0, g0, g1, g2, g3, hr⟩ := hs
  replace h := Option.some.inj h
  rw [h] at h0 g0 g1 g2 g3 hr
  rw [formOf_op w 36 true true false false false false h0 rfl]
  simp [pmOf_eq, g0, lOf_eq, g2, rOf_eq, g3, formR, srcOf_eq]
theorem runs_cle (p : BitVec 2) (t : BitVec 9) (l r : BitVec 7) (hw : Instr.wf (.cle p t l r) = true) (w : Word32)
    (h : encode (.cle p t l r) = some w) : ∃ act, ∀ st, exec (.cle p t l r) st = fire (formOf w) act st := by
  rw [form_cle p t l r hw w h]
  exact ⟨_, fun st => by
    change Machine.execCle p t l r st = _
    unfold execCle fireValue; rfl⟩

theorem form_cleu (p : BitVec 2) (t : BitVec 9) (l r : BitVec 7) (_hw : Instr.wf (.cleu p t l r) = true) (w : Word32)
    (h : encode (.cleu p t l r) = some w) : formOf w = (formR p l r) := by
  have hs := shape_0 37 0x4a000000 (by decide) (by decide) p t l r
  obtain ⟨h0, g0, g1, g2, g3, hr⟩ := hs
  replace h := Option.some.inj h
  rw [h] at h0 g0 g1 g2 g3 hr
  rw [formOf_op w 37 true true false false false false h0 rfl]
  simp [pmOf_eq, g0, lOf_eq, g2, rOf_eq, g3, formR, srcOf_eq]
theorem runs_cleu (p : BitVec 2) (t : BitVec 9) (l r : BitVec 7) (hw : Instr.wf (.cleu p t l r) = true) (w : Word32)
    (h : encode (.cleu p t l r) = some w) : ∃ act, ∀ st, exec (.cleu p t l r) st = fire (formOf w) act st := by
  rw [form_cleu p t l r hw w h]
  exact ⟨_, fun st => by
    change Machine.execCleu p t l r st = _
    unfold execCleu fireValue; rfl⟩

theorem form_tz (p : BitVec 2) (t : BitVec 9) (l r : BitVec 7) (_hw : Instr.wf (.tz p t l r) = true) (w : Word32)
    (h : encode (.tz p t l r) = some w) : formOf w = (formL p l) := by
  have hs := shape_0 38 0x4c000000 (by decide) (by decide) p t l r
  obtain ⟨h0, g0, g1, g2, g3, hr⟩ := hs
  replace h := Option.some.inj h
  rw [h] at h0 g0 g1 g2 g3 hr
  rw [formOf_op w 38 true false false false false false h0 rfl]
  simp [pmOf_eq, g0, lOf_eq, g2, formL, srcOf_eq]
theorem runs_tz (p : BitVec 2) (t : BitVec 9) (l r : BitVec 7) (hw : Instr.wf (.tz p t l r) = true) (w : Word32)
    (h : encode (.tz p t l r) = some w) : ∃ act, ∀ st, exec (.tz p t l r) st = fire (formOf w) act st := by
  rw [form_tz p t l r hw w h]
  exact ⟨_, fun st => by
    change Machine.execTz p t l r st = _
    unfold execTz fireValue; rfl⟩

theorem form_tnz (p : BitVec 2) (t : BitVec 9) (l r : BitVec 7) (_hw : Instr.wf (.tnz p t l r) = true) (w : Word32)
    (h : encode (.tnz p t l r) = some w) : formOf w = (formL p l) := by
  have hs := shape_0 39 0x4e000000 (by decide) (by decide) p t l r
  obtain ⟨h0, g0, g1, g2, g3, hr⟩ := hs
  replace h := Option.some.inj h
  rw [h] at h0 g0 g1 g2 g3 hr
  rw [formOf_op w 39 true false false false false false h0 rfl]
  simp [pmOf_eq, g0, lOf_eq, g2, formL, srcOf_eq]
theorem runs_tnz (p : BitVec 2) (t : BitVec 9) (l r : BitVec 7) (hw : Instr.wf (.tnz p t l r) = true) (w : Word32)
    (h : encode (.tnz p t l r) = some w) : ∃ act, ∀ st, exec (.tnz p t l r) st = fire (formOf w) act st := by
  rw [form_tnz p t l r hw w h]
  exact ⟨_, fun st => by
    change Machine.execTnz p t l r st = _
    unfold execTnz fireValue; rfl⟩

theorem form_sel (t : BitVec 9) (l r : BitVec 7) (_hw : Instr.wf (.sel t l r) = true) (w : Word32)
    (h : encode (.sel t l r) = some w) : formOf w = (formThree l r) := by
  have hs := shape_1 40 0x50000000 (by decide) (by decide) t l r
  obtain ⟨h0, hf, g0, g1, g2, hr⟩ := hs
  replace h := Option.some.inj h
  rw [h] at h0 hf g0 g1 g2 hr
  rw [formOf_op w 40 true true false true false false h0 rfl]
  simp [lOf_eq, g1, rOf_eq, g2, pm_fixed _ _ hf (by simp), formThree, srcOf_eq]
theorem runs_sel (t : BitVec 9) (l r : BitVec 7) (hw : Instr.wf (.sel t l r) = true) (w : Word32)
    (h : encode (.sel t l r) = some w) : ∃ act, ∀ st, exec (.sel t l r) st = fire (formOf w) act st := by
  rw [form_sel t l r hw w h]
  exact ⟨_, fun st => by
    change Machine.execSel t l r st = _
    unfold execSel fireValue; rfl⟩

theorem form_not (p : BitVec 2) (t : BitVec 9) (l r : BitVec 7) (_hw : Instr.wf (.not p t l r) = true) (w : Word32)
    (h : encode (.not p t l r) = some w) : formOf w = (formL p l) := by
  have hs := shape_0 41 0x52000000 (by decide) (by decide) p t l r
  obtain ⟨h0, g0, g1, g2, g3, hr⟩ := hs
  replace h := Option.some.inj h
  rw [h] at h0 g0 g1 g2 g3 hr
  rw [formOf_op w 41 true false false false false false h0 rfl]
  simp [pmOf_eq, g0, lOf_eq, g2, formL, srcOf_eq]
theorem runs_not (p : BitVec 2) (t : BitVec 9) (l r : BitVec 7) (hw : Instr.wf (.not p t l r) = true) (w : Word32)
    (h : encode (.not p t l r) = some w) : ∃ act, ∀ st, exec (.not p t l r) st = fire (formOf w) act st := by
  rw [form_not p t l r hw w h]
  exact ⟨_, fun st => by
    change Machine.execNot p t l r st = _
    unfold execNot fireValue; rfl⟩

theorem form_const (p : BitVec 2) (t : BitVec 9) (i : BitVec 14) (_hw : Instr.wf (.const p t i) = true) (w : Word32)
    (h : encode (.const p t i) = some w) : formOf w = (formNone p) := by
  have hs := shape_2 42 0x54000000 (by decide) (by decide) p t i
  obtain ⟨h0, g0, g1, g2⟩ := hs
  replace h := Option.some.inj h
  rw [h] at h0 g0 g1 g2
  rw [formOf_op w 42 false false false false false false h0 rfl]
  simp [pmOf_eq, g0, formNone]
theorem runs_const (p : BitVec 2) (t : BitVec 9) (i : BitVec 14) (hw : Instr.wf (.const p t i) = true) (w : Word32)
    (h : encode (.const p t i) = some w) : ∃ act, ∀ st, exec (.const p t i) st = fire (formOf w) act st := by
  rw [form_const p t i hw w h]
  exact ⟨_, fun st => by
    change Machine.execConst p t i st = _
    unfold execConst fireValue; rfl⟩

theorem form_constx (p : BitVec 2) (t : BitVec 9) (i : BitVec 14) (_hw : Instr.wf (.constx p t i) = true) (w : Word32)
    (h : encode (.constx p t i) = some w) : formOf w = (formX p) := by
  have hs := shape_2 43 0x56000000 (by decide) (by decide) p t i
  obtain ⟨h0, g0, g1, g2⟩ := hs
  replace h := Option.some.inj h
  rw [h] at h0 g0 g1 g2
  rw [formOf_op w 43 true false true false false false h0 rfl]
  simp [pmOf_eq, g0, formX]
theorem runs_constx (p : BitVec 2) (t : BitVec 9) (i : BitVec 14) (hw : Instr.wf (.constx p t i) = true) (w : Word32)
    (h : encode (.constx p t i) = some w) : ∃ act, ∀ st, exec (.constx p t i) st = fire (formOf w) act st := by
  rw [form_constx p t i hw w h]
  exact ⟨_, fun st => by
    change Machine.execConstx p t i st = _
    unfold execConstx fireValue; rfl⟩

theorem form_mov (p : BitVec 2) (t : BitVec 9) (l r : BitVec 7) (_hw : Instr.wf (.mov p t l r) = true) (w : Word32)
    (h : encode (.mov p t l r) = some w) : formOf w = (formL p l) := by
  have hs := shape_0 44 0x58000000 (by decide) (by decide) p t l r
  obtain ⟨h0, g0, g1, g2, g3, hr⟩ := hs
  replace h := Option.some.inj h
  rw [h] at h0 g0 g1 g2 g3 hr
  rw [formOf_op w 44 true false false false false false h0 rfl]
  simp [pmOf_eq, g0, lOf_eq, g2, formL, srcOf_eq]
theorem runs_mov (p : BitVec 2) (t : BitVec 9) (l r : BitVec 7) (hw : Instr.wf (.mov p t l r) = true) (w : Word32)
    (h : encode (.mov p t l r) = some w) : ∃ act, ∀ st, exec (.mov p t l r) st = fire (formOf w) act st := by
  rw [form_mov p t l r hw w h]
  exact ⟨_, fun st => by
    change Machine.execMov p t l r st = _
    unfold execMov fireValue; rfl⟩

theorem form_fan (p : BitVec 2) (t u : BitVec 9) (_hw : Instr.wf (.fan p t u) = true) (w : Word32)
    (h : encode (.fan p t u) = some w) : formOf w = (formX p) := by
  have hs := shape_3 45 0x5a000000 (by decide) (by decide) p t u
  obtain ⟨h0, hf, g0, g1, g2⟩ := hs
  replace h := Option.some.inj h
  rw [h] at h0 hf g0 g1 g2
  rw [formOf_op w 45 true false true false false false h0 rfl]
  simp [pmOf_eq, g0, formX]
theorem runs_fan (p : BitVec 2) (t u : BitVec 9) (hw : Instr.wf (.fan p t u) = true) (w : Word32)
    (h : encode (.fan p t u) = some w) : ∃ act, ∀ st, exec (.fan p t u) st = fire (formOf w) act st := by
  rw [form_fan p t u hw w h]
  exact ⟨_, fun st => by
    change Machine.execFan p t u st = _
    unfold execFan fireValue; rfl⟩

theorem form_srrd (p : BitVec 2) (t : BitVec 9) (n : BitVec 14) (_hw : Instr.wf (.srrd p t n) = true) (w : Word32)
    (h : encode (.srrd p t n) = some w) : formOf w = (formNone p) := by
  have hs := shape_2 46 0x5c000000 (by decide) (by decide) p t n
  obtain ⟨h0, g0, g1, g2⟩ := hs
  replace h := Option.some.inj h
  rw [h] at h0 g0 g1 g2
  rw [formOf_op w 46 false false false false false false h0 rfl]
  simp [pmOf_eq, g0, formNone]
theorem runs_srrd (p : BitVec 2) (t : BitVec 9) (n : BitVec 14) (hw : Instr.wf (.srrd p t n) = true) (w : Word32)
    (h : encode (.srrd p t n) = some w) : ∃ act, ∀ st, exec (.srrd p t n) st = fire (formOf w) act st := by
  rw [form_srrd p t n hw w h]
  exact ⟨_, fun st => by
    change Machine.execSrrd p t n st = _
    unfold execSrrd; rfl⟩

theorem form_srwr (p : BitVec 2) (t : BitVec 9) (n : BitVec 14) (_hw : Instr.wf (.srwr p t n) = true) (w : Word32)
    (h : encode (.srwr p t n) = some w) : formOf w = (formX p) := by
  have hs := shape_2 47 0x5e000000 (by decide) (by decide) p t n
  obtain ⟨h0, g0, g1, g2⟩ := hs
  replace h := Option.some.inj h
  rw [h] at h0 g0 g1 g2
  rw [formOf_op w 47 true false true false false false h0 rfl]
  simp [pmOf_eq, g0, formX]
theorem runs_srwr (p : BitVec 2) (t : BitVec 9) (n : BitVec 14) (hw : Instr.wf (.srwr p t n) = true) (w : Word32)
    (h : encode (.srwr p t n) = some w) : ∃ act, ∀ st, exec (.srwr p t n) st = fire (formOf w) act st := by
  rw [form_srwr p t n hw w h]
  exact ⟨_, fun st => by
    change Machine.execSrwr p t n st = _
    unfold execSrwr fireHeld; rfl⟩

theorem form_bri (p : BitVec 2) (o : BitVec 23) (_hw : Instr.wf (.bri p o) = true) (w : Word32)
    (h : encode (.bri p o) = some w) : formOf w = (formNone p) := by
  have hs := shape_4 48 0x60000000 (by decide) (by decide) p o
  obtain ⟨h0, g0, g1⟩ := hs
  replace h := Option.some.inj h
  rw [h] at h0 g0 g1
  rw [formOf_op w 48 false false false false false false h0 rfl]
  simp [pmOf_eq, g0, formNone]
theorem runs_bri (p : BitVec 2) (o : BitVec 23) (hw : Instr.wf (.bri p o) = true) (w : Word32)
    (h : encode (.bri p o) = some w) : ∃ act, ∀ st, exec (.bri p o) st = fire (formOf w) act st := by
  rw [form_bri p o hw w h]
  exact ⟨_, fun st => by
    change Machine.execBri p o st = _
    unfold execBri; rfl⟩

theorem form_br (p : BitVec 2) (l r : BitVec 7) (_hw : Instr.wf (.br p l r) = true) (w : Word32)
    (h : encode (.br p l r) = some w) : formOf w = (formL p l) := by
  have hs := shape_5 49 0x62700000 (by decide) (by decide) p l r
  obtain ⟨h0, hf, g0, g1, g2, hr⟩ := hs
  replace h := Option.some.inj h
  rw [h] at h0 hf g0 g1 g2 hr
  rw [formOf_op w 49 true false false false false false h0 rfl]
  simp [pmOf_eq, g0, lOf_eq, g1, formL, srcOf_eq]
theorem runs_br (p : BitVec 2) (l r : BitVec 7) (hw : Instr.wf (.br p l r) = true) (w : Word32)
    (h : encode (.br p l r) = some w) : ∃ act, ∀ st, exec (.br p l r) st = fire (formOf w) act st := by
  rw [form_br p l r hw w h]
  exact ⟨_, fun st => by
    change Machine.execBr p l r st = _
    unfold execBr; rfl⟩

theorem form_calli (p : BitVec 2) (o : BitVec 23) (_hw : Instr.wf (.calli p o) = true) (w : Word32)
    (h : encode (.calli p o) = some w) : formOf w = (formNone p) := by
  have hs := shape_4 50 0x64000000 (by decide) (by decide) p o
  obtain ⟨h0, g0, g1⟩ := hs
  replace h := Option.some.inj h
  rw [h] at h0 g0 g1
  rw [formOf_op w 50 false false false false false false h0 rfl]
  simp [pmOf_eq, g0, formNone]
theorem runs_calli (p : BitVec 2) (o : BitVec 23) (hw : Instr.wf (.calli p o) = true) (w : Word32)
    (h : encode (.calli p o) = some w) : ∃ act, ∀ st, exec (.calli p o) st = fire (formOf w) act st := by
  rw [form_calli p o hw w h]
  exact ⟨_, fun st => by
    change Machine.execCalli p o st = _
    unfold execCalli; rfl⟩

theorem form_call (p : BitVec 2) (l r : BitVec 7) (_hw : Instr.wf (.call p l r) = true) (w : Word32)
    (h : encode (.call p l r) = some w) : formOf w = (formL p l) := by
  have hs := shape_5 51 0x66700000 (by decide) (by decide) p l r
  obtain ⟨h0, hf, g0, g1, g2, hr⟩ := hs
  replace h := Option.some.inj h
  rw [h] at h0 hf g0 g1 g2 hr
  rw [formOf_op w 51 true false false false false false h0 rfl]
  simp [pmOf_eq, g0, lOf_eq, g1, formL, srcOf_eq]
theorem runs_call (p : BitVec 2) (l r : BitVec 7) (hw : Instr.wf (.call p l r) = true) (w : Word32)
    (h : encode (.call p l r) = some w) : ∃ act, ∀ st, exec (.call p l r) st = fire (formOf w) act st := by
  rw [form_call p l r hw w h]
  exact ⟨_, fun st => by
    change Machine.execCall p l r st = _
    unfold execCall; rfl⟩

theorem form_exit (p : BitVec 2) (l r : BitVec 7) (_hw : Instr.wf (.exit p l r) = true) (w : Word32)
    (h : encode (.exit p l r) = some w) : formOf w = (formNone p) := by
  have hs := shape_5 52 0x68700000 (by decide) (by decide) p l r
  obtain ⟨h0, hf, g0, g1, g2, hr⟩ := hs
  replace h := Option.some.inj h
  rw [h] at h0 hf g0 g1 g2 hr
  rw [formOf_op w 52 false false false false false false h0 rfl]
  simp [pmOf_eq, g0, formNone]
theorem runs_exit (p : BitVec 2) (l r : BitVec 7) (hw : Instr.wf (.exit p l r) = true) (w : Word32)
    (h : encode (.exit p l r) = some w) : ∃ act, ∀ st, exec (.exit p l r) st = fire (formOf w) act st := by
  rw [form_exit p l r hw w h]
  exact ⟨_, fun st => by
    change Machine.execExit p l r st = _
    unfold execExit; rfl⟩

theorem form_yield (p : BitVec 2) (l r : BitVec 7) (_hw : Instr.wf (.yield p l r) = true) (w : Word32)
    (h : encode (.yield p l r) = some w) : formOf w = (formNone p) := by
  have hs := shape_5 53 0x6a700000 (by decide) (by decide) p l r
  obtain ⟨h0, hf, g0, g1, g2, hr⟩ := hs
  replace h := Option.some.inj h
  rw [h] at h0 hf g0 g1 g2 hr
  rw [formOf_op w 53 false false false false false false h0 rfl]
  simp [pmOf_eq, g0, formNone]
theorem runs_yield (p : BitVec 2) (l r : BitVec 7) (hw : Instr.wf (.yield p l r) = true) (w : Word32)
    (h : encode (.yield p l r) = some w) : ∃ act, ∀ st, exec (.yield p l r) st = fire (formOf w) act st := by
  rw [form_yield p l r hw w h]
  exact ⟨_, fun st => by
    change Machine.execYield p l r st = _
    unfold execYield; rfl⟩

theorem form_trap (p : BitVec 2) (i : BitVec 14) (_hw : Instr.wf (.trap p i) = true) (w : Word32)
    (h : encode (.trap p i) = some w) : formOf w = (formNone p) := by
  have hs := shape_6 54 0x6c700000 (by decide) (by decide) p i
  obtain ⟨h0, hf, g0, g1⟩ := hs
  replace h := Option.some.inj h
  rw [h] at h0 hf g0 g1
  rw [formOf_op w 54 false false false false false false h0 rfl]
  simp [pmOf_eq, g0, formNone]
theorem runs_trap (p : BitVec 2) (i : BitVec 14) (hw : Instr.wf (.trap p i) = true) (w : Word32)
    (h : encode (.trap p i) = some w) : ∃ act, ∀ st, exec (.trap p i) st = fire (formOf w) act st := by
  rw [form_trap p i hw w h]
  exact ⟨_, fun st => by
    change Machine.execTrap p i st = _
    unfold execTrap; rfl⟩

theorem form_eret (p : BitVec 2) (l r : BitVec 7) (_hw : Instr.wf (.eret p l r) = true) (w : Word32)
    (h : encode (.eret p l r) = some w) : formOf w = (formNone p) := by
  have hs := shape_5 55 0x6e700000 (by decide) (by decide) p l r
  obtain ⟨h0, hf, g0, g1, g2, hr⟩ := hs
  replace h := Option.some.inj h
  rw [h] at h0 hf g0 g1 g2 hr
  rw [formOf_op w 55 false false false false false false h0 rfl]
  simp [pmOf_eq, g0, formNone]
theorem runs_eret (p : BitVec 2) (l r : BitVec 7) (hw : Instr.wf (.eret p l r) = true) (w : Word32)
    (h : encode (.eret p l r) = some w) : ∃ act, ∀ st, exec (.eret p l r) st = fire (formOf w) act st := by
  rw [form_eret p l r hw w h]
  exact ⟨_, fun st => by
    change Machine.execEret p l r st = _
    unfold execEret; rfl⟩

theorem form_fadd (p : BitVec 2) (t : BitVec 9) (l r : BitVec 7) (_hw : Instr.wf (.fadd p t l r) = true) (w : Word32)
    (h : encode (.fadd p t l r) = some w) : formOf w = (formR p l r) := by
  have hs := shape_0 56 0x70000000 (by decide) (by decide) p t l r
  obtain ⟨h0, g0, g1, g2, g3, hr⟩ := hs
  replace h := Option.some.inj h
  rw [h] at h0 g0 g1 g2 g3 hr
  rw [formOf_op w 56 true true false false false false h0 rfl]
  simp [pmOf_eq, g0, lOf_eq, g2, rOf_eq, g3, formR, srcOf_eq]
theorem runs_fadd (p : BitVec 2) (t : BitVec 9) (l r : BitVec 7) (hw : Instr.wf (.fadd p t l r) = true) (w : Word32)
    (h : encode (.fadd p t l r) = some w) : ∃ act, ∀ st, exec (.fadd p t l r) st = fire (formOf w) act st := by
  rw [form_fadd p t l r hw w h]
  exact ⟨_, fun st => by
    change Machine.execFadd p t l r st = _
    unfold execFadd fireValue; rfl⟩

theorem form_fsub (p : BitVec 2) (t : BitVec 9) (l r : BitVec 7) (_hw : Instr.wf (.fsub p t l r) = true) (w : Word32)
    (h : encode (.fsub p t l r) = some w) : formOf w = (formR p l r) := by
  have hs := shape_0 57 0x72000000 (by decide) (by decide) p t l r
  obtain ⟨h0, g0, g1, g2, g3, hr⟩ := hs
  replace h := Option.some.inj h
  rw [h] at h0 g0 g1 g2 g3 hr
  rw [formOf_op w 57 true true false false false false h0 rfl]
  simp [pmOf_eq, g0, lOf_eq, g2, rOf_eq, g3, formR, srcOf_eq]
theorem runs_fsub (p : BitVec 2) (t : BitVec 9) (l r : BitVec 7) (hw : Instr.wf (.fsub p t l r) = true) (w : Word32)
    (h : encode (.fsub p t l r) = some w) : ∃ act, ∀ st, exec (.fsub p t l r) st = fire (formOf w) act st := by
  rw [form_fsub p t l r hw w h]
  exact ⟨_, fun st => by
    change Machine.execFsub p t l r st = _
    unfold execFsub fireValue; rfl⟩

theorem form_fmul (p : BitVec 2) (t : BitVec 9) (l r : BitVec 7) (_hw : Instr.wf (.fmul p t l r) = true) (w : Word32)
    (h : encode (.fmul p t l r) = some w) : formOf w = (formR p l r) := by
  have hs := shape_0 58 0x74000000 (by decide) (by decide) p t l r
  obtain ⟨h0, g0, g1, g2, g3, hr⟩ := hs
  replace h := Option.some.inj h
  rw [h] at h0 g0 g1 g2 g3 hr
  rw [formOf_op w 58 true true false false false false h0 rfl]
  simp [pmOf_eq, g0, lOf_eq, g2, rOf_eq, g3, formR, srcOf_eq]
theorem runs_fmul (p : BitVec 2) (t : BitVec 9) (l r : BitVec 7) (hw : Instr.wf (.fmul p t l r) = true) (w : Word32)
    (h : encode (.fmul p t l r) = some w) : ∃ act, ∀ st, exec (.fmul p t l r) st = fire (formOf w) act st := by
  rw [form_fmul p t l r hw w h]
  exact ⟨_, fun st => by
    change Machine.execFmul p t l r st = _
    unfold execFmul fireValue; rfl⟩

theorem form_fdiv (p : BitVec 2) (t : BitVec 9) (l r : BitVec 7) (_hw : Instr.wf (.fdiv p t l r) = true) (w : Word32)
    (h : encode (.fdiv p t l r) = some w) : formOf w = (formR p l r) := by
  have hs := shape_0 59 0x76000000 (by decide) (by decide) p t l r
  obtain ⟨h0, g0, g1, g2, g3, hr⟩ := hs
  replace h := Option.some.inj h
  rw [h] at h0 g0 g1 g2 g3 hr
  rw [formOf_op w 59 true true false false false false h0 rfl]
  simp [pmOf_eq, g0, lOf_eq, g2, rOf_eq, g3, formR, srcOf_eq]
theorem runs_fdiv (p : BitVec 2) (t : BitVec 9) (l r : BitVec 7) (hw : Instr.wf (.fdiv p t l r) = true) (w : Word32)
    (h : encode (.fdiv p t l r) = some w) : ∃ act, ∀ st, exec (.fdiv p t l r) st = fire (formOf w) act st := by
  rw [form_fdiv p t l r hw w h]
  exact ⟨_, fun st => by
    change Machine.execFdiv p t l r st = _
    unfold execFdiv fireValue; rfl⟩

theorem form_fmin (p : BitVec 2) (t : BitVec 9) (l r : BitVec 7) (_hw : Instr.wf (.fmin p t l r) = true) (w : Word32)
    (h : encode (.fmin p t l r) = some w) : formOf w = (formR p l r) := by
  have hs := shape_0 60 0x78000000 (by decide) (by decide) p t l r
  obtain ⟨h0, g0, g1, g2, g3, hr⟩ := hs
  replace h := Option.some.inj h
  rw [h] at h0 g0 g1 g2 g3 hr
  rw [formOf_op w 60 true true false false false false h0 rfl]
  simp [pmOf_eq, g0, lOf_eq, g2, rOf_eq, g3, formR, srcOf_eq]
theorem runs_fmin (p : BitVec 2) (t : BitVec 9) (l r : BitVec 7) (hw : Instr.wf (.fmin p t l r) = true) (w : Word32)
    (h : encode (.fmin p t l r) = some w) : ∃ act, ∀ st, exec (.fmin p t l r) st = fire (formOf w) act st := by
  rw [form_fmin p t l r hw w h]
  exact ⟨_, fun st => by
    change Machine.execFmin p t l r st = _
    unfold execFmin fireValue; rfl⟩

theorem form_fmax (p : BitVec 2) (t : BitVec 9) (l r : BitVec 7) (_hw : Instr.wf (.fmax p t l r) = true) (w : Word32)
    (h : encode (.fmax p t l r) = some w) : formOf w = (formR p l r) := by
  have hs := shape_0 61 0x7a000000 (by decide) (by decide) p t l r
  obtain ⟨h0, g0, g1, g2, g3, hr⟩ := hs
  replace h := Option.some.inj h
  rw [h] at h0 g0 g1 g2 g3 hr
  rw [formOf_op w 61 true true false false false false h0 rfl]
  simp [pmOf_eq, g0, lOf_eq, g2, rOf_eq, g3, formR, srcOf_eq]
theorem runs_fmax (p : BitVec 2) (t : BitVec 9) (l r : BitVec 7) (hw : Instr.wf (.fmax p t l r) = true) (w : Word32)
    (h : encode (.fmax p t l r) = some w) : ∃ act, ∀ st, exec (.fmax p t l r) st = fire (formOf w) act st := by
  rw [form_fmax p t l r hw w h]
  exact ⟨_, fun st => by
    change Machine.execFmax p t l r st = _
    unfold execFmax fireValue; rfl⟩

theorem form_fclt (p : BitVec 2) (t : BitVec 9) (l r : BitVec 7) (_hw : Instr.wf (.fclt p t l r) = true) (w : Word32)
    (h : encode (.fclt p t l r) = some w) : formOf w = (formR p l r) := by
  have hs := shape_0 62 0x7c000000 (by decide) (by decide) p t l r
  obtain ⟨h0, g0, g1, g2, g3, hr⟩ := hs
  replace h := Option.some.inj h
  rw [h] at h0 g0 g1 g2 g3 hr
  rw [formOf_op w 62 true true false false false false h0 rfl]
  simp [pmOf_eq, g0, lOf_eq, g2, rOf_eq, g3, formR, srcOf_eq]
theorem runs_fclt (p : BitVec 2) (t : BitVec 9) (l r : BitVec 7) (hw : Instr.wf (.fclt p t l r) = true) (w : Word32)
    (h : encode (.fclt p t l r) = some w) : ∃ act, ∀ st, exec (.fclt p t l r) st = fire (formOf w) act st := by
  rw [form_fclt p t l r hw w h]
  exact ⟨_, fun st => by
    change Machine.execFclt p t l r st = _
    unfold execFclt fireValue; rfl⟩

theorem form_fceq (p : BitVec 2) (t : BitVec 9) (l r : BitVec 7) (_hw : Instr.wf (.fceq p t l r) = true) (w : Word32)
    (h : encode (.fceq p t l r) = some w) : formOf w = (formR p l r) := by
  have hs := shape_0 63 0x7e000000 (by decide) (by decide) p t l r
  obtain ⟨h0, g0, g1, g2, g3, hr⟩ := hs
  replace h := Option.some.inj h
  rw [h] at h0 g0 g1 g2 g3 hr
  rw [formOf_op w 63 true true false false false false h0 rfl]
  simp [pmOf_eq, g0, lOf_eq, g2, rOf_eq, g3, formR, srcOf_eq]
theorem runs_fceq (p : BitVec 2) (t : BitVec 9) (l r : BitVec 7) (hw : Instr.wf (.fceq p t l r) = true) (w : Word32)
    (h : encode (.fceq p t l r) = some w) : ∃ act, ∀ st, exec (.fceq p t l r) st = fire (formOf w) act st := by
  rw [form_fceq p t l r hw w h]
  exact ⟨_, fun st => by
    change Machine.execFceq p t l r st = _
    unfold execFceq fireValue; rfl⟩

theorem form_fcle (p : BitVec 2) (t : BitVec 9) (l r : BitVec 7) (_hw : Instr.wf (.fcle p t l r) = true) (w : Word32)
    (h : encode (.fcle p t l r) = some w) : formOf w = (formR p l r) := by
  have hs := shape_0 64 0x80000000 (by decide) (by decide) p t l r
  obtain ⟨h0, g0, g1, g2, g3, hr⟩ := hs
  replace h := Option.some.inj h
  rw [h] at h0 g0 g1 g2 g3 hr
  rw [formOf_op w 64 true true false false false false h0 rfl]
  simp [pmOf_eq, g0, lOf_eq, g2, rOf_eq, g3, formR, srcOf_eq]
theorem runs_fcle (p : BitVec 2) (t : BitVec 9) (l r : BitVec 7) (hw : Instr.wf (.fcle p t l r) = true) (w : Word32)
    (h : encode (.fcle p t l r) = some w) : ∃ act, ∀ st, exec (.fcle p t l r) st = fire (formOf w) act st := by
  rw [form_fcle p t l r hw w h]
  exact ⟨_, fun st => by
    change Machine.execFcle p t l r st = _
    unfold execFcle fireValue; rfl⟩

theorem form_cvtif (p : BitVec 2) (t : BitVec 9) (l r : BitVec 7) (_hw : Instr.wf (.cvtif p t l r) = true) (w : Word32)
    (h : encode (.cvtif p t l r) = some w) : formOf w = (formL p l) := by
  have hs := shape_0 65 0x82000000 (by decide) (by decide) p t l r
  obtain ⟨h0, g0, g1, g2, g3, hr⟩ := hs
  replace h := Option.some.inj h
  rw [h] at h0 g0 g1 g2 g3 hr
  rw [formOf_op w 65 true false false false false false h0 rfl]
  simp [pmOf_eq, g0, lOf_eq, g2, formL, srcOf_eq]
theorem runs_cvtif (p : BitVec 2) (t : BitVec 9) (l r : BitVec 7) (hw : Instr.wf (.cvtif p t l r) = true) (w : Word32)
    (h : encode (.cvtif p t l r) = some w) : ∃ act, ∀ st, exec (.cvtif p t l r) st = fire (formOf w) act st := by
  rw [form_cvtif p t l r hw w h]
  exact ⟨_, fun st => by
    change Machine.execCvtif p t l r st = _
    unfold execCvtif fireValue; rfl⟩

theorem form_cvtfi (p : BitVec 2) (t : BitVec 9) (l r : BitVec 7) (_hw : Instr.wf (.cvtfi p t l r) = true) (w : Word32)
    (h : encode (.cvtfi p t l r) = some w) : formOf w = (formL p l) := by
  have hs := shape_0 66 0x84000000 (by decide) (by decide) p t l r
  obtain ⟨h0, g0, g1, g2, g3, hr⟩ := hs
  replace h := Option.some.inj h
  rw [h] at h0 g0 g1 g2 g3 hr
  rw [formOf_op w 66 true false false false false false h0 rfl]
  simp [pmOf_eq, g0, lOf_eq, g2, formL, srcOf_eq]
theorem runs_cvtfi (p : BitVec 2) (t : BitVec 9) (l r : BitVec 7) (hw : Instr.wf (.cvtfi p t l r) = true) (w : Word32)
    (h : encode (.cvtfi p t l r) = some w) : ∃ act, ∀ st, exec (.cvtfi p t l r) st = fire (formOf w) act st := by
  rw [form_cvtfi p t l r hw w h]
  exact ⟨_, fun st => by
    change Machine.execCvtfi p t l r st = _
    unfold execCvtfi fireValue; rfl⟩

theorem form_fsqrt (p : BitVec 2) (t : BitVec 9) (l r : BitVec 7) (_hw : Instr.wf (.fsqrt p t l r) = true) (w : Word32)
    (h : encode (.fsqrt p t l r) = some w) : formOf w = (formL p l) := by
  have hs := shape_0 67 0x86000000 (by decide) (by decide) p t l r
  obtain ⟨h0, g0, g1, g2, g3, hr⟩ := hs
  replace h := Option.some.inj h
  rw [h] at h0 g0 g1 g2 g3 hr
  rw [formOf_op w 67 true false false false false false h0 rfl]
  simp [pmOf_eq, g0, lOf_eq, g2, formL, srcOf_eq]
theorem runs_fsqrt (p : BitVec 2) (t : BitVec 9) (l r : BitVec 7) (hw : Instr.wf (.fsqrt p t l r) = true) (w : Word32)
    (h : encode (.fsqrt p t l r) = some w) : ∃ act, ∀ st, exec (.fsqrt p t l r) st = fire (formOf w) act st := by
  rw [form_fsqrt p t l r hw w h]
  exact ⟨_, fun st => by
    change Machine.execFsqrt p t l r st = _
    unfold execFsqrt fireValue; rfl⟩

theorem form_ld8 (p : BitVec 2) (t : BitVec 9) (l r : BitVec 7) (_hw : Instr.wf (.ld8 p t l r) = true) (w : Word32)
    (h : encode (.ld8 p t l r) = some w) : formOf w = (formR p l r) := by
  have hs := shape_0 68 0x88000000 (by decide) (by decide) p t l r
  obtain ⟨h0, g0, g1, g2, g3, hr⟩ := hs
  replace h := Option.some.inj h
  rw [h] at h0 g0 g1 g2 g3 hr
  rw [formOf_op w 68 true true false false false false h0 rfl]
  simp [pmOf_eq, g0, lOf_eq, g2, rOf_eq, g3, formR, srcOf_eq]
theorem runs_ld8 (p : BitVec 2) (t : BitVec 9) (l r : BitVec 7) (hw : Instr.wf (.ld8 p t l r) = true) (w : Word32)
    (h : encode (.ld8 p t l r) = some w) : ∃ act, ∀ st, exec (.ld8 p t l r) st = fire (formOf w) act st := by
  rw [form_ld8 p t l r hw w h]
  exact ⟨_, fun st => by
    change Machine.execLd8 p t l r st = _
    unfold execLd8 fireLoad; rfl⟩

theorem form_ld8s (p : BitVec 2) (t : BitVec 9) (l r : BitVec 7) (_hw : Instr.wf (.ld8s p t l r) = true) (w : Word32)
    (h : encode (.ld8s p t l r) = some w) : formOf w = (formR p l r) := by
  have hs := shape_0 69 0x8a000000 (by decide) (by decide) p t l r
  obtain ⟨h0, g0, g1, g2, g3, hr⟩ := hs
  replace h := Option.some.inj h
  rw [h] at h0 g0 g1 g2 g3 hr
  rw [formOf_op w 69 true true false false false false h0 rfl]
  simp [pmOf_eq, g0, lOf_eq, g2, rOf_eq, g3, formR, srcOf_eq]
theorem runs_ld8s (p : BitVec 2) (t : BitVec 9) (l r : BitVec 7) (hw : Instr.wf (.ld8s p t l r) = true) (w : Word32)
    (h : encode (.ld8s p t l r) = some w) : ∃ act, ∀ st, exec (.ld8s p t l r) st = fire (formOf w) act st := by
  rw [form_ld8s p t l r hw w h]
  exact ⟨_, fun st => by
    change Machine.execLd8s p t l r st = _
    unfold execLd8s fireLoad; rfl⟩

theorem form_ld16 (p : BitVec 2) (t : BitVec 9) (l r : BitVec 7) (_hw : Instr.wf (.ld16 p t l r) = true) (w : Word32)
    (h : encode (.ld16 p t l r) = some w) : formOf w = (formR p l r) := by
  have hs := shape_0 70 0x8c000000 (by decide) (by decide) p t l r
  obtain ⟨h0, g0, g1, g2, g3, hr⟩ := hs
  replace h := Option.some.inj h
  rw [h] at h0 g0 g1 g2 g3 hr
  rw [formOf_op w 70 true true false false false false h0 rfl]
  simp [pmOf_eq, g0, lOf_eq, g2, rOf_eq, g3, formR, srcOf_eq]
theorem runs_ld16 (p : BitVec 2) (t : BitVec 9) (l r : BitVec 7) (hw : Instr.wf (.ld16 p t l r) = true) (w : Word32)
    (h : encode (.ld16 p t l r) = some w) : ∃ act, ∀ st, exec (.ld16 p t l r) st = fire (formOf w) act st := by
  rw [form_ld16 p t l r hw w h]
  exact ⟨_, fun st => by
    change Machine.execLd16 p t l r st = _
    unfold execLd16 fireLoad; rfl⟩

theorem form_ld16s (p : BitVec 2) (t : BitVec 9) (l r : BitVec 7) (_hw : Instr.wf (.ld16s p t l r) = true) (w : Word32)
    (h : encode (.ld16s p t l r) = some w) : formOf w = (formR p l r) := by
  have hs := shape_0 71 0x8e000000 (by decide) (by decide) p t l r
  obtain ⟨h0, g0, g1, g2, g3, hr⟩ := hs
  replace h := Option.some.inj h
  rw [h] at h0 g0 g1 g2 g3 hr
  rw [formOf_op w 71 true true false false false false h0 rfl]
  simp [pmOf_eq, g0, lOf_eq, g2, rOf_eq, g3, formR, srcOf_eq]
theorem runs_ld16s (p : BitVec 2) (t : BitVec 9) (l r : BitVec 7) (hw : Instr.wf (.ld16s p t l r) = true) (w : Word32)
    (h : encode (.ld16s p t l r) = some w) : ∃ act, ∀ st, exec (.ld16s p t l r) st = fire (formOf w) act st := by
  rw [form_ld16s p t l r hw w h]
  exact ⟨_, fun st => by
    change Machine.execLd16s p t l r st = _
    unfold execLd16s fireLoad; rfl⟩

theorem form_ld32 (p : BitVec 2) (t : BitVec 9) (l r : BitVec 7) (_hw : Instr.wf (.ld32 p t l r) = true) (w : Word32)
    (h : encode (.ld32 p t l r) = some w) : formOf w = (formR p l r) := by
  have hs := shape_0 72 0x90000000 (by decide) (by decide) p t l r
  obtain ⟨h0, g0, g1, g2, g3, hr⟩ := hs
  replace h := Option.some.inj h
  rw [h] at h0 g0 g1 g2 g3 hr
  rw [formOf_op w 72 true true false false false false h0 rfl]
  simp [pmOf_eq, g0, lOf_eq, g2, rOf_eq, g3, formR, srcOf_eq]
theorem runs_ld32 (p : BitVec 2) (t : BitVec 9) (l r : BitVec 7) (hw : Instr.wf (.ld32 p t l r) = true) (w : Word32)
    (h : encode (.ld32 p t l r) = some w) : ∃ act, ∀ st, exec (.ld32 p t l r) st = fire (formOf w) act st := by
  rw [form_ld32 p t l r hw w h]
  exact ⟨_, fun st => by
    change Machine.execLd32 p t l r st = _
    unfold execLd32 fireLoad; rfl⟩

theorem form_ld32s (p : BitVec 2) (t : BitVec 9) (l r : BitVec 7) (_hw : Instr.wf (.ld32s p t l r) = true) (w : Word32)
    (h : encode (.ld32s p t l r) = some w) : formOf w = (formR p l r) := by
  have hs := shape_0 73 0x92000000 (by decide) (by decide) p t l r
  obtain ⟨h0, g0, g1, g2, g3, hr⟩ := hs
  replace h := Option.some.inj h
  rw [h] at h0 g0 g1 g2 g3 hr
  rw [formOf_op w 73 true true false false false false h0 rfl]
  simp [pmOf_eq, g0, lOf_eq, g2, rOf_eq, g3, formR, srcOf_eq]
theorem runs_ld32s (p : BitVec 2) (t : BitVec 9) (l r : BitVec 7) (hw : Instr.wf (.ld32s p t l r) = true) (w : Word32)
    (h : encode (.ld32s p t l r) = some w) : ∃ act, ∀ st, exec (.ld32s p t l r) st = fire (formOf w) act st := by
  rw [form_ld32s p t l r hw w h]
  exact ⟨_, fun st => by
    change Machine.execLd32s p t l r st = _
    unfold execLd32s fireLoad; rfl⟩

theorem form_ld64 (p : BitVec 2) (t : BitVec 9) (l r : BitVec 7) (_hw : Instr.wf (.ld64 p t l r) = true) (w : Word32)
    (h : encode (.ld64 p t l r) = some w) : formOf w = (formR p l r) := by
  have hs := shape_0 74 0x94000000 (by decide) (by decide) p t l r
  obtain ⟨h0, g0, g1, g2, g3, hr⟩ := hs
  replace h := Option.some.inj h
  rw [h] at h0 g0 g1 g2 g3 hr
  rw [formOf_op w 74 true true false false false false h0 rfl]
  simp [pmOf_eq, g0, lOf_eq, g2, rOf_eq, g3, formR, srcOf_eq]
theorem runs_ld64 (p : BitVec 2) (t : BitVec 9) (l r : BitVec 7) (hw : Instr.wf (.ld64 p t l r) = true) (w : Word32)
    (h : encode (.ld64 p t l r) = some w) : ∃ act, ∀ st, exec (.ld64 p t l r) st = fire (formOf w) act st := by
  rw [form_ld64 p t l r hw w h]
  exact ⟨_, fun st => by
    change Machine.execLd64 p t l r st = _
    unfold execLd64 fireLoad; rfl⟩

theorem form_ldaq (p : BitVec 2) (t : BitVec 9) (l : BitVec 7) (s : BitVec 3) (x : BitVec 1) (z : BitVec 2) (_hw : Instr.wf (.ldaq p t l s x z) = true) (w : Word32)
    (h : encode (.ldaq p t l s x z) = some w) : formOf w = (formL p l) := by
  have hs := shape_7 75 0x96000000 (by decide) (by decide) p t l s x z
  obtain ⟨h0, hf, g0, g1, g2, g3, g4, g5⟩ := hs
  replace h := Option.some.inj h
  rw [h] at h0 hf g0 g1 g2 g3 g4 g5
  rw [formOf_op w 75 true false false false false false h0 rfl]
  simp [pmOf_eq, g0, lOf_eq, g2, formL, srcOf_eq]
theorem runs_ldaq (p : BitVec 2) (t : BitVec 9) (l : BitVec 7) (s : BitVec 3) (x : BitVec 1) (z : BitVec 2) (hw : Instr.wf (.ldaq p t l s x z) = true) (w : Word32)
    (h : encode (.ldaq p t l s x z) = some w) : ∃ act, ∀ st, exec (.ldaq p t l s x z) st = fire (formOf w) act st := by
  rw [form_ldaq p t l s x z hw w h]
  exact ⟨_, fun st => by
    change Machine.execLdaq p t l s x z st = _
    unfold execLdaq fireLoad; rfl⟩

theorem form_st8 (p : BitVec 2) (o : BitVec 9) (l r : BitVec 7) (_hw : Instr.wf (.st8 p o l r) = true) (w : Word32)
    (h : encode (.st8 p o l r) = some w) : formOf w = (formR p l r) := by
  have hs := shape_0 76 0x98000000 (by decide) (by decide) p o l r
  obtain ⟨h0, g0, g1, g2, g3, hr⟩ := hs
  replace h := Option.some.inj h
  rw [h] at h0 g0 g1 g2 g3 hr
  rw [formOf_op w 76 true true false false false false h0 rfl]
  simp [pmOf_eq, g0, lOf_eq, g2, rOf_eq, g3, formR, srcOf_eq]
theorem runs_st8 (p : BitVec 2) (o : BitVec 9) (l r : BitVec 7) (hw : Instr.wf (.st8 p o l r) = true) (w : Word32)
    (h : encode (.st8 p o l r) = some w) : ∃ act, ∀ st, exec (.st8 p o l r) st = fire (formOf w) act st := by
  rw [form_st8 p o l r hw w h]
  exact ⟨_, fun st => by
    change Machine.execSt8 p o l r st = _
    unfold execSt8 fireStore; rfl⟩

theorem form_st16 (p : BitVec 2) (o : BitVec 9) (l r : BitVec 7) (_hw : Instr.wf (.st16 p o l r) = true) (w : Word32)
    (h : encode (.st16 p o l r) = some w) : formOf w = (formR p l r) := by
  have hs := shape_0 77 0x9a000000 (by decide) (by decide) p o l r
  obtain ⟨h0, g0, g1, g2, g3, hr⟩ := hs
  replace h := Option.some.inj h
  rw [h] at h0 g0 g1 g2 g3 hr
  rw [formOf_op w 77 true true false false false false h0 rfl]
  simp [pmOf_eq, g0, lOf_eq, g2, rOf_eq, g3, formR, srcOf_eq]
theorem runs_st16 (p : BitVec 2) (o : BitVec 9) (l r : BitVec 7) (hw : Instr.wf (.st16 p o l r) = true) (w : Word32)
    (h : encode (.st16 p o l r) = some w) : ∃ act, ∀ st, exec (.st16 p o l r) st = fire (formOf w) act st := by
  rw [form_st16 p o l r hw w h]
  exact ⟨_, fun st => by
    change Machine.execSt16 p o l r st = _
    unfold execSt16 fireStore; rfl⟩

theorem form_st32 (p : BitVec 2) (o : BitVec 9) (l r : BitVec 7) (_hw : Instr.wf (.st32 p o l r) = true) (w : Word32)
    (h : encode (.st32 p o l r) = some w) : formOf w = (formR p l r) := by
  have hs := shape_0 78 0x9c000000 (by decide) (by decide) p o l r
  obtain ⟨h0, g0, g1, g2, g3, hr⟩ := hs
  replace h := Option.some.inj h
  rw [h] at h0 g0 g1 g2 g3 hr
  rw [formOf_op w 78 true true false false false false h0 rfl]
  simp [pmOf_eq, g0, lOf_eq, g2, rOf_eq, g3, formR, srcOf_eq]
theorem runs_st32 (p : BitVec 2) (o : BitVec 9) (l r : BitVec 7) (hw : Instr.wf (.st32 p o l r) = true) (w : Word32)
    (h : encode (.st32 p o l r) = some w) : ∃ act, ∀ st, exec (.st32 p o l r) st = fire (formOf w) act st := by
  rw [form_st32 p o l r hw w h]
  exact ⟨_, fun st => by
    change Machine.execSt32 p o l r st = _
    unfold execSt32 fireStore; rfl⟩

theorem form_st64 (p : BitVec 2) (o : BitVec 9) (l r : BitVec 7) (_hw : Instr.wf (.st64 p o l r) = true) (w : Word32)
    (h : encode (.st64 p o l r) = some w) : formOf w = (formR p l r) := by
  have hs := shape_0 79 0x9e000000 (by decide) (by decide) p o l r
  obtain ⟨h0, g0, g1, g2, g3, hr⟩ := hs
  replace h := Option.some.inj h
  rw [h] at h0 g0 g1 g2 g3 hr
  rw [formOf_op w 79 true true false false false false h0 rfl]
  simp [pmOf_eq, g0, lOf_eq, g2, rOf_eq, g3, formR, srcOf_eq]
theorem runs_st64 (p : BitVec 2) (o : BitVec 9) (l r : BitVec 7) (hw : Instr.wf (.st64 p o l r) = true) (w : Word32)
    (h : encode (.st64 p o l r) = some w) : ∃ act, ∀ st, exec (.st64 p o l r) st = fire (formOf w) act st := by
  rw [form_st64 p o l r hw w h]
  exact ⟨_, fun st => by
    change Machine.execSt64 p o l r st = _
    unfold execSt64 fireStore; rfl⟩

theorem form_strl (p : BitVec 2) (l : BitVec 7) (s : BitVec 3) (z : BitVec 2) (_hw : Instr.wf (.strl p l s z) = true) (w : Word32)
    (h : encode (.strl p l s z) = some w) : formOf w = (formData p l) := by
  have hs := shape_8 80 0xa0700000 (by decide) (by decide) p l s z
  obtain ⟨h0, hf, g0, g1, g2, g3⟩ := hs
  replace h := Option.some.inj h
  rw [h] at h0 hf g0 g1 g2 g3
  rw [formOf_op w 80 true true false false false true h0 rfl]
  simp [pmOf_eq, g0, lOf_eq, g1, formData, srcOf_eq]
theorem runs_strl (p : BitVec 2) (l : BitVec 7) (s : BitVec 3) (z : BitVec 2) (hw : Instr.wf (.strl p l s z) = true) (w : Word32)
    (h : encode (.strl p l s z) = some w) : ∃ act, ∀ st, exec (.strl p l s z) st = fire (formOf w) act st := by
  rw [form_strl p l s z hw w h]
  exact ⟨_, fun st => by
    change Machine.execStrl p l s z st = _
    unfold execStrl fireStore; rfl⟩

theorem form_amo64 (p : BitVec 2) (t : BitVec 9) (l : BitVec 7) (s : BitVec 3) (k : BitVec 1) (o : BitVec 3) (_hw : Instr.wf (.amo64 p t l s k o) = true) (w : Word32)
    (h : encode (.amo64 p t l s k o) = some w) : formOf w = (formData p l) := by
  have hs := shape_9 81 0xa2000000 (by decide) (by decide) p t l s k o
  obtain ⟨h0, g0, g1, g2, g3, g4, g5⟩ := hs
  replace h := Option.some.inj h
  rw [h] at h0 g0 g1 g2 g3 g4 g5
  rw [formOf_op w 81 true true false false false true h0 rfl]
  simp [pmOf_eq, g0, lOf_eq, g2, formData, srcOf_eq]
theorem runs_amo64 (p : BitVec 2) (t : BitVec 9) (l : BitVec 7) (s : BitVec 3) (k : BitVec 1) (o : BitVec 3) (hw : Instr.wf (.amo64 p t l s k o) = true) (w : Word32)
    (h : encode (.amo64 p t l s k o) = some w) : ∃ act, ∀ st, exec (.amo64 p t l s k o) st = fire (formOf w) act st := by
  rw [form_amo64 p t l s k o hw w h]
  exact ⟨_, fun st => by
    change Machine.execAmo64 p t l s k o st = _
    unfold execAmo64 fireStore; rfl⟩

theorem form_amo32 (p : BitVec 2) (t : BitVec 9) (l : BitVec 7) (s : BitVec 3) (k : BitVec 1) (o : BitVec 3) (_hw : Instr.wf (.amo32 p t l s k o) = true) (w : Word32)
    (h : encode (.amo32 p t l s k o) = some w) : formOf w = (formData p l) := by
  have hs := shape_9 82 0xa4000000 (by decide) (by decide) p t l s k o
  obtain ⟨h0, g0, g1, g2, g3, g4, g5⟩ := hs
  replace h := Option.some.inj h
  rw [h] at h0 g0 g1 g2 g3 g4 g5
  rw [formOf_op w 82 true true false false false true h0 rfl]
  simp [pmOf_eq, g0, lOf_eq, g2, formData, srcOf_eq]
theorem runs_amo32 (p : BitVec 2) (t : BitVec 9) (l : BitVec 7) (s : BitVec 3) (k : BitVec 1) (o : BitVec 3) (hw : Instr.wf (.amo32 p t l s k o) = true) (w : Word32)
    (h : encode (.amo32 p t l s k o) = some w) : ∃ act, ∀ st, exec (.amo32 p t l s k o) st = fire (formOf w) act st := by
  rw [form_amo32 p t l s k o hw w h]
  exact ⟨_, fun st => by
    change Machine.execAmo32 p t l s k o st = _
    unfold execAmo32 fireStore; rfl⟩

theorem form_cas64 (t : BitVec 9) (l : BitVec 7) (s : BitVec 3) (k : BitVec 2) (_hw : Instr.wf (.cas64 t l s k) = true) (w : Word32)
    (h : encode (.cas64 t l s k) = some w) : formOf w = (formCas l) := by
  have hs := shape_10 83 0xa6000000 (by decide) (by decide) t l s k
  obtain ⟨h0, hf, g0, g1, g2, g3⟩ := hs
  replace h := Option.some.inj h
  rw [h] at h0 hf g0 g1 g2 g3
  rw [formOf_op w 83 true true false true false true h0 rfl]
  simp [lOf_eq, g1, pm_fixed _ _ hf (by simp), formCas, srcOf_eq]
theorem runs_cas64 (t : BitVec 9) (l : BitVec 7) (s : BitVec 3) (k : BitVec 2) (hw : Instr.wf (.cas64 t l s k) = true) (w : Word32)
    (h : encode (.cas64 t l s k) = some w) : ∃ act, ∀ st, exec (.cas64 t l s k) st = fire (formOf w) act st := by
  rw [form_cas64 t l s k hw w h]
  exact ⟨_, fun st => by
    change Machine.execCas64 t l s k st = _
    unfold execCas64 fireStore; rfl⟩

theorem form_fence (p : BitVec 2) (l : BitVec 7) (s : BitVec 3) (e k : BitVec 2) (_hw : Instr.wf (.fence p l s e k) = true) (w : Word32)
    (h : encode (.fence p l s e k) = some w) : formOf w = (formNone p) := by
  have hs := shape_11 84 0xa8700000 (by decide) (by decide) p l s e k
  obtain ⟨h0, hf, g0, g1, g2, g3, g4⟩ := hs
  replace h := Option.some.inj h
  rw [h] at h0 hf g0 g1 g2 g3 g4
  rw [formOf_op w 84 false false false false false false h0 rfl]
  simp [pmOf_eq, g0, formNone]
theorem runs_fence (p : BitVec 2) (l : BitVec 7) (s : BitVec 3) (e k : BitVec 2) (hw : Instr.wf (.fence p l s e k) = true) (w : Word32)
    (h : encode (.fence p l s e k) = some w) : ∃ act, ∀ st, exec (.fence p l s e k) st = fire (formOf w) act st := by
  rw [form_fence p l s e k hw w h]
  exact ⟨_, fun st => by
    change Machine.execFence p l s e k st = _
    unfold execFence fireHeld; rfl⟩

theorem form_sbar (p : BitVec 2) (l : BitVec 7) (_hw : Instr.wf (.sbar p l) = true) (w : Word32)
    (h : encode (.sbar p l) = some w) : formOf w = (formL p l) := by
  have hs := shape_12 85 0xaa700000 (by decide) (by decide) p l
  obtain ⟨h0, hf, g0, g1⟩ := hs
  replace h := Option.some.inj h
  rw [h] at h0 hf g0 g1
  rw [formOf_op w 85 true false false false false false h0 rfl]
  simp [pmOf_eq, g0, lOf_eq, g1, formL, srcOf_eq]
theorem runs_sbar (p : BitVec 2) (l : BitVec 7) (hw : Instr.wf (.sbar p l) = true) (w : Word32)
    (h : encode (.sbar p l) = some w) : ∃ act, ∀ st, exec (.sbar p l) st = fire (formOf w) act st := by
  rw [form_sbar p l hw w h]
  exact ⟨_, fun st => by
    change Machine.execSbar p l st = _
    unfold execSbar fireHeld; rfl⟩

theorem form_pref (p : BitVec 2) (l r : BitVec 7) (_hw : Instr.wf (.pref p l r) = true) (w : Word32)
    (h : encode (.pref p l r) = some w) : formOf w = (formR p l r) := by
  have hs := shape_5 86 0xac700000 (by decide) (by decide) p l r
  obtain ⟨h0, hf, g0, g1, g2, hr⟩ := hs
  replace h := Option.some.inj h
  rw [h] at h0 hf g0 g1 g2 hr
  rw [formOf_op w 86 true true false false false false h0 rfl]
  simp [pmOf_eq, g0, lOf_eq, g1, rOf_eq, g2, formR, srcOf_eq]
theorem runs_pref (p : BitVec 2) (l r : BitVec 7) (hw : Instr.wf (.pref p l r) = true) (w : Word32)
    (h : encode (.pref p l r) = some w) : ∃ act, ∀ st, exec (.pref p l r) st = fire (formOf w) act st := by
  rw [form_pref p l r hw w h]
  exact ⟨_, fun st => by
    change Machine.execPref p l r st = _
    unfold execPref; rfl⟩

theorem form_spawn (p : BitVec 2) (t : BitVec 9) (l r : BitVec 7) (_hw : Instr.wf (.spawn p t l r) = true) (w : Word32)
    (h : encode (.spawn p t l r) = some w) : formOf w = (formL p l) := by
  have hs := shape_0 87 0xae000000 (by decide) (by decide) p t l r
  obtain ⟨h0, g0, g1, g2, g3, hr⟩ := hs
  replace h := Option.some.inj h
  rw [h] at h0 g0 g1 g2 g3 hr
  rw [formOf_op w 87 true false false false false false h0 rfl]
  simp [pmOf_eq, g0, lOf_eq, g2, formL, srcOf_eq]
theorem runs_spawn (p : BitVec 2) (t : BitVec 9) (l r : BitVec 7) (hw : Instr.wf (.spawn p t l r) = true) (w : Word32)
    (h : encode (.spawn p t l r) = some w) : ∃ act, ∀ st, exec (.spawn p t l r) st = fire (formOf w) act st := by
  rw [form_spawn p t l r hw w h]
  exact ⟨_, fun st => by
    change Machine.execSpawn p t l r st = _
    unfold execSpawn fireHeld; rfl⟩

theorem form_joindec (p : BitVec 2) (t : BitVec 9) (l r : BitVec 7) (_hw : Instr.wf (.joindec p t l r) = true) (w : Word32)
    (h : encode (.joindec p t l r) = some w) : formOf w = (formR p l r) := by
  have hs := shape_0 88 0xb0000000 (by decide) (by decide) p t l r
  obtain ⟨h0, g0, g1, g2, g3, hr⟩ := hs
  replace h := Option.some.inj h
  rw [h] at h0 g0 g1 g2 g3 hr
  rw [formOf_op w 88 true true false false false false h0 rfl]
  simp [pmOf_eq, g0, lOf_eq, g2, rOf_eq, g3, formR, srcOf_eq]
theorem runs_joindec (p : BitVec 2) (t : BitVec 9) (l r : BitVec 7) (hw : Instr.wf (.joindec p t l r) = true) (w : Word32)
    (h : encode (.joindec p t l r) = some w) : ∃ act, ∀ st, exec (.joindec p t l r) st = fire (formOf w) act st := by
  rw [form_joindec p t l r hw w h]
  exact ⟨_, fun st => by
    change Machine.execJoindec p t l r st = _
    unfold execJoindec fireHeld; rfl⟩

theorem form_gang (p : BitVec 2) (t : BitVec 9) (l r : BitVec 7) (hw : Instr.wf (.gang p t l r) = true) (w : Word32)
    (h : encode (.gang p t l r) = some w) : formOf w = { formRg p l r with r := .unused } := by
  have hs := shape_0 89 0xb2000000 (by decide) (by decide) p t l r
  obtain ⟨h0, g0, g1, g2, g3, hr⟩ := hs
  replace h := Option.some.inj h
  rw [h] at h0 g0 g1 g2 g3 hr
  rw [formOf_op w 89 true false false false true false h0 rfl]
  have hl : ¬ l.toNat = 64 := by
    have hv : (pmOk p && regTargetOk t && groupSpecOk l && unusedOk r) = true := hw
    simp [groupSpecOk] at hv; omega
  simp [pmOf_eq, g0, lOf_eq, g2, formRg, hl]
theorem runs_gang (p : BitVec 2) (t : BitVec 9) (l r : BitVec 7) (hw : Instr.wf (.gang p t l r) = true) (w : Word32)
    (h : encode (.gang p t l r) = some w) : ∃ act, ∀ st, exec (.gang p t l r) st = fire (formOf w) act st := by
  rw [form_gang p t l r hw w h]
  exact ⟨_, fun st => by
    change Machine.execGang p t l r st = _
    unfold execGang fireHeld; rfl⟩

theorem form_rvinit (p : BitVec 2) (t : BitVec 9) (l r : BitVec 7) (_hw : Instr.wf (.rvinit p t l r) = true) (w : Word32)
    (h : encode (.rvinit p t l r) = some w) : formOf w = (formR p l r) := by
  have hs := shape_0 90 0xb4000000 (by decide) (by decide) p t l r
  obtain ⟨h0, g0, g1, g2, g3, hr⟩ := hs
  replace h := Option.some.inj h
  rw [h] at h0 g0 g1 g2 g3 hr
  rw [formOf_op w 90 true true false false false false h0 rfl]
  simp [pmOf_eq, g0, lOf_eq, g2, rOf_eq, g3, formR, srcOf_eq]
theorem runs_rvinit (p : BitVec 2) (t : BitVec 9) (l r : BitVec 7) (hw : Instr.wf (.rvinit p t l r) = true) (w : Word32)
    (h : encode (.rvinit p t l r) = some w) : ∃ act, ∀ st, exec (.rvinit p t l r) st = fire (formOf w) act st := by
  rw [form_rvinit p t l r hw w h]
  exact ⟨_, fun st => by
    change Machine.execRvinit p t l r st = _
    unfold execRvinit fireHeld; rfl⟩

theorem form_arrive (p : BitVec 2) (t : BitVec 9) (l r : BitVec 7) (_hw : Instr.wf (.arrive p t l r) = true) (w : Word32)
    (h : encode (.arrive p t l r) = some w) : formOf w = (formL p l) := by
  have hs := shape_0 91 0xb6000000 (by decide) (by decide) p t l r
  obtain ⟨h0, g0, g1, g2, g3, hr⟩ := hs
  replace h := Option.some.inj h
  rw [h] at h0 g0 g1 g2 g3 hr
  rw [formOf_op w 91 true false false false false false h0 rfl]
  simp [pmOf_eq, g0, lOf_eq, g2, formL, srcOf_eq]
theorem runs_arrive (p : BitVec 2) (t : BitVec 9) (l r : BitVec 7) (hw : Instr.wf (.arrive p t l r) = true) (w : Word32)
    (h : encode (.arrive p t l r) = some w) : ∃ act, ∀ st, exec (.arrive p t l r) st = fire (formOf w) act st := by
  rw [form_arrive p t l r hw w h]
  exact ⟨_, fun st => by
    change Machine.execArrive p t l r st = _
    unfold execArrive fireHeld; rfl⟩

theorem form_wait (p : BitVec 2) (l r : BitVec 7) (_hw : Instr.wf (.wait p l r) = true) (w : Word32)
    (h : encode (.wait p l r) = some w) : formOf w = (formR p l r) := by
  have hs := shape_5 92 0xb8700000 (by decide) (by decide) p l r
  obtain ⟨h0, hf, g0, g1, g2, hr⟩ := hs
  replace h := Option.some.inj h
  rw [h] at h0 hf g0 g1 g2 hr
  rw [formOf_op w 92 true true false false false false h0 rfl]
  simp [pmOf_eq, g0, lOf_eq, g1, rOf_eq, g2, formR, srcOf_eq]
theorem runs_wait (p : BitVec 2) (l r : BitVec 7) (hw : Instr.wf (.wait p l r) = true) (w : Word32)
    (h : encode (.wait p l r) = some w) : ∃ act, ∀ st, exec (.wait p l r) st = fire (formOf w) act st := by
  rw [form_wait p l r hw w h]
  exact ⟨_, fun st => by
    change Machine.execWait p l r st = _
    unfold execWait fireHeld; rfl⟩

theorem form_est (p : BitVec 2) (t : BitVec 9) (l r : BitVec 7) (_hw : Instr.wf (.est p t l r) = true) (w : Word32)
    (h : encode (.est p t l r) = some w) : formOf w = (formR p l r) := by
  have hs := shape_0 93 0xba000000 (by decide) (by decide) p t l r
  obtain ⟨h0, g0, g1, g2, g3, hr⟩ := hs
  replace h := Option.some.inj h
  rw [h] at h0 g0 g1 g2 g3 hr
  rw [formOf_op w 93 true true false false false false h0 rfl]
  simp [pmOf_eq, g0, lOf_eq, g2, rOf_eq, g3, formR, srcOf_eq]
theorem runs_est (p : BitVec 2) (t : BitVec 9) (l r : BitVec 7) (hw : Instr.wf (.est p t l r) = true) (w : Word32)
    (h : encode (.est p t l r) = some w) : ∃ act, ∀ st, exec (.est p t l r) st = fire (formOf w) act st := by
  rw [form_est p t l r hw w h]
  exact ⟨_, fun st => by
    change Machine.execEst p t l r st = _
    unfold execEst fireHeld; rfl⟩

theorem form_progress (p : BitVec 2) (t : BitVec 9) (l r : BitVec 7) (_hw : Instr.wf (.progress p t l r) = true) (w : Word32)
    (h : encode (.progress p t l r) = some w) : formOf w = (formNone p) := by
  have hs := shape_0 94 0xbc000000 (by decide) (by decide) p t l r
  obtain ⟨h0, g0, g1, g2, g3, hr⟩ := hs
  replace h := Option.some.inj h
  rw [h] at h0 g0 g1 g2 g3 hr
  rw [formOf_op w 94 false false false false false false h0 rfl]
  simp [pmOf_eq, g0, formNone]
theorem runs_progress (p : BitVec 2) (t : BitVec 9) (l r : BitVec 7) (hw : Instr.wf (.progress p t l r) = true) (w : Word32)
    (h : encode (.progress p t l r) = some w) : ∃ act, ∀ st, exec (.progress p t l r) st = fire (formOf w) act st := by
  rw [form_progress p t l r hw w h]
  exact ⟨_, fun st => by
    change Machine.execProgress p t l r st = _
    unfold execProgress fireHeld; rfl⟩

theorem form_graphgo (p : BitVec 2) (t : BitVec 9) (l r : BitVec 7) (_hw : Instr.wf (.graphgo p t l r) = true) (w : Word32)
    (h : encode (.graphgo p t l r) = some w) : formOf w = (formR p l r) := by
  have hs := shape_0 95 0xbe000000 (by decide) (by decide) p t l r
  obtain ⟨h0, g0, g1, g2, g3, hr⟩ := hs
  replace h := Option.some.inj h
  rw [h] at h0 g0 g1 g2 g3 hr
  rw [formOf_op w 95 true true false false false false h0 rfl]
  simp [pmOf_eq, g0, lOf_eq, g2, rOf_eq, g3, formR, srcOf_eq]
theorem runs_graphgo (p : BitVec 2) (t : BitVec 9) (l r : BitVec 7) (hw : Instr.wf (.graphgo p t l r) = true) (w : Word32)
    (h : encode (.graphgo p t l r) = some w) : ∃ act, ∀ st, exec (.graphgo p t l r) st = fire (formOf w) act st := by
  rw [form_graphgo p t l r hw w h]
  exact ⟨_, fun st => by
    change Machine.execGraphgo p t l r st = _
    unfold execGraphgo fireHeld; rfl⟩

theorem form_mload (p : BitVec 2) (t : BitVec 9) (l r : BitVec 7) (_hw : Instr.wf (.mload p t l r) = true) (w : Word32)
    (h : encode (.mload p t l r) = some w) : formOf w = (formR p l r) := by
  have hs := shape_0 96 0xc0000000 (by decide) (by decide) p t l r
  obtain ⟨h0, g0, g1, g2, g3, hr⟩ := hs
  replace h := Option.some.inj h
  rw [h] at h0 g0 g1 g2 g3 hr
  rw [formOf_op w 96 true true false false false false h0 rfl]
  simp [pmOf_eq, g0, lOf_eq, g2, rOf_eq, g3, formR, srcOf_eq]
theorem runs_mload (p : BitVec 2) (t : BitVec 9) (l r : BitVec 7) (hw : Instr.wf (.mload p t l r) = true) (w : Word32)
    (h : encode (.mload p t l r) = some w) : ∃ act, ∀ st, exec (.mload p t l r) st = fire (formOf w) act st := by
  rw [form_mload p t l r hw w h]
  exact ⟨_, fun st => by
    change Machine.execMload p t l r st = _
    unfold execMload fireHeld; rfl⟩

theorem form_mstart (p : BitVec 2) (t : BitVec 9) (l r : BitVec 7) (_hw : Instr.wf (.mstart p t l r) = true) (w : Word32)
    (h : encode (.mstart p t l r) = some w) : formOf w = (formR p l r) := by
  have hs := shape_0 97 0xc2000000 (by decide) (by decide) p t l r
  obtain ⟨h0, g0, g1, g2, g3, hr⟩ := hs
  replace h := Option.some.inj h
  rw [h] at h0 g0 g1 g2 g3 hr
  rw [formOf_op w 97 true true false false false false h0 rfl]
  simp [pmOf_eq, g0, lOf_eq, g2, rOf_eq, g3, formR, srcOf_eq]
theorem runs_mstart (p : BitVec 2) (t : BitVec 9) (l r : BitVec 7) (hw : Instr.wf (.mstart p t l r) = true) (w : Word32)
    (h : encode (.mstart p t l r) = some w) : ∃ act, ∀ st, exec (.mstart p t l r) st = fire (formOf w) act st := by
  rw [form_mstart p t l r hw w h]
  exact ⟨_, fun st => by
    change Machine.execMstart p t l r st = _
    unfold execMstart fireHeld; rfl⟩

theorem form_mstopDrain (p : BitVec 2) (t : BitVec 9) (l r : BitVec 7) (_hw : Instr.wf (.mstopDrain p t l r) = true) (w : Word32)
    (h : encode (.mstopDrain p t l r) = some w) : formOf w = (formR p l r) := by
  have hs := shape_0 98 0xc4000000 (by decide) (by decide) p t l r
  obtain ⟨h0, g0, g1, g2, g3, hr⟩ := hs
  replace h := Option.some.inj h
  rw [h] at h0 g0 g1 g2 g3 hr
  rw [formOf_op w 98 true true false false false false h0 rfl]
  simp [pmOf_eq, g0, lOf_eq, g2, rOf_eq, g3, formR, srcOf_eq]
theorem runs_mstopDrain (p : BitVec 2) (t : BitVec 9) (l r : BitVec 7) (hw : Instr.wf (.mstopDrain p t l r) = true) (w : Word32)
    (h : encode (.mstopDrain p t l r) = some w) : ∃ act, ∀ st, exec (.mstopDrain p t l r) st = fire (formOf w) act st := by
  rw [form_mstopDrain p t l r hw w h]
  exact ⟨_, fun st => by
    change Machine.execMstopDrain p t l r st = _
    unfold execMstopDrain fireHeld; rfl⟩

theorem form_mstopAbort (p : BitVec 2) (t : BitVec 9) (l r : BitVec 7) (_hw : Instr.wf (.mstopAbort p t l r) = true) (w : Word32)
    (h : encode (.mstopAbort p t l r) = some w) : formOf w = (formR p l r) := by
  have hs := shape_0 98 0xc4000000 (by decide) (by decide) p t l r
  obtain ⟨h0, g0, g1, g2, g3, hr⟩ := hs
  replace h := Option.some.inj h
  rw [h] at h0 g0 g1 g2 g3 hr
  rw [formOf_op w 98 true true false false false false h0 rfl]
  simp [pmOf_eq, g0, lOf_eq, g2, rOf_eq, g3, formR, srcOf_eq]
theorem runs_mstopAbort (p : BitVec 2) (t : BitVec 9) (l r : BitVec 7) (hw : Instr.wf (.mstopAbort p t l r) = true) (w : Word32)
    (h : encode (.mstopAbort p t l r) = some w) : ∃ act, ∀ st, exec (.mstopAbort p t l r) st = fire (formOf w) act st := by
  rw [form_mstopAbort p t l r hw w h]
  exact ⟨_, fun st => by
    change Machine.execMstopAbort p t l r st = _
    unfold execMstopAbort fireHeld; rfl⟩

theorem form_inject (p : BitVec 2) (t : BitVec 9) (l r : BitVec 7) (hw : Instr.wf (.inject p t l r) = true) (w : Word32)
    (h : encode (.inject p t l r) = some w) : formOf w = (formRg p l r) := by
  have hs := shape_0 99 0xc6000000 (by decide) (by decide) p t l r
  obtain ⟨h0, g0, g1, g2, g3, hr⟩ := hs
  replace h := Option.some.inj h
  rw [h] at h0 g0 g1 g2 g3 hr
  rw [formOf_op w 99 true true false false true false h0 rfl]
  have hl : ¬ l.toNat = 64 := by
    have hv : (pmOk p && regTargetOk t && groupSpecOk l) = true := hw
    simp [groupSpecOk] at hv; omega
  simp [pmOf_eq, g0, lOf_eq, g2, rOf_eq, g3, formRg, srcOf_eq, hl]
theorem runs_inject (p : BitVec 2) (t : BitVec 9) (l r : BitVec 7) (hw : Instr.wf (.inject p t l r) = true) (w : Word32)
    (h : encode (.inject p t l r) = some w) : ∃ act, ∀ st, exec (.inject p t l r) st = fire (formOf w) act st := by
  rw [form_inject p t l r hw w h]
  exact ⟨_, fun st => by
    change Machine.execInject p t l r st = _
    unfold execInject fireHeld; rfl⟩

theorem form_collect (p : BitVec 2) (t : BitVec 9) (l r : BitVec 7) (_hw : Instr.wf (.collect p t l r) = true) (w : Word32)
    (h : encode (.collect p t l r) = some w) : formOf w = (formR p l r) := by
  have hs := shape_0 100 0xc8000000 (by decide) (by decide) p t l r
  obtain ⟨h0, g0, g1, g2, g3, hr⟩ := hs
  replace h := Option.some.inj h
  rw [h] at h0 g0 g1 g2 g3 hr
  rw [formOf_op w 100 true true false false false false h0 rfl]
  simp [pmOf_eq, g0, lOf_eq, g2, rOf_eq, g3, formR, srcOf_eq]
theorem runs_collect (p : BitVec 2) (t : BitVec 9) (l r : BitVec 7) (hw : Instr.wf (.collect p t l r) = true) (w : Word32)
    (h : encode (.collect p t l r) = some w) : ∃ act, ∀ st, exec (.collect p t l r) st = fire (formOf w) act st := by
  rw [form_collect p t l r hw w h]
  exact ⟨_, fun st => by
    change Machine.execCollect p t l r st = _
    unfold execCollect; rfl⟩

theorem form_pourLoadt (p : BitVec 2) (t : BitVec 9) (l r : BitVec 7) (_hw : Instr.wf (.pourLoadt p t l r) = true) (w : Word32)
    (h : encode (.pourLoadt p t l r) = some w) : formOf w = (formR p l r) := by
  have hs := shape_0 101 0xca000000 (by decide) (by decide) p t l r
  obtain ⟨h0, g0, g1, g2, g3, hr⟩ := hs
  replace h := Option.some.inj h
  rw [h] at h0 g0 g1 g2 g3 hr
  rw [formOf_op w 101 true true false false false false h0 rfl]
  simp [pmOf_eq, g0, lOf_eq, g2, rOf_eq, g3, formR, srcOf_eq]
theorem runs_pourLoadt (p : BitVec 2) (t : BitVec 9) (l r : BitVec 7) (hw : Instr.wf (.pourLoadt p t l r) = true) (w : Word32)
    (h : encode (.pourLoadt p t l r) = some w) : ∃ act, ∀ st, exec (.pourLoadt p t l r) st = fire (formOf w) act st := by
  rw [form_pourLoadt p t l r hw w h]
  exact ⟨_, fun st => by
    change Machine.execPourLoadt p t l r st = _
    unfold execPourLoadt fireHeld; rfl⟩

theorem form_pourStart (p : BitVec 2) (t : BitVec 9) (l r : BitVec 7) (_hw : Instr.wf (.pourStart p t l r) = true) (w : Word32)
    (h : encode (.pourStart p t l r) = some w) : formOf w = (formR p l r) := by
  have hs := shape_0 101 0xca000000 (by decide) (by decide) p t l r
  obtain ⟨h0, g0, g1, g2, g3, hr⟩ := hs
  replace h := Option.some.inj h
  rw [h] at h0 g0 g1 g2 g3 hr
  rw [formOf_op w 101 true true false false false false h0 rfl]
  simp [pmOf_eq, g0, lOf_eq, g2, rOf_eq, g3, formR, srcOf_eq]
theorem runs_pourStart (p : BitVec 2) (t : BitVec 9) (l r : BitVec 7) (hw : Instr.wf (.pourStart p t l r) = true) (w : Word32)
    (h : encode (.pourStart p t l r) = some w) : ∃ act, ∀ st, exec (.pourStart p t l r) st = fire (formOf w) act st := by
  rw [form_pourStart p t l r hw w h]
  exact ⟨_, fun st => by
    change Machine.execPourStart p t l r st = _
    unfold execPourStart fireHeld; rfl⟩

theorem form_pjoin (p : BitVec 2) (l r : BitVec 7) (_hw : Instr.wf (.pjoin p l r) = true) (w : Word32)
    (h : encode (.pjoin p l r) = some w) : formOf w = (formL p l) := by
  have hs := shape_5 102 0xcc700000 (by decide) (by decide) p l r
  obtain ⟨h0, hf, g0, g1, g2, hr⟩ := hs
  replace h := Option.some.inj h
  rw [h] at h0 hf g0 g1 g2 hr
  rw [formOf_op w 102 true false false false false false h0 rfl]
  simp [pmOf_eq, g0, lOf_eq, g1, formL, srcOf_eq]
theorem runs_pjoin (p : BitVec 2) (l r : BitVec 7) (hw : Instr.wf (.pjoin p l r) = true) (w : Word32)
    (h : encode (.pjoin p l r) = some w) : ∃ act, ∀ st, exec (.pjoin p l r) st = fire (formOf w) act st := by
  rw [form_pjoin p l r hw w h]
  exact ⟨_, fun st => by
    change Machine.execPjoin p l r st = _
    unfold execPjoin fireHeld; rfl⟩

theorem form_mxcfg (p : BitVec 2) (t : BitVec 9) (l r : BitVec 7) (hw : Instr.wf (.mxcfg p t l r) = true) (w : Word32)
    (h : encode (.mxcfg p t l r) = some w) : formOf w = (formRg p l r) := by
  have hs := shape_0 103 0xce000000 (by decide) (by decide) p t l r
  obtain ⟨h0, g0, g1, g2, g3, hr⟩ := hs
  replace h := Option.some.inj h
  rw [h] at h0 g0 g1 g2 g3 hr
  rw [formOf_op w 103 true true false false true false h0 rfl]
  have hl : ¬ l.toNat = 64 := by
    have hv : (pmOk p && regTargetOk t && groupSpecOk l) = true := hw
    simp [groupSpecOk] at hv; omega
  simp [pmOf_eq, g0, lOf_eq, g2, rOf_eq, g3, formRg, srcOf_eq, hl]
theorem runs_mxcfg (p : BitVec 2) (t : BitVec 9) (l r : BitVec 7) (hw : Instr.wf (.mxcfg p t l r) = true) (w : Word32)
    (h : encode (.mxcfg p t l r) = some w) : ∃ act, ∀ st, exec (.mxcfg p t l r) st = fire (formOf w) act st := by
  rw [form_mxcfg p t l r hw w h]
  exact ⟨_, fun st => by
    change Machine.execMxcfg p t l r st = _
    unfold execMxcfg fireHeld; rfl⟩

theorem form_mxjoin (p : BitVec 2) (l r : BitVec 7) (_hw : Instr.wf (.mxjoin p l r) = true) (w : Word32)
    (h : encode (.mxjoin p l r) = some w) : formOf w = (formL p l) := by
  have hs := shape_5 104 0xd0700000 (by decide) (by decide) p l r
  obtain ⟨h0, hf, g0, g1, g2, hr⟩ := hs
  replace h := Option.some.inj h
  rw [h] at h0 hf g0 g1 g2 hr
  rw [formOf_op w 104 true false false false false false h0 rfl]
  simp [pmOf_eq, g0, lOf_eq, g1, formL, srcOf_eq]
theorem runs_mxjoin (p : BitVec 2) (l r : BitVec 7) (hw : Instr.wf (.mxjoin p l r) = true) (w : Word32)
    (h : encode (.mxjoin p l r) = some w) : ∃ act, ∀ st, exec (.mxjoin p l r) st = fire (formOf w) act st := by
  rw [form_mxjoin p l r hw w h]
  exact ⟨_, fun st => by
    change Machine.execMxjoin p l r st = _
    unfold execMxjoin fireHeld; rfl⟩

theorem form_spalloc (p : BitVec 2) (t : BitVec 9) (l r : BitVec 7) (_hw : Instr.wf (.spalloc p t l r) = true) (w : Word32)
    (h : encode (.spalloc p t l r) = some w) : formOf w = (formR p l r) := by
  have hs := shape_0 105 0xd2000000 (by decide) (by decide) p t l r
  obtain ⟨h0, g0, g1, g2, g3, hr⟩ := hs
  replace h := Option.some.inj h
  rw [h] at h0 g0 g1 g2 g3 hr
  rw [formOf_op w 105 true true false false false false h0 rfl]
  simp [pmOf_eq, g0, lOf_eq, g2, rOf_eq, g3, formR, srcOf_eq]
theorem runs_spalloc (p : BitVec 2) (t : BitVec 9) (l r : BitVec 7) (hw : Instr.wf (.spalloc p t l r) = true) (w : Word32)
    (h : encode (.spalloc p t l r) = some w) : ∃ act, ∀ st, exec (.spalloc p t l r) st = fire (formOf w) act st := by
  rw [form_spalloc p t l r hw w h]
  exact ⟨_, fun st => by
    change Machine.execSpalloc p t l r st = _
    unfold execSpalloc fireHeld; rfl⟩

theorem form_spfree (p : BitVec 2) (t : BitVec 9) (l r : BitVec 7) (_hw : Instr.wf (.spfree p t l r) = true) (w : Word32)
    (h : encode (.spfree p t l r) = some w) : formOf w = (formL p l) := by
  have hs := shape_0 106 0xd4000000 (by decide) (by decide) p t l r
  obtain ⟨h0, g0, g1, g2, g3, hr⟩ := hs
  replace h := Option.some.inj h
  rw [h] at h0 g0 g1 g2 g3 hr
  rw [formOf_op w 106 true false false false false false h0 rfl]
  simp [pmOf_eq, g0, lOf_eq, g2, formL, srcOf_eq]
theorem runs_spfree (p : BitVec 2) (t : BitVec 9) (l r : BitVec 7) (hw : Instr.wf (.spfree p t l r) = true) (w : Word32)
    (h : encode (.spfree p t l r) = some w) : ∃ act, ∀ st, exec (.spfree p t l r) st = fire (formOf w) act st := by
  rw [form_spfree p t l r hw w h]
  exact ⟨_, fun st => by
    change Machine.execSpfree p t l r st = _
    unfold execSpfree; rfl⟩

theorem form_hmdecl (p : BitVec 2) (t : BitVec 9) (l r : BitVec 7) (_hw : Instr.wf (.hmdecl p t l r) = true) (w : Word32)
    (h : encode (.hmdecl p t l r) = some w) : formOf w = (formL p l) := by
  have hs := shape_0 107 0xd6000000 (by decide) (by decide) p t l r
  obtain ⟨h0, g0, g1, g2, g3, hr⟩ := hs
  replace h := Option.some.inj h
  rw [h] at h0 g0 g1 g2 g3 hr
  rw [formOf_op w 107 true false false false false false h0 rfl]
  simp [pmOf_eq, g0, lOf_eq, g2, formL, srcOf_eq]
theorem runs_hmdecl (p : BitVec 2) (t : BitVec 9) (l r : BitVec 7) (hw : Instr.wf (.hmdecl p t l r) = true) (w : Word32)
    (h : encode (.hmdecl p t l r) = some w) : ∃ act, ∀ st, exec (.hmdecl p t l r) st = fire (formOf w) act st := by
  rw [form_hmdecl p t l r hw w h]
  exact ⟨_, fun st => by
    change Machine.execHmdecl p t l r st = _
    unfold execHmdecl fireHeld; rfl⟩

theorem form_stamp (p : BitVec 2) (t : BitVec 9) (l r : BitVec 7) (_hw : Instr.wf (.stamp p t l r) = true) (w : Word32)
    (h : encode (.stamp p t l r) = some w) : formOf w = (formR p l r) := by
  have hs := shape_0 108 0xd8000000 (by decide) (by decide) p t l r
  obtain ⟨h0, g0, g1, g2, g3, hr⟩ := hs
  replace h := Option.some.inj h
  rw [h] at h0 g0 g1 g2 g3 hr
  rw [formOf_op w 108 true true false false false false h0 rfl]
  simp [pmOf_eq, g0, lOf_eq, g2, rOf_eq, g3, formR, srcOf_eq]
theorem runs_stamp (p : BitVec 2) (t : BitVec 9) (l r : BitVec 7) (hw : Instr.wf (.stamp p t l r) = true) (w : Word32)
    (h : encode (.stamp p t l r) = some w) : ∃ act, ∀ st, exec (.stamp p t l r) st = fire (formOf w) act st := by
  rw [form_stamp p t l r hw w h]
  exact ⟨_, fun st => by
    change Machine.execStamp p t l r st = _
    unfold execStamp fireHeld; rfl⟩

theorem form_await (p : BitVec 2) (l r : BitVec 7) (_hw : Instr.wf (.await p l r) = true) (w : Word32)
    (h : encode (.await p l r) = some w) : formOf w = (formR p l r) := by
  have hs := shape_5 109 0xda700000 (by decide) (by decide) p l r
  obtain ⟨h0, hf, g0, g1, g2, hr⟩ := hs
  replace h := Option.some.inj h
  rw [h] at h0 hf g0 g1 g2 hr
  rw [formOf_op w 109 true true false false false false h0 rfl]
  simp [pmOf_eq, g0, lOf_eq, g1, rOf_eq, g2, formR, srcOf_eq]
theorem runs_await (p : BitVec 2) (l r : BitVec 7) (hw : Instr.wf (.await p l r) = true) (w : Word32)
    (h : encode (.await p l r) = some w) : ∃ act, ∀ st, exec (.await p l r) st = fire (formOf w) act st := by
  rw [form_await p l r hw w h]
  exact ⟨_, fun st => by
    change Machine.execAwait p l r st = _
    unfold execAwait fireHeld; rfl⟩

theorem form_hmtest (p : BitVec 2) (t : BitVec 9) (l r : BitVec 7) (_hw : Instr.wf (.hmtest p t l r) = true) (w : Word32)
    (h : encode (.hmtest p t l r) = some w) : formOf w = (formR p l r) := by
  have hs := shape_0 110 0xdc000000 (by decide) (by decide) p t l r
  obtain ⟨h0, g0, g1, g2, g3, hr⟩ := hs
  replace h := Option.some.inj h
  rw [h] at h0 g0 g1 g2 g3 hr
  rw [formOf_op w 110 true true false false false false h0 rfl]
  simp [pmOf_eq, g0, lOf_eq, g2, rOf_eq, g3, formR, srcOf_eq]
theorem runs_hmtest (p : BitVec 2) (t : BitVec 9) (l r : BitVec 7) (hw : Instr.wf (.hmtest p t l r) = true) (w : Word32)
    (h : encode (.hmtest p t l r) = some w) : ∃ act, ∀ st, exec (.hmtest p t l r) st = fire (formOf w) act st := by
  rw [form_hmtest p t l r hw w h]
  exact ⟨_, fun st => by
    change Machine.execHmtest p t l r st = _
    unfold execHmtest; rfl⟩

theorem form_hmretire (p : BitVec 2) (t : BitVec 9) (l r : BitVec 7) (_hw : Instr.wf (.hmretire p t l r) = true) (w : Word32)
    (h : encode (.hmretire p t l r) = some w) : formOf w = (formL p l) := by
  have hs := shape_0 111 0xde000000 (by decide) (by decide) p t l r
  obtain ⟨h0, g0, g1, g2, g3, hr⟩ := hs
  replace h := Option.some.inj h
  rw [h] at h0 g0 g1 g2 g3 hr
  rw [formOf_op w 111 true false false false false false h0 rfl]
  simp [pmOf_eq, g0, lOf_eq, g2, formL, srcOf_eq]
theorem runs_hmretire (p : BitVec 2) (t : BitVec 9) (l r : BitVec 7) (hw : Instr.wf (.hmretire p t l r) = true) (w : Word32)
    (h : encode (.hmretire p t l r) = some w) : ∃ act, ∀ st, exec (.hmretire p t l r) st = fire (formOf w) act st := by
  rw [form_hmretire p t l r hw w h]
  exact ⟨_, fun st => by
    change Machine.execHmretire p t l r st = _
    unfold execHmretire fireHeld; rfl⟩

theorem form_kvmap (p : BitVec 2) (t : BitVec 9) (l r : BitVec 7) (_hw : Instr.wf (.kvmap p t l r) = true) (w : Word32)
    (h : encode (.kvmap p t l r) = some w) : formOf w = (formR p l r) := by
  have hs := shape_0 112 0xe0000000 (by decide) (by decide) p t l r
  obtain ⟨h0, g0, g1, g2, g3, hr⟩ := hs
  replace h := Option.some.inj h
  rw [h] at h0 g0 g1 g2 g3 hr
  rw [formOf_op w 112 true true false false false false h0 rfl]
  simp [pmOf_eq, g0, lOf_eq, g2, rOf_eq, g3, formR, srcOf_eq]
theorem runs_kvmap (p : BitVec 2) (t : BitVec 9) (l r : BitVec 7) (hw : Instr.wf (.kvmap p t l r) = true) (w : Word32)
    (h : encode (.kvmap p t l r) = some w) : ∃ act, ∀ st, exec (.kvmap p t l r) st = fire (formOf w) act st := by
  rw [form_kvmap p t l r hw w h]
  exact ⟨_, fun st => by
    change Machine.execKvmap p t l r st = _
    unfold execKvmap fireHeld; rfl⟩

theorem form_kvfork (p : BitVec 2) (t : BitVec 9) (l r : BitVec 7) (_hw : Instr.wf (.kvfork p t l r) = true) (w : Word32)
    (h : encode (.kvfork p t l r) = some w) : formOf w = (formR p l r) := by
  have hs := shape_0 113 0xe2000000 (by decide) (by decide) p t l r
  obtain ⟨h0, g0, g1, g2, g3, hr⟩ := hs
  replace h := Option.some.inj h
  rw [h] at h0 g0 g1 g2 g3 hr
  rw [formOf_op w 113 true true false false false false h0 rfl]
  simp [pmOf_eq, g0, lOf_eq, g2, rOf_eq, g3, formR, srcOf_eq]
theorem runs_kvfork (p : BitVec 2) (t : BitVec 9) (l r : BitVec 7) (hw : Instr.wf (.kvfork p t l r) = true) (w : Word32)
    (h : encode (.kvfork p t l r) = some w) : ∃ act, ∀ st, exec (.kvfork p t l r) st = fire (formOf w) act st := by
  rw [form_kvfork p t l r hw w h]
  exact ⟨_, fun st => by
    change Machine.execKvfork p t l r st = _
    unfold execKvfork fireHeld; rfl⟩

theorem form_kvappend (p : BitVec 2) (t : BitVec 9) (l r : BitVec 7) (_hw : Instr.wf (.kvappend p t l r) = true) (w : Word32)
    (h : encode (.kvappend p t l r) = some w) : formOf w = (formR p l r) := by
  have hs := shape_0 114 0xe4000000 (by decide) (by decide) p t l r
  obtain ⟨h0, g0, g1, g2, g3, hr⟩ := hs
  replace h := Option.some.inj h
  rw [h] at h0 g0 g1 g2 g3 hr
  rw [formOf_op w 114 true true false false false false h0 rfl]
  simp [pmOf_eq, g0, lOf_eq, g2, rOf_eq, g3, formR, srcOf_eq]
theorem runs_kvappend (p : BitVec 2) (t : BitVec 9) (l r : BitVec 7) (hw : Instr.wf (.kvappend p t l r) = true) (w : Word32)
    (h : encode (.kvappend p t l r) = some w) : ∃ act, ∀ st, exec (.kvappend p t l r) st = fire (formOf w) act st := by
  rw [form_kvappend p t l r hw w h]
  exact ⟨_, fun st => by
    change Machine.execKvappend p t l r st = _
    unfold execKvappend fireHeld; rfl⟩

theorem form_kvfree (p : BitVec 2) (t : BitVec 9) (l r : BitVec 7) (_hw : Instr.wf (.kvfree p t l r) = true) (w : Word32)
    (h : encode (.kvfree p t l r) = some w) : formOf w = (formL p l) := by
  have hs := shape_0 115 0xe6000000 (by decide) (by decide) p t l r
  obtain ⟨h0, g0, g1, g2, g3, hr⟩ := hs
  replace h := Option.some.inj h
  rw [h] at h0 g0 g1 g2 g3 hr
  rw [formOf_op w 115 true false false false false false h0 rfl]
  simp [pmOf_eq, g0, lOf_eq, g2, formL, srcOf_eq]
theorem runs_kvfree (p : BitVec 2) (t : BitVec 9) (l r : BitVec 7) (hw : Instr.wf (.kvfree p t l r) = true) (w : Word32)
    (h : encode (.kvfree p t l r) = some w) : ∃ act, ∀ st, exec (.kvfree p t l r) st = fire (formOf w) act st := by
  rw [form_kvfree p t l r hw w h]
  exact ⟨_, fun st => by
    change Machine.execKvfree p t l r st = _
    unfold execKvfree fireHeld; rfl⟩

theorem form_pfxh (p : BitVec 2) (t : BitVec 9) (l r : BitVec 7) (_hw : Instr.wf (.pfxh p t l r) = true) (w : Word32)
    (h : encode (.pfxh p t l r) = some w) : formOf w = (formR p l r) := by
  have hs := shape_0 116 0xe8000000 (by decide) (by decide) p t l r
  obtain ⟨h0, g0, g1, g2, g3, hr⟩ := hs
  replace h := Option.some.inj h
  rw [h] at h0 g0 g1 g2 g3 hr
  rw [formOf_op w 116 true true false false false false h0 rfl]
  simp [pmOf_eq, g0, lOf_eq, g2, rOf_eq, g3, formR, srcOf_eq]
theorem runs_pfxh (p : BitVec 2) (t : BitVec 9) (l r : BitVec 7) (hw : Instr.wf (.pfxh p t l r) = true) (w : Word32)
    (h : encode (.pfxh p t l r) = some w) : ∃ act, ∀ st, exec (.pfxh p t l r) st = fire (formOf w) act st := by
  rw [form_pfxh p t l r hw w h]
  exact ⟨_, fun st => by
    change Machine.execPfxh p t l r st = _
    unfold execPfxh fireValue; rfl⟩

theorem form_pfxlook (p : BitVec 2) (t : BitVec 9) (l r : BitVec 7) (_hw : Instr.wf (.pfxlook p t l r) = true) (w : Word32)
    (h : encode (.pfxlook p t l r) = some w) : formOf w = (formL p l) := by
  have hs := shape_0 117 0xea000000 (by decide) (by decide) p t l r
  obtain ⟨h0, g0, g1, g2, g3, hr⟩ := hs
  replace h := Option.some.inj h
  rw [h] at h0 g0 g1 g2 g3 hr
  rw [formOf_op w 117 true false false false false false h0 rfl]
  simp [pmOf_eq, g0, lOf_eq, g2, formL, srcOf_eq]
theorem runs_pfxlook (p : BitVec 2) (t : BitVec 9) (l r : BitVec 7) (hw : Instr.wf (.pfxlook p t l r) = true) (w : Word32)
    (h : encode (.pfxlook p t l r) = some w) : ∃ act, ∀ st, exec (.pfxlook p t l r) st = fire (formOf w) act st := by
  rw [form_pfxlook p t l r hw w h]
  exact ⟨_, fun st => by
    change Machine.execPfxlook p t l r st = _
    unfold execPfxlook fireHeld; rfl⟩

theorem form_pfxins (p : BitVec 2) (t : BitVec 9) (l r : BitVec 7) (_hw : Instr.wf (.pfxins p t l r) = true) (w : Word32)
    (h : encode (.pfxins p t l r) = some w) : formOf w = (formR p l r) := by
  have hs := shape_0 118 0xec000000 (by decide) (by decide) p t l r
  obtain ⟨h0, g0, g1, g2, g3, hr⟩ := hs
  replace h := Option.some.inj h
  rw [h] at h0 g0 g1 g2 g3 hr
  rw [formOf_op w 118 true true false false false false h0 rfl]
  simp [pmOf_eq, g0, lOf_eq, g2, rOf_eq, g3, formR, srcOf_eq]
theorem runs_pfxins (p : BitVec 2) (t : BitVec 9) (l r : BitVec 7) (hw : Instr.wf (.pfxins p t l r) = true) (w : Word32)
    (h : encode (.pfxins p t l r) = some w) : ∃ act, ∀ st, exec (.pfxins p t l r) st = fire (formOf w) act st := by
  rw [form_pfxins p t l r hw w h]
  exact ⟨_, fun st => by
    change Machine.execPfxins p t l r st = _
    unfold execPfxins fireHeld; rfl⟩

theorem form_splice (p : BitVec 2) (t : BitVec 9) (l r : BitVec 7) (hw : Instr.wf (.splice p t l r) = true) (w : Word32)
    (h : encode (.splice p t l r) = some w) : formOf w = (formRg p l r) := by
  have hs := shape_0 119 0xee000000 (by decide) (by decide) p t l r
  obtain ⟨h0, g0, g1, g2, g3, hr⟩ := hs
  replace h := Option.some.inj h
  rw [h] at h0 g0 g1 g2 g3 hr
  rw [formOf_op w 119 true true false false true false h0 rfl]
  have hl : ¬ l.toNat = 64 := by
    have hv : (pmOk p && regTargetOk t && groupSpecOk l) = true := hw
    simp [groupSpecOk] at hv; omega
  simp [pmOf_eq, g0, lOf_eq, g2, rOf_eq, g3, formRg, srcOf_eq, hl]
theorem runs_splice (p : BitVec 2) (t : BitVec 9) (l r : BitVec 7) (hw : Instr.wf (.splice p t l r) = true) (w : Word32)
    (h : encode (.splice p t l r) = some w) : ∃ act, ∀ st, exec (.splice p t l r) st = fire (formOf w) act st := by
  rw [form_splice p t l r hw w h]
  exact ⟨_, fun st => by
    change Machine.execSplice p t l r st = _
    unfold execSplice fireHeld; rfl⟩

theorem form_repair (p : BitVec 2) (t : BitVec 9) (l r : BitVec 7) (hw : Instr.wf (.repair p t l r) = true) (w : Word32)
    (h : encode (.repair p t l r) = some w) : formOf w = (formRg p l r) := by
  have hs := shape_0 120 0xf0000000 (by decide) (by decide) p t l r
  obtain ⟨h0, g0, g1, g2, g3, hr⟩ := hs
  replace h := Option.some.inj h
  rw [h] at h0 g0 g1 g2 g3 hr
  rw [formOf_op w 120 true true false false true false h0 rfl]
  have hl : ¬ l.toNat = 64 := by
    have hv : (pmOk p && regTargetOk t && groupSpecOk l) = true := hw
    simp [groupSpecOk] at hv; omega
  simp [pmOf_eq, g0, lOf_eq, g2, rOf_eq, g3, formRg, srcOf_eq, hl]
theorem runs_repair (p : BitVec 2) (t : BitVec 9) (l r : BitVec 7) (hw : Instr.wf (.repair p t l r) = true) (w : Word32)
    (h : encode (.repair p t l r) = some w) : ∃ act, ∀ st, exec (.repair p t l r) st = fire (formOf w) act st := by
  rw [form_repair p t l r hw w h]
  exact ⟨_, fun st => by
    change Machine.execRepair p t l r st = _
    unfold execRepair fireHeld; rfl⟩

theorem form_katt (p : BitVec 2) (t : BitVec 9) (l r : BitVec 7) (hw : Instr.wf (.katt p t l r) = true) (w : Word32)
    (h : encode (.katt p t l r) = some w) : formOf w = (formRg p l r) := by
  have hs := shape_0 121 0xf2000000 (by decide) (by decide) p t l r
  obtain ⟨h0, g0, g1, g2, g3, hr⟩ := hs
  replace h := Option.some.inj h
  rw [h] at h0 g0 g1 g2 g3 hr
  rw [formOf_op w 121 true true false false true false h0 rfl]
  have hl : ¬ l.toNat = 64 := by
    have hv : (pmOk p && regTargetOk t && groupSpecOk l) = true := hw
    simp [groupSpecOk] at hv; omega
  simp [pmOf_eq, g0, lOf_eq, g2, rOf_eq, g3, formRg, srcOf_eq, hl]
theorem runs_katt (p : BitVec 2) (t : BitVec 9) (l r : BitVec 7) (hw : Instr.wf (.katt p t l r) = true) (w : Word32)
    (h : encode (.katt p t l r) = some w) : ∃ act, ∀ st, exec (.katt p t l r) st = fire (formOf w) act st := by
  rw [form_katt p t l r hw w h]
  exact ⟨_, fun st => by
    change Machine.execKatt p t l r st = _
    unfold execKatt fireHeld; rfl⟩

theorem form_cacheopBinv (p : BitVec 2) (t : BitVec 9) (l r : BitVec 7) (_hw : Instr.wf (.cacheopBinv p t l r) = true) (w : Word32)
    (h : encode (.cacheopBinv p t l r) = some w) : formOf w = (formR p l r) := by
  have hs := shape_0 122 0xf4000000 (by decide) (by decide) p t l r
  obtain ⟨h0, g0, g1, g2, g3, hr⟩ := hs
  replace h := Option.some.inj h
  rw [h] at h0 g0 g1 g2 g3 hr
  rw [formOf_op w 122 true true false false false false h0 rfl]
  simp [pmOf_eq, g0, lOf_eq, g2, rOf_eq, g3, formR, srcOf_eq]
theorem runs_cacheopBinv (p : BitVec 2) (t : BitVec 9) (l r : BitVec 7) (hw : Instr.wf (.cacheopBinv p t l r) = true) (w : Word32)
    (h : encode (.cacheopBinv p t l r) = some w) : ∃ act, ∀ st, exec (.cacheopBinv p t l r) st = fire (formOf w) act st := by
  rw [form_cacheopBinv p t l r hw w h]
  exact ⟨_, fun st => by
    change Machine.execCacheopBinv p t l r st = _
    unfold execCacheopBinv fireHeld; rfl⟩

theorem form_cacheopBinvdie (p : BitVec 2) (t : BitVec 9) (l r : BitVec 7) (_hw : Instr.wf (.cacheopBinvdie p t l r) = true) (w : Word32)
    (h : encode (.cacheopBinvdie p t l r) = some w) : formOf w = (formR p l r) := by
  have hs := shape_0 122 0xf4000000 (by decide) (by decide) p t l r
  obtain ⟨h0, g0, g1, g2, g3, hr⟩ := hs
  replace h := Option.some.inj h
  rw [h] at h0 g0 g1 g2 g3 hr
  rw [formOf_op w 122 true true false false false false h0 rfl]
  simp [pmOf_eq, g0, lOf_eq, g2, rOf_eq, g3, formR, srcOf_eq]
theorem runs_cacheopBinvdie (p : BitVec 2) (t : BitVec 9) (l r : BitVec 7) (hw : Instr.wf (.cacheopBinvdie p t l r) = true) (w : Word32)
    (h : encode (.cacheopBinvdie p t l r) = some w) : ∃ act, ∀ st, exec (.cacheopBinvdie p t l r) st = fire (formOf w) act st := by
  rw [form_cacheopBinvdie p t l r hw w h]
  exact ⟨_, fun st => by
    change Machine.execCacheopBinvdie p t l r st = _
    unfold execCacheopBinvdie fireHeld; rfl⟩

theorem form_tlbopPage (p : BitVec 2) (t : BitVec 9) (l r : BitVec 7) (_hw : Instr.wf (.tlbopPage p t l r) = true) (w : Word32)
    (h : encode (.tlbopPage p t l r) = some w) : formOf w = (formR p l r) := by
  have hs := shape_0 123 0xf6000000 (by decide) (by decide) p t l r
  obtain ⟨h0, g0, g1, g2, g3, hr⟩ := hs
  replace h := Option.some.inj h
  rw [h] at h0 g0 g1 g2 g3 hr
  rw [formOf_op w 123 true true false false false false h0 rfl]
  simp [pmOf_eq, g0, lOf_eq, g2, rOf_eq, g3, formR, srcOf_eq]
theorem runs_tlbopPage (p : BitVec 2) (t : BitVec 9) (l r : BitVec 7) (hw : Instr.wf (.tlbopPage p t l r) = true) (w : Word32)
    (h : encode (.tlbopPage p t l r) = some w) : ∃ act, ∀ st, exec (.tlbopPage p t l r) st = fire (formOf w) act st := by
  rw [form_tlbopPage p t l r hw w h]
  exact ⟨_, fun st => by
    change Machine.execTlbopPage p t l r st = _
    unfold execTlbopPage fireHeld; rfl⟩

theorem form_tlbopAll (p : BitVec 2) (t : BitVec 9) (l r : BitVec 7) (_hw : Instr.wf (.tlbopAll p t l r) = true) (w : Word32)
    (h : encode (.tlbopAll p t l r) = some w) : formOf w = (formR p l r) := by
  have hs := shape_0 123 0xf6000000 (by decide) (by decide) p t l r
  obtain ⟨h0, g0, g1, g2, g3, hr⟩ := hs
  replace h := Option.some.inj h
  rw [h] at h0 g0 g1 g2 g3 hr
  rw [formOf_op w 123 true true false false false false h0 rfl]
  simp [pmOf_eq, g0, lOf_eq, g2, rOf_eq, g3, formR, srcOf_eq]
theorem runs_tlbopAll (p : BitVec 2) (t : BitVec 9) (l r : BitVec 7) (hw : Instr.wf (.tlbopAll p t l r) = true) (w : Word32)
    (h : encode (.tlbopAll p t l r) = some w) : ∃ act, ∀ st, exec (.tlbopAll p t l r) st = fire (formOf w) act st := by
  rw [form_tlbopAll p t l r hw w h]
  exact ⟨_, fun st => by
    change Machine.execTlbopAll p t l r st = _
    unfold execTlbopAll fireHeld; rfl⟩

theorem form_traceMark (p : BitVec 2) (t : BitVec 9) (l r : BitVec 7) (_hw : Instr.wf (.traceMark p t l r) = true) (w : Word32)
    (h : encode (.traceMark p t l r) = some w) : formOf w = (formR p l r) := by
  have hs := shape_0 124 0xf8000000 (by decide) (by decide) p t l r
  obtain ⟨h0, g0, g1, g2, g3, hr⟩ := hs
  replace h := Option.some.inj h
  rw [h] at h0 g0 g1 g2 g3 hr
  rw [formOf_op w 124 true true false false false false h0 rfl]
  simp [pmOf_eq, g0, lOf_eq, g2, rOf_eq, g3, formR, srcOf_eq]
theorem runs_traceMark (p : BitVec 2) (t : BitVec 9) (l r : BitVec 7) (hw : Instr.wf (.traceMark p t l r) = true) (w : Word32)
    (h : encode (.traceMark p t l r) = some w) : ∃ act, ∀ st, exec (.traceMark p t l r) st = fire (formOf w) act st := by
  rw [form_traceMark p t l r hw w h]
  exact ⟨_, fun st => by
    change Machine.execTraceMark p t l r st = _
    unfold execTraceMark fireHeld; rfl⟩

theorem form_traceFreeze (p : BitVec 2) (t : BitVec 9) (l r : BitVec 7) (_hw : Instr.wf (.traceFreeze p t l r) = true) (w : Word32)
    (h : encode (.traceFreeze p t l r) = some w) : formOf w = (formR p l r) := by
  have hs := shape_0 124 0xf8000000 (by decide) (by decide) p t l r
  obtain ⟨h0, g0, g1, g2, g3, hr⟩ := hs
  replace h := Option.some.inj h
  rw [h] at h0 g0 g1 g2 g3 hr
  rw [formOf_op w 124 true true false false false false h0 rfl]
  simp [pmOf_eq, g0, lOf_eq, g2, rOf_eq, g3, formR, srcOf_eq]
theorem runs_traceFreeze (p : BitVec 2) (t : BitVec 9) (l r : BitVec 7) (hw : Instr.wf (.traceFreeze p t l r) = true) (w : Word32)
    (h : encode (.traceFreeze p t l r) = some w) : ∃ act, ∀ st, exec (.traceFreeze p t l r) st = fire (formOf w) act st := by
  rw [form_traceFreeze p t l r hw w h]
  exact ⟨_, fun st => by
    change Machine.execTraceFreeze p t l r st = _
    unfold execTraceFreeze fireHeld; rfl⟩

theorem form_traceThaw (p : BitVec 2) (t : BitVec 9) (l r : BitVec 7) (_hw : Instr.wf (.traceThaw p t l r) = true) (w : Word32)
    (h : encode (.traceThaw p t l r) = some w) : formOf w = (formR p l r) := by
  have hs := shape_0 124 0xf8000000 (by decide) (by decide) p t l r
  obtain ⟨h0, g0, g1, g2, g3, hr⟩ := hs
  replace h := Option.some.inj h
  rw [h] at h0 g0 g1 g2 g3 hr
  rw [formOf_op w 124 true true false false false false h0 rfl]
  simp [pmOf_eq, g0, lOf_eq, g2, rOf_eq, g3, formR, srcOf_eq]
theorem runs_traceThaw (p : BitVec 2) (t : BitVec 9) (l r : BitVec 7) (hw : Instr.wf (.traceThaw p t l r) = true) (w : Word32)
    (h : encode (.traceThaw p t l r) = some w) : ∃ act, ∀ st, exec (.traceThaw p t l r) st = fire (formOf w) act st := by
  rw [form_traceThaw p t l r hw w h]
  exact ⟨_, fun st => by
    change Machine.execTraceThaw p t l r st = _
    unfold execTraceThaw fireHeld; rfl⟩

theorem form_migrate (p : BitVec 2) (t : BitVec 9) (l r : BitVec 7) (_hw : Instr.wf (.migrate p t l r) = true) (w : Word32)
    (h : encode (.migrate p t l r) = some w) : formOf w = (formR p l r) := by
  have hs := shape_0 125 0xfa000000 (by decide) (by decide) p t l r
  obtain ⟨h0, g0, g1, g2, g3, hr⟩ := hs
  replace h := Option.some.inj h
  rw [h] at h0 g0 g1 g2 g3 hr
  rw [formOf_op w 125 true true false false false false h0 rfl]
  simp [pmOf_eq, g0, lOf_eq, g2, rOf_eq, g3, formR, srcOf_eq]
theorem runs_migrate (p : BitVec 2) (t : BitVec 9) (l r : BitVec 7) (hw : Instr.wf (.migrate p t l r) = true) (w : Word32)
    (h : encode (.migrate p t l r) = some w) : ∃ act, ∀ st, exec (.migrate p t l r) st = fire (formOf w) act st := by
  rw [form_migrate p t l r hw w h]
  exact ⟨_, fun st => by
    change Machine.execMigrate p t l r st = _
    unfold execMigrate fireHeld; rfl⟩

theorem form_haltStop (p : BitVec 2) (t : BitVec 9) (l r : BitVec 7) (_hw : Instr.wf (.haltStop p t l r) = true) (w : Word32)
    (h : encode (.haltStop p t l r) = some w) : formOf w = (formR p l r) := by
  have hs := shape_0 126 0xfc000000 (by decide) (by decide) p t l r
  obtain ⟨h0, g0, g1, g2, g3, hr⟩ := hs
  replace h := Option.some.inj h
  rw [h] at h0 g0 g1 g2 g3 hr
  rw [formOf_op w 126 true true false false false false h0 rfl]
  simp [pmOf_eq, g0, lOf_eq, g2, rOf_eq, g3, formR, srcOf_eq]
theorem runs_haltStop (p : BitVec 2) (t : BitVec 9) (l r : BitVec 7) (hw : Instr.wf (.haltStop p t l r) = true) (w : Word32)
    (h : encode (.haltStop p t l r) = some w) : ∃ act, ∀ st, exec (.haltStop p t l r) st = fire (formOf w) act st := by
  rw [form_haltStop p t l r hw w h]
  exact ⟨_, fun st => by
    change Machine.execHaltStop p t l r st = _
    unfold execHaltStop fireHeld; rfl⟩

theorem form_haltGo (p : BitVec 2) (t : BitVec 9) (l r : BitVec 7) (_hw : Instr.wf (.haltGo p t l r) = true) (w : Word32)
    (h : encode (.haltGo p t l r) = some w) : formOf w = (formR p l r) := by
  have hs := shape_0 126 0xfc000000 (by decide) (by decide) p t l r
  obtain ⟨h0, g0, g1, g2, g3, hr⟩ := hs
  replace h := Option.some.inj h
  rw [h] at h0 g0 g1 g2 g3 hr
  rw [formOf_op w 126 true true false false false false h0 rfl]
  simp [pmOf_eq, g0, lOf_eq, g2, rOf_eq, g3, formR, srcOf_eq]
theorem runs_haltGo (p : BitVec 2) (t : BitVec 9) (l r : BitVec 7) (hw : Instr.wf (.haltGo p t l r) = true) (w : Word32)
    (h : encode (.haltGo p t l r) = some w) : ∃ act, ∀ st, exec (.haltGo p t l r) st = fire (formOf w) act st := by
  rw [form_haltGo p t l r hw w h]
  exact ⟨_, fun st => by
    change Machine.execHaltGo p t l r st = _
    unfold execHaltGo fireHeld; rfl⟩

/-- Every instruction of a block fires in the form its word has. -/
theorem runs (i : Instr) (hh : i.home = .block) (hw : i.wf = true) (w : Word32) (h : encode i = some w) :
    ∃ act, ∀ s, exec i s = fire (formOf w) act s := by
  cases i with
  | add p t l r => exact runs_add p t l r hw w h
  | sub p t l r => exact runs_sub p t l r hw w h
  | mul p t l r => exact runs_mul p t l r hw w h
  | mulh p t l r => exact runs_mulh p t l r hw w h
  | mulhu p t l r => exact runs_mulhu p t l r hw w h
  | div p t l r => exact runs_div p t l r hw w h
  | divu p t l r => exact runs_divu p t l r hw w h
  | rem p t l r => exact runs_rem p t l r hw w h
  | remu p t l r => exact runs_remu p t l r hw w h
  | and p t l r => exact runs_and p t l r hw w h
  | or p t l r => exact runs_or p t l r hw w h
  | xor p t l r => exact runs_xor p t l r hw w h
  | andn p t l r => exact runs_andn p t l r hw w h
  | shl p t l r => exact runs_shl p t l r hw w h
  | shr p t l r => exact runs_shr p t l r hw w h
  | sar p t l r => exact runs_sar p t l r hw w h
  | rotl p t l r => exact runs_rotl p t l r hw w h
  | min p t l r => exact runs_min p t l r hw w h
  | max p t l r => exact runs_max p t l r hw w h
  | minu p t l r => exact runs_minu p t l r hw w h
  | maxu p t l r => exact runs_maxu p t l r hw w h
  | shadd1 t l r => exact runs_shadd1 t l r hw w h
  | shadd2 t l r => exact runs_shadd2 t l r hw w h
  | shadd3 t l r => exact runs_shadd3 t l r hw w h
  | shadd4 t l r => exact runs_shadd4 t l r hw w h
  | clz p t l r => exact runs_clz p t l r hw w h
  | ctz p t l r => exact runs_ctz p t l r hw w h
  | popc p t l r => exact runs_popc p t l r hw w h
  | sext p t l r => exact runs_sext p t l r hw w h
  | zext p t l r => exact runs_zext p t l r hw w h
  | addw p t l r => exact runs_addw p t l r hw w h
  | ceq p t l r => exact runs_ceq p t l r hw w h
  | cne p t l r => exact runs_cne p t l r hw w h
  | clt p t l r => exact runs_clt p t l r hw w h
  | cltu p t l r => exact runs_cltu p t l r hw w h
  | cle p t l r => exact runs_cle p t l r hw w h
  | cleu p t l r => exact runs_cleu p t l r hw w h
  | tz p t l r => exact runs_tz p t l r hw w h
  | tnz p t l r => exact runs_tnz p t l r hw w h
  | sel t l r => exact runs_sel t l r hw w h
  | not p t l r => exact runs_not p t l r hw w h
  | const p t i => exact runs_const p t i hw w h
  | constx p t i => exact runs_constx p t i hw w h
  | mov p t l r => exact runs_mov p t l r hw w h
  | fan p t u => exact runs_fan p t u hw w h
  | srrd p t n => exact runs_srrd p t n hw w h
  | srwr p t n => exact runs_srwr p t n hw w h
  | bri p o => exact runs_bri p o hw w h
  | br p l r => exact runs_br p l r hw w h
  | calli p o => exact runs_calli p o hw w h
  | call p l r => exact runs_call p l r hw w h
  | exit p l r => exact runs_exit p l r hw w h
  | yield p l r => exact runs_yield p l r hw w h
  | trap p i => exact runs_trap p i hw w h
  | eret p l r => exact runs_eret p l r hw w h
  | fadd p t l r => exact runs_fadd p t l r hw w h
  | fsub p t l r => exact runs_fsub p t l r hw w h
  | fmul p t l r => exact runs_fmul p t l r hw w h
  | fdiv p t l r => exact runs_fdiv p t l r hw w h
  | fmin p t l r => exact runs_fmin p t l r hw w h
  | fmax p t l r => exact runs_fmax p t l r hw w h
  | fclt p t l r => exact runs_fclt p t l r hw w h
  | fceq p t l r => exact runs_fceq p t l r hw w h
  | fcle p t l r => exact runs_fcle p t l r hw w h
  | cvtif p t l r => exact runs_cvtif p t l r hw w h
  | cvtfi p t l r => exact runs_cvtfi p t l r hw w h
  | fsqrt p t l r => exact runs_fsqrt p t l r hw w h
  | ld8 p t l r => exact runs_ld8 p t l r hw w h
  | ld8s p t l r => exact runs_ld8s p t l r hw w h
  | ld16 p t l r => exact runs_ld16 p t l r hw w h
  | ld16s p t l r => exact runs_ld16s p t l r hw w h
  | ld32 p t l r => exact runs_ld32 p t l r hw w h
  | ld32s p t l r => exact runs_ld32s p t l r hw w h
  | ld64 p t l r => exact runs_ld64 p t l r hw w h
  | ldaq p t l s x z => exact runs_ldaq p t l s x z hw w h
  | st8 p o l r => exact runs_st8 p o l r hw w h
  | st16 p o l r => exact runs_st16 p o l r hw w h
  | st32 p o l r => exact runs_st32 p o l r hw w h
  | st64 p o l r => exact runs_st64 p o l r hw w h
  | strl p l s z => exact runs_strl p l s z hw w h
  | amo64 p t l s k o => exact runs_amo64 p t l s k o hw w h
  | amo32 p t l s k o => exact runs_amo32 p t l s k o hw w h
  | cas64 t l s k => exact runs_cas64 t l s k hw w h
  | fence p l s e k => exact runs_fence p l s e k hw w h
  | sbar p l => exact runs_sbar p l hw w h
  | pref p l r => exact runs_pref p l r hw w h
  | spawn p t l r => exact runs_spawn p t l r hw w h
  | joindec p t l r => exact runs_joindec p t l r hw w h
  | gang p t l r => exact runs_gang p t l r hw w h
  | rvinit p t l r => exact runs_rvinit p t l r hw w h
  | arrive p t l r => exact runs_arrive p t l r hw w h
  | wait p l r => exact runs_wait p l r hw w h
  | est p t l r => exact runs_est p t l r hw w h
  | progress p t l r => exact runs_progress p t l r hw w h
  | graphgo p t l r => exact runs_graphgo p t l r hw w h
  | mload p t l r => exact runs_mload p t l r hw w h
  | mstart p t l r => exact runs_mstart p t l r hw w h
  | mstopDrain p t l r => exact runs_mstopDrain p t l r hw w h
  | mstopAbort p t l r => exact runs_mstopAbort p t l r hw w h
  | inject p t l r => exact runs_inject p t l r hw w h
  | collect p t l r => exact runs_collect p t l r hw w h
  | pourLoadt p t l r => exact runs_pourLoadt p t l r hw w h
  | pourStart p t l r => exact runs_pourStart p t l r hw w h
  | pjoin p l r => exact runs_pjoin p l r hw w h
  | mxcfg p t l r => exact runs_mxcfg p t l r hw w h
  | mxjoin p l r => exact runs_mxjoin p l r hw w h
  | spalloc p t l r => exact runs_spalloc p t l r hw w h
  | spfree p t l r => exact runs_spfree p t l r hw w h
  | hmdecl p t l r => exact runs_hmdecl p t l r hw w h
  | stamp p t l r => exact runs_stamp p t l r hw w h
  | await p l r => exact runs_await p l r hw w h
  | hmtest p t l r => exact runs_hmtest p t l r hw w h
  | hmretire p t l r => exact runs_hmretire p t l r hw w h
  | kvmap p t l r => exact runs_kvmap p t l r hw w h
  | kvfork p t l r => exact runs_kvfork p t l r hw w h
  | kvappend p t l r => exact runs_kvappend p t l r hw w h
  | kvfree p t l r => exact runs_kvfree p t l r hw w h
  | pfxh p t l r => exact runs_pfxh p t l r hw w h
  | pfxlook p t l r => exact runs_pfxlook p t l r hw w h
  | pfxins p t l r => exact runs_pfxins p t l r hw w h
  | splice p t l r => exact runs_splice p t l r hw w h
  | repair p t l r => exact runs_repair p t l r hw w h
  | katt p t l r => exact runs_katt p t l r hw w h
  | cacheopBinv p t l r => exact runs_cacheopBinv p t l r hw w h
  | cacheopBinvdie p t l r => exact runs_cacheopBinvdie p t l r hw w h
  | tlbopPage p t l r => exact runs_tlbopPage p t l r hw w h
  | tlbopAll p t l r => exact runs_tlbopAll p t l r hw w h
  | traceMark p t l r => exact runs_traceMark p t l r hw w h
  | traceFreeze p t l r => exact runs_traceFreeze p t l r hw w h
  | traceThaw p t l r => exact runs_traceThaw p t l r hw w h
  | migrate p t l r => exact runs_migrate p t l r hw w h
  | haltStop p t l r => exact runs_haltStop p t l r hw w h
  | haltGo p t l r => exact runs_haltGo p t l r hw w h
  | pass _ => exact nomatch hh
  | iadd _ _ _ _ _ => exact nomatch hh
  | isub _ _ _ _ _ => exact nomatch hh
  | imul _ _ _ _ _ => exact nomatch hh
  | imulh _ _ _ _ _ _ => exact nomatch hh
  | iand _ _ _ _ _ => exact nomatch hh
  | ior _ _ _ _ _ => exact nomatch hh
  | ixor _ _ _ _ _ => exact nomatch hh
  | ishl _ _ _ _ _ => exact nomatch hh
  | ishr _ _ _ _ _ => exact nomatch hh
  | isar _ _ _ _ _ => exact nomatch hh
  | imin _ _ _ _ _ => exact nomatch hh
  | imax _ _ _ _ _ => exact nomatch hh
  | iminu _ _ _ _ _ => exact nomatch hh
  | imaxu _ _ _ _ _ => exact nomatch hh
  | icmp _ _ _ _ _ _ => exact nomatch hh
  | ihash _ _ _ _ _ => exact nomatch hh
  | isel _ _ _ _ _ => exact nomatch hh
  | ipopc _ _ _ => exact nomatch hh
  | stageFadd _ _ _ _ _ _ => exact nomatch hh
  | stageFsub _ _ _ _ _ _ => exact nomatch hh
  | stageFmul _ _ _ _ _ _ => exact nomatch hh
  | ffma _ _ _ _ _ _ => exact nomatch hh
  | stageFmin _ _ _ _ _ => exact nomatch hh
  | stageFmax _ _ _ _ _ => exact nomatch hh
  | fcmp _ _ _ _ _ _ => exact nomatch hh
  | fexp2 _ _ _ => exact nomatch hh
  | frcp _ _ _ => exact nomatch hh
  | frsq _ _ _ => exact nomatch hh
  | cvt _ _ _ _ _ _ _ => exact nomatch hh
  | cvtb4 _ _ _ _ _ => exact nomatch hh
  | fabsn _ _ _ _ _ _ => exact nomatch hh
  | lshuf _ _ _ _ => exact nomatch hh
  | lbcast _ _ _ => exact nomatch hh
  | lscan _ _ _ _ => exact nomatch hh
  | lred _ _ _ _ => exact nomatch hh
  | lcompact => exact nomatch hh
  | filter _ => exact nomatch hh
  | fork _ _ _ _ _ => exact nomatch hh
  | recirc _ => exact nomatch hh
  | steer _ => exact nomatch hh
  | merge => exact nomatch hh
  | reord => exact nomatch hh
  | gen _ _ _ _ _ => exact nomatch hh
  | seqtag => exact nomatch hh
  | isect _ _ => exact nomatch hh
  | spld _ _ _ _ _ _ => exact nomatch hh
  | spst _ _ _ _ _ _ => exact nomatch hh
  | spamo _ _ _ _ _ _ => exact nomatch hh
  | spfill _ _ _ _ _ _ => exact nomatch hh
  | spmark _ _ _ _ _ => exact nomatch hh
  | mld _ _ _ _ _ _ _ => exact nomatch hh
  | mst _ _ _ _ _ _ => exact nomatch hh
  | mgath _ _ _ _ => exact nomatch hh
  | mscat _ _ _ _ => exact nomatch hh
  | sbars _ _ _ => exact nomatch hh
  | trswap _ _ => exact nomatch hh
  | trload _ _ _ _ _ _ => exact nomatch hh
  | trmv _ _ _ => exact nomatch hh
  | pkout _ _ => exact nomatch hh
  | pkin _ => exact nomatch hh
  | tmerge => exact nomatch hh
  | b4dec _ _ => exact nomatch hh
  | softacc _ _ _ _ _ _ _ => exact nomatch hh
  | sink => exact nomatch hh
  | token _ => exact nomatch hh
  | blockFetch _ => exact nomatch hh
  | readDeliver _ _ => exact nomatch hh
  | blockCommit _ => exact nomatch hh
  | bufferedWriteResume _ => exact nomatch hh
  | blockHang _ => exact nomatch hh
  | waitPhaseReached _ => exact nomatch hh
  | awaitComplete _ => exact nomatch hh
  | pjoinComplete _ => exact nomatch hh
  | mxjoinComplete _ => exact nomatch hh
  | taskRetire _ => exact nomatch hh
  | yieldRequeue _ => exact nomatch hh
  | taskPop _ => exact nomatch hh
  | gangPlace _ => exact nomatch hh
  | preemptConsider _ => exact nomatch hh
  | checkpointComplete _ => exact nomatch hh
  | launchOpen _ => exact nomatch hh
  | heldTaskRelease _ => exact nomatch hh
  | launchFinish _ => exact nomatch hh
  | triggerRegisterWrite _ => exact nomatch hh
  | graphRunStart _ => exact nomatch hh
  | sprueTrigger _ => exact nomatch hh
  | dispatchStop _ _ => exact nomatch hh
  | dispatchGo _ _ => exact nomatch hh
  | attest _ => exact nomatch hh
  | telemetry _ => exact nomatch hh
  | logread => exact nomatch hh
  | logclear _ _ => exact nomatch hh
  | accessRead _ _ => exact nomatch hh
  | accessWrite _ _ _ => exact nomatch hh
  | specialRegisterWrite _ => exact nomatch hh
  | mouldLoadDone _ _ => exact nomatch hh
  | mouldComplete _ _ => exact nomatch hh
  | stageAccessComplete _ => exact nomatch hh
  | tokenArrive _ _ _ => exact nomatch hh
  | quantumExpiry _ _ => exact nomatch hh
  | mxcfgArm _ => exact nomatch hh
  | passStart _ _ => exact nomatch hh
  | operandRelease _ _ _ => exact nomatch hh
  | passAccumulate _ _ _ => exact nomatch hh
  | writeOut _ _ => exact nomatch hh
  | ladleTransferStart _ _ => exact nomatch hh
  | decompBlock _ _ => exact nomatch hh
  | ladleTransferComplete _ _ => exact nomatch hh
  | ladleDoorbellWrite _ _ _ => exact nomatch hh
  | remoteHallmarkQuery _ _ _ => exact nomatch hh
  | remoteHallmarkReport _ _ _ => exact nomatch hh
  | spliceRun _ => exact nomatch hh
  | spliceAbsentTimeout _ => exact nomatch hh
  | repairStart _ => exact nomatch hh
  | repairTaskRetired _ => exact nomatch hh
  | crucibleBlock _ _ _ => exact nomatch hh
  | kattRevisit _ _ _ => exact nomatch hh
  | kattAbsentTimeout _ _ => exact nomatch hh
  | kattComplete _ => exact nomatch hh
  | watchdogFire _ => exact nomatch hh
  | slotctlThaw _ => exact nomatch hh
  | slotctlKill _ => exact nomatch hh
  | slotctlRequeue _ => exact nomatch hh
  | ctxswSave _ => exact nomatch hh
  | ctxswRestore _ => exact nomatch hh
  | ctxswComplete => exact nomatch hh
  | tracectlFreeze _ => exact nomatch hh
  | tracectlThaw _ => exact nomatch hh
  | tracePostFreeze _ => exact nomatch hh
  | scrub _ _ _ => exact nomatch hh
  | pageWalk _ _ => exact nomatch hh
  | lineFill _ _ _ => exact nomatch hh
  | sliceRetry _ _ => exact nomatch hh
  | sliceLeaveService _ _ => exact nomatch hh
  | shootdownComplete _ => exact nomatch hh
  | blockInvalidateComplete _ => exact nomatch hh
  | wbRewalk _ => exact nomatch hh
  | migrationCopyDone _ => exact nomatch hh
  | migrationFinish _ => exact nomatch hh
  | peerAccessIn _ _ _ _ _ => exact nomatch hh
  | linkRetransmit _ => exact nomatch hh
  | linkOutOfService _ => exact nomatch hh
  | linkPathTimeout _ _ => exact nomatch hh
  | edgeFailure _ => exact nomatch hh
  | partFailure _ _ => exact nomatch hh
  | powerThrottle _ _ => exact nomatch hh
  | startController _ _ _ _ => exact nomatch hh
  | dieOpen _ _ _ _ _ _ _ _ => exact nomatch hh
  | edgeTraining _ _ => exact nomatch hh
  | linkTraining _ _ => exact nomatch hh
  | fenceScComplete _ => exact nomatch hh
  | writeVisibleOnDie _ _ => exact nomatch hh


end Sys2Proof.Laws
end

