-- ==== Sys2Proof/Laws/Smap.lean ====
section
/-! SUPPORT. What a sparse table reads after a write, and that every table operation keeps the canonical form. -/

namespace Sys2Proof.Laws

open Sys2Proof.Machine

variable {α : Type}

theorem find_insert_same (m : Smap α) (k : Nat) (v : α) : Smap.find (Smap.insert m k v) k = some v := by
  induction m with
  | nil => simp [Smap.insert, Smap.find]
  | cons e m ih =>
    obtain ⟨j, w⟩ := e
    simp only [Smap.insert]
    split
    · simp [Smap.find]
    · split
      · simp [Smap.find]
      · rename_i h1 h2
        simp [Smap.find, h1, h2, ih]

theorem find_insert_ne (m : Smap α) (k j : Nat) (v : α) (h : j ≠ k) : Smap.find (Smap.insert m k v) j = Smap.find m j := by
  induction m with
  | nil => simp [Smap.insert, Smap.find]; omega
  | cons e m ih =>
    obtain ⟨i, w⟩ := e
    simp only [Smap.insert]
    split
    · rename_i h1; subst h1
      simp [Smap.find, Ne.symm h]
    · split
      · rename_i h1 h2
        simp only [Smap.find]
        split
        · omega
        · split
          · rename_i h3 h4
            split
            · omega
            · simp [show j < i by omega]
          · rfl
      · simp only [Smap.find, ih]

theorem find_eq_none_of_lt (m : Smap α) (lo k : Nat) (hs : Smap.sortedFrom lo m = true) (h : k < lo) : Smap.find m k = none := by
  cases m with
  | nil => rfl
  | cons e m =>
    obtain ⟨j, w⟩ := e
    simp only [Smap.sortedFrom, Bool.and_eq_true, decide_eq_true_eq] at hs
    simp only [Smap.find]
    rw [if_neg (by omega), if_pos (by omega)]

theorem sortedFrom_mono (m : Smap α) (lo lo' : Nat) (h : lo' ≤ lo) (hs : Smap.sortedFrom lo m = true) : Smap.sortedFrom lo' m = true := by
  cases m with
  | nil => rfl
  | cons e m =>
    obtain ⟨j, w⟩ := e
    simp only [Smap.sortedFrom, Bool.and_eq_true, decide_eq_true_eq] at *
    exact ⟨by omega, hs.2⟩

theorem sortedFrom_insert (m : Smap α) (lo k : Nat) (v : α) (hs : Smap.sortedFrom lo m = true) (h : lo ≤ k) :
    Smap.sortedFrom lo (Smap.insert m k v) = true := by
  induction m generalizing lo with
  | nil => simp [Smap.insert, Smap.sortedFrom, h]
  | cons e m ih =>
    obtain ⟨j, w⟩ := e
    simp only [Smap.sortedFrom, Bool.and_eq_true, decide_eq_true_eq] at hs
    simp only [Smap.insert]
    split
    · rename_i h1; subst h1
      simp [Smap.sortedFrom, h, hs.2]
    · split
      · simp only [Smap.sortedFrom, Bool.and_eq_true, decide_eq_true_eq]
        exact ⟨h, by omega, hs.2⟩
      · simp only [Smap.sortedFrom, Bool.and_eq_true, decide_eq_true_eq]
        exact ⟨hs.1, ih (j + 1) hs.2 (by omega)⟩

theorem sortedFrom_erase (m : Smap α) (lo k : Nat) (hs : Smap.sortedFrom lo m = true) : Smap.sortedFrom lo (Smap.erase m k) = true := by
  induction m generalizing lo with
  | nil => rfl
  | cons e m ih =>
    obtain ⟨j, w⟩ := e
    simp only [Smap.sortedFrom, Bool.and_eq_true, decide_eq_true_eq] at hs
    simp only [Smap.erase]
    split
    · exact sortedFrom_mono m (j + 1) lo (by omega) hs.2
    · split
      · simp [Smap.sortedFrom, hs]
      · simp only [Smap.sortedFrom, Bool.and_eq_true, decide_eq_true_eq]
        exact ⟨hs.1, ih (j + 1) hs.2⟩

theorem find_erase_same (m : Smap α) (lo k : Nat) (hs : Smap.sortedFrom lo m = true) : Smap.find (Smap.erase m k) k = none := by
  induction m generalizing lo with
  | nil => rfl
  | cons e m ih =>
    obtain ⟨j, w⟩ := e
    simp only [Smap.sortedFrom, Bool.and_eq_true, decide_eq_true_eq] at hs
    simp only [Smap.erase]
    split
    · rename_i h; subst h
      exact find_eq_none_of_lt m (j + 1) j hs.2 (by omega)
    · split
      · rename_i h1 h2; simp [Smap.find, h1, h2]
      · rename_i h1 h2; simp [Smap.find, h1, h2, ih (j + 1) hs.2]

theorem find_erase_ne (m : Smap α) (lo k i : Nat) (hs : Smap.sortedFrom lo m = true) (h : i ≠ k) :
    Smap.find (Smap.erase m k) i = Smap.find m i := by
  induction m generalizing lo with
  | nil => rfl
  | cons e m ih =>
    obtain ⟨j, w⟩ := e
    simp only [Smap.sortedFrom, Bool.and_eq_true, decide_eq_true_eq] at hs
    simp only [Smap.erase]
    split
    · rename_i h1; subst h1
      simp only [Smap.find]
      rw [if_neg (Ne.symm h)]
      split
      · exact find_eq_none_of_lt m (j + 1) i hs.2 (by omega)
      · rfl
    · split
      · rfl
      · simp only [Smap.find, ih (j + 1) hs.2]

theorem all_insert (m : Smap α) (k : Nat) (v : α) (p : Nat × α → Bool) (hm : m.all p = true) (hv : p (k, v) = true) :
    (Smap.insert m k v).all p = true := by
  induction m with
  | nil => simpa [Smap.insert] using hv
  | cons e m ih =>
    obtain ⟨j, w⟩ := e
    simp only [List.all_cons, Bool.and_eq_true] at hm
    simp only [Smap.insert]
    split
    · simp [hv, hm.2]
    · split
      · simp [hv, hm.1, hm.2]
      · simp [hm.1, ih hm.2]

theorem all_erase (m : Smap α) (k : Nat) (p : Nat × α → Bool) (hm : m.all p = true) : (Smap.erase m k).all p = true := by
  induction m with
  | nil => rfl
  | cons e m ih =>
    obtain ⟨j, w⟩ := e
    simp only [List.all_cons, Bool.and_eq_true] at hm
    simp only [Smap.erase]
    split
    · exact hm.2
    · split
      · simp [hm.1, hm.2]
      · simp [hm.1, ih hm.2]

section
variable [DecidableEq α]

theorem wf_sorted (d : α) (m : Smap α) (h : Smap.wf d m = true) : Smap.sortedFrom 0 m = true := by
  simp only [Smap.wf, Bool.and_eq_true] at h; exact h.1

/-- A write is read back. -/
theorem getD_put_same (m : Smap α) (d : α) (k : Nat) (v : α) (h : Smap.sortedFrom 0 m = true) :
    Smap.getD (Smap.put m d k v) d k = v := by
  simp only [Smap.put, Smap.getD]
  split
  · rename_i hv; rw [find_erase_same m 0 k h]; exact hv.symm
  · rw [find_insert_same]; rfl

/-- A write leaves every other key alone. -/
theorem getD_put_ne (m : Smap α) (d : α) (k j : Nat) (v : α) (h : Smap.sortedFrom 0 m = true) (hj : j ≠ k) :
    Smap.getD (Smap.put m d k v) d j = Smap.getD m d j := by
  simp only [Smap.put, Smap.getD]
  split
  · rw [find_erase_ne m 0 k j h hj]
  · rw [find_insert_ne m k j v hj]

/-- A write of anything but the default is read back, whatever the table. -/
theorem getD_put_same' (m : Smap α) (d : α) (k : Nat) (v : α) (hv : v ≠ d) : Smap.getD (Smap.put m d k v) d k = v := by
  simp [Smap.put, Smap.getD, hv, find_insert_same]

theorem getD_put_ne' (m : Smap α) (d : α) (k j : Nat) (v : α) (hv : v ≠ d) (hj : j ≠ k) :
    Smap.getD (Smap.put m d k v) d j = Smap.getD m d j := by
  simp [Smap.put, Smap.getD, hv, find_insert_ne m k j v hj]

/-- A write keeps the canonical form. -/
theorem wf_put (m : Smap α) (d : α) (k : Nat) (v : α) (h : Smap.wf d m = true) : Smap.wf d (Smap.put m d k v) = true := by
  simp only [Smap.wf, Bool.and_eq_true] at h ⊢
  simp only [Smap.put]
  split
  · exact ⟨sortedFrom_erase m 0 k h.1, all_erase m k _ h.2⟩
  · rename_i hv
    exact ⟨sortedFrom_insert m 0 k v h.1 (Nat.zero_le k), all_insert m k v _ h.2 (by simpa using hv)⟩

end

end Sys2Proof.Laws
end

