-- ==== Sys2Proof/Laws/State.lean ====
section
/-! SUPPORT. What each update of the state leaves alone, field by field, and what a part reads after it has been written. -/

namespace Sys2Proof.Laws

open Sys2Proof Sys2Proof.Machine

@[simp] theorem modSlot_eq (s : State) (k : Nat) (f : Slot → Slot) : s.modSlot k f = s.setSlot k (f (s.slot k)) := rfl
@[simp] theorem modBay_eq (s : State) (k : Nat) (f : Bay → Bay) : s.modBay k f = s.setBay k (f (s.bay k)) := rfl
@[simp] theorem modDie_eq (s : State) (k : Nat) (f : Die → Die) : s.modDie k f = s.setDie k (f (s.die k)) := rfl
@[simp] theorem modLine_eq (s : State) (k : Nat) (f : LineState → LineState) : s.modLine k f = s.setLine k (f (s.line k)) := rfl

@[simp] theorem setSlot_agenda (s : State) (k : Nat) (v : Slot) : (s.setSlot k v).agenda = s.agenda := rfl
@[simp] theorem setSlot_tick (s : State) (k : Nat) (v : Slot) : (s.setSlot k v).tick = s.tick := rfl
@[simp] theorem setSlot_focus (s : State) (k : Nat) (v : Slot) : (s.setSlot k v).focus = s.focus := rfl
@[simp] theorem setSlot_cycle (s : State) (k : Nat) (v : Slot) : (s.setSlot k v).cycle = s.cycle := rfl
@[simp] theorem setSlot_chipid (s : State) (k : Nat) (v : Slot) : (s.setSlot k v).chipid = s.chipid := rfl
@[simp] theorem setSlot_hostid (s : State) (k : Nat) (v : Slot) : (s.setSlot k v).hostid = s.hostid := rfl
@[simp] theorem setSlot_kvpool (s : State) (k : Nat) (v : Slot) : (s.setSlot k v).kvpool = s.kvpool := rfl
@[simp] theorem setSlot_ctxsw (s : State) (k : Nat) (v : Slot) : (s.setSlot k v).ctxsw = s.ctxsw := rfl
@[simp] theorem setSlot_fqtab (s : State) (k : Nat) (v : Slot) : (s.setSlot k v).fqtab = s.fqtab := rfl
@[simp] theorem setSlot_peerwin (s : State) (k : Nat) (v : Slot) : (s.setSlot k v).peerwin = s.peerwin := rfl
@[simp] theorem setSlot_mem (s : State) (k : Nat) (v : Slot) : (s.setSlot k v).mem = s.mem := rfl
@[simp] theorem setSlot_writes (s : State) (k : Nat) (v : Slot) : (s.setSlot k v).writes = s.writes := rfl
@[simp] theorem setSlot_nextWrite (s : State) (k : Nat) (v : Slot) : (s.setSlot k v).nextWrite = s.nextWrite := rfl
@[simp] theorem setSlot_readFrom (s : State) (k : Nat) (v : Slot) : (s.setSlot k v).readFrom = s.readFrom := rfl
@[simp] theorem setSlot_fenced (s : State) (k : Nat) (v : Slot) : (s.setSlot k v).fenced = s.fenced := rfl
@[simp] theorem setSlot_poison (s : State) (k : Nat) (v : Slot) : (s.setSlot k v).poison = s.poison := rfl
@[simp] theorem setSlot_bays (s : State) (k : Nat) (v : Slot) : (s.setSlot k v).bays = s.bays := rfl
@[simp] theorem setSlot_dies (s : State) (k : Nat) (v : Slot) : (s.setSlot k v).dies = s.dies := rfl
@[simp] theorem setSlot_lines (s : State) (k : Nat) (v : Slot) : (s.setSlot k v).lines = s.lines := rfl
@[simp] theorem setSlot_accs (s : State) (k : Nat) (v : Slot) : (s.setSlot k v).accs = s.accs := rfl
@[simp] theorem setSlot_joins (s : State) (k : Nat) (v : Slot) : (s.setSlot k v).joins = s.joins := rfl
@[simp] theorem setSlot_parked (s : State) (k : Nat) (v : Slot) : (s.setSlot k v).parked = s.parked := rfl
@[simp] theorem setSlot_lateImp (s : State) (k : Nat) (v : Slot) : (s.setSlot k v).lateImp = s.lateImp := rfl
@[simp] theorem setSlot_lateOver (s : State) (k : Nat) (v : Slot) : (s.setSlot k v).lateOver = s.lateOver := rfl
@[simp] theorem setSlot_nextUid (s : State) (k : Nat) (v : Slot) : (s.setSlot k v).nextUid = s.nextUid := rfl
@[simp] theorem setSlot_nextOp (s : State) (k : Nat) (v : Slot) : (s.setSlot k v).nextOp = s.nextOp := rfl
@[simp] theorem setSlot_seats (s : State) (k : Nat) (v : Slot) : (s.setSlot k v).seats = s.seats := rfl
@[simp] theorem setSlot_forkers (s : State) (k : Nat) (v : Slot) : (s.setSlot k v).forkers = s.forkers := rfl
@[simp] theorem setSlot_opHomes (s : State) (k : Nat) (v : Slot) : (s.setSlot k v).opHomes = s.opHomes := rfl
@[simp] theorem setSlot_peers (s : State) (k : Nat) (v : Slot) : (s.setSlot k v).peers = s.peers := rfl
@[simp] theorem setSlot_sched (s : State) (k : Nat) (v : Slot) : (s.setSlot k v).sched = s.sched := rfl
@[simp] theorem setSlot_trigPatch (s : State) (k : Nat) (v : Slot) : (s.setSlot k v).trigPatch = s.trigPatch := rfl
@[simp] theorem setSlot_trigStatus (s : State) (k : Nat) (v : Slot) : (s.setSlot k v).trigStatus = s.trigStatus := rfl
@[simp] theorem setSlot_launches (s : State) (k : Nat) (v : Slot) : (s.setSlot k v).launches = s.launches := rfl
@[simp] theorem setSlot_runs (s : State) (k : Nat) (v : Slot) : (s.setSlot k v).runs = s.runs := rfl
@[simp] theorem setSlot_nextRun (s : State) (k : Nat) (v : Slot) : (s.setSlot k v).nextRun = s.nextRun := rfl
@[simp] theorem setSlot_heldUnits (s : State) (k : Nat) (v : Slot) : (s.setSlot k v).heldUnits = s.heldUnits := rfl
@[simp] theorem setSlot_pushes (s : State) (k : Nat) (v : Slot) : (s.setSlot k v).pushes = s.pushes := rfl
@[simp] theorem setSlot_remoteWaits (s : State) (k : Nat) (v : Slot) : (s.setSlot k v).remoteWaits = s.remoteWaits := rfl
@[simp] theorem setSlot_kvRuns (s : State) (k : Nat) (v : Slot) : (s.setSlot k v).kvRuns = s.kvRuns := rfl
@[simp] theorem setSlot_kvFreed (s : State) (k : Nat) (v : Slot) : (s.setSlot k v).kvFreed = s.kvFreed := rfl
@[simp] theorem setSlot_stageAccs (s : State) (k : Nat) (v : Slot) : (s.setSlot k v).stageAccs = s.stageAccs := rfl
@[simp] theorem setSlot_nextAcc (s : State) (k : Nat) (v : Slot) : (s.setSlot k v).nextAcc = s.nextAcc := rfl
@[simp] theorem setSlot_kvops (s : State) (k : Nat) (v : Slot) : (s.setSlot k v).kvops = s.kvops := rfl
@[simp] theorem setSlot_migs (s : State) (k : Nat) (v : Slot) : (s.setSlot k v).migs = s.migs := rfl
@[simp] theorem setSlot_ctxSwitch (s : State) (k : Nat) (v : Slot) : (s.setSlot k v).ctxSwitch = s.ctxSwitch := rfl
@[simp] theorem setSlot_savedCtx (s : State) (k : Nat) (v : Slot) : (s.setSlot k v).savedCtx = s.savedCtx := rfl
@[simp] theorem setSlot_areaImages (s : State) (k : Nat) (v : Slot) : (s.setSlot k v).areaImages = s.areaImages := rfl
@[simp] theorem setSlot_stoppedCtx (s : State) (k : Nat) (v : Slot) : (s.setSlot k v).stoppedCtx = s.stoppedCtx := rfl
@[simp] theorem setSlot_failedStacks (s : State) (k : Nat) (v : Slot) : (s.setSlot k v).failedStacks = s.failedStacks := rfl
@[simp] theorem setSlot_edges (s : State) (k : Nat) (v : Slot) : (s.setSlot k v).edges = s.edges := rfl
@[simp] theorem setSlot_links (s : State) (k : Nat) (v : Slot) : (s.setSlot k v).links = s.links := rfl
@[simp] theorem setSlot_islands (s : State) (k : Nat) (v : Slot) : (s.setSlot k v).islands = s.islands := rfl
@[simp] theorem setSlot_startStep (s : State) (k : Nat) (v : Slot) : (s.setSlot k v).startStep = s.startStep := rfl
@[simp] theorem setSlot_tried (s : State) (k : Nat) (v : Slot) : (s.setSlot k v).tried = s.tried := rfl
@[simp] theorem setSlot_bootLog (s : State) (k : Nat) (v : Slot) : (s.setSlot k v).bootLog = s.bootLog := rfl
@[simp] theorem setSlot_reply (s : State) (k : Nat) (v : Slot) : (s.setSlot k v).reply = s.reply := rfl
@[simp] theorem setSlot_latePushes (s : State) (k : Nat) (v : Slot) : (s.setSlot k v).latePushes = s.latePushes := rfl
@[simp] theorem setSlot_sprue (s : State) (k : Nat) (v : Slot) : (s.setSlot k v).sprue = s.sprue := rfl
@[simp] theorem setSlot_remoteTold (s : State) (k : Nat) (v : Slot) : (s.setSlot k v).remoteTold = s.remoteTold := rfl
@[simp] theorem setSlot_mirrors (s : State) (k : Nat) (v : Slot) : (s.setSlot k v).mirrors = s.mirrors := rfl

@[simp] theorem setBay_agenda (s : State) (k : Nat) (v : Bay) : (s.setBay k v).agenda = s.agenda := rfl
@[simp] theorem setBay_tick (s : State) (k : Nat) (v : Bay) : (s.setBay k v).tick = s.tick := rfl
@[simp] theorem setBay_focus (s : State) (k : Nat) (v : Bay) : (s.setBay k v).focus = s.focus := rfl
@[simp] theorem setBay_cycle (s : State) (k : Nat) (v : Bay) : (s.setBay k v).cycle = s.cycle := rfl
@[simp] theorem setBay_chipid (s : State) (k : Nat) (v : Bay) : (s.setBay k v).chipid = s.chipid := rfl
@[simp] theorem setBay_hostid (s : State) (k : Nat) (v : Bay) : (s.setBay k v).hostid = s.hostid := rfl
@[simp] theorem setBay_kvpool (s : State) (k : Nat) (v : Bay) : (s.setBay k v).kvpool = s.kvpool := rfl
@[simp] theorem setBay_ctxsw (s : State) (k : Nat) (v : Bay) : (s.setBay k v).ctxsw = s.ctxsw := rfl
@[simp] theorem setBay_fqtab (s : State) (k : Nat) (v : Bay) : (s.setBay k v).fqtab = s.fqtab := rfl
@[simp] theorem setBay_peerwin (s : State) (k : Nat) (v : Bay) : (s.setBay k v).peerwin = s.peerwin := rfl
@[simp] theorem setBay_mem (s : State) (k : Nat) (v : Bay) : (s.setBay k v).mem = s.mem := rfl
@[simp] theorem setBay_writes (s : State) (k : Nat) (v : Bay) : (s.setBay k v).writes = s.writes := rfl
@[simp] theorem setBay_nextWrite (s : State) (k : Nat) (v : Bay) : (s.setBay k v).nextWrite = s.nextWrite := rfl
@[simp] theorem setBay_readFrom (s : State) (k : Nat) (v : Bay) : (s.setBay k v).readFrom = s.readFrom := rfl
@[simp] theorem setBay_fenced (s : State) (k : Nat) (v : Bay) : (s.setBay k v).fenced = s.fenced := rfl
@[simp] theorem setBay_poison (s : State) (k : Nat) (v : Bay) : (s.setBay k v).poison = s.poison := rfl
@[simp] theorem setBay_slots (s : State) (k : Nat) (v : Bay) : (s.setBay k v).slots = s.slots := rfl
@[simp] theorem setBay_dies (s : State) (k : Nat) (v : Bay) : (s.setBay k v).dies = s.dies := rfl
@[simp] theorem setBay_lines (s : State) (k : Nat) (v : Bay) : (s.setBay k v).lines = s.lines := rfl
@[simp] theorem setBay_accs (s : State) (k : Nat) (v : Bay) : (s.setBay k v).accs = s.accs := rfl
@[simp] theorem setBay_joins (s : State) (k : Nat) (v : Bay) : (s.setBay k v).joins = s.joins := rfl
@[simp] theorem setBay_parked (s : State) (k : Nat) (v : Bay) : (s.setBay k v).parked = s.parked := rfl
@[simp] theorem setBay_lateImp (s : State) (k : Nat) (v : Bay) : (s.setBay k v).lateImp = s.lateImp := rfl
@[simp] theorem setBay_lateOver (s : State) (k : Nat) (v : Bay) : (s.setBay k v).lateOver = s.lateOver := rfl
@[simp] theorem setBay_nextUid (s : State) (k : Nat) (v : Bay) : (s.setBay k v).nextUid = s.nextUid := rfl
@[simp] theorem setBay_nextOp (s : State) (k : Nat) (v : Bay) : (s.setBay k v).nextOp = s.nextOp := rfl
@[simp] theorem setBay_seats (s : State) (k : Nat) (v : Bay) : (s.setBay k v).seats = s.seats := rfl
@[simp] theorem setBay_forkers (s : State) (k : Nat) (v : Bay) : (s.setBay k v).forkers = s.forkers := rfl
@[simp] theorem setBay_opHomes (s : State) (k : Nat) (v : Bay) : (s.setBay k v).opHomes = s.opHomes := rfl
@[simp] theorem setBay_peers (s : State) (k : Nat) (v : Bay) : (s.setBay k v).peers = s.peers := rfl
@[simp] theorem setBay_sched (s : State) (k : Nat) (v : Bay) : (s.setBay k v).sched = s.sched := rfl
@[simp] theorem setBay_trigPatch (s : State) (k : Nat) (v : Bay) : (s.setBay k v).trigPatch = s.trigPatch := rfl
@[simp] theorem setBay_trigStatus (s : State) (k : Nat) (v : Bay) : (s.setBay k v).trigStatus = s.trigStatus := rfl
@[simp] theorem setBay_launches (s : State) (k : Nat) (v : Bay) : (s.setBay k v).launches = s.launches := rfl
@[simp] theorem setBay_runs (s : State) (k : Nat) (v : Bay) : (s.setBay k v).runs = s.runs := rfl
@[simp] theorem setBay_nextRun (s : State) (k : Nat) (v : Bay) : (s.setBay k v).nextRun = s.nextRun := rfl
@[simp] theorem setBay_heldUnits (s : State) (k : Nat) (v : Bay) : (s.setBay k v).heldUnits = s.heldUnits := rfl
@[simp] theorem setBay_pushes (s : State) (k : Nat) (v : Bay) : (s.setBay k v).pushes = s.pushes := rfl
@[simp] theorem setBay_remoteWaits (s : State) (k : Nat) (v : Bay) : (s.setBay k v).remoteWaits = s.remoteWaits := rfl
@[simp] theorem setBay_kvRuns (s : State) (k : Nat) (v : Bay) : (s.setBay k v).kvRuns = s.kvRuns := rfl
@[simp] theorem setBay_kvFreed (s : State) (k : Nat) (v : Bay) : (s.setBay k v).kvFreed = s.kvFreed := rfl
@[simp] theorem setBay_stageAccs (s : State) (k : Nat) (v : Bay) : (s.setBay k v).stageAccs = s.stageAccs := rfl
@[simp] theorem setBay_nextAcc (s : State) (k : Nat) (v : Bay) : (s.setBay k v).nextAcc = s.nextAcc := rfl
@[simp] theorem setBay_kvops (s : State) (k : Nat) (v : Bay) : (s.setBay k v).kvops = s.kvops := rfl
@[simp] theorem setBay_migs (s : State) (k : Nat) (v : Bay) : (s.setBay k v).migs = s.migs := rfl
@[simp] theorem setBay_ctxSwitch (s : State) (k : Nat) (v : Bay) : (s.setBay k v).ctxSwitch = s.ctxSwitch := rfl
@[simp] theorem setBay_savedCtx (s : State) (k : Nat) (v : Bay) : (s.setBay k v).savedCtx = s.savedCtx := rfl
@[simp] theorem setBay_areaImages (s : State) (k : Nat) (v : Bay) : (s.setBay k v).areaImages = s.areaImages := rfl
@[simp] theorem setBay_stoppedCtx (s : State) (k : Nat) (v : Bay) : (s.setBay k v).stoppedCtx = s.stoppedCtx := rfl
@[simp] theorem setBay_failedStacks (s : State) (k : Nat) (v : Bay) : (s.setBay k v).failedStacks = s.failedStacks := rfl
@[simp] theorem setBay_edges (s : State) (k : Nat) (v : Bay) : (s.setBay k v).edges = s.edges := rfl
@[simp] theorem setBay_links (s : State) (k : Nat) (v : Bay) : (s.setBay k v).links = s.links := rfl
@[simp] theorem setBay_islands (s : State) (k : Nat) (v : Bay) : (s.setBay k v).islands = s.islands := rfl
@[simp] theorem setBay_startStep (s : State) (k : Nat) (v : Bay) : (s.setBay k v).startStep = s.startStep := rfl
@[simp] theorem setBay_tried (s : State) (k : Nat) (v : Bay) : (s.setBay k v).tried = s.tried := rfl
@[simp] theorem setBay_bootLog (s : State) (k : Nat) (v : Bay) : (s.setBay k v).bootLog = s.bootLog := rfl
@[simp] theorem setBay_reply (s : State) (k : Nat) (v : Bay) : (s.setBay k v).reply = s.reply := rfl
@[simp] theorem setBay_latePushes (s : State) (k : Nat) (v : Bay) : (s.setBay k v).latePushes = s.latePushes := rfl
@[simp] theorem setBay_sprue (s : State) (k : Nat) (v : Bay) : (s.setBay k v).sprue = s.sprue := rfl
@[simp] theorem setBay_remoteTold (s : State) (k : Nat) (v : Bay) : (s.setBay k v).remoteTold = s.remoteTold := rfl
@[simp] theorem setBay_mirrors (s : State) (k : Nat) (v : Bay) : (s.setBay k v).mirrors = s.mirrors := rfl

@[simp] theorem setDie_agenda (s : State) (k : Nat) (v : Die) : (s.setDie k v).agenda = s.agenda := rfl
@[simp] theorem setDie_tick (s : State) (k : Nat) (v : Die) : (s.setDie k v).tick = s.tick := rfl
@[simp] theorem setDie_focus (s : State) (k : Nat) (v : Die) : (s.setDie k v).focus = s.focus := rfl
@[simp] theorem setDie_cycle (s : State) (k : Nat) (v : Die) : (s.setDie k v).cycle = s.cycle := rfl
@[simp] theorem setDie_chipid (s : State) (k : Nat) (v : Die) : (s.setDie k v).chipid = s.chipid := rfl
@[simp] theorem setDie_hostid (s : State) (k : Nat) (v : Die) : (s.setDie k v).hostid = s.hostid := rfl
@[simp] theorem setDie_kvpool (s : State) (k : Nat) (v : Die) : (s.setDie k v).kvpool = s.kvpool := rfl
@[simp] theorem setDie_ctxsw (s : State) (k : Nat) (v : Die) : (s.setDie k v).ctxsw = s.ctxsw := rfl
@[simp] theorem setDie_fqtab (s : State) (k : Nat) (v : Die) : (s.setDie k v).fqtab = s.fqtab := rfl
@[simp] theorem setDie_peerwin (s : State) (k : Nat) (v : Die) : (s.setDie k v).peerwin = s.peerwin := rfl
@[simp] theorem setDie_mem (s : State) (k : Nat) (v : Die) : (s.setDie k v).mem = s.mem := rfl
@[simp] theorem setDie_writes (s : State) (k : Nat) (v : Die) : (s.setDie k v).writes = s.writes := rfl
@[simp] theorem setDie_nextWrite (s : State) (k : Nat) (v : Die) : (s.setDie k v).nextWrite = s.nextWrite := rfl
@[simp] theorem setDie_readFrom (s : State) (k : Nat) (v : Die) : (s.setDie k v).readFrom = s.readFrom := rfl
@[simp] theorem setDie_fenced (s : State) (k : Nat) (v : Die) : (s.setDie k v).fenced = s.fenced := rfl
@[simp] theorem setDie_poison (s : State) (k : Nat) (v : Die) : (s.setDie k v).poison = s.poison := rfl
@[simp] theorem setDie_slots (s : State) (k : Nat) (v : Die) : (s.setDie k v).slots = s.slots := rfl
@[simp] theorem setDie_bays (s : State) (k : Nat) (v : Die) : (s.setDie k v).bays = s.bays := rfl
@[simp] theorem setDie_lines (s : State) (k : Nat) (v : Die) : (s.setDie k v).lines = s.lines := rfl
@[simp] theorem setDie_accs (s : State) (k : Nat) (v : Die) : (s.setDie k v).accs = s.accs := rfl
@[simp] theorem setDie_joins (s : State) (k : Nat) (v : Die) : (s.setDie k v).joins = s.joins := rfl
@[simp] theorem setDie_parked (s : State) (k : Nat) (v : Die) : (s.setDie k v).parked = s.parked := rfl
@[simp] theorem setDie_lateImp (s : State) (k : Nat) (v : Die) : (s.setDie k v).lateImp = s.lateImp := rfl
@[simp] theorem setDie_lateOver (s : State) (k : Nat) (v : Die) : (s.setDie k v).lateOver = s.lateOver := rfl
@[simp] theorem setDie_nextUid (s : State) (k : Nat) (v : Die) : (s.setDie k v).nextUid = s.nextUid := rfl
@[simp] theorem setDie_nextOp (s : State) (k : Nat) (v : Die) : (s.setDie k v).nextOp = s.nextOp := rfl
@[simp] theorem setDie_seats (s : State) (k : Nat) (v : Die) : (s.setDie k v).seats = s.seats := rfl
@[simp] theorem setDie_forkers (s : State) (k : Nat) (v : Die) : (s.setDie k v).forkers = s.forkers := rfl
@[simp] theorem setDie_opHomes (s : State) (k : Nat) (v : Die) : (s.setDie k v).opHomes = s.opHomes := rfl
@[simp] theorem setDie_peers (s : State) (k : Nat) (v : Die) : (s.setDie k v).peers = s.peers := rfl
@[simp] theorem setDie_sched (s : State) (k : Nat) (v : Die) : (s.setDie k v).sched = s.sched := rfl
@[simp] theorem setDie_trigPatch (s : State) (k : Nat) (v : Die) : (s.setDie k v).trigPatch = s.trigPatch := rfl
@[simp] theorem setDie_trigStatus (s : State) (k : Nat) (v : Die) : (s.setDie k v).trigStatus = s.trigStatus := rfl
@[simp] theorem setDie_launches (s : State) (k : Nat) (v : Die) : (s.setDie k v).launches = s.launches := rfl
@[simp] theorem setDie_runs (s : State) (k : Nat) (v : Die) : (s.setDie k v).runs = s.runs := rfl
@[simp] theorem setDie_nextRun (s : State) (k : Nat) (v : Die) : (s.setDie k v).nextRun = s.nextRun := rfl
@[simp] theorem setDie_heldUnits (s : State) (k : Nat) (v : Die) : (s.setDie k v).heldUnits = s.heldUnits := rfl
@[simp] theorem setDie_pushes (s : State) (k : Nat) (v : Die) : (s.setDie k v).pushes = s.pushes := rfl
@[simp] theorem setDie_remoteWaits (s : State) (k : Nat) (v : Die) : (s.setDie k v).remoteWaits = s.remoteWaits := rfl
@[simp] theorem setDie_kvRuns (s : State) (k : Nat) (v : Die) : (s.setDie k v).kvRuns = s.kvRuns := rfl
@[simp] theorem setDie_kvFreed (s : State) (k : Nat) (v : Die) : (s.setDie k v).kvFreed = s.kvFreed := rfl
@[simp] theorem setDie_stageAccs (s : State) (k : Nat) (v : Die) : (s.setDie k v).stageAccs = s.stageAccs := rfl
@[simp] theorem setDie_nextAcc (s : State) (k : Nat) (v : Die) : (s.setDie k v).nextAcc = s.nextAcc := rfl
@[simp] theorem setDie_kvops (s : State) (k : Nat) (v : Die) : (s.setDie k v).kvops = s.kvops := rfl
@[simp] theorem setDie_migs (s : State) (k : Nat) (v : Die) : (s.setDie k v).migs = s.migs := rfl
@[simp] theorem setDie_ctxSwitch (s : State) (k : Nat) (v : Die) : (s.setDie k v).ctxSwitch = s.ctxSwitch := rfl
@[simp] theorem setDie_savedCtx (s : State) (k : Nat) (v : Die) : (s.setDie k v).savedCtx = s.savedCtx := rfl
@[simp] theorem setDie_areaImages (s : State) (k : Nat) (v : Die) : (s.setDie k v).areaImages = s.areaImages := rfl
@[simp] theorem setDie_stoppedCtx (s : State) (k : Nat) (v : Die) : (s.setDie k v).stoppedCtx = s.stoppedCtx := rfl
@[simp] theorem setDie_failedStacks (s : State) (k : Nat) (v : Die) : (s.setDie k v).failedStacks = s.failedStacks := rfl
@[simp] theorem setDie_edges (s : State) (k : Nat) (v : Die) : (s.setDie k v).edges = s.edges := rfl
@[simp] theorem setDie_links (s : State) (k : Nat) (v : Die) : (s.setDie k v).links = s.links := rfl
@[simp] theorem setDie_islands (s : State) (k : Nat) (v : Die) : (s.setDie k v).islands = s.islands := rfl
@[simp] theorem setDie_startStep (s : State) (k : Nat) (v : Die) : (s.setDie k v).startStep = s.startStep := rfl
@[simp] theorem setDie_tried (s : State) (k : Nat) (v : Die) : (s.setDie k v).tried = s.tried := rfl
@[simp] theorem setDie_bootLog (s : State) (k : Nat) (v : Die) : (s.setDie k v).bootLog = s.bootLog := rfl
@[simp] theorem setDie_reply (s : State) (k : Nat) (v : Die) : (s.setDie k v).reply = s.reply := rfl
@[simp] theorem setDie_latePushes (s : State) (k : Nat) (v : Die) : (s.setDie k v).latePushes = s.latePushes := rfl
@[simp] theorem setDie_sprue (s : State) (k : Nat) (v : Die) : (s.setDie k v).sprue = s.sprue := rfl
@[simp] theorem setDie_remoteTold (s : State) (k : Nat) (v : Die) : (s.setDie k v).remoteTold = s.remoteTold := rfl
@[simp] theorem setDie_mirrors (s : State) (k : Nat) (v : Die) : (s.setDie k v).mirrors = s.mirrors := rfl

@[simp] theorem setLine_agenda (s : State) (k : Nat) (v : LineState) : (s.setLine k v).agenda = s.agenda := rfl
@[simp] theorem setLine_tick (s : State) (k : Nat) (v : LineState) : (s.setLine k v).tick = s.tick := rfl
@[simp] theorem setLine_focus (s : State) (k : Nat) (v : LineState) : (s.setLine k v).focus = s.focus := rfl
@[simp] theorem setLine_cycle (s : State) (k : Nat) (v : LineState) : (s.setLine k v).cycle = s.cycle := rfl
@[simp] theorem setLine_chipid (s : State) (k : Nat) (v : LineState) : (s.setLine k v).chipid = s.chipid := rfl
@[simp] theorem setLine_hostid (s : State) (k : Nat) (v : LineState) : (s.setLine k v).hostid = s.hostid := rfl
@[simp] theorem setLine_kvpool (s : State) (k : Nat) (v : LineState) : (s.setLine k v).kvpool = s.kvpool := rfl
@[simp] theorem setLine_ctxsw (s : State) (k : Nat) (v : LineState) : (s.setLine k v).ctxsw = s.ctxsw := rfl
@[simp] theorem setLine_fqtab (s : State) (k : Nat) (v : LineState) : (s.setLine k v).fqtab = s.fqtab := rfl
@[simp] theorem setLine_peerwin (s : State) (k : Nat) (v : LineState) : (s.setLine k v).peerwin = s.peerwin := rfl
@[simp] theorem setLine_mem (s : State) (k : Nat) (v : LineState) : (s.setLine k v).mem = s.mem := rfl
@[simp] theorem setLine_writes (s : State) (k : Nat) (v : LineState) : (s.setLine k v).writes = s.writes := rfl
@[simp] theorem setLine_nextWrite (s : State) (k : Nat) (v : LineState) : (s.setLine k v).nextWrite = s.nextWrite := rfl
@[simp] theorem setLine_readFrom (s : State) (k : Nat) (v : LineState) : (s.setLine k v).readFrom = s.readFrom := rfl
@[simp] theorem setLine_fenced (s : State) (k : Nat) (v : LineState) : (s.setLine k v).fenced = s.fenced := rfl
@[simp] theorem setLine_poison (s : State) (k : Nat) (v : LineState) : (s.setLine k v).poison = s.poison := rfl
@[simp] theorem setLine_slots (s : State) (k : Nat) (v : LineState) : (s.setLine k v).slots = s.slots := rfl
@[simp] theorem setLine_bays (s : State) (k : Nat) (v : LineState) : (s.setLine k v).bays = s.bays := rfl
@[simp] theorem setLine_dies (s : State) (k : Nat) (v : LineState) : (s.setLine k v).dies = s.dies := rfl
@[simp] theorem setLine_accs (s : State) (k : Nat) (v : LineState) : (s.setLine k v).accs = s.accs := rfl
@[simp] theorem setLine_joins (s : State) (k : Nat) (v : LineState) : (s.setLine k v).joins = s.joins := rfl
@[simp] theorem setLine_parked (s : State) (k : Nat) (v : LineState) : (s.setLine k v).parked = s.parked := rfl
@[simp] theorem setLine_lateImp (s : State) (k : Nat) (v : LineState) : (s.setLine k v).lateImp = s.lateImp := rfl
@[simp] theorem setLine_lateOver (s : State) (k : Nat) (v : LineState) : (s.setLine k v).lateOver = s.lateOver := rfl
@[simp] theorem setLine_nextUid (s : State) (k : Nat) (v : LineState) : (s.setLine k v).nextUid = s.nextUid := rfl
@[simp] theorem setLine_nextOp (s : State) (k : Nat) (v : LineState) : (s.setLine k v).nextOp = s.nextOp := rfl
@[simp] theorem setLine_seats (s : State) (k : Nat) (v : LineState) : (s.setLine k v).seats = s.seats := rfl
@[simp] theorem setLine_forkers (s : State) (k : Nat) (v : LineState) : (s.setLine k v).forkers = s.forkers := rfl
@[simp] theorem setLine_opHomes (s : State) (k : Nat) (v : LineState) : (s.setLine k v).opHomes = s.opHomes := rfl
@[simp] theorem setLine_peers (s : State) (k : Nat) (v : LineState) : (s.setLine k v).peers = s.peers := rfl
@[simp] theorem setLine_sched (s : State) (k : Nat) (v : LineState) : (s.setLine k v).sched = s.sched := rfl
@[simp] theorem setLine_trigPatch (s : State) (k : Nat) (v : LineState) : (s.setLine k v).trigPatch = s.trigPatch := rfl
@[simp] theorem setLine_trigStatus (s : State) (k : Nat) (v : LineState) : (s.setLine k v).trigStatus = s.trigStatus := rfl
@[simp] theorem setLine_launches (s : State) (k : Nat) (v : LineState) : (s.setLine k v).launches = s.launches := rfl
@[simp] theorem setLine_runs (s : State) (k : Nat) (v : LineState) : (s.setLine k v).runs = s.runs := rfl
@[simp] theorem setLine_nextRun (s : State) (k : Nat) (v : LineState) : (s.setLine k v).nextRun = s.nextRun := rfl
@[simp] theorem setLine_heldUnits (s : State) (k : Nat) (v : LineState) : (s.setLine k v).heldUnits = s.heldUnits := rfl
@[simp] theorem setLine_pushes (s : State) (k : Nat) (v : LineState) : (s.setLine k v).pushes = s.pushes := rfl
@[simp] theorem setLine_remoteWaits (s : State) (k : Nat) (v : LineState) : (s.setLine k v).remoteWaits = s.remoteWaits := rfl
@[simp] theorem setLine_kvRuns (s : State) (k : Nat) (v : LineState) : (s.setLine k v).kvRuns = s.kvRuns := rfl
@[simp] theorem setLine_kvFreed (s : State) (k : Nat) (v : LineState) : (s.setLine k v).kvFreed = s.kvFreed := rfl
@[simp] theorem setLine_stageAccs (s : State) (k : Nat) (v : LineState) : (s.setLine k v).stageAccs = s.stageAccs := rfl
@[simp] theorem setLine_nextAcc (s : State) (k : Nat) (v : LineState) : (s.setLine k v).nextAcc = s.nextAcc := rfl
@[simp] theorem setLine_kvops (s : State) (k : Nat) (v : LineState) : (s.setLine k v).kvops = s.kvops := rfl
@[simp] theorem setLine_migs (s : State) (k : Nat) (v : LineState) : (s.setLine k v).migs = s.migs := rfl
@[simp] theorem setLine_ctxSwitch (s : State) (k : Nat) (v : LineState) : (s.setLine k v).ctxSwitch = s.ctxSwitch := rfl
@[simp] theorem setLine_savedCtx (s : State) (k : Nat) (v : LineState) : (s.setLine k v).savedCtx = s.savedCtx := rfl
@[simp] theorem setLine_areaImages (s : State) (k : Nat) (v : LineState) : (s.setLine k v).areaImages = s.areaImages := rfl
@[simp] theorem setLine_stoppedCtx (s : State) (k : Nat) (v : LineState) : (s.setLine k v).stoppedCtx = s.stoppedCtx := rfl
@[simp] theorem setLine_failedStacks (s : State) (k : Nat) (v : LineState) : (s.setLine k v).failedStacks = s.failedStacks := rfl
@[simp] theorem setLine_edges (s : State) (k : Nat) (v : LineState) : (s.setLine k v).edges = s.edges := rfl
@[simp] theorem setLine_links (s : State) (k : Nat) (v : LineState) : (s.setLine k v).links = s.links := rfl
@[simp] theorem setLine_islands (s : State) (k : Nat) (v : LineState) : (s.setLine k v).islands = s.islands := rfl
@[simp] theorem setLine_startStep (s : State) (k : Nat) (v : LineState) : (s.setLine k v).startStep = s.startStep := rfl
@[simp] theorem setLine_tried (s : State) (k : Nat) (v : LineState) : (s.setLine k v).tried = s.tried := rfl
@[simp] theorem setLine_bootLog (s : State) (k : Nat) (v : LineState) : (s.setLine k v).bootLog = s.bootLog := rfl
@[simp] theorem setLine_reply (s : State) (k : Nat) (v : LineState) : (s.setLine k v).reply = s.reply := rfl
@[simp] theorem setLine_latePushes (s : State) (k : Nat) (v : LineState) : (s.setLine k v).latePushes = s.latePushes := rfl
@[simp] theorem setLine_sprue (s : State) (k : Nat) (v : LineState) : (s.setLine k v).sprue = s.sprue := rfl
@[simp] theorem setLine_remoteTold (s : State) (k : Nat) (v : LineState) : (s.setLine k v).remoteTold = s.remoteTold := rfl
@[simp] theorem setLine_mirrors (s : State) (k : Nat) (v : LineState) : (s.setLine k v).mirrors = s.mirrors := rfl

@[simp] theorem setSlot_bay_at (s : State) (k j : Nat) (v : Slot) : (s.setSlot k v).bay j = s.bay j := rfl
@[simp] theorem setSlot_die_at (s : State) (k j : Nat) (v : Slot) : (s.setSlot k v).die j = s.die j := rfl
@[simp] theorem setSlot_line_at (s : State) (k j : Nat) (v : Slot) : (s.setSlot k v).line j = s.line j := rfl
@[simp] theorem setBay_slot_at (s : State) (k j : Nat) (v : Bay) : (s.setBay k v).slot j = s.slot j := rfl
@[simp] theorem setBay_die_at (s : State) (k j : Nat) (v : Bay) : (s.setBay k v).die j = s.die j := rfl
@[simp] theorem setBay_line_at (s : State) (k j : Nat) (v : Bay) : (s.setBay k v).line j = s.line j := rfl
@[simp] theorem setDie_slot_at (s : State) (k j : Nat) (v : Die) : (s.setDie k v).slot j = s.slot j := rfl
@[simp] theorem setDie_bay_at (s : State) (k j : Nat) (v : Die) : (s.setDie k v).bay j = s.bay j := rfl
@[simp] theorem setDie_line_at (s : State) (k j : Nat) (v : Die) : (s.setDie k v).line j = s.line j := rfl
@[simp] theorem setLine_slot_at (s : State) (k j : Nat) (v : LineState) : (s.setLine k v).slot j = s.slot j := rfl
@[simp] theorem setLine_bay_at (s : State) (k j : Nat) (v : LineState) : (s.setLine k v).bay j = s.bay j := rfl
@[simp] theorem setLine_die_at (s : State) (k j : Nat) (v : LineState) : (s.setLine k v).die j = s.die j := rfl

/-- A part that is written with other than its reset value reads as written. -/
theorem setSlot_same (s : State) (k : Nat) (v : Slot) (h : v ≠ Slot.reset) : (s.setSlot k v).slot k = v := getD_put_same' s.slots _ k v h
theorem setSlot_ne (s : State) (k j : Nat) (v : Slot) (h : v ≠ Slot.reset) (hj : j ≠ k) : (s.setSlot k v).slot j = s.slot j :=
  getD_put_ne' s.slots _ k j v h hj
/-- In a table in canonical form, every write is read back. -/
theorem setSlot_same_wf (s : State) (k : Nat) (v : Slot) (h : Smap.sortedFrom 0 s.slots = true) : (s.setSlot k v).slot k = v :=
  getD_put_same s.slots _ k v h
theorem setSlot_ne_wf (s : State) (k j : Nat) (v : Slot) (h : Smap.sortedFrom 0 s.slots = true) (hj : j ≠ k) :
    (s.setSlot k v).slot j = s.slot j := getD_put_ne s.slots _ k j v h hj

/-- A part that is written with other than its reset value reads as written. -/
theorem setBay_same (s : State) (k : Nat) (v : Bay) (h : v ≠ Bay.reset) : (s.setBay k v).bay k = v := getD_put_same' s.bays _ k v h
theorem setBay_ne (s : State) (k j : Nat) (v : Bay) (h : v ≠ Bay.reset) (hj : j ≠ k) : (s.setBay k v).bay j = s.bay j :=
  getD_put_ne' s.bays _ k j v h hj
/-- In a table in canonical form, every write is read back. -/
theorem setBay_same_wf (s : State) (k : Nat) (v : Bay) (h : Smap.sortedFrom 0 s.bays = true) : (s.setBay k v).bay k = v :=
  getD_put_same s.bays _ k v h
theorem setBay_ne_wf (s : State) (k j : Nat) (v : Bay) (h : Smap.sortedFrom 0 s.bays = true) (hj : j ≠ k) :
    (s.setBay k v).bay j = s.bay j := getD_put_ne s.bays _ k j v h hj

/-- A part that is written with other than its reset value reads as written. -/
theorem setDie_same (s : State) (k : Nat) (v : Die) (h : v ≠ Die.reset) : (s.setDie k v).die k = v := getD_put_same' s.dies _ k v h
theorem setDie_ne (s : State) (k j : Nat) (v : Die) (h : v ≠ Die.reset) (hj : j ≠ k) : (s.setDie k v).die j = s.die j :=
  getD_put_ne' s.dies _ k j v h hj
/-- In a table in canonical form, every write is read back. -/
theorem setDie_same_wf (s : State) (k : Nat) (v : Die) (h : Smap.sortedFrom 0 s.dies = true) : (s.setDie k v).die k = v :=
  getD_put_same s.dies _ k v h
theorem setDie_ne_wf (s : State) (k j : Nat) (v : Die) (h : Smap.sortedFrom 0 s.dies = true) (hj : j ≠ k) :
    (s.setDie k v).die j = s.die j := getD_put_ne s.dies _ k j v h hj

/-- A part that is written with other than its reset value reads as written. -/
theorem setLine_same (s : State) (k : Nat) (v : LineState) (h : v ≠ LineState.reset) : (s.setLine k v).line k = v := getD_put_same' s.lines _ k v h
theorem setLine_ne (s : State) (k j : Nat) (v : LineState) (h : v ≠ LineState.reset) (hj : j ≠ k) : (s.setLine k v).line j = s.line j :=
  getD_put_ne' s.lines _ k j v h hj
/-- In a table in canonical form, every write is read back. -/
theorem setLine_same_wf (s : State) (k : Nat) (v : LineState) (h : Smap.sortedFrom 0 s.lines = true) : (s.setLine k v).line k = v :=
  getD_put_same s.lines _ k v h
theorem setLine_ne_wf (s : State) (k j : Nat) (v : LineState) (h : Smap.sortedFrom 0 s.lines = true) (hj : j ≠ k) :
    (s.setLine k v).line j = s.line j := getD_put_ne s.lines _ k j v h hj

/-! A slot with a block is not at reset: putting a block in one is always read back. -/

theorem block_ne_reset (sl : Slot) (b : Block) : ({ sl with block := some b } : Slot) ≠ Slot.reset :=
  fun h => nomatch (congrArg Slot.block h)

@[simp] theorem setBlock_slot_same (s : State) (k : Nat) (b : Block) : (s.setBlock k b).slot k = { s.slot k with block := some b } :=
  setSlot_same s k _ (block_ne_reset _ b)
theorem setBlock_slot_ne (s : State) (k j : Nat) (b : Block) (h : j ≠ k) : (s.setBlock k b).slot j = s.slot j :=
  setSlot_ne s k j _ (block_ne_reset _ b) h
/-- Putting a block in flight changes the slots and nothing else. -/
theorem setBlock_rest (s : State) (k : Nat) (b : Block) : { s.setBlock k b with slots := s.slots } = s := rfl

@[simp] theorem setBlock_agenda (s : State) (k : Nat) (b : Block) : (s.setBlock k b).agenda = s.agenda := rfl
@[simp] theorem setBlock_tick (s : State) (k : Nat) (b : Block) : (s.setBlock k b).tick = s.tick := rfl
@[simp] theorem setBlock_focus (s : State) (k : Nat) (b : Block) : (s.setBlock k b).focus = s.focus := rfl
@[simp] theorem setBlock_cycle (s : State) (k : Nat) (b : Block) : (s.setBlock k b).cycle = s.cycle := rfl
@[simp] theorem setBlock_chipid (s : State) (k : Nat) (b : Block) : (s.setBlock k b).chipid = s.chipid := rfl
@[simp] theorem setBlock_hostid (s : State) (k : Nat) (b : Block) : (s.setBlock k b).hostid = s.hostid := rfl
@[simp] theorem setBlock_kvpool (s : State) (k : Nat) (b : Block) : (s.setBlock k b).kvpool = s.kvpool := rfl
@[simp] theorem setBlock_ctxsw (s : State) (k : Nat) (b : Block) : (s.setBlock k b).ctxsw = s.ctxsw := rfl
@[simp] theorem setBlock_fqtab (s : State) (k : Nat) (b : Block) : (s.setBlock k b).fqtab = s.fqtab := rfl
@[simp] theorem setBlock_peerwin (s : State) (k : Nat) (b : Block) : (s.setBlock k b).peerwin = s.peerwin := rfl
@[simp] theorem setBlock_mem (s : State) (k : Nat) (b : Block) : (s.setBlock k b).mem = s.mem := rfl
@[simp] theorem setBlock_writes (s : State) (k : Nat) (b : Block) : (s.setBlock k b).writes = s.writes := rfl
@[simp] theorem setBlock_nextWrite (s : State) (k : Nat) (b : Block) : (s.setBlock k b).nextWrite = s.nextWrite := rfl
@[simp] theorem setBlock_readFrom (s : State) (k : Nat) (b : Block) : (s.setBlock k b).readFrom = s.readFrom := rfl
@[simp] theorem setBlock_fenced (s : State) (k : Nat) (b : Block) : (s.setBlock k b).fenced = s.fenced := rfl
@[simp] theorem setBlock_poison (s : State) (k : Nat) (b : Block) : (s.setBlock k b).poison = s.poison := rfl
@[simp] theorem setBlock_bays (s : State) (k : Nat) (b : Block) : (s.setBlock k b).bays = s.bays := rfl
@[simp] theorem setBlock_dies (s : State) (k : Nat) (b : Block) : (s.setBlock k b).dies = s.dies := rfl
@[simp] theorem setBlock_lines (s : State) (k : Nat) (b : Block) : (s.setBlock k b).lines = s.lines := rfl
@[simp] theorem setBlock_accs (s : State) (k : Nat) (b : Block) : (s.setBlock k b).accs = s.accs := rfl
@[simp] theorem setBlock_joins (s : State) (k : Nat) (b : Block) : (s.setBlock k b).joins = s.joins := rfl
@[simp] theorem setBlock_parked (s : State) (k : Nat) (b : Block) : (s.setBlock k b).parked = s.parked := rfl
@[simp] theorem setBlock_lateImp (s : State) (k : Nat) (b : Block) : (s.setBlock k b).lateImp = s.lateImp := rfl
@[simp] theorem setBlock_lateOver (s : State) (k : Nat) (b : Block) : (s.setBlock k b).lateOver = s.lateOver := rfl
@[simp] theorem setBlock_nextUid (s : State) (k : Nat) (b : Block) : (s.setBlock k b).nextUid = s.nextUid := rfl
@[simp] theorem setBlock_nextOp (s : State) (k : Nat) (b : Block) : (s.setBlock k b).nextOp = s.nextOp := rfl
@[simp] theorem setBlock_seats (s : State) (k : Nat) (b : Block) : (s.setBlock k b).seats = s.seats := rfl
@[simp] theorem setBlock_forkers (s : State) (k : Nat) (b : Block) : (s.setBlock k b).forkers = s.forkers := rfl
@[simp] theorem setBlock_opHomes (s : State) (k : Nat) (b : Block) : (s.setBlock k b).opHomes = s.opHomes := rfl
@[simp] theorem setBlock_peers (s : State) (k : Nat) (b : Block) : (s.setBlock k b).peers = s.peers := rfl
@[simp] theorem setBlock_sched (s : State) (k : Nat) (b : Block) : (s.setBlock k b).sched = s.sched := rfl
@[simp] theorem setBlock_trigPatch (s : State) (k : Nat) (b : Block) : (s.setBlock k b).trigPatch = s.trigPatch := rfl
@[simp] theorem setBlock_trigStatus (s : State) (k : Nat) (b : Block) : (s.setBlock k b).trigStatus = s.trigStatus := rfl
@[simp] theorem setBlock_launches (s : State) (k : Nat) (b : Block) : (s.setBlock k b).launches = s.launches := rfl
@[simp] theorem setBlock_runs (s : State) (k : Nat) (b : Block) : (s.setBlock k b).runs = s.runs := rfl
@[simp] theorem setBlock_nextRun (s : State) (k : Nat) (b : Block) : (s.setBlock k b).nextRun = s.nextRun := rfl
@[simp] theorem setBlock_heldUnits (s : State) (k : Nat) (b : Block) : (s.setBlock k b).heldUnits = s.heldUnits := rfl
@[simp] theorem setBlock_pushes (s : State) (k : Nat) (b : Block) : (s.setBlock k b).pushes = s.pushes := rfl
@[simp] theorem setBlock_remoteWaits (s : State) (k : Nat) (b : Block) : (s.setBlock k b).remoteWaits = s.remoteWaits := rfl
@[simp] theorem setBlock_kvRuns (s : State) (k : Nat) (b : Block) : (s.setBlock k b).kvRuns = s.kvRuns := rfl
@[simp] theorem setBlock_kvFreed (s : State) (k : Nat) (b : Block) : (s.setBlock k b).kvFreed = s.kvFreed := rfl
@[simp] theorem setBlock_stageAccs (s : State) (k : Nat) (b : Block) : (s.setBlock k b).stageAccs = s.stageAccs := rfl
@[simp] theorem setBlock_nextAcc (s : State) (k : Nat) (b : Block) : (s.setBlock k b).nextAcc = s.nextAcc := rfl
@[simp] theorem setBlock_kvops (s : State) (k : Nat) (b : Block) : (s.setBlock k b).kvops = s.kvops := rfl
@[simp] theorem setBlock_migs (s : State) (k : Nat) (b : Block) : (s.setBlock k b).migs = s.migs := rfl
@[simp] theorem setBlock_ctxSwitch (s : State) (k : Nat) (b : Block) : (s.setBlock k b).ctxSwitch = s.ctxSwitch := rfl
@[simp] theorem setBlock_savedCtx (s : State) (k : Nat) (b : Block) : (s.setBlock k b).savedCtx = s.savedCtx := rfl
@[simp] theorem setBlock_areaImages (s : State) (k : Nat) (b : Block) : (s.setBlock k b).areaImages = s.areaImages := rfl
@[simp] theorem setBlock_stoppedCtx (s : State) (k : Nat) (b : Block) : (s.setBlock k b).stoppedCtx = s.stoppedCtx := rfl
@[simp] theorem setBlock_failedStacks (s : State) (k : Nat) (b : Block) : (s.setBlock k b).failedStacks = s.failedStacks := rfl
@[simp] theorem setBlock_edges (s : State) (k : Nat) (b : Block) : (s.setBlock k b).edges = s.edges := rfl
@[simp] theorem setBlock_links (s : State) (k : Nat) (b : Block) : (s.setBlock k b).links = s.links := rfl
@[simp] theorem setBlock_islands (s : State) (k : Nat) (b : Block) : (s.setBlock k b).islands = s.islands := rfl
@[simp] theorem setBlock_startStep (s : State) (k : Nat) (b : Block) : (s.setBlock k b).startStep = s.startStep := rfl
@[simp] theorem setBlock_tried (s : State) (k : Nat) (b : Block) : (s.setBlock k b).tried = s.tried := rfl
@[simp] theorem setBlock_bootLog (s : State) (k : Nat) (b : Block) : (s.setBlock k b).bootLog = s.bootLog := rfl
@[simp] theorem setBlock_reply (s : State) (k : Nat) (b : Block) : (s.setBlock k b).reply = s.reply := rfl
@[simp] theorem setBlock_latePushes (s : State) (k : Nat) (b : Block) : (s.setBlock k b).latePushes = s.latePushes := rfl
@[simp] theorem setBlock_sprue (s : State) (k : Nat) (b : Block) : (s.setBlock k b).sprue = s.sprue := rfl
@[simp] theorem setBlock_remoteTold (s : State) (k : Nat) (b : Block) : (s.setBlock k b).remoteTold = s.remoteTold := rfl
@[simp] theorem setBlock_mirrors (s : State) (k : Nat) (b : Block) : (s.setBlock k b).mirrors = s.mirrors := rfl
@[simp] theorem setBlock_byteFor (s : State) (k : Nat) (b : Block) (d : Nat) (p : Party) (a : Nat) :
    (s.setBlock k b).byteFor d p a = s.byteFor d p a := rfl

end Sys2Proof.Laws
end

