-- ==== Sys2Proof/Laws/Fire.lean ====
section
/-! SUPPORT. What firing does: with all operands there the action is taken, and a value goes to its targets (05 R69-R72). -/

namespace Sys2Proof.Laws

open Sys2Proof Sys2Proof.Machine

/-- An instruction that fires takes its action. -/
theorem fire_fires {s : State} {i : Instr} {x : Firing} (h : Fires s i x) (act : Firing → State → State) :
    fire (formOf (x.b.word x.idx)) act s = .next (act x s) := by
  have hi := h.inside
  have ho : x.b.captureForm (s.slot x.slot) x.idx (formOf (x.b.word x.idx)) = some x.cap := h.operands
  have hv : x.b.voidForm x.idx (pmOf (x.b.word x.idx)) x.cap.p = false := h.acts
  have hp : (formOf (x.b.word x.idx)).pm = pmOf (x.b.word x.idx) := rfl
  simp only [fire, h.focus, h.block]
  rw [if_neg (by omega)]
  simp [h.firing, h.turn, ho, hp, hv, h.sound]

/-- One that would read a spoilt granule faults (19 R371). -/
theorem fire_spoilt {s : State} {i : Instr} {x : Firing} (h : Stands s i x) (act : Firing → State → State)
    (ho : x.b.capture (s.slot x.slot) x.idx = some x.cap) (hv : x.b.void x.idx x.cap.p = false)
    (hs : x.b.spoilt (s.slot x.slot) x.idx (formOf (x.b.word x.idx)) = true) :
    fire (formOf (x.b.word x.idx)) act s = .next (s.faultAt x.slot x.b x.idx cUncorrectable 0 (some x.cap)) := by
  have hi := h.inside
  have ho : x.b.captureForm (s.slot x.slot) x.idx (formOf (x.b.word x.idx)) = some x.cap := ho
  have hv : x.b.voidForm x.idx (pmOf (x.b.word x.idx)) x.cap.p = false := hv
  have hp : (formOf (x.b.word x.idx)).pm = pmOf (x.b.word x.idx) := rfl
  simp only [fire, h.focus, h.block]
  rw [if_neg (by omega)]
  simp [h.firing, h.turn, ho, hp, hv, hs]

/-- One whose operands are there and that predication makes void only counts as fired. -/
theorem fire_void {s : State} {i : Instr} {x : Firing} (h : Stands s i x) (act : Firing → State → State)
    (ho : x.b.capture (s.slot x.slot) x.idx = some x.cap) (hv : x.b.void x.idx x.cap.p = true) :
    fire (formOf (x.b.word x.idx)) act s = .next (s.setBlock x.slot (x.b.setFired x.idx)) := by
  have hi := h.inside
  have ho : x.b.captureForm (s.slot x.slot) x.idx (formOf (x.b.word x.idx)) = some x.cap := ho
  have hv : x.b.voidForm x.idx (pmOf (x.b.word x.idx)) x.cap.p = true := hv
  have hp : (formOf (x.b.word x.idx)).pm = pmOf (x.b.word x.idx) := rfl
  simp only [fire, h.focus, h.block]
  rw [if_neg (by omega)]
  simp [h.firing, h.turn, ho, hp, hv]

/-- One that still awaits an operand does nothing. -/
theorem fire_waits {s : State} {i : Instr} {x : Firing} (h : Stands s i x) (act : Firing → State → State)
    (ho : x.b.capture (s.slot x.slot) x.idx = none) : fire (formOf (x.b.word x.idx)) act s = .next s := by
  have hi := h.inside
  have ho : x.b.captureForm (s.slot x.slot) x.idx (formOf (x.b.word x.idx)) = none := ho
  simp only [fire, h.focus, h.block]
  rw [if_neg (by omega)]
  simp [h.firing, ho]

/-- One that stands behind a higher-index exit, or writer of its register, of this cycle does nothing in it. -/
theorem fire_turn {s : State} {i : Instr} {x : Firing} (h : Placed s i x) (act : Firing → State → State)
    (ht : x.b.waitsTurn x.idx = true) : fire (formOf (x.b.word x.idx)) act s = .next s := by
  have hi := h.inside
  simp only [fire, h.focus, h.block]
  rw [if_neg (by omega)]
  simp [ht]

/-- Finishing with a value delivers it. -/
theorem finish_some (x : Firing) (ts : List Nat) (v : Word) (s : State) (b : Block) (h : x.block.deliverAll x.idx ts v = some b) :
    x.finish ts v s = s.setBlock x.slot b := by
  simp [Firing.finish, h]
theorem finish_none (x : Firing) (ts : List Nat) (v : Word) (s : State) (h : x.block.deliverAll x.idx ts v = none) :
    x.finish ts v s = s.faultAt x.slot x.b x.idx cBlockMultiwrite 0 none := by
  simp [Firing.finish, h]

/-- A meaning of class Value, in the form of its word, delivers its value. -/
theorem delivers_of_fireValue (i : Instr) (f : Form) (ts : List Nat) (g : Word → Word → Word → Word) (v : Firing → Word)
    (hf : i.wf = true → ∀ w, encode i = some w → formOf w = f) (he : ∀ s, exec i s = fireValue f ts g s)
    (hv : ∀ x : Firing, g x.cap.l x.cap.r x.cap.p = v x) : Delivers i ts v := by
  intro s x h
  have e : exec i s = .next (x.finish ts (v x) s) := by
    rw [he, fireValue, ← hf h.wf _ h.word, fire_fires h]
    simp only [hv]
  exact ⟨fun b hb => by rw [e, finish_some _ _ _ _ _ hb], fun hn => by rw [e, finish_none _ _ _ _ hn]⟩

end Sys2Proof.Laws
end

