-- ==== Sys2Proof/Laws/Commit.lean ====
section
/-! SUPPORT. The commit and what is held for it, once: an instruction that is held, an effect that is performed, stalls or holds
the exit, and the handles and observations that effects go through. -/

namespace Sys2Proof.Laws

open Sys2Proof Sys2Proof.Machine

/-- A definition by fireHeld is held under its check. -/
theorem holds_of (i : Instr) (f : Form) (t : BitVec 9) (ck check : Firing → State → Option Byte × State)
    (hf : i.wf = true → ∀ w, encode i = some w → formOf w = f) (he : ∀ s, exec i s = fireHeld f t.toNat ck s)
    (hc : ∀ s x, Fires s i x → ck x s = check x s) : Holds i t check := by
  intro s x h
  have e := he s
  unfold fireHeld at e
  rw [← hf h.wf _ h.word, fire_fires h] at e
  rw [← hc s x h, e]
  rcases hk : ck x s with ⟨_ | c, s1⟩
  · refine ⟨fun c h => (by cases h), fun _ h2 => ?_, fun _ h2 => ?_⟩
    · simp [Firing.hold, h2]
    · simp [Firing.hold, h2, State.holding]
  · refine ⟨fun c' h => ?_, fun h => (by cases h), fun h => (by cases h)⟩
    cases h; rfl

/-- The commit of a block, by its event. -/
theorem exec_commit (k : Nat) (s : State) : exec (.blockCommit k) s = execBlockCommit k s := rfl

/-- An effect's turn: the commit goes on with the effects from where it stands. -/
theorem commit_eff {s : State} {k : Nat} {b : Block} {c : Capture} {op : Nat} (h : Effecting s k b c op) :
    ∃ i, exec (.blockCommit k) s = .next (s.commitEffects k b i) ∧ b.nextEffect i = some c.idx := by
  obtain ⟨i, hp, hn⟩ := h.pos
  refine ⟨i, ?_, hn⟩
  rw [exec_commit]; unfold execBlockCommit
  simp [h.status, h.block, hp]

/-- An effect that is done. -/
theorem eff_done {s : State} {k : Nat} {b : Block} {c : Capture} {op : Nat} (h : Effecting s k b c op) (hs : settles op = false) (t : State) (v : Word)
    (hp : s.performEffect k (b.word c.idx) c = .done t v) : Effects s k b c t v := by
  obtain ⟨i, he, hn⟩ := commit_eff h
  unfold Effects; rw [he]
  simp only [State.commitEffects, hn, h.held, hp, h.op, hs, State.effected]
  split <;> rfl

/-- An effect that must wait. -/
theorem eff_stall {s : State} {k : Nat} {b : Block} {c : Capture} {op : Nat} (h : Effecting s k b c op)
    (hp : s.performEffect k (b.word c.idx) c = .stall) : Stalls s k b c := by
  obtain ⟨i, he, hn⟩ := commit_eff h
  unfold Stalls; rw [he]
  simp only [State.commitEffects, hn, h.held, hp]

/-- An effect that holds the exit. -/
theorem eff_hold {s : State} {k : Nat} {b : Block} {c : Capture} {op : Nat} (h : Effecting s k b c op) (hs : settles op = true) (t : State) (hss : List Hold)
    (hp : s.performEffect k (b.word c.idx) c = .done (hss.foldl (fun s h => s.modBlock k (fun b => { b with holds := b.holds ++ [h] })) t) 0) : HoldsExit s k b c t hss := by
  obtain ⟨i, he, hn⟩ := commit_eff h
  unfold HoldsExit; rw [he]
  simp only [State.commitEffects, hn, h.held, hp, h.op, hs, if_true]
  split
  · rfl
  · simp only [Host.Outcome.next.injEq, ite_eq_right_iff]
    rintro rfl
    simp [settles] at hs

theorem addHold_eq (s : State) (k : Nat) (h : Hold) : s.addHold k h = s.modBlock k (fun b => { b with holds := b.holds ++ [h] }) := rfl

theorem handleDie_eq (v : Nat) : handleDie v = v / 64 % 4 := by simp [handleDie, bitsOf]
theorem handleEntry_eq (v : Nat) : handleEntry v = v % 64 := rfl
theorem named_of {s : State} {k v : Nat} {m : Mould} (h : s.mould (v / 64 % 4) (v % 64) = some m ∧ m.ctx = (s.slot k).ctxid) : s.named k v = some m := by
  simp [State.named, handleDie_eq, handleEntry_eq, h.1, h.2]
theorem named_none {s : State} {k v : Nat} (h : ∀ m, s.mould (v / 64 % 4) (v % 64) = some m → m.ctx ≠ (s.slot k).ctxid) : s.named k v = none := by
  simp only [State.named, handleDie_eq, handleEntry_eq]
  cases hm : s.mould (v / 64 % 4) (v % 64) with
  | none => rfl
  | some m => simp [h m hm]
theorem observe_dies (s : State) (d : Nat) (p : Party) (ids : List Nat) : (s.observe d p ids).dies = s.dies := by
  simp only [State.observe, State.reveal]; split <;> rfl
theorem observe_slots (s : State) (d : Nat) (p : Party) (ids : List Nat) : (s.observe d p ids).slots = s.slots := by
  simp only [State.observe, State.reveal]; split <;> rfl

end Sys2Proof.Laws
end

