-- ==== Sys2Proof/Laws/Memory.lean ====
section
/-! SUPPORT. Memory: its canonical form is kept, and what a party reads after a write (09 R155, R156). -/

namespace Sys2Proof.Laws

open Sys2Proof Sys2Proof.Machine

/-! ### The canonical form -/

theorem wf_putBytes (l : List Nat) (f : Nat → Nat) (g : Nat → Byte) (m : List Host.Cell) (h : Memory.wf m = true) :
    Memory.wf (l.foldl (fun m i => Smap.put m (0 : Byte) (f i) (g i)) m) = true := by
  induction l generalizing m with
  | nil => exact h
  | cons a l ih => exact ih _ (wf_put m 0 (f a) (g a) h)

/-- Passing writes into memory keeps the canonical form. -/
theorem wf_foldMem (ws : List WriteRec) (m : List Host.Cell) (h : Memory.wf m = true) : Memory.wf (foldMem m ws) = true := by
  induction ws generalizing m with
  | nil => exact h
  | cons r ws ih => exact ih _ (wf_putBytes _ _ _ m h)

/-- So does what a step leaves, whatever the step did. -/
theorem wf_settle (s : State) (m : List Host.Cell) (h : Memory.wf m = true) : Memory.wf (s.settle m).mem = true :=
  wf_foldMem _ m h

/-! ### Reading -/

theorem newestCover_append (l l' : List WriteRec) (ok : WriteRec → Bool) (k : Nat) :
    newestCover (l ++ l') ok k = (newestCover l' ok k).or (newestCover l ok k) := by
  suffices ∀ acc, l'.foldl (fun acc r => if r.covers k && ok r then some r else acc) acc
      = (l'.foldl (fun acc r => if r.covers k && ok r then some r else acc) none).or acc by
    simp only [newestCover, List.foldl_append]; exact this _
  induction l' with
  | nil => simp
  | cons r l' ih =>
    intro acc
    simp only [List.foldl_cons]
    split
    · rw [ih (some r)]; cases List.foldl _ none l' <;> simp
    · exact ih acc

theorem newestCover_none (l : List WriteRec) (ok : WriteRec → Bool) (k : Nat) (h : ∀ r ∈ l, r.covers k = true → ok r = false) :
    newestCover l ok k = none := by
  induction l with
  | nil => rfl
  | cons r l ih =>
    have h' := newestCover_append [r] l ok k
    rw [List.singleton_append] at h'
    rw [h', ih (fun q hq => h q (List.mem_cons_of_mem _ hq))]
    simp only [newestCover, List.foldl_cons, List.foldl_nil, Option.none_or]
    have := h r List.mem_cons_self
    cases hc : r.covers k <;> simp_all

/-- A write that does not cover a byte leaves what anyone reads there, wherever it is placed. -/
theorem newestCover_insert_ne (l : List WriteRec) (n : Nat) (r : WriteRec) (ok : WriteRec → Bool) (k : Nat)
    (h : r.covers k = false) : newestCover (l.insertIdx n r) ok k = newestCover l ok k := by
  induction l generalizing n with
  | nil => cases n <;> simp [newestCover, h]
  | cons q l ih =>
    cases n with
    | zero =>
      simp only [List.insertIdx_zero, newestCover, List.foldl_cons, h, Bool.false_and, Bool.false_eq_true, if_false]
    | succ n =>
      have e1 := newestCover_append [q] (l.insertIdx n r) ok k
      have e2 := newestCover_append [q] l ok k
      rw [List.singleton_append] at e1 e2
      rw [List.insertIdx_succ_cons, e1, e2, ih]

theorem insertIdx_split {α : Type} (l : List α) (x : α) (n : Nat) (h : n ≤ l.length) :
    l.insertIdx n x = l.take n ++ x :: l.drop n := by
  induction l generalizing n with
  | nil => simp_all
  | cons y l ih =>
    cases n with
    | zero => simp
    | succ n => simp at h; simp [ih n h]

theorem store_writes (s : State) (p : Party) (k : Nat) (data : List Byte) (deps : List Dep) (atomic : Bool) :
    ∃ r n, (s.store p k data deps atomic).writes = s.writes.insertIdx n r ∧ r.addr = k ∧ r.data = data ∧ r.src = p ∧
      ∀ q ∈ s.writes.drop n, ∀ d, s.sees d p q = false := by
  refine ⟨_, _, rfl, rfl, rfl, rfl, ?_⟩
  intro q hq d
  generalize hj : (if (if atomic then 0 else s.unseenTail p) = 0 then 0
    else Config.place s.nextWrite % ((if atomic then 0 else s.unseenTail p) + 1)) = j at hq
  have hle : j ≤ s.unseenTail p := by
    subst hj
    cases atomic
    · have := Nat.mod_lt (Config.place s.nextWrite) (show 0 < s.unseenTail p + 1 from Nat.succ_pos _)
      simp only [Bool.false_eq_true, if_false]
      split <;> omega
    · simp
  have hmem : q ∈ s.writes.reverse.takeWhile (fun r =>
      r.seen.isEmpty && !r.atomic && r.src != p && r.origin != s.originOf p && !s.readFrom.any (fun e => e.2 == r.id)) := by
    have h1 : q ∈ s.writes.reverse.take j := by
      rw [List.take_reverse]; simpa using hq
    have h2 := List.mem_of_mem_take (i := s.unseenTail p) (l := s.writes.reverse) (a := q)
    have h3 : q ∈ s.writes.reverse.take (s.unseenTail p) := by
      rw [show j = min j (s.unseenTail p) by omega, ← List.take_take] at h1
      exact List.mem_of_mem_take h1
    unfold State.unseenTail at h3
    rwa [List.prefix_iff_eq_take.mp (List.takeWhile_prefix _)]
  have := List.mem_takeWhile_imp hmem
  simp only [Bool.and_eq_true, Bool.not_eq_true', List.any_eq_false, bne_iff_ne, ne_eq, beq_iff_eq] at this
  obtain ⟨⟨⟨⟨hs, _⟩, hsrc⟩, _⟩, hr⟩ := this
  simp only [State.sees, Bool.or_eq_false_iff]
  refine ⟨⟨?_, ?_⟩, ?_⟩
  · simp [List.isEmpty_iff.mp hs]
  · simpa using hsrc
  · rw [Bool.eq_false_iff]
    intro hc
    exact hr _ (by simpa using hc) rfl

@[simp] theorem store_readFrom (s : State) (p : Party) (k : Nat) (data : List Byte) (deps : List Dep) (atomic : Bool) :
    (s.store p k data deps atomic).readFrom = s.readFrom := rfl
@[simp] theorem store_mem (s : State) (p : Party) (k : Nat) (data : List Byte) (deps : List Dep) (atomic : Bool) :
    (s.store p k data deps atomic).mem = s.mem := rfl

/-- A write leaves every byte outside it alone, for every reader. -/
theorem byteFor_store_ne (s : State) (p q : Party) (d k a : Nat) (data : List Byte) (deps : List Dep) (atomic : Bool)
    (h : a < k ∨ k + data.length ≤ a) : (s.store p k data deps atomic).byteFor d q a = s.byteFor d q a := by
  obtain ⟨r, n, hw, ha, hd, _, _⟩ := store_writes s p k data deps atomic
  have hc : r.covers a = false := by
    simp only [WriteRec.covers, ha, hd, Bool.and_eq_false_iff, decide_eq_false_iff_not]
    omega
  have hsee : (s.store p k data deps atomic).sees d q = s.sees d q := rfl
  simp only [State.byteFor, hw, hsee, newestCover_insert_ne _ _ _ _ _ hc, store_mem]

/-- The writer reads what it wrote. -/
theorem byteFor_store_same (s : State) (p : Party) (d k i : Nat) (data : List Byte) (deps : List Dep) (atomic : Bool)
    (h : i < data.length) : (s.store p k data deps atomic).byteFor d p (k + i) = data.getD i 0 := by
  obtain ⟨r, n, hw, ha, hd, hp, ht⟩ := store_writes s p k data deps atomic
  have hc : r.covers (k + i) = true := by
    simp only [WriteRec.covers, ha, hd, Bool.and_eq_true, decide_eq_true_eq]; omega
  have hsee : (s.store p k data deps atomic).sees d p = s.sees d p := rfl
  have hr : s.sees d p r = true := by simp [State.sees, hp]
  have key : newestCover (s.writes.insertIdx n r) (s.sees d p) (k + i) = some r := by
    by_cases hn : n ≤ s.writes.length
    · rw [insertIdx_split s.writes r n hn]
      have e := newestCover_append (s.writes.take n ++ [r]) (s.writes.drop n) (s.sees d p) (k + i)
      rw [List.append_assoc, List.singleton_append] at e
      rw [e, newestCover_none _ _ _ (fun q hq _ => ht q hq d), newestCover_append]
      simp [newestCover, hc, hr]
    · exfalso
      have h1 : (s.store p k data deps atomic).writes.length = s.writes.length + 1 := by
        simp only [State.store, State.storeGroup]
        rw [List.length_insertIdx_of_le_length (by omega)]
      rw [hw, List.length_insertIdx_of_length_lt (by omega)] at h1
      omega
  simp only [State.byteFor, hw, hsee, key, hd, ha, Nat.add_sub_cancel_left]

end Sys2Proof.Laws
end

