-- ==== Sys2Proof/Laws/Stage.lean ====
section
/-! SUPPORT. A stage's turn, once: what is taken, that a stage in focus takes its turn, and what an operation that maps its input
does. -/

namespace Sys2Proof.Laws

open Sys2Proof Sys2Proof.Machine

/-- A vector that is taken stands at the front, but for a token's tag. -/
theorem takeFront_front {u : State} {x : StageRef} {v : List Lane} (h : (u.takeFront x).1 = some (.vec v)) :
    ∃ v', (u.pipeOf x).front x.stg = some (.vec v') := by
  unfold State.takeFront at h
  cases hf : (u.pipeOf x).front x.stg with
  | none => simp [hf] at h
  | some it =>
    simp only [hf] at h
    cases it with
    | vec w => exact ⟨w, rfl⟩
    | _ => exfalso; revert h; repeat' split
           all_goals simp_all

/-- A stage in focus takes its turn. -/
theorem run_of_staged {s : State} {i : Instr} {x : StageRef} (h : Staged s i x) (plan : StageRef → StagePlan) :
    runStage plan s = .next ((s.stageTurn x (plan x)).sweep x.die x.entry) := by
  obtain ⟨m, hm, h1, h2, h3, h4⟩ := h.mould
  have hi := h.inside
  simp only [State.mouldOf] at hm
  simp only [runStage, h.focus, hm, h1, h2, h3]
  rw [if_neg (by simp; omega)]
  simp

/-- An operation whose plan is a map of its input vector. -/
theorem maps_of {i : Instr} {p : Bool} {f : Stage → List Lane → List Lane → Stage × List Lane} (bs : StageRef → Nat) (hb : ∀ x, decide (bs x = 3) = p)
    (he : ∀ s, exec i s = runStage (fun x => planMap x (bs x) f) s) : Maps i p f := by
  intro s x v hs ho
  obtain ⟨v', hf⟩ := takeFront_front ho.input
  have h1 := ho.free
  have h2 := ho.input
  rw [he, run_of_staged hs]
  have e : s.enters x (.plain p) = (s.flush x).drainPb x (planMap x (bs x) f) := by
    simp [State.enters, State.drainPb, Ending.plan, Ending.plain, planMap, planOf, hb]
  have hp : ∀ t : State, t.passEnd x (planMap x (bs x) f) = t.passEnd x (Ending.plain p).plan := by
    intro t; simp [State.passEnd, Ending.plan, Ending.plain, planMap, planOf, hb]
  unfold State.stageTurn State.leaves
  simp only [hp]
  rw [e]
  rw [e] at hf h1 h2
  generalize (s.flush x).drainPb x (planMap x (bs x) f) = u at *
  have hsp : (planMap x (bs x) f).spare u = none := rfl
  simp only [hsp, h1, hf, Option.isSome_none, Bool.false_eq_true, if_false]
  congr 4
  simp only [State.fireVec, State.taking, State.idles, h2]
  have ha : (planMap x (bs x) f).paired = p := hb x
  rw [ha]
  have hr : ∀ a b, (planMap x (bs x) f).ready a b = true := fun _ _ => rfl
  simp only [hr, Bool.not_true, Bool.or_false]
  cases hd : u.demanded x
  · simp
  cases p
  · simp; rfl
  · simp
    cases hpb : (u.pipeOf x).pb with
    | nil => rfl
    | cons a l => cases a <;> rfl

end Sys2Proof.Laws
end

