-- ==== Sys2Proof/Tests/Slice0.lean ====
section
/-! SUPPORT. Tests of the model: words written out from the encodings, ill-formed terms that the checks refuse, and for each
obligation states and operands that meet its hypotheses. Every expected result comes from the manual's rules. -/

namespace Sys2Proof.Tests

open Sys2Proof Sys2Proof.Machine

set_option Elab.async false

/-! ### Words (05 R64-R68, R84; 11 R177; the operation code tables) -/

/-- What a sequencer word decodes to. -/
def seqOf (w : Word32) : Option Instr := (decodeSeq w).toOption
/-- What a stage word decodes to. -/
def stageOf (w : Word32) : Option Instr := (decodeStage w).toOption

/-- R format: operation code, PM, TGT, L, R. -/
def wordR (op : BitVec 7) (pm : BitVec 2) (t : BitVec 9) (l r : BitVec 7) : Word32 := op ++ pm ++ t ++ l ++ r
/-- Vector format of a stage: operation code, DST, SRCA, SRCB, BSEL, CTL, IMM. -/
def wordV (op : BitVec 7) (d a b : BitVec 2) (s : BitVec 3) (c : BitVec 4) (imm : BitVec 12) : Word32 := op ++ d ++ a ++ b ++ s ++ c ++ imm

/-- Scalar and control words. -/
theorem test_decode_scalar : seqOf (0b0101010#7 ++ 0b00#2 ++ 0x185#9 ++ 12#14) = some (.const 0 0x185 12) ∧
    seqOf (0b0110010#7 ++ 0b00#2 ++ 8#23) = some (.calli 0 8) ∧
    seqOf (0b0000011#7 ++ 0b00#2 ++ 0x186#9 ++ 5#7 ++ 5#7) = some (.mul 0 0x186 5 5) ∧
    seqOf (0b0110001#7 ++ 0b00#2 ++ 0x1C0#9 ++ 0x3F#7 ++ 0x60#7) = some (.br 0 0x3F 0x60) ∧
    seqOf (0b0110111#7 ++ 0b00#2 ++ 0x1C0#9 ++ 0x60#7 ++ 0x60#7) = some (.eret 0 0x60 0x60) := by decide
/-- Memory words: address and target fields, the offset of a store, size, scope and operation of an atomic. -/
theorem test_decode_memory : seqOf (0b1001001#7 ++ 0#2 ++ 0x189#9 ++ 4#7 ++ 0x63#7) = some (.ld32s 0 0x189 4 0x63) ∧
    seqOf (0b1001110#7 ++ 0#2 ++ 2#9 ++ 4#7 ++ 9#7) = some (.st32 0 2 4 9) ∧
    seqOf (0b1001011#7 ++ 0#2 ++ 0x185#9 ++ 8#7 ++ 2#3 ++ 1#2 ++ 2#2) = some (.ldaq 0 0x185 8 2 1 2) ∧
    seqOf (0b1010001#7 ++ 0#2 ++ 0x183#9 ++ 8#7 ++ 3#3 ++ 1#1 ++ 1#3) = some (.amo64 0 0x183 8 3 1 1) ∧
    seqOf (0b1010100#7 ++ 0#2 ++ 0x1C0#9 ++ 0x60#7 ++ 3#3 ++ 3#2 ++ 3#2) = some (.fence 0 0x60 3 3 3) ∧
    seqOf (0b1101001#7 ++ 0#2 ++ 0x18C#9 ++ 4#7 ++ 5#7) = some (.spalloc 0 0x18C 4 5) ∧
    seqOf (0b1101010#7 ++ 0#2 ++ 0x1C0#9 ++ 0xC#7 ++ 0x60#7) = some (.spfree 0 0x1C0 0xC 0x60) := by decide
/-- Words of the scheduler, the fabric, tiles and hallmarks; one word of two rows is filed under its R specifier (log entry 6). -/
theorem test_decode_engines : seqOf 0xBA61C561 = some (.est 0 0x187 0xA 0x61) ∧ seqOf 0xDC624303 = some (.hmtest 0 0x189 6 3) ∧
    seqOf 0xCE700805 = some (.mxcfg 0 0x1C0 0x10 5) ∧ seqOf 0xD07003E0 = some (.mxjoin 0 7 0x60) ∧
    seqOf 0xC0624263 = some (.mload 0 0x189 4 0x63) ∧ seqOf 0xC2700485 = some (.mstart 0 0x1C0 9 5) ∧
    seqOf 0xC47004E0 = some (.mstopDrain 0 0x1C0 9 0x60) ∧ seqOf 0xC47004E1 = some (.mstopAbort 0 0x1C0 9 0x61) ∧
    seqOf 0xC6700414 = some (.inject 0 0x1C0 8 0x14) ∧ seqOf 0xC86301F3 = some (.collect 0 0x18C 3 0x73) := by decide
/-- A word of the KV group, of floating point and of the privileged group. -/
theorem test_decode_others : seqOf (wordR 0x72 0 0x185 4 6) = some (.kvappend 0 0x185 4 6) ∧
    seqOf (wordR 0x38 0 0x185 4 6) = some (.fadd 0 0x185 4 6) ∧ seqOf (wordR 0x7B 0 0x1C0 4 0x60) = some (.tlbopPage 0 0x1C0 4 0x60) ∧
    seqOf (wordR 0x5A 1 0x185 4 6) = some (.rvinit 1 0x185 4 6) := by decide
/-- Stage words: a lane operation, a comparison, a swap, and an access. -/
theorem test_decode_stage : stageOf (wordV 0x01 1 2 3 3 5 0) = some (.iadd 1 2 3 3 5) ∧ stageOf 0x1F811001 = some (.icmp 3 0 0 1 1 1) ∧
    stageOf 0x700000F0 = some (.trswap 3 0x30) ∧ stageOf (wordV 0x40 0 0 0 0 0 0) = some .sink := by decide
/-- Codes that no table assigns, and a bit that must be zero (05 R68; 11 R177). -/
theorem test_decode_reserved : seqOf 0 = none ∧ seqOf 0xFE000000 = none ∧ stageOf 0x84000000 = none ∧ stageOf (wordV 0x01 1 2 3 4 5 1) = none ∧
    decodeSeq 0 = .error .illegalOpcode ∧ decodeSeq (wordR 0x01 3 0x185 4 6) = .error .illegalForm := by decide

/-! ### Terms that are no instructions -/

/-- 05 R64-R68: PM 11, a target beyond none, a slot for a held instruction, a group beyond s60, an unused specifier, a scope beyond 4. -/
theorem test_wf_block : (Instr.add 3 0x185 4 6).wf = false ∧ (Instr.add 0 0x1C1 4 6).wf = false ∧ (Instr.spawn 0 5 4 0x60).wf = false ∧
    (Instr.gang 0 0x185 61 0x60).wf = false ∧ (Instr.collect 0 0x1BD 4 6).wf = false ∧ (Instr.clz 0 0x185 4 6).wf = false ∧
    (Instr.ldaq 0 0x185 4 5 0 0).wf = false ∧ (Instr.fence 0 0 1 0 0).wf = false ∧ (Instr.amo64 0 0x185 4 0 0 7).wf = false ∧
    (Instr.mstopAbort 0 0x1C0 4 0x60).wf = false ∧ (Instr.pourLoadt 0 0x1C0 4 0x61).wf = false := by decide
/-- 11 R177, R187: BSEL 101, a format CVT does not name, a size of three bits, a mask of no stage, an operation beyond FMAX. -/
theorem test_wf_stage : (Instr.iadd 0 0 0 5 0).wf = false ∧ (Instr.iadd 0 0 1 1 0).wf = false ∧ (Instr.fork 0 1 0 0 0).wf = false ∧ (Instr.cvt 0 0 0 0 5 0 0).wf = false ∧ (Instr.spld 0 0 0 0 3 0).wf = false ∧
    (Instr.trswap 0 0).wf = false ∧ (Instr.lred 0 0 0 11).wf = false ∧ (Instr.token 3).wf = false ∧ (Instr.stageFadd 0 0 0 0 0 4).wf = false := by
  decide
/-- 01 R23: a slot, die, bay, entry, size, link and scope that the package does not have. -/
theorem test_wf_events : (Instr.blockFetch 1024).wf = false ∧ (Instr.gangPlace 4).wf = false ∧ (Instr.pageWalk 128 0).wf = false ∧
    (Instr.mouldLoadDone 0 64).wf = false ∧ (Instr.accessRead 0 3).wf = false ∧ (Instr.linkTraining 24 0).wf = false ∧
    (Instr.dispatchStop 0 0).wf = false ∧ (Instr.readDeliver 0 128).wf = false := by decide

/-! ### Instructions of a block that fire -/

def task0 : Task :=
  { uid := 1, record := 0x12000, entry := 0x10100, join := 0, launchField := 0, flags := 3, arg := 0, launch := 0, qDie := 0, qLevel := 4,
    qClass := 0, gang := none, place := 0, boundAt := 0, arrival := .normal, exitKept := none, grps := [], fixedGen := none, framed := none }
/-- A die after its start, with its handler at 0x10000. -/
def openDie : Die :=
  { Die.reset with
    opened := true, capbays := 0xFFFFFFFF#32, capmxt := 0xFFFFFFFF#32, capslice := 0xFFFFFFFFFFFFFFFF#64
    capLow := 0xC0000#20, capHigh := 0xC0000#20, trapvec := 0x10000#56 }
/-- A bay whose TLB holds page 1, readable and writable, at its own address (21 R378). -/
def bay0 : Bay := { Bay.reset with tlb := [{ vpage := 1, large := false, leaf := 0x10007#64, ctr := 0 }] }
/-- The device after its start, with an ERET block of KIND 1 at TRAPVEC. -/
def base : State :=
  { State.reset with
    startStep := 6, nextUid := 2, dies := [(0, openDie)], bays := [(0, bay0)]
    mem := [(0x10002, 1#8), (0x10004, 0x60#8), (0x10005, 0x30#8), (0x10006, 0x70#8), (0x10007, 0x6E#8)] }
/-- A block of one word, with 1 in every slot it awaits. -/
def block1 (w : Word32) : Block :=
  { blockAt 0x10100#56 false false with
    words := [w], tokens := ([0, 1, 2] : List Nat).filterMap (fun j => if awaitsSlot w j then some (j, (1 : Word)) else none) }
def wordOf (i : Instr) : Word32 := (encode i).getD 0
/-- A task of context 1 running in slot 0. -/
def slot1 (regs : Smap Word) (b : Block) : Slot :=
  { Slot.reset with status := .running, task := some task0, ctxid := 1, trapframe := 0x11000#56, regs := regs, block := some b }
def demoIn (regs : Smap Word) (b : Block) : State := { base with focus := .seq 0 0, slots := [(0, slot1 regs b)] }
/-- One instruction in a block in flight in slot 0, with the registers of its task. -/
def demo (i : Instr) (regs : Smap Word) : State := demoIn regs (block1 (wordOf i))
/-- What fires when instruction 0 of a block does. -/
def firingIn (regs : Smap Word) (b : Block) : Firing :=
  { slot := 0, idx := 0, b := b, cap := (b.capture (slot1 regs b) 0).getD { idx := 0, l := 0, r := 0, p := 0, grp := [] } }
def firing (i : Instr) (regs : Smap Word) : Firing := firingIn regs (block1 (wordOf i))
/-- Stands, decided. -/
def standsB (s : State) (i : Instr) (x : Firing) : Bool :=
  i.wf && i.home == .block && s.focus == .seq x.slot x.idx && (s.slot x.slot).block == some x.b && (s.slot x.slot).firing x.b &&
    decide (x.idx < x.b.count) && encode i == some (x.b.word x.idx) && x.b.waitsTurn x.idx == false
theorem stands_of {s : State} {i : Instr} {x : Firing} (h : standsB s i x = true) : Stands s i x := by
  simp only [standsB, Bool.and_eq_true, beq_iff_eq, decide_eq_true_eq] at h
  obtain ⟨⟨⟨⟨⟨⟨⟨h1, h2⟩, h3⟩, h4⟩, h5⟩, h6⟩, h7⟩, h8⟩ := h
  exact { wf := h1, home := h2, focus := h3, block := h4, firing := h5, inside := h6, word := h7, turn := h8 }
/-- Fires, decided. -/
def firesB (s : State) (i : Instr) (x : Firing) : Bool :=
  standsB s i x && x.b.capture (s.slot x.slot) x.idx == some x.cap && x.b.void x.idx x.cap.p == false &&
    x.b.spoilt (s.slot x.slot) x.idx (formOf (x.b.word x.idx)) == false
theorem fires_of {s : State} {i : Instr} {x : Firing} (h : firesB s i x = true) : Fires s i x := by
  simp only [firesB, Bool.and_eq_true, beq_iff_eq] at h
  exact { toStands := stands_of h.1.1.1, operands := h.1.1.2, acts := h.1.2, sound := h.2 }

def blockInstrs1 : List Instr :=
  [.add 0 0x185 8 0x60, .sub 0 0x185 8 0x60, .mul 0 0x185 8 0x60, .mulh 0 0x185 8 0x60, .mulhu 0 0x185 8 0x60,
   .div 0 0x185 8 0x60, .divu 0 0x185 8 0x60, .rem 0 0x185 8 0x60, .remu 0 0x185 8 0x60, .and 0 0x185 8 0x60, .or 0 0x185 8 0x60,
   .xor 0 0x185 8 0x60, .andn 0 0x185 8 0x60, .shl 0 0x185 8 0x60, .shr 0 0x185 8 0x60, .sar 0 0x185 8 0x60, .rotl 0 0x185 8 0x60,
   .min 0 0x185 8 0x60, .max 0 0x185 8 0x60, .minu 0 0x185 8 0x60, .maxu 0 0x185 8 0x60, .shadd1 0x185 8 0x60,
   .shadd2 0x185 8 0x60, .shadd3 0x185 8 0x60, .shadd4 0x185 8 0x60, .clz 0 0x185 8 0x60, .ctz 0 0x185 8 0x60,
   .popc 0 0x185 8 0x60, .sext 0 0x185 8 0x60, .zext 0 0x185 8 0x60, .addw 0 0x185 8 0x60, .ceq 0 0x185 8 0x60,
   .cne 0 0x185 8 0x60, .clt 0 0x185 8 0x60]
def blockInstrs2 : List Instr :=
  [.cltu 0 0x185 8 0x60, .cle 0 0x185 8 0x60, .cleu 0 0x185 8 0x60, .tz 0 0x185 8 0x60, .tnz 0 0x185 8 0x60, .sel 0x185 8 0x60,
   .not 0 0x185 8 0x60, .const 0 0x185 1, .constx 0 0x185 1, .mov 0 0x185 8 0x60, .fan 0 0x185 0x1C0, .srrd 0 0x185 1,
   .srwr 0 0x185 1, .bri 0 1, .br 0 8 0x60, .calli 0 1, .call 0 8 0x60, .exit 0 0x60 0x60, .yield 0 0x60 0x60, .trap 0 1,
   .eret 0 0x60 0x60, .fadd 0 0x185 8 0x60, .fsub 0 0x185 8 0x60, .fmul 0 0x185 8 0x60, .fdiv 0 0x185 8 0x60,
   .fmin 0 0x185 8 0x60, .fmax 0 0x185 8 0x60, .fclt 0 0x185 8 0x60, .fceq 0 0x185 8 0x60, .fcle 0 0x185 8 0x60,
   .cvtif 0 0x185 8 0x60, .cvtfi 0 0x185 8 0x60, .fsqrt 0 0x185 8 0x60, .ld8 0 0x185 8 0x60]
def blockInstrs3 : List Instr :=
  [.ld8s 0 0x185 8 0x60, .ld16 0 0x185 8 0x60, .ld16s 0 0x185 8 0x60, .ld32 0 0x185 8 0x60, .ld32s 0 0x185 8 0x60,
   .ld64 0 0x185 8 0x60, .ldaq 0 0x185 8 0 0 0, .st8 0 1 8 0x60, .st16 0 1 8 0x60, .st32 0 1 8 0x60, .st64 0 1 8 0x60,
   .strl 0 8 0 0, .amo64 0 0x185 8 0 0 0, .amo32 0 0x185 8 0 0 0, .cas64 0x185 8 0 0, .fence 0 0x60 0 3 0, .sbar 0 8,
   .pref 0 8 0x60, .spawn 0 0x185 8 0x60, .joindec 0 0x185 8 0x60, .gang 0 0x185 8 0x60, .rvinit 0 0x185 8 0x60,
   .arrive 0 0x185 8 0x60, .wait 0 8 0x60, .est 0 0x185 8 0x60, .progress 0 0x185 0x60 0x60, .graphgo 0 0x185 8 0x60,
   .mload 0 0x185 8 0x60, .mstart 0 0x185 8 0x60, .mstopDrain 0 0x185 8 0x60, .mstopAbort 0 0x185 8 0x61, .inject 0 0x185 8 0x60,
   .collect 0 0x185 8 0x60, .pourLoadt 0 0x185 8 6]
def blockInstrs4 : List Instr :=
  [.pourStart 0 0x185 8 0x60, .pjoin 0 8 0x60, .mxcfg 0 0x185 8 0x60, .mxjoin 0 8 0x60, .spalloc 0 0x185 8 0x60,
   .spfree 0 0x185 8 0x60, .hmdecl 0 0x185 8 0x60, .stamp 0 0x185 8 0x60, .await 0 8 0x60, .hmtest 0 0x185 8 0x60,
   .hmretire 0 0x185 8 0x60, .kvmap 0 0x185 8 0x60, .kvfork 0 0x185 8 0x60, .kvappend 0 0x185 8 0x60, .kvfree 0 0x185 8 0x60,
   .pfxh 0 0x185 8 0x60, .pfxlook 0 0x185 8 0x60, .pfxins 0 0x185 8 0x60, .splice 0 0x185 8 0x60, .repair 0 0x185 8 0x60,
   .katt 0 0x185 8 0x60, .cacheopBinv 0 0x185 8 0x60, .cacheopBinvdie 0 0x185 8 0x61, .tlbopPage 0 0x185 8 0x60,
   .tlbopAll 0 0x185 8 0x61, .traceMark 0 0x185 8 0x60, .traceFreeze 0 0x185 8 0x61, .traceThaw 0 0x185 8 0x62,
   .migrate 0 0x185 8 0x60, .haltStop 0 0x185 8 0x60, .haltGo 0 0x185 8 0x61]
/-- One instruction for each row of a block. -/
def blockInstrs : List Instr := blockInstrs1 ++ blockInstrs2 ++ blockInstrs3 ++ blockInstrs4

/-- Witness of Fires, the hypothesis of every statement about an instruction of a block: each of them fires somewhere. -/
theorem test_witness_fires : ∀ i ∈ blockInstrs, Fires (demo i []) i (firing i []) := by
  have h : (blockInstrs.all fun i => firesB (demo i []) i (firing i [])) = true := by decide +kernel
  exact fun i hi => fires_of (List.all_eq_true.mp h i hi)

def after (o : Host.Outcome State Fault Refusal) : State := match o with
  | .next t => t
  | _ => State.reset
def blockIn (s : State) : Block := ((s.slot 0).block).getD (blockAt 0 false false)
/-- What became of instruction 0: the cause of the trap that was taken, and whether it counts as fired. -/
def fate (o : Host.Outcome State Fault Refusal) : Option Byte × Bool :=
  let t := after o
  (if (blockIn t).handler then some ((t.slot 0).trapcause.setWidth 8) else none, (blockIn t).isFired 0)
/-- What became of an instruction of one block with these registers. -/
def fateOf (i : Instr) (regs : Smap Word) : Option Byte × Bool := fate (exec i (demo i regs))
/-- The value an instruction with operands s4 and s6 delivers to s5. -/
def valueOf (i : BitVec 9 → BitVec 7 → BitVec 7 → Instr) (l r : Word) : Option Word :=
  ((blockIn (after (exec (i 0x185 4 6) (demo (i 0x185 4 6) [(4, l), (6, r)])))).regw.find? (fun w => w.reg = 5)).map (fun w => w.value)

/-! ### Values (07 R92-R104, R117-R120) -/

/-- IntegerInstructions, CompareSelectMove: values at the ends of the ranges. -/
theorem test_witness_integers : valueOf (.add 0) 0xFFFFFFFFFFFFFFFF 1 = some 0 ∧ valueOf (.sub 0) 0 1 = some 0xFFFFFFFFFFFFFFFF ∧
    valueOf (.mul 0) 0x8000000000000000 2 = some 0 ∧ valueOf (.mulh 0) 0xFFFFFFFFFFFFFFFF 1 = some 0xFFFFFFFFFFFFFFFF ∧
    valueOf (.mulhu 0) 0xFFFFFFFFFFFFFFFF 0xFFFFFFFFFFFFFFFF = some 0xFFFFFFFFFFFFFFFE ∧ valueOf (.andn 0) 6 2 = some 4 ∧
    valueOf (.min 0) 0xFFFFFFFFFFFFFFFF 1 = some 0xFFFFFFFFFFFFFFFF ∧ valueOf (.minu 0) 0xFFFFFFFFFFFFFFFF 1 = some 1 ∧
    valueOf (.addw 0) 0x7FFFFFFF 1 = some 0xFFFFFFFF80000000 := by decide +kernel
theorem test_witness_division : valueOf (.div 0) 7 0 = some 0xFFFFFFFFFFFFFFFF ∧
    valueOf (.div 0) 0x8000000000000000 0xFFFFFFFFFFFFFFFF = some 0x8000000000000000 ∧ valueOf (.div 0) 0xFFFFFFFFFFFFFFF9 2 = some 0xFFFFFFFFFFFFFFFD ∧
    valueOf (.divu 0) 7 0 = some 0xFFFFFFFFFFFFFFFF ∧ valueOf (.rem 0) 7 0 = some 7 ∧
    valueOf (.rem 0) 0x8000000000000000 0xFFFFFFFFFFFFFFFF = some 0 ∧ valueOf (.rem 0) 0xFFFFFFFFFFFFFFF9 2 = some 0xFFFFFFFFFFFFFFFF ∧
    valueOf (.remu 0) 7 0 = some 7 ∧ valueOf .shadd3 1 2 = some 11 := by decide +kernel
theorem test_witness_shifts : valueOf (.shl 0) 5 64 = some 5 ∧ valueOf (.shr 0) 0x8000000000000000 63 = some 1 ∧
    valueOf (.sar 0) 0x8000000000000000 63 = some 0xFFFFFFFFFFFFFFFF ∧ valueOf (.rotl 0) 0x8000000000000001 1 = some 3 ∧
    valueOf (.clz 0) 0 0 = some 64 ∧ valueOf (.clz 0) 1 0 = some 63 ∧ valueOf (.ctz 0) 8 0 = some 3 ∧ valueOf (.popc 0) 7 0 = some 3 ∧
    valueOf (.sext 0) 0x80 7 = some 0xFFFFFFFFFFFFFF80 ∧ valueOf (.zext 0) 0x1FF 7 = some 0xFF := by decide +kernel
theorem test_witness_compares : valueOf (.clt 0) 0xFFFFFFFFFFFFFFFF 0 = some 1 ∧ valueOf (.cltu 0) 0xFFFFFFFFFFFFFFFF 0 = some 0 ∧
    valueOf (.cle 0) 3 3 = some 1 ∧ valueOf (.tz 0) 0 0 = some 1 ∧ valueOf .sel 4 9 = some 4 ∧ valueOf (.not 0) 0 0 = some 0xFFFFFFFFFFFFFFFF ∧
    valueOf (fun t _ _ => .const 0 t 0x2000) 0 0 = some 0xFFFFFFFFFFFFE000 ∧ valueOf (fun t _ _ => .fan 0 t 0x1C0) 7 0 = some 1 := by decide +kernel
/-- FloatResults: sums, quotients, comparisons and conversions of FP32 encodings. -/
theorem test_witness_floats : valueOf (.fadd 0) 0x3F800000 0x3F800000 = some 0x40000000 ∧ valueOf (.fdiv 0) 0x3F800000 0 = some 0x7F800000 ∧
    valueOf (.fmin 0) 0x80000000 0 = some 0x80000000 ∧ valueOf (.fclt 0) 0xBF800000 0x3F800000 = some 1 ∧
    valueOf (.cvtif 0) 3 0 = some 0x40400000 ∧ valueOf (.cvtfi 0) 0x40200000 0 = some 2 ∧ valueOf (.fsqrt 0) 0x40800000 0 = some 0x40000000 ∧
    (bf16 ∈ [fp32, bf16, fp16, e4m3, e5m2] ∧ 0x3F80 < 2 ^ bf16.width ∧ (bf16.decode 0x3F80).isNan = false) := by decide +kernel
/-- FloatSpecialOperands: for each of its cases operands that are one: NaNs, infinities and zeros of both signs. -/
theorem test_witness_special_operands : (0x7F800000 < 0x7FC00001 % 2 ^ 31 ∧ 0xFF800000 % 2 ^ 31 = 0x7F800000 ∧ 0x80000000 % 2 ^ 31 = 0 ∧
      0x80000000 / 2 ^ 31 = 1 ∧ 0xFF800000 < 2 ^ 32) ∧
    (fpAdd .rne 0x7F800000 0xFF800000 = 0x7FC00000 ∧ fpMul .rne 0 0xFF800000 = 0x7FC00000 ∧ fpDiv .rne 0x80000000 0xFF800000 = 0 ∧
      fpDiv .rne 0xBF800000 0 = 0xFF800000 ∧ fpMin 0x7FC00001 5 = 5) ∧
    (fexp2 0x43000000 = 0x7F800000 ∧ fexp2 0xC3160001 = 0 ∧ frcp 0x80000000 = 0xFF800000 ∧ frsq 0x7F800000 = 0 ∧ frsq 0xBF800000 = 0x7FC00000) := by
  decide +kernel
/-- A second value for a slot or a register is BLOCK_MULTIWRITE: the last case of what is delivered or held. -/
theorem test_witness_second_writer :
    (let i : Instr := .add 0 0x185 4 6
     let b := { block1 (wordOf i) with regw := [{ reg := 5, writer := 9, value := 0 }] }
     standsB (demoIn [] b) i (firingIn [] b) = true ∧ (firingIn [] b).block.deliverAll 0 [0x185] 0 = none ∧
       fate (exec i (demoIn [] b)) = (some cBlockMultiwrite, false)) ∧
    (let i : Instr := .est 0 0x185 4 0x60
     let b := { block1 (wordOf i) with regw := [{ reg := 5, writer := 9, value := 0 }] }
     firesB (demoIn [] b) i (firingIn [] b) = true ∧ (firingIn [] b).block.clash 0x185 = true) := by decide +kernel

/-! ### Firing (05 R66-R72) -/

/-- FiringAndOperands: an awaited slot that is empty, PM 01 over a zero P and PM 10 over one that is not, a replayed instruction, and
the forms of an operand. -/
theorem test_witness_firing :
    (let i : Instr := .mov 1 0x185 0x80 0x60
     (wordOf i).toNat = (wordOf (.mov 1 0x185 0 0x60)).toNat) ∧
    (let i : Instr := .add 1 0x185 4 6
     let b0 := { block1 (wordOf i) with tokens := [(2, (0 : Word))] }
     let b1 := { block1 (wordOf i) with tokens := [] }
     standsB (demoIn [] b0) i (firingIn [] b0) = true ∧ b0.capture (slot1 [] b0) 0 = some (firingIn [] b0).cap ∧ b0.void 0 0 = true ∧
       standsB (demoIn [] b1) i (firingIn [] b1) = true ∧ b1.capture (slot1 [] b1) 0 = none) ∧
    (let b := { block1 (wordOf (.add 2 0x185 4 6)) with tokens := [(2, (1 : Word))] }
     b.void 0 1 = true ∧ b.void 0 0 = false ∧
       ({ b with replay := [(firingIn [] b).cap] } : Block).void 0 1 = false) ∧
    (let b := block1 (wordOf (.add 0 0x185 0x40 0x7F))
     (b.capture (slot1 [] b) 0).map (fun c => (c.l, c.r)) = some (1, 31)) ∧
    (let b := block1 (wordOf (.add 0 0x185 0 0x41))
     (b.capture (slot1 [] b) 0).map (fun c => (c.l, c.r)) = some (0, BitVec.ofInt 64 (-31))) ∧
    (let b := block1 (wordOf (.mxcfg 0 0x1C0 60 0x60))
     (b.capture (slot1 [(60, 7), (63, 9)] b) 0).map (fun c => c.grp) = some [7, 0, 0, 9]) := by decide +kernel
/-- TargetsDelivered: the first and last slot, s0, s1, s63 and none. -/
theorem test_witness_targets :
    let b := block1 (wordOf (.add 0 0x185 4 6))
    (b.deliver 0 0 5).isSome = true ∧ (b.deliver 0 0x17F 5).map (fun c => c.token 127 2) = some (some 5) ∧ b.deliver 0 0x180 5 = some b ∧
      (b.deliver 0 0x181 5).map (fun c => c.regw.length) = some 1 ∧ (b.deliver 0 0x1BF 5).isSome = true ∧ b.deliver 0 0x1C0 5 = some b ∧
      (({ b with tokens := [(0, 5)] } : Block).deliver 0 0 6) = none := by decide +kernel
/-- ValueFrame: the first and last operation codes of each of its ranges. -/
theorem test_witness_value_codes : [opOf (wordOf (.add 0 0x185 4 6)), opOf (wordOf (.fan 0 0x185 0x1C0)), opOf (wordOf (.fadd 0 0x185 4 6)),
    opOf (wordOf (.fsqrt 0 0x185 4 0x60)), opOf (wordOf (.pfxh 0 0x185 4 6))] = [0x01, 0x2D, 0x38, 0x43, 0x74] := by decide

/-! ### Special registers, exits and traps -/

/-- SpecialRegisterReads: the last user number and the next, the first privileged number in either view, a member of one group, and
the ends of the ranges that read zero. -/
theorem test_witness_special_reads :
    (firesB (demo (.srrd 0 0x185 0x10FF) []) (.srrd 0 0x185 0x10FF) (firing (.srrd 0 0x185 0x10FF) []) = true ∧
      fateOf (.srrd 0 0x185 0x10FF) [] = (none, true) ∧ fateOf (.srrd 0 0x185 0x1100) [] = (some cPrivilege, false) ∧
      fateOf (.srrd 0 0x185 0x2000) [] = (some cPrivilege, false)) ∧
    (let b := { block1 (wordOf (.srrd 0 0x185 0x2006)) with priv := true }
     fate (exec (.srrd 0 0x185 0x2006) (demoIn [] b)) = (none, true) ∧
       (blockIn (after (exec (.srrd 0 0x185 0x2006) (demoIn [] b)))).regw.map (fun w => w.value) = [0x40000000]) ∧
    (({ base with slots := [(0, { Slot.reset with groups := [(254, 0)] })] } : State).readSr 0 6).toNat = 0xFFFFFFFE ∧
    ([0, 0x0B, 0x0F, 0x13, 0x1F, 0x27, 0xFFF, 0x1006, 0x2000, 0x200F, 0x2013, 0x3FFF] : List Nat).all (fun n => (base.readSr 7 n).toNat == 0) = true ∧
    (State.readSr base 1023 4).toNat = 1023 := by decide +kernel

/-- What became of an instruction of a privileged block. -/
def fateP (i : Instr) (regs : Smap Word) : Option Byte × Bool := fate (exec i (demoIn regs { block1 (wordOf i) with priv := true }))

/-- SystemAndMemoryHeld: for each check an operand that passes and the next that does not. -/
theorem test_witness_system_held :
    (fateOf (.srwr 0 0x1C0 8) [] = (none, true) ∧ fateOf (.srwr 0 0x1C0 7) [] = (some cPrivilege, false) ∧
      fateP (.srwr 0 0x1C0 0x2006) [] = (none, true) ∧ fateP (.srwr 0 0x1C0 0x2007) [] = (some cPrivilege, false)) ∧
    (fateOf (.cacheopBinv 0 0x1C0 4 0x60) [(4, 0x10000)] = (none, true) ∧ fateOf (.cacheopBinv 0 0x1C0 4 0x62) [(4, 0x10000)] = (some cIllegalForm, false) ∧
      fateOf (.cacheopBinv 0 0x1C0 4 0x60) [(4, 0x100000000000000)] = (some cPageAbsent, false) ∧
      fateOf (.cacheopBinvdie 0 0x1C0 4 0x61) [(4, 0x100000000000000)] = (none, true)) ∧
    (fateP (.tlbopPage 0 0x1C0 4 0x60) [] = (none, true) ∧ fateOf (.tlbopPage 0 0x1C0 4 0x60) [] = (some cPrivilege, false) ∧
      fateP (.tlbopAll 0 0x1C0 4 0x62) [] = (some cIllegalForm, false)) ∧
    (fateOf (.traceMark 0 0x1C0 4 0x62) [] = (none, true) ∧ fateOf (.traceFreeze 0 0x1C0 4 0x63) [] = (some cIllegalForm, false)) ∧
    (fateP (.haltStop 0 0x1C0 0x61 0x60) [] = (none, true) ∧ fateP (.haltGo 0 0x1C0 0x60 0x61) [] = (some cIllegalForm, false)) ∧
    (fateP (.migrate 0 0x1C0 4 6) [(4, 0x10000), (6, 0x30000)] = (none, true) ∧
      fateP (.migrate 0 0x1C0 4 6) [(4, 0x10000), (6, 0x38000)] = (some cIllegalForm, false) ∧
      fateP (.migrate 0 0x1C0 4 6) [(4, 0x100000000000000)] = (some cPageAbsent, false)) := by decide +kernel
/-- The first data line of the scratchpad of bay 0, allocated to context 1. -/
def padDemo (i : Instr) (owner : BitVec 6) (regs : Smap Word) : State :=
  { demo i regs with lines := [(0, { LineState.reset with guarded := true, alloc := true, extent := 1#10, owner := owner })] }
theorem test_witness_memory_held :
    (fateOf (.fence 0 0 0 0 0) [] = (none, true) ∧ fateOf (.sbar 0 4) [] = (none, true)) ∧
    (fateOf (.spalloc 0 0x185 4 6) [(4, 130816), (6, 25)] = (none, true) ∧ fateOf (.spalloc 0 0x185 4 6) [(4, 130817), (6, 25)] = (some cIllegalForm, false) ∧
      fateOf (.spalloc 0 0x185 4 6) [(4, 1), (6, 26)] = (some cIllegalForm, false) ∧ fateOf (.spalloc 0 0x185 4 6) [(4, 0)] = (some cIllegalForm, false)) ∧
    (fate (exec (.spfree 0 0x1C0 4 0x60) (padDemo (.spfree 0 0x1C0 4 0x60) 1 [(4, 0xFFFFFF00000080)])) = (none, true) ∧
      fate (exec (.spfree 0 0x1C0 4 0x60) (padDemo (.spfree 0 0x1C0 4 0x60) 2 [(4, 0xFFFFFF00000080)])) = (some cPageProtect, false) ∧
      fateOf (.spfree 0 0x1C0 4 0x60) [(4, 0xFFFFFF00000080)] = (some cIllegalForm, false)) ∧
    (fateOf (.pref 0 4 6) [(4, 0xFFFFFFFFFFFFFFFF)] = (none, true) ∧ fateOf (.pref 0 4 6) [(4, 0x10000)] = (none, true)) := by decide +kernel

/-- SrWriteEffect: a slot with a block in flight on a die that is open. -/
theorem test_witness_sr_write :
    ((slot1 [] (block1 0)).block.isSome = true ∧ ((demoIn [] (block1 0)).die 0).opened = true) ∧
    (((demoIn [] (block1 0)).srWrite 0 0x2003 0xFFFFFFFFFFFFFFFF).readSr 0 0x2003).toNat = 0xFFFFFFFFFFFFF8 ∧
    (((demoIn [] (block1 0)).srWrite 0 0x2011 0xFFFFFFFFFFFFFFFF).readSr 0 0x2011).toNat = 0xFFFFFF00000001 := by decide +kernel

/-- ExitsChosen: each exit fires; an L that is no block address faults; a second exit and a second writer of s63 do. -/
theorem test_witness_exits :
    (([.bri 0 0x7FFFFF, .calli 0 0x400000, .br 0 4 0x60, .call 0 4 0x60, .exit 0 0x60 0x60, .yield 0 0x60 0x60, .eret 0 0x60 0x60] :
        List Instr).all (fun i => firesB (demo i [(4, 0xFFFFFFFFFFFFF8)]) i (firing i [(4, 0xFFFFFFFFFFFFF8)]) &&
          fateOf i [(4, 0xFFFFFFFFFFFFF8)] == (none, true))) = true ∧
    (fateOf (.br 0 4 0x60) [(4, 4)] = (some cAlign, false) ∧ fateOf (.call 0 4 0x60) [(4, 0x100000000000000)] = (some cAlign, false)) ∧
    (fate (exec (.bri 0 1) (demoIn [] { block1 (wordOf (.bri 0 1)) with exit := some (5, .exit) })) = (some cBlockMultiexit, false) ∧
      fate (exec (.calli 0 1) (demoIn [] { block1 (wordOf (.calli 0 1)) with regw := [{ reg := 63, writer := 9, value := 0 }] })) =
        (some cBlockMultiwrite, false)) := by decide +kernel

/-- TrapDelivery: a TRAP of a user block with a page for its frame, in a handler block, and with no TRAPVEC. -/
theorem test_witness_trap :
    (let i : Instr := .trap 0 0x3FFF
     let s := demo i []
     let x := firing i []
     let b : Block := { x.b.setFired 0 with replay := [], reads := [] }
     firesB s i x = true ∧ x.b.handler = false ∧ (s.die 0).trapvec ≠ 0 ∧ (s.slot 0).trapframe ≠ 0 ∧
       (match s.writeTask 0 (s.slot 0).trapframe.toNat (frameBytes (s.slot 0) b 0x0F 0 0x3FFF 0 0x80 [] false) with
         | .ok s1 => (match s1.fetchBlock 0 (s1.die 0).trapvec .trap with
           | .ok h _ => h.handler
           | _ => false)
         | _ => false) = true) ∧
    (let i : Instr := .trap 0 1
     let b := { block1 (wordOf i) with handler := true }
     firesB (demoIn [] b) i (firingIn [] b) = true ∧ (demoIn [] b).fqtab = 0 ∧
       ((after (exec i (demoIn [] b))).slot 0).status = .frozen false) ∧
    (let s : State := { demo (.trap 0 1) [] with dies := [(0, { openDie with trapvec := 0 })] }
     firesB s (.trap 0 1) (firing (.trap 0 1) []) = true ∧ ((after (exec (.trap 0 1) s)).slot 0).status = .frozen false) := by decide +kernel

/-- FrameRoundTrip: a block with something of every kind a frame holds, at the ends of their ranges. -/
theorem test_witness_frame :
    let b := { block1 0 with
      replay := [{ idx := 127, l := 1, r := 2, p := 3, grp := [] }], held := [{ idx := 0, l := 4, r := 5, p := 6, grp := [] }],
      stores := [{ idx := 127, addr := 8, data := 9, dataP := 0, place := none, gen := none }], regw := [{ reg := 63, writer := 127, value := 7 }], tokens := [(383, 5)] }
    let tokens := b.tokens.filter (fun e => !b.isFired (e.1 / 3))
    2 < 3 ∧ 255 < 256 ∧ b.replay.length + b.held.length ≤ 128 ∧ tokens.length ≤ 256 ∧ b.stores.length ≤ 32 ∧ b.regw.length ≤ 63 ∧
      (∀ c ∈ b.replay ++ b.held, c.idx < 128) ∧ (∀ e ∈ tokens, e.1 < 384) ∧ (∀ e ∈ b.stores, e.idx < 128) ∧
      (∀ g ∈ b.regw, g.reg < 64 ∧ g.writer < 128) ∧ tokens.length = 1 ∧
      (parseFrame (frameBytes (slot1 [] b) b 1 127 0 2 255 [] false) false).regw = b.regw := by decide +kernel

/-! ### Memory instructions -/

/-- AccessesFire: a load and a store that fire, one behind an LDAQ, one over a lower atomic, a second writer, and an address no access
may have. -/
theorem test_witness_accesses :
    (fateOf (.ld64 0 0x185 4 6) [(4, 0x10000), (6, 1)] = (none, true) ∧ fateOf (.ld64 0 0x185 4 6) [(4, 0x10001)] = (some cAlign, false) ∧
      fateOf (.ld8 0 0x185 4 6) [(4, 0xFFFFFFFFFFFFFFFF), (6, 0x10001)] = (none, true) ∧
      fateOf (.ldaq 0 0x185 4 0 1 3) [(4, 0x10000)] = (none, true) ∧ fateOf (.st32 0 0x1FF 4 6) [(4, 0x10004)] = (none, true) ∧
      fateOf (.st16 0 0 4 6) [(4, 0x20000)] ≠ (none, true) ∧ fateOf (.strl 0 4 0 3) [(4, 0x10000)] = (none, true) ∧
      fateOf (.amo32 0 0x185 4 0 0 0) [(4, 0x10000)] = (none, true) ∧ fateOf (.cas64 0x185 4 0 0) [(4, 0x10004)] = (some cAlign, false)) ∧
    (let i : Instr := .ld64 0 0x185 4 6
     let j : Instr := .ldaq 0 0x186 4 0 0 3
     let k : Instr := .amo64 0 0x186 4 0 0 0
     let b := { block1 (wordOf j) with words := [wordOf j, wordOf i], tokens := [(3, (1 : Word)), (4, 1), (5, 1)] }
     let x : Firing := { slot := 0, idx := 1, b := b, cap := (b.capture (slot1 [(4, 0x10000)] b) 1).getD { idx := 1, l := 0, r := 0, p := 0, grp := [] } }
     let c := { b with words := [wordOf k, wordOf i], fired := 1, stores := [{ idx := 0, addr := 0x10000, data := 1, dataP := 0, place := none, gen := none }] }
     firesB { demoIn [(4, 0x10000)] b with focus := .seq 0 1 } i x = true ∧ b.heldBack 1 = true ∧
       c.heldBack 1 = false ∧ fate (exec i { demoIn [(4, 0x10000)] c with focus := .seq 0 1 }) = (some cIllegalForm, false)) ∧
    (let i : Instr := .ld64 0 0x185 4 6
     fate (exec i (demoIn [(4, 0x10000)] { block1 (wordOf i) with regw := [{ reg := 5, writer := 9, value := 0 }] })) = (some cBlockMultiwrite, false)) := by
  decide +kernel

/-- Where an access leads, or its cause. -/
def leadOf (s : State) (va : Nat) (w : Want) : Option Byte × Bool := match (s.resolve (s.agent 0) va w).1 with
  | .error c => (some c, false)
  | .ok (.pad _) => (none, true)
  | .ok _ => (none, false)
/-- AccessChecks: the last aligned address and the first above the space, the ends of the scratchpad, a page that is mapped, one that
may not be written, an atomic on one of tier 1, and a table that does not map the page. -/
theorem test_witness_access_checks :
    let s := demo (.pass 0) []
    let ro := { s with bays := [(0, { bay0 with tlb := [{ vpage := 1, large := false, leaf := 0x10003#64, ctr := 0 }] })] }
    (leadOf s 0x100000000000000 (wantRead 8) = (some cAlign, false) ∧ leadOf s 0xFFFFFFFFFFFFFC (wantRead 8) = (some cAlign, false) ∧
      leadOf s 0xFFFFFF00000000 (wantRead 8) = (none, true) ∧ leadOf s 0xFFFFFF1FFFFFF8 (wantRead 8) = (some cPageAbsent, false) ∧
      leadOf s 0x10000 (wantWrite 8) = (none, false) ∧ leadOf ro 0x10000 (wantRead 8) = (none, false) ∧
      leadOf ro 0x10000 (wantWrite 8) = (some cPageProtect, false)) := by decide +kernel

/-- ReadDelivered: a read of a full scratchpad line in flight, and of an empty one. -/
def padRead (full : Bool) : State × Block × ReadInFlight :=
  let r : ReadInFlight := { cap := { idx := 0, l := 0, r := 0, p := 0, grp := [] }, addr := 0xFFFFFF00000080, size := 8, signed := false, acquire := false,
                            gen := 0, retried := false }
  let b := { (block1 (wordOf (.ld64 0 0x185 4 6))).setFired 0 with reads := [r] }
  ({ demoIn [] b with lines := [(1, { LineState.reset with full := full })] }, b, r)
theorem test_witness_read :
    let (s, b, r) := padRead true
    let va := r.addr.toNat
    (s.slot 0).block = some b ∧ (s.slot 0).firing b = true ∧ b.reads.find? (fun q => q.cap.idx = 0) = some r ∧ b.storesSettled 0 = true ∧
      b.bound = [] ∧ targets (b.word 0) = [0x185] ∧ va < 2 ^ 56 ∧ va % 8 = 0 ∧ isPad va = true ∧ padState va = false ∧ s.padOk va = true ∧
      (s.line (padLine va)).guarded = false ∧ (s.line (padLine va)).deps = [] ∧ (s.line (padLine va)).marked = false ∧
      s.poisoned va 8 = false ∧ s.overAtomic (s.agent 0) b 0 va 8 = false ∧ (s.line (padLine va)).full = true ∧
      ((padRead false).1.line (padLine va)).full = false ∧
      after (exec (.readDeliver 0 0) (padRead false).1) = (padRead false).1 ∧
      (({ b with reads := [] } : Block).deliver 0 0x185 0).isSome = true := by decide +kernel

/-! ### Stores and atomics performed -/

def cap0 (l r : Word) : Capture := { idx := 0, l := l, r := r, p := 0, grp := [] }
/-- A buffered write of one instruction about to be performed, with its line of scratchpad or page. -/
def writing (i : Instr) (va data dataP : Word) : State × Block × StoreEntry :=
  let e : StoreEntry := { idx := 0, addr := va, data := data, dataP := dataP, place := none, gen := none }
  let b := { (block1 (wordOf i)).setFired 0 with stores := [e], pos := .writes 0 }
  (demoIn [] b, b, e)
/-- StoresPerformed, Atomics: a line of the scratchpad, at its first and last place for the size. -/
theorem test_witness_pad_writes : [(Instr.st8 0 0 4 6, (0xFFFFFF0000007F : Word)), (.st64 0 0 4 6, 0xFFFFFF00000000), (.strl 0 4 0 2, 0xFFFFFF0000007C),
      (.amo64 0 0x185 4 0 0 1, 0xFFFFFF00000000), (.amo32 0 0x185 4 0 0 7, 0xFFFFFF0000007C), (.cas64 0x185 4 0 0, 0xFFFFFF00000078)].all (fun x =>
    let (s, b, e) := writing x.1 x.2 5 7
    let va := e.addr.toNat
    let n := bufferedSize (b.word 0)
    (s.slot 0).status == .running && (s.slot 0).block == some b && b.pos == .writes 0 && b.waiting.isNone && b.nextWrite 0 == some 0 &&
      b.stores.find? (fun q => q.idx = 0) == some e && decide (va < 2 ^ 56) && va % n == 0 && isPad va && !padState va && s.padOk va &&
      !(s.line (padLine va)).guarded && (s.line (padLine va)).holders == 0 && (s.line (padLine va)).full && (s.line (padLine va)).deps == [] &&
      !s.poisoned va n && s.writes == []) = true := by decide +kernel
/-- StoresPerformed: a page the TLB holds. -/
theorem test_witness_page_write :
    let (s, b, e) := writing (.st32 0 0 4 6) 0x10FFFC 0x44332211 0
    let s := { s with bays := [(0, { bay0 with tlb := [{ vpage := 0x10, large := false, leaf := 0x100007#64, ctr := 0 }] })] }
    (b.nextWrite 0 = some 0 ∧ b.stores.find? (fun q => q.idx = 0) = some e ∧ opOf (b.word 0) = 0x4E) ∧
    (match s.resolve (s.agent 0) 0x10FFFC (wantWrite 4) with
      | (.ok (.mem tr), s1) => !tr.wb && !tr.cnt && s1.hasPath tr.pa && !s1.lost tr.pa && !s1.poisoned tr.pa 4 && tr.pa == 0x10FFFC
      | _ => false) = true ∧
    (let t := after (exec (.blockCommit 0) s)
     t.byteFor 0 (.task 1) 0x10FFFC = 0x11 ∧ t.byteFor 0 (.task 1) 0x10FFFF = 0x44 ∧ t.byteFor 0 (.task 1) 0x110000 = 0) := by decide +kernel
/-- Atomics: each operation has a word, and what two of them write. -/
theorem test_witness_atomics :
    ((List.range 8).all fun i => opOf (wordOf (.amo32 0 0x185 4 0 0 (BitVec.ofNat 3 i))) == 0x52 && (wordOf (.amo32 0 0x185 4 0 0 (BitVec.ofNat 3 i))).toNat % 8 == i) = true ∧
    ((List.range 7).all fun i => opOf (wordOf (.amo64 0 0x185 4 0 0 (BitVec.ofNat 3 i))) == 0x51 && (wordOf (.amo64 0 0x185 4 0 0 (BitVec.ofNat 3 i))).toNat % 8 == i) = true ∧
    opOf (wordOf (.cas64 0x185 4 0 0)) = 0x53 ∧
    atomicNew (wordOf (.amo64 0 0x185 4 0 0 5)) { idx := 0, addr := 0, data := 0xFFFFFFFFFFFFFFFF, dataP := 0, place := none, gen := none } 1 = some 0xFFFFFFFFFFFFFFFF ∧
    atomicNew (wordOf (.cas64 0x185 4 0 0)) { idx := 0, addr := 0, data := 3, dataP := 9, place := none, gen := none } 3 = some 9 ∧
    atomicNew (wordOf (.cas64 0x185 4 0 0)) { idx := 0, addr := 0, data := 3, dataP := 9, place := none, gen := none } 4 = none := by decide +kernel

/-! ### What the instructions held for commit check -/

/-- A demo in which the task is a member of group 3, whose point 0 is initialized for two arrivals. -/
def grouped (i : Instr) (regs : Smap Word) : State :=
  { demoIn regs (block1 (wordOf i)) with
    slots := [(0, { slot1 regs (block1 (wordOf i)) with groups := [(3, 0)] })]
    dies := [(0, { openDie with groups := [(3, { launch := 0, points := [(0, { expect := 2, arrived := 1, phase := 0xFFFF, deps := [] })] })] })] }
def fateG (i : Instr) (regs : Smap Word) : Option Byte × Bool := fate (exec i (grouped i regs))
/-- SchedulingHeld, its first part: for each check an operand that passes and the next that does not. -/
theorem test_witness_scheduling_held :
    (fateOf (.spawn 0 0x185 4 0x60) [(4, 0x10020)] = (none, true) ∧ fateOf (.spawn 0 0x185 4 0x60) [(4, 0x10010)] = (some cAlign, false) ∧
      fateOf (.joindec 0 0x185 4 6) [(4, 0x10020), (6, 0xFFFFFFFF)] = (none, true) ∧
      fateOf (.joindec 0 0x185 4 6) [(4, 0x10020), (6, 0x100000000)] = (some cIllegalForm, false) ∧
      fateOf (.joindec 0 0x185 4 6) [(4, 0x10020), (6, 0)] = (some cIllegalForm, false)) ∧
    (fateG (.rvinit 0 0x185 4 6) [(4, 0x1703), (6, 65535)] = (none, true) ∧ fateG (.rvinit 0 0x185 4 6) [(4, 0x1703), (6, 65536)] = (some cIllegalForm, false) ∧
      fateG (.rvinit 0 0x185 4 6) [(4, 0x1803), (6, 1)] = (some cRvInvalid, false) ∧ fateG (.rvinit 0 0x185 4 6) [(4, 0x1FFF), (6, 1)] = (some cRvInvalid, false) ∧
      fateG (.rvinit 0 0x185 4 6) [(4, 0x2003), (6, 1)] = (some cIllegalForm, false) ∧ fateG (.rvinit 0 0x185 4 6) [(4, 4), (6, 1)] = (some cRvInvalid, false)) := by
  decide +kernel
theorem test_witness_scheduling_held_too :
    (fateG (.arrive 0 0x185 4 0x60) [(4, 3)] = (none, true) ∧ fateG (.arrive 0 0x185 4 0x60) [(4, 0x103)] = (some cRvInvalid, false) ∧
      fateG (.wait 0 4 6) [(4, 3), (6, 0xFFFF)] = (none, true) ∧ fateG (.wait 0 4 6) [(4, 3), (6, 0x10000)] = (some cIllegalForm, false)) ∧
    (fateOf (.est 0 0x185 4 0x61) [] = (none, true) ∧ fateOf (.est 0 0x185 4 0x62) [] = (some cIllegalForm, false) ∧
      fateOf (.progress 0 0x1C0 0x60 0x60) [] = (none, true)) ∧
    (fateOf (.graphgo 0 0x185 4 6) [(4, 255), (6, 8)] = (none, true) ∧ fateOf (.graphgo 0 0x185 4 6) [(4, 256)] = (some cIllegalForm, false) ∧
      fateOf (.graphgo 0 0x185 4 6) [(6, 4)] = (some cAlign, false)) ∧
    (fateOf (.gang 0 0x185 4 0x60) [(4, 0x10000), (5, 0x200012)] = (none, true) ∧
      fateOf (.gang 0 0x185 4 0x60) [(4, 0x10010), (5, 0x200012)] = (some cAlign, false) ∧
      fateOf (.gang 0 0x185 4 0x60) [(4, 0x10000), (5, 0x200011)] = (some cIllegalForm, false)) := by decide +kernel

/-- A die whose hallmark table holds a stamped entry of generation 5 for a key of the scratchpad. -/
def marked (s : State) : State :=
  { s with dies := [(0, { openDie with hallmarks := [{ key := 0xFFFFFF00000009, gen := 5, stamped := true, launch := 0, run := 0, deps := [], sys := false, byOp := false }] })] }
def fateM (i : Instr) (regs : Smap Word) : Option Byte × Bool := fate (exec i (marked (demo i regs)))
/-- SchedulingHeld, its second part: keys of size 24 and 25, selections with and without a field that must be zero. -/
theorem test_witness_hallmarks_held :
    (fateOf (.hmdecl 0 0x185 4 0x60) [(4, 0xFFFFFF00000018)] = (none, true) ∧ fateOf (.hmdecl 0 0x185 4 0x60) [(4, 0xFFFFFF00000019)] = (some cIllegalForm, false) ∧
      fateOf (.hmdecl 0 0x185 4 0x60) [] = (some cIllegalForm, false)) ∧
    (fateOf (.stamp 0 0x185 4 0x61) [(4, 0xFFFFFF00000009)] = (none, true) ∧ fateOf (.stamp 0 0x185 4 0x62) [(4, 0xFFFFFF00000009)] = (some cIllegalForm, false) ∧
      fateOf (.hmretire 0 0x185 4 0x60) [(4, 0xFFFFFF00000009)] = (none, true)) ∧
    (fateOf (.await 0 4 6) [(4, 0xFFFFFF00000009), (6, 0x3FFFFFFF)] = (none, true) ∧ fateOf (.await 0 4 6) [(4, 0xFFFFFF00000009), (6, 0x40000000)] = (some cIllegalForm, false) ∧
      fateOf (.await 0 4 6) [(4, 0xFFFFFF00000009), (6, 0x1000040000000)] = (none, true)) ∧
    (fateM (.hmtest 0 0x185 4 6) [(4, 0xFFFFFF00000009), (6, 5)] = (none, true) ∧ fateM (.hmtest 0 0x185 4 6) [(4, 0xFFFFFF00000009), (6, 4)] = (some cHmStale, false) ∧
      fateOf (.hmtest 0 0x185 4 6) [(4, 0xFFFFFF00000009)] = (some cHmUndeclared, false)) ∧
    (let i : Instr := .hmtest 0 0x185 4 6
     (exec i (marked (demo i [(4, 0xFFFFFF00000009), (6, 5)])) |> after |> blockIn).regw.map (fun w => w.value) = [0x50001]) := by decide +kernel

/-- EngineHeld, its first part. -/
theorem test_witness_engines_held :
    (fateOf (.mload 0 0x185 4 6) [(4, 0x10000), (6, 31)] = (none, true) ∧ fateOf (.mload 0 0x185 4 6) [(4, 0x10000), (6, 32)] = (some cIllegalForm, false)) ∧
    (fateOf (.mstart 0 0x1C0 4 6) [(4, 0x1FF), (6, 8)] = (none, true) ∧ fateOf (.mstart 0 0x1C0 4 6) [(4, 0x200), (6, 8)] = (some cIllegalForm, false) ∧
      fateOf (.mstart 0 0x1C0 4 6) [(4, 0x100), (6, 4)] = (some cAlign, false)) ∧
    (fateOf (.mstopDrain 0 0x1C0 4 0x60) [(4, 0x100)] = (none, true) ∧ fateOf (.mstopAbort 0 0x1C0 4 0x61) [(4, 0xFF)] = (some cIllegalForm, false)) ∧
    (fateOf (.inject 0 0x1C0 0x10 5) [(5, 0x100)] = (none, true) ∧ fateOf (.inject 0 0x1C0 0x10 5) [(5, 0)] = (some cIllegalForm, false) ∧
      fateOf (.inject 0 0x1C0 0x10 5) [(5, 0x10100), (0x10, 0x10008), (0x12, 1)] = (some cAlign, false)) ∧
    (fateOf (.mxcfg 0 0x1C0 0x10 5) [(5, 16)] = (some cIllegalForm, false) ∧ fateOf (.mxcfg 0 0x1C0 0x10 5) [(5, 15)] = (some cMxcfgInvalid, false)) ∧
    (fateOf (.mxjoin 0 4 0x60) [(4, 0xFFFF)] = (none, true) ∧ fateOf (.mxjoin 0 4 0x60) [(4, 0x10000)] = (some cIllegalForm, false) ∧
      fateOf (.pjoin 0 4 0x60) [(4, 0x1FF)] = (none, true) ∧ fateOf (.pjoin 0 4 0x60) [(4, 0x200)] = (some cIllegalForm, false)) ∧
    (fateOf (.pourStart 0 0x1C0 4 6) [(6, 7)] = (none, true) ∧ fateOf (.pourLoadt 0 0x1C0 4 6) [(4, 0x10040), (6, 0x3F8)] = (none, true) ∧
      fateOf (.pourLoadt 0 0x1C0 4 6) [(4, 0x10008), (6, 0x200)] = (some cAlign, false) ∧
      fateOf (.pourStart 0 0x1C0 4 6) [(6, 0x800)] = (some cIllegalForm, false)) := by decide +kernel
/-- EngineHeld, its second part. -/
theorem test_witness_kv_held :
    (fateOf (.kvmap 0 0x185 4 6) [(4, 0x10008), (6, 0x1FFF)] = (none, true) ∧ fateOf (.kvmap 0 0x185 4 6) [(4, 0x10008), (6, 0x2000)] = (some cIllegalForm, false) ∧
      fateOf (.kvmap 0 0x185 4 6) [(4, 0x10004)] = (some cAlign, false)) ∧
    (fateOf (.kvfork 0 0x185 4 6) [(4, 0x10008), (6, 0x10010)] = (none, true) ∧ fateOf (.kvfork 0 0x185 4 6) [(4, 0x10008), (6, 4)] = (some cAlign, false) ∧
      fateOf (.kvappend 0 0x185 4 6) [(4, 0x10040), (6, 0x10020)] = (none, true) ∧ fateOf (.kvfree 0 0x185 4 0x60) [(4, 0x10008)] = (none, true)) ∧
    (fateOf (.pfxlook 0 0x185 4 0x60) [(4, 0x10020)] = (none, true) ∧ fateOf (.pfxins 0 0x185 4 6) [(6, 0)] = (none, true) ∧
      fateOf (.pfxins 0 0x185 4 6) [(6, 4)] = (some cAlign, false)) ∧
    (fateOf (.splice 0 0x185 4 60) [(4, 0x10000), (7, 0x1000000), (60, 0)] = (none, true) ∧
      fateOf (.splice 0 0x185 4 60) [(4, 0x10000), (7, 0x1000001), (60, 0)] = (some cIllegalForm, false) ∧
      fateOf (.repair 0 0x185 4 60) [(4, 0x10000), (5, 0x100000000), (6, 255)] = (none, true) ∧
      fateOf (.repair 0 0x185 4 60) [(4, 0x10000), (5, 0xFFFFFFFF), (6, 255)] = (some cIllegalForm, false) ∧
      fateOf (.katt 0 0x185 4 60) [(4, 0x10000), (6, 4), (7, 0x10)] = (none, true) ∧ fateOf (.katt 0 0x185 4 60) [(6, 2)] = (some cAlign, false)) := by
  decide +kernel

/-! ### Effects held for commit -/

/-- Effecting, decided for an effect that comes first. -/
def effectingB (s : State) (k : Nat) (b : Block) (c : Capture) (op : Nat) : Bool :=
  (s.slot k).status == .running && (s.slot k).block == some b && b.pos == .effects 0 && b.nextEffect 0 == some c.idx &&
    b.held.find? (fun e => e.idx = c.idx) == some c && opOf (b.word c.idx) == op
theorem effecting_of {s : State} {k : Nat} {b : Block} {c : Capture} {op : Nat} (h : effectingB s k b c op = true) : Effecting s k b c op := by
  simp only [effectingB, Bool.and_eq_true, beq_iff_eq] at h
  obtain ⟨⟨⟨⟨⟨h1, h2⟩, h3⟩, h4⟩, h5⟩, h6⟩ := h
  exact { status := h1, block := h2, pos := ⟨0, h3, h4⟩, held := h5, op := h6 }
/-- A block whose commit has come to its held instruction. -/
def heldBlock (i : Instr) (c : Capture) : Block := { (block1 (wordOf i)).setFired 0 with held := [c], pos := .effects 0 }
def effectIn (s : State) (i : Instr) (c : Capture) : State := { s with slots := [(0, slot1 [] (heldBlock i c))] }
def effect (i : Instr) (c : Capture) : State := effectIn base i c
/-- Every instruction whose effect is held for commit. -/
def effectInstrs : List Instr := [.est 0 0x185 4 6, .progress 0 0x1C0 0x60 0x60, .rvinit 0 0x185 4 6, .arrive 0 0x185 4 0x60, .spalloc 0 0x185 4 6,
  .spfree 0 0x1C0 4 0x60, .spawn 0 0x185 4 0x60, .joindec 0 0x185 4 6, .gang 0 0x185 4 0x60, .fence 0 4 0 0 3, .sbar 0 4, .cacheopBinv 0 0x1C0 4 0x60,
  .tlbopPage 0 0x1C0 4 0x60, .traceMark 0 0x1C0 4 0x60, .haltStop 0 0x1C0 0x61 0x60, .mload 0 0x185 4 6, .mstart 0 0x1C0 4 6, .mstopDrain 0 0x1C0 4 0x60,
  .inject 0 0x1C0 0x10 5, .mxcfg 0 0x1C0 0x10 5, .pourStart 0 0x1C0 4 6, .splice 0 0x185 4 60, .repair 0 0x185 4 60, .graphgo 0 0x185 4 6,
  .hmdecl 0 0x185 4 0x60, .stamp 0 0x185 4 0x60, .hmretire 0 0x185 4 0x60, .kvmap 0 0x185 4 6, .kvfork 0 0x185 4 6, .kvappend 0 0x185 4 6,
  .kvfree 0 0x185 4 0x60, .pfxlook 0 0x185 4 0x60, .pfxins 0 0x185 4 6, .katt 0 0x185 4 60]
/-- Witness of Effecting, the hypothesis of every statement about an effect. -/
theorem test_witness_effecting : ∀ i ∈ effectInstrs, Effecting (effect i (cap0 1 0)) 0 (heldBlock i (cap0 1 0)) (cap0 1 0) (opOf (wordOf i)) := by
  have h : (effectInstrs.all fun i => effectingB (effect i (cap0 1 0)) 0 (heldBlock i (cap0 1 0)) (cap0 1 0) (opOf (wordOf i))) = true := by
    decide +kernel
  exact fun i hi => effecting_of (List.all_eq_true.mp h i hi)
def commits (s : State) : State := after (exec (.blockCommit 0) s)
/-- What an effect gave its target s5, how many faults it recorded, and whether it is done. -/
def given (s : State) : Word × Nat × Bool :=
  let t := commits s
  ((t.slot 0).reg 5, (t.slot 0).imp.length, (blockIn t).held.isEmpty)
/-- A slot in group 3 whose point 0 has this state. -/
def effectAt (i : Instr) (c : Capture) (v : RvPoint) : State :=
  { base with
    slots := [(0, { slot1 [] (heldBlock i c) with groups := [(3, 0)] })]
    dies := [(0, { openDie with groups := [(3, { launch := 0, points := [(0, v)] })] })] }

/-- SchedulingEffects: EST and PROGRESS; a point without and with EXPECT; the last arrival, at the last phase, and one before. -/
theorem test_witness_points :
    given (effect (.est 0 0x185 4 6) (cap0 9 1)) = (0, 0, true) ∧ given (effect (.progress 0 0x185 4 6) (cap0 9 0)) = (0, 0, true) ∧
    given (effectAt (.rvinit 0 0x185 4 6) (cap0 3 65535) RvPoint.reset) = (65535, 0, true) ∧
    given (effectAt (.rvinit 0 0x185 4 6) (cap0 3 1) { expect := 2, arrived := 0, phase := 0, deps := [] }) = (2, 0, true) ∧
    given (effectAt (.arrive 0 0x185 4 6) (cap0 3 0) { expect := 2, arrived := 1, phase := 0xFFFF, deps := [] }) = (0, 0, true) ∧
    given (effectAt (.arrive 0 0x185 4 6) (cap0 3 0) { expect := 2, arrived := 0, phase := 7, deps := [] }) = (8, 0, true) := by decide +kernel
def withLine (s : State) (n : Nat) (g : LineState) : State := { s with lines := [(n, g)] }
/-- SPALLOC: room at once, no room for the largest size, room in the next unit; SPFREE: held, free, and of no allocation. -/
theorem test_witness_allocation :
    let one : LineState := { LineState.reset with alloc := true, guarded := true, extent := 1 }
    given (effect (.spalloc 0 0x185 4 6) (cap0 1 0x40)) = (0xFFFFFF00000080, 0, true) ∧
    given (withLine (effect (.spalloc 0 0x185 4 6) (cap0 130816 25)) (25 * 1024 + 5) one) = (0, 0, true) ∧
    given (withLine (effect (.spalloc 0 0x185 4 6) (cap0 1 0)) 0 one) = (0xFFFFFF00000100, 0, true) ∧
    given (effect (.spfree 0 0x185 4 0x60) (cap0 0xFFFFFF00000080 0)) = (0, 0, true) ∧
    given (withLine (effect (.spfree 0 0x185 4 0x60) (cap0 0xFFFFFF00000080 0)) 0 { one with holders := 1 }) = (0, 0, false) ∧
    (withLine (effect (.spfree 0 0x185 4 0x60) (cap0 0xFFFFFF00000080 0)) 0 one).allocAt 0xFFFFFF00000080 = true ∧
    (commits (withLine (effect (.spfree 0 0x185 4 0x60) (cap0 0xFFFFFF00000080 0)) 0 one)).lines = [] := by decide +kernel
/-- A record at the start of the scratchpad with this JOIN, and the launch of the task. -/
def recordIn (i : Instr) (c : Capture) (join : Byte) (launch : BitVec 12) : State :=
  { base with
    mem := base.mem ++ (if join = 0 then [] else [(0xFFFFFF00000010, join)])
    slots := [(0, { slot1 [] (heldBlock i c) with launchid := launch })] }
/-- SPAWN of a record that is ready, that has a JOIN, of another launch, and that cannot be read; JOINDEC to what is left, to zero, below
zero, and of an empty line; GANG of two records, of another launch, in a group that is none, and of records that cannot be read. -/
theorem test_witness_spawns :
    let r : Word := 0xFFFFFF00000000
    let g (a m n : Word) : Capture := { cap0 0 0 with grp := [a, m, n, 0] }
    given (recordIn (.spawn 0 0x185 4 0x60) (cap0 r 0) 0 0) = (1, 0, true) ∧ given (recordIn (.spawn 0 0x185 4 0x60) (cap0 r 0) 3 0) = (0, 0, true) ∧
    given (recordIn (.spawn 0 0x185 4 0x60) (cap0 r 0) 0 1) = (0, 1, true) ∧ given (recordIn (.spawn 0 0x185 4 0x60) (cap0 0x20000 0) 0 0) = (0, 1, true) ∧
    given (recordIn (.joindec 0 0x185 4 6) (cap0 r 2) 3 0) = (1, 0, true) ∧ given (recordIn (.joindec 0 0x185 4 6) (cap0 r 3) 3 0) = (0, 0, true) ∧
    (given (recordIn (.joindec 0 0x1C0 4 6) (cap0 r 4) 3 0)).2 = (1, true) ∧
    given (withLine (recordIn (.joindec 0 0x185 4 6) (cap0 r 1) 3 0) 0 { LineState.reset with full := false }) = (0, 0, false) ∧
    (given (recordIn (.gang 0 0x185 4 0x60) (g r 0x200012 0) 0 0)).2 = (0, true) ∧ given (recordIn (.gang 0 0x185 4 0x60) (g r 0x200012 0) 0 1) = (0, 1, true) ∧
    given (recordIn (.gang 0 0x185 4 0x60) (g r 0x200012 0x103) 0 0) = (0, 1, true) ∧
    given (recordIn (.gang 0 0x185 4 0x60) (g 0x20000 0x200012 0) 0 0) = (0, 1, true) := by decide +kernel
/-- A queue as full as one likes. -/
theorem test_witness_full_queue (m n : Nat) (e : QEntry) : e.level = 4 → e.cls = n →
    ((List.replicate m e).filter (fun q => q.level = 4 && q.cls = n)).length = m := by
  intro h1 h2
  simp [h1, h2]

/-- SystemEffects: FENCE of each kind, SBAR, CACHEOP, TLBOP, TRACE and HALT in the conditions of its clauses. -/
theorem test_witness_system_effects :
    (let i : Instr := .fence 0 4 0 0 3
     let b := { heldBlock i (cap0 0 0) with pos := .writes 0 }
     let s := { base with slots := [(0, slot1 [] b)] }
     b.nextWrite 0 = some 0 ∧ b.stores.find? (fun e => e.idx = 0) = none ∧ (wordOf i).toNat % 4 = 3 ∧ (blockIn (commits s)).pos = .writes 1) ∧
    (blockIn (commits (effect (.cacheopBinv 0 0x1C0 4 0x60) (cap0 0xFFFFFF00000080 0)))).holds = [.invalidate (some (0xFFFFFF00000080 / 128))] ∧
    (blockIn (commits (effect (.cacheopBinvdie 0 0x1C0 4 0x61) (cap0 0 1)))).holds = [.invalidate none] ∧
    (blockIn (commits (effect (.cacheopBinv 0 0x1C0 4 0x60) (cap0 0x10000 0)))).holds = [.invalidate (some 0x200)] ∧
    (blockIn (commits (effect (.tlbopAll 0 0x1C0 4 0x61) (cap0 0 1)))).holds = [.shootdown none] ∧
    (blockIn (commits (effect (.tlbopPage 0 0x1C0 4 0x60) (cap0 0x1FFFF 0)))).holds = [.shootdown (some 1)] ∧
    (((commits (effect (.traceFreeze 0 0x1C0 4 0x61) (cap0 0 1))).bay 0).tracectl.getLsbD 15) = true ∧
    (let s := { effect (.traceThaw 0 0x1C0 4 0x62) (cap0 0 2) with bays := [(0, { bay0 with tracectl := 0x801F })] }
     ((commits s).bay 0).tracectl.getLsbD 15 = false) ∧
    (let y := base.bay 0
     y.tracectl.getLsbD 15 = false ∧ y.postLeft = none ∧ y.tracectl.getLsbD 3 = true ∧ y.tracedAt ≠ some base.cycle ∧ y.dropped = false ∧
       ((commits (effect (.traceMark 0 0x1C0 4 0x60) (cap0 77 0))).bay 0).trace.map (fun e => e.2.2) = [77]) ∧
    ((commits (effect (.haltStop 0 0x1C0 0x61 0x60) (cap0 1 0))).slot 7).stopped = true ∧
    ((commits (effect (.haltStop 0 0x1C0 0x61 0x60) (cap0 1 0))).slot 8).stopped = false := by decide +kernel

/-- A mould of one pipeline with a source and a sink, loaded by the task of slot 0. -/
def mould0 : Mould :=
  { loneMould (wordOf (.pass 0)) with
    uid := 1, starter := 1, ctx := 1, op := 5, sources := [{ idx := 0, pipe := 0, toB := false, closed := false, forming := [], owner := none }],
    sinks := [{ idx := 0, queue := [], ended := false, owner := none }] }
def bead0 : Bead := { f0 := 7, f1 := 8, f2 := 9, f3 := 10, pred := true, tag := 0xFFFF, count := 0, accs := [], own := [], dead := false }
def withMould (s : State) (m : Mould) : State := { s with dies := [(0, { openDie with moulds := [(0, m)] })] }
/-- State of a mould after an effect, and what the effect gave. -/
def moulded (i : Instr) (c : Capture) (m : Mould) : Option MouldState × (Word × Nat × Bool) :=
  let s := withMould (effect i c) m
  (((commits s).mould 0 0).map (fun m => m.state), given s)
/-- MouldEffects, its first part: a table with a free entry and one without; handles of a mould, of no mould and of another context's,
in every state that counts; a source that is open, closed, owned or not there, and one without room. -/
theorem test_witness_moulds :
    (let s := effect (.mload 0 0x185 4 6) (cap0 0x10000 31)
     given s = (256, 0, true) ∧ Smap.has (s.die 0).moulds 0 = false ∧
       given { s with dies := [(0, { openDie with moulds := (List.range 64).map (fun e => (e, mould0)) })] } = (0, 0, false)) ∧
    (given (effect (.mstart 0 0x1C0 4 6) (cap0 0x1FF 0)) = (0, 1, true) ∧ given (effect (.mstopDrain 0 0x1C0 4 0x60) (cap0 0x100 0)) = (0, 1, true) ∧
      moulded (.mstart 0 0x1C0 4 6) (cap0 0x100 0) { mould0 with ctx := 2 } = (some .running, (0, 1, true)) ∧
      moulded (.mstart 0 0x1C0 4 6) (cap0 0x100 8) { mould0 with state := .loading } = (some .loading, (0, 0, true)) ∧
      moulded (.mstart 0 0x1C0 4 6) (cap0 0x100 0) { mould0 with state := .stopped } = (some .running, (0, 0, true)) ∧
      moulded (.mstopDrain 0 0x1C0 4 0x60) (cap0 0x100 0) { mould0 with sinks := [], sources := [] } = (some .draining, (0, 0, true))) := by
  decide +kernel
theorem test_witness_injects :
    (let i : Instr := .inject 0 0x1C0 0x10 5
     let c : Capture := { cap0 0 0x100 with grp := [1, 2, 3, 4] }
     let k : Source := { idx := 0, pipe := 0, toB := false, closed := false, forming := [], owner := none }
     (moulded i c mould0).2 = (0, 0, true) ∧ (moulded i c { mould0 with state := .loading }).2 = (0, 0, false) ∧
       (moulded i c { mould0 with state := .failed }).2 = (0, 1, true) ∧ (moulded i { c with r := 0xF100 } mould0).2 = (0, 1, true) ∧
       (moulded i c { mould0 with sources := [{ k with closed := true }] }).2 = (0, 1, true) ∧
       (moulded i c { mould0 with sources := [{ k with owner := some 3 }] }).2 = (0, 1, true) ∧
       (moulded i c { mould0 with switching := true }).2 = (0, 0, false) ∧ (moulded i { c with r := 0x60100 } mould0).2 = (0, 0, true)) := by decide +kernel
theorem test_witness_mould_aborted : (moulded (.mstopAbort 0 0x1C0 4 0x61) (cap0 0x100 1) mould0).2 = (0, 0, true) := by decide +kernel
/-- What a COLLECT of s4 and s6 writes, and whether it waits. -/
def collected (s : State) : List Word × Bool :=
  let b := blockIn (after (exec (.collect 0 0x188 4 6) s))
  (b.regw.map (fun w => w.value), !b.replay.isEmpty)
def collecting (h q : Word) : State := demo (.collect 0 0x188 4 6) [(4, h), (6, q)]
/-- MouldEffects, its second part: a bead, none yet, the end, a mould that is gone, one that loads, and no handle. -/
theorem test_witness_collects :
    let k : Sink := { idx := 0, queue := [], ended := false, owner := none }
    collected (collecting 0x1FF 0) = ([0x400000000, 0, 0, 0], false) ∧
    collected (withMould (collecting 0x100 0) { mould0 with state := .aborting }) = ([0x400000000, 0, 0, 0], false) ∧
    collected (withMould (collecting 0x100 16) { mould0 with state := .loading }) = ([], true) ∧
    collected (withMould (collecting 0x100 0) mould0) = ([0, 0, 0, 0], false) ∧ collected (withMould (collecting 0x100 16) mould0) = ([], true) ∧
    collected (withMould (collecting 0x100 16) { mould0 with sinks := [{ k with ended := true }] }) = ([0x200000000, 0, 0, 0], false) ∧
    collected (withMould (collecting 0x100 16) { mould0 with sinks := [{ k with queue := [[bead0, bead0], [bead0]] }] }) =
      ([0xFFFF000900000007, 8, 9, 10], false) ∧
    fate (exec (.collect 0 0x188 4 6) (collecting 0x100 32)) = (some cIllegalForm, false) ∧
    fate (exec (.collect 0 0x188 4 6) (collecting 0x200 0)) = (some cIllegalForm, false) := by decide +kernel

def kvop0 : KvOp :=
  { kind := .splice, phase := .queued, op := 5, uid := 1, ctx := 1, bay := 0, a0 := 0, a1 := 0, a2 := 0, a3 := 0, sel := 0, launch := 0, flags := 0,
    detach := false, threshold := 0, rows := [], docRows := [], len := 0, seqWords := [], docWords := [], reserved := [], captured := [], todo := [],
    marked := [], cols := [], task := none, query := [], crucibles := [], given := [], since := [], incomplete := false, fault := none }
def mxEntry0 : MxEntry := { op := 5, uid := 1, ctx := 1, launch := 0, num := 0, k0 := 0, k1 := 0, key := 0, rows := 0, nextPass := 0, passes := [], accumulated := 0 }
def transfer0 : Transfer :=
  { op := 5, uid := some 1, launch := 0, ctx := 1, detach := false, key := 0, tmplIdx := 0, tmpl := [], seq := 0, started := false, next := 0,
    drawn := 0, src := 0, block := 0, bad := [], fault := none }
/-- EngineEffects: an entry that is free and one that is taken; a channel with room and one full; a template that can be read and one
that cannot; SPLICE and REPAIR; a graph with no entry, one that may run, and one with four runs before it. -/
theorem test_witness_engines :
    (let i : Instr := .mxcfg 0 0x1C0 0x10 5
     let s := effect i (cap0 0 15)
     (commits s).bay 0 ≠ s.bay 0 ∧ given s = (0, 0, true) ∧
       given { s with bays := [(0, { bay0 with mx := [(15, mxEntry0)], mxNext := 1 })] } = (0, 0, false)) ∧
    (let i : Instr := .pourStart 0 0x1C0 4 6
     let s := effect i (cap0 9 0x407)
     given s = (0, 0, true) ∧ given { s with bays := [(0, { bay0 with chans := [(7, { queue := List.replicate 5 transfer0, seq := 5 })] })] } = (0, 0, false) ∧
       given { s with bays := [(0, { bay0 with chans := [(7, { queue := List.replicate 4 transfer0, seq := 4 })] })] } = (0, 0, true) ∧
       given (effect (.pourLoadt 0 0x1C0 4 6) (cap0 0xFFFFFF00000040 0x3F8)) = (0, 0, true) ∧
       (effect (.pourLoadt 0 0x1C0 4 6) (cap0 0xFFFFFF00000040 0x3F8)).padWaits 0xFFFFFF00000040 64 = false ∧
       given (effect (.pourLoadt 0 0x1C0 4 6) (cap0 0x20000 0x3F8)) = (0, 1, true)) ∧
    (given (effect (.splice 0 0x185 4 60) (cap0 0 0)) = (0, 0, true) ∧ ((commits (effect (.repair 0 0x185 4 60) (cap0 0 0))).kvops.map (fun o => o.2.kind)) = [.repair]) ∧
    (let g : Instr := .graphgo 0 0x185 4 6
     let s : State := { effect g (cap0 255 0) with sched := [(0x100FF, 0x8000000000010FFF)] }
     given (effect g (cap0 256 0)) = (2, 0, true) ∧ given s = (0, 0, true) ∧
       given { s with runs := List.replicate 4 { graph := 255, first := 0xFFF, count := 1, patches := [], running := false, id := 1, deps := [] } } = (1, 0, true)) := by
  decide +kernel

def hallmark0 : Hallmark := { key := 0xFFFFFF00000009, gen := 0xFFFF, stamped := false, launch := 0, run := 0, deps := [], sys := false, byOp := false }
def withHallmarks (s : State) (hs : List Hallmark) : State := { s with dies := [(0, { openDie with hallmarks := hs, hmCounter := 9 })] }
/-- HallmarkEffects: a key with an entry, without one, stamped, and coarse; generations wrap. -/
theorem test_witness_hallmarks :
    let c := cap0 0xFFFFFF00000009 0
    let d := effect (.hmdecl 0 0x185 4 0x60) c
    let st := effect (.stamp 0 0x185 4 0x60) c
    (match base.keyHome 0 0xFFFFFF00000009 with
      | (.ok h, _) => h == 0 && !isKvKey 0xFFFFFF00000009
      | _ => false) = true ∧
    d.heldUnits = [] ∧ given (withHallmarks d [hallmark0]) = (0, 0, true) ∧ given (withHallmarks d []) = (9, 0, true) ∧
    given (withHallmarks st [hallmark0]) = (0xFFFF, 0, true) ∧ given (withHallmarks st [{ hallmark0 with stamped := true }]) = (0xFFFF, 0, true) ∧
    (given (withHallmarks (effect (.stamp 0 0x1C0 4 0x60) c) [])).2 = (1, true) ∧ given { withHallmarks st [] with launches := [(0, { LaunchRun.reset with coarse := true })] } = (0x10000, 0, true) ∧
    given (withHallmarks (effect (.hmretire 0 0x185 4 0x60) c) [hallmark0]) = (0, 0, true) ∧
    ((commits (withHallmarks (effect (.hmretire 0 0x185 4 0x60) c) [hallmark0])).die 0).hallmarks = [] := by decide +kernel
/-- A table as full as one likes. -/
theorem test_witness_full_table (n : Nat) : (List.replicate n hallmark0).length = n := by simp

/-! A pool of four blocks at 0xC0000, its die table at 0x40000, and in the scratchpad a sequence of one layer, one head of two elements,
with the row [block 0, FILL 1]. -/
def kvMem : List Host.Cell :=
  [(0x10002, 1), (0x10004, 0x60), (0x10005, 0x30), (0x10006, 0x70), (0x10007, 0x6E), (0x40000, 1), (0x40002, 6), (0x60000, 1), (0x60002, 8), (0x80060, 7),
   (0x80062, 0x0C), (0xC0001, 0x10), (0xC0002, 0x0C), (0xC0008, 4), (0xC0011, 0x20), (0xC0012, 0x0C), (0xC0018, 2), (0xC1000, 1), (0xC1002, 0x20), (0xC1008, 1), (0xC101A, 0x0C),
   (0xC2000, 3), (0xC2004, 2), (0xFFFFFF00000000, 0x80), (0xFFFFFF00000004, 0xFF), (0xFFFFFF00000005, 0xFF), (0xFFFFFF00000006, 0xFF),
   (0xFFFFFF00000009, 1), (0xFFFFFF0000000C, 0xFF), (0xFFFFFF0000000D, 0xFF), (0xFFFFFF0000000E, 0xFF), (0xFFFFFF00000010, 1), (0xFFFFFF00000014, 2),
   (0xFFFFFF00000080, 1), (0xFFFFFF00000082, 2), (0xFFFFFF00000094, 1), (0xFFFFFF00000100, 3), (0xFFFFFF00000189, 2), (0xFFFFFF0000018C, 0xFF),
   (0xFFFFFF0000018D, 0xFF), (0xFFFFFF0000018E, 0xFF), (0xFFFFFF00000190, 0x80), (0xFFFFFF00000191, 2), (0xFFFFFF00000194, 0xFF), (0xFFFFFF00000195, 0xFF),
   (0xFFFFFF00000196, 0xFF)]
def kvIn (i : Instr) (c : Capture) : State :=
  { effect i c with mem := kvMem, kvpool := 0xC0000, dies := [(0, { openDie with pgtbase := 0x40000 })] }
/-- KvEffects, its first part: slots that are valid and not, a FILL of 16 and of 17, an entry that is shared and one that is the last. -/
theorem test_witness_kv_map :
    let e0 : Word := 0xFFFFFF00000100
    let e1 : Word := 0xFFFFFF00000108
    given (kvIn (.kvmap 0 0x185 4 6) (cap0 e0 0)) = (0xFFFFFFFFFFFFFFFF, 1, true) ∧
    given (kvIn (.kvmap 0 0x185 4 6) (cap0 e1 0x1100)) = (0xFFFFFFFFFFFFFFFF, 1, true) ∧
    given { kvIn (.kvmap 0 0x185 4 6) (cap0 e1 0x1000) with kvpool := 0 } = (0xFFFFFFFFFFFFFFFF, 1, true) ∧
    given (kvIn (.kvmap 0 0x185 4 6) (cap0 0x20000 0)) = (0xFFFFFFFFFFFFFFFF, 1, true) ∧
    given (kvIn (.kvfork 0 0x185 4 6) (cap0 e0 e1)) = (3, 0, true) ∧ given (kvIn (.kvfork 0 0x185 4 6) (cap0 e0 e0)) = (0xFFFFFFFFFFFFFFFF, 1, true) ∧
    given (kvIn (.kvfork 0 0x185 4 6) (cap0 e1 e1)) = (0xFFFFFFFFFFFFFFFF, 1, true) ∧
    given (kvIn (.kvfree 0 0x185 4 0x60) (cap0 e0 0)) = (0, 0, true) ∧ given (kvIn (.kvfree 0 0x185 4 0x60) (cap0 e1 0)) = (0xFFFFFFFFFFFFFFFF, 1, true) := by
  decide +kernel
def withPfx (i : Instr) (c : Capture) (l : List (Word × Word × Nat)) : State :=
  { kvIn i c with dies := [(0, { openDie with pgtbase := 0x40000, pfx := l })] }
/-- Hashes kept, replaced, dropped, and one too many; a list to look up that is good and one that is not; KATT. -/
theorem test_witness_kv_prefixes :
    let ins : Instr := .pfxins 0 0x185 4 6
    given (withPfx ins (cap0 5 0) [(5, 1, 0)]) = (0, 0, true) ∧ given (withPfx ins (cap0 5 8) [(5, 1, 0)]) = (1, 0, true) ∧
    given (withPfx ins (cap0 6 8) [(5, 1, 0)]) = (1, 0, true) ∧ given (withPfx ins (cap0 999 8) ((List.range 256).map (fun n => (BitVec.ofNat 64 n, 8, n)))) = (2, 0, true) ∧
    given (withPfx (.pfxlook 0 0x185 4 0x60) (cap0 0xFFFFFF00000100 0) []) = (0xFFFFFFFFFFFFFFFF, 1, true) ∧
    given { withPfx (.pfxlook 0 0x185 4 0x60) (cap0 0xFFFFFF00000200 0) [] with
      mem := kvMem ++ [(0xFFFFFF00000200, 8), (0xFFFFFF00000201, 2), (0xFFFFFF00000204, 0xFF), (0xFFFFFF00000205, 0xFF), (0xFFFFFF00000206, 0xFF),
        (0xFFFFFF00000208, 1), (0xFFFFFF00000214, 0xFF), (0xFFFFFF00000215, 0xFF), (0xFFFFFF00000216, 0xFF)] } = (0, 0, true) ∧
    (let c : Capture := { cap0 0 0 with grp := [0xFFFFFF00000000, 0, 0xFFFFFF00000300, 0xFFFFFF00000400] }
     ((commits (kvIn (.katt 0 0x185 4 60) c)).kvops.map (fun o => (o.2.kind, o.2.phase, o.2.query.length)))) = [(.katt, .queued, 2)] := by decide +kernel
/-- KVAPPEND, with LAST 0 and 1, and of a layer there is not. -/
theorem test_witness_kv_append :
    given (kvIn (.kvappend 0 0x185 4 6) (cap0 0xFFFFFF00000000 0xFFFFFF00000180)) = (1, 0, true) ∧
    given { kvIn (.kvappend 0 0x185 4 6) (cap0 0xFFFFFF00000000 0xFFFFFF00000180) with mem := Smap.put kvMem 0 0xFFFFFF00000182 1 } = (1, 0, true) ∧
    given { kvIn (.kvappend 0 0x185 4 6) (cap0 0xFFFFFF00000000 0xFFFFFF00000180) with mem := Smap.put kvMem 0 0xFFFFFF00000180 1 } =
      (0xFFFFFFFFFFFFFFFF, 1, true) := by decide +kernel

/-! ### Instructions of stages -/

/-- One instruction for each row of a stage. -/
def stageInstrs : List Instr :=
  [.pass 0, .iadd 0 0 0 0 0, .isub 0 0 0 0 0, .imul 0 0 0 0 0, .imulh 0 0 0 0 0 0, .iand 0 0 0 0 0, .ior 0 0 0 0 0,
   .ixor 0 0 0 0 0, .ishl 0 0 0 0 0, .ishr 0 0 0 0 0, .isar 0 0 0 0 0, .imin 0 0 0 0 0, .imax 0 0 0 0 0, .iminu 0 0 0 0 0,
   .imaxu 0 0 0 0 0, .icmp 0 0 0 0 0 0, .ihash 0 0 0 0 0, .isel 0 0 0 0 0, .ipopc 0 0 0, .stageFadd 0 0 0 0 0 0,
   .stageFsub 0 0 0 0 0 0, .stageFmul 0 0 0 0 0 0, .ffma 0 0 0 0 0 0, .stageFmin 0 0 0 0 0, .stageFmax 0 0 0 0 0,
   .fcmp 0 0 0 0 0 0, .fexp2 0 0 0, .frcp 0 0 0, .frsq 0 0 0, .cvt 0 0 0 0 0 0 0, .cvtb4 0 0 0 0 0, .fabsn 0 0 0 0 0 0,
   .lshuf 0 0 0 0, .lbcast 0 0 0, .lscan 0 0 0 0, .lred 0 0 0 0, .lcompact, .filter 0, .fork 0 0 0 0 0, .recirc 0, .steer 0,
   .merge, .reord, .gen 0 0 0 0 0, .seqtag, .isect 0 0, .spld 0 0 0 0 0 0, .spst 0 0 0 0 0 0, .spamo 0 0 0 0 0 0,
   .spfill 0 0 0 0 0 0, .spmark 0 0 0 0 0, .mld 0 0 0 0 0 0 0, .mst 0 0 0 0 0 0, .mgath 0 0 0 0, .mscat 0 0 0 0, .sbars 0 0 0,
   .trswap 0 3, .trload 0 0 0 0 0 1, .trmv 0 0 0, .pkout 0 0, .pkin 0, .tmerge, .b4dec 0 0, .softacc 0 0 0 0 0 0 0, .sink,
   .token 0]
/-- Staged, decided. -/
def stagedB (s : State) (i : Instr) (x : StageRef) : Bool :=
  i.wf && i.home == .fabric && s.focus == .stage x.die x.entry x.pipe x.stg &&
    (match s.mouldOf x with
      | some m => m.state.started && m.present && !m.switching && decide (x.pipe < m.pipes.length)
      | none => false) && decide (x.stg < 6) && encode i == some (s.stageOf x).word
theorem staged_of {s : State} {i : Instr} {x : StageRef} (h : stagedB s i x = true) : Staged s i x := by
  simp only [stagedB, Bool.and_eq_true, beq_iff_eq, decide_eq_true_eq] at h
  obtain ⟨⟨⟨⟨⟨h1, h2⟩, h3⟩, h4⟩, h5⟩, h6⟩ := h
  have h7 : ∃ m, s.mouldOf x = some m ∧ m.state.started = true ∧ m.present = true ∧ m.switching = false ∧ x.pipe < m.pipes.length := by
    cases hm : s.mouldOf x with
    | none => simp [hm] at h4
    | some m =>
      rw [hm] at h4
      simp only [Bool.and_eq_true, Bool.not_eq_true', decide_eq_true_eq] at h4
      exact ⟨m, rfl, h4.1.1.1, h4.1.1.2, h4.1.2, h4.2⟩
  exact { wf := h1, home := h2, focus := h3, mould := h7, inside := h5, word := h6 }
/-- A vector of a bead and a ghost, and the stage that is offered it. -/
def vec0 : List Lane := [.bead bead0, .ghost 1 2]
def ref0 : StageRef := { die := 0, entry := 0, pipe := 0, stg := 0 }
def stageIn (i : Instr) (f : Stage → Stage) (g : Pipe → Pipe) : State :=
  { withMould base { mould0 with
      ctx := 0
      pipes := [g { Pipe.blank with
        stages := f { Stage.blank with word := wordOf i } :: List.replicate 5 { Stage.blank with word := wordOf (.pass 0) }
        pa := [.vec vec0]
        paCap := 4
        pbCap := 4
        po := [.sink 0]
        px := [.sink 0] }] } with
    focus := .stage 0 0 0 0 }
def staging (i : Instr) : State := stageIn i id id
def isNext (o : Host.Outcome State Fault Refusal) : Bool := match o with
  | .next _ => true
  | _ => false
/-- Witness of Staged, of Offered and of StageFrame: every operation of a stage is in focus with a vector to take, and goes on. -/
theorem test_witness_staged : (∀ i ∈ stageInstrs, Staged (staging i) i ref0) ∧ (∀ i ∈ stageInstrs, isNext (exec i (staging i)) = true) ∧
    (∀ i ∈ stageInstrs, i.pairs = false ∧ i.keeps = false → Offered ((staging i).enters ref0 (.plain false)) ref0 vec0) := by
  have h : (stageInstrs.all fun i => stagedB (staging i) i ref0) = true := by decide +kernel
  have h2 : (stageInstrs.all fun i => isNext (exec i (staging i))) = true := by decide +kernel
  have h3 : (stageInstrs.all fun i => i.pairs || i.keeps || ((((staging i).enters ref0 (.plain false)).stageOf ref0).busy == none &&
    (((staging i).enters ref0 (.plain false)).takeFront ref0).1 == some (.vec vec0))) = true := by decide +kernel
  refine ⟨fun i hi => staged_of (List.all_eq_true.mp h i hi), fun i hi => List.all_eq_true.mp h2 i hi, fun i hi hk => ?_⟩
  have h4 := List.all_eq_true.mp h3 i hi
  simp only [hk.1, hk.2, Bool.false_or, Bool.and_eq_true, beq_iff_eq] at h4
  exact { free := h4.1, input := h4.2 }
/-- What a stage has put out and its state, after its turn. -/
def staged (i : Instr) (f : Stage → Stage) (g : Pipe → Pipe) : List Item × Stage :=
  let t := after (exec i (stageIn i f g))
  ((((t.mould 0 0).map (fun m => m.pipeAt 0)).map (fun p => (p.stageAt 0).out)).getD [], t.stageOf ref0)
/-- What has gone into sink 0 after a stage's turn; the sink is where a lone stage leads through five that pass. -/
def outOf (i : Instr) (f : Stage → Stage) (g : Pipe → Pipe) : List Item := (staged i f g).1
/-- StageIntegers: a lane that acts, one that is absorbed, one that passes under PIN 11, and no bead; B by each BSEL. -/
theorem test_witness_lanes :
    let y : Bead := { bead0 with pred := false }
    let v : List Lane := [.bead bead0, .bead y, .ghost 3 4]
    let st := { Stage.blank with const := 100, active := [(7, 55)] }
    let op (a b _ : Word32) (_ : Bool) : Word32 := a + b
    let f (c : BitVec 4) (bs : Nat) : List Lane := mapLanes st 1 0 2 bs c.toNat (fun _ => op) v [.bead bead0]
    f 4 0 = mapLanes st 1 0 2 0 4 (fun _ => op) v [] ∧ laneAt (f 4 0) 0 = .bead { bead0 with f1 := 16 } ∧ laneAt (f 4 0) 1 = .ghost 0xFFFF 0 ∧
      laneAt (f 12 0) 1 = .bead y ∧ laneAt (f 4 0) 2 = .ghost 3 4 ∧ laneAt (f 4 0) 15 = .empty ∧
      laneAt (f 8 1) 1 = .bead { y with f1 := 107 } ∧ laneAt (f 0 2) 0 = .bead { bead0 with f1 := 62 } ∧
      laneAt (f 0 3) 0 = .bead { bead0 with f1 := 16 } ∧ laneAt (f 3 4) 0 = .bead { bead0 with f1 := 8, pred := false } := by decide +kernel
/-- StageFloats: the modes, CVTB4 with and without DITHER. -/
theorem test_witness_stage_floats :
    (([.stageFadd 0 0 0 0 0 0, .stageFadd 0 0 0 0 0 3, .ffma 0 0 0 0 0 3, .cvt 0 0 0 0 0 0 4, .cvtb4 0 0 0 0 2, .cvtb4 0 0 0 4 0] : List Instr).all
      fun i => stagedB (staging i) i ref0) = true := by decide +kernel
def busyV : List Lane := [.bead { bead0 with accs := [7] }]
def withSide (st : Stage) : Stage := { st with side := [.vec vec0] }
/-- The guards of BeadControl: children still to be sent, a queue with room and one without, a bead of count 255, PB with a vector. -/
theorem test_witness_bead_control :
    ((staged (.fork 0 0 0 0 0) id id).2.side = [.vec (.bead { bead0 with f0 := 7 } :: List.replicate 15 .empty)]) ∧
    ((staged (.fork 0 0 0 0 0) withSide id).2.side = []) ∧
    ((stageIn (.recirc 0) id (fun p => { p with recirc := [(0, List.replicate 8 bead0)], pa := [] })).pipeOf ref0).recircs = true ∧
    (((after (exec (.recirc 0) (staging (.recirc 0)))).pipeOf ref0).recirc.map (fun e => e.2.map (fun y => y.count))) = [[1]] ∧
    (((after (exec (.recirc 0) (stageIn (.recirc 0) id (fun p => { p with pa := [.vec [.bead { bead0 with count := 255 }]] })))).pipeOf ref0).recirc) = [] ∧
    ((after (exec (.steer 0) (staging (.steer 0)))).pipeOf ref0).pa = [] ∧
    (((after (exec .merge (stageIn .merge (fun st => { st with order := [true] }) (fun p => { p with pa := [], pb := [.vec vec0] })))).pipeOf ref0).pb) = [] ∧
    (((after (exec .merge (stageIn .merge (fun st => { st with order := [false] }) id))).pipeOf ref0).pa) = [] ∧
    isNext (exec .merge (stageIn .merge id (fun p => { p with pb := [.vec vec0] }))) = true := by decide +kernel
/-- The guards of StreamOperations: a forming vector, a tag at the ends of the window, a queue of copies, and side B known and not. -/
theorem test_witness_streams :
    let b (t : BitVec 16) : List Item := [.vec [.bead { bead0 with tag := t }]]
    (((staged .reord (fun st => { st with expect := 5 }) (fun p => { p with pa := b 260 })).2.reord).map (fun e => e.1)) = [260] ∧
    (((staged .reord (fun st => { st with expect := 5 }) (fun p => { p with pa := b 261 })).2.reord).map (fun e => e.1)) = [] ∧
    ((staged .reord (fun st => { st with expect := 5, reord := [(5, .bead { bead0 with tag := 5 })] }) (fun p => { p with pa := [] })).2.expect) = 6 ∧
    ((staged (.gen 0 0 0 1 1) id id).2.genq.length) = 2 ∧
    ((staged (.gen 0 0 0 1 1) (fun st => { st with genq := [(.bead bead0, 17)] }) (fun p => { p with pa := [] })).2.genq.map (fun e => e.2)) = [1] ∧
    ((staged (.isect 1 0) (fun st => { st with sideB := [{ bead0 with f0 := 6 }, { bead0 with f0 := 7 }] }) id).2.sideB.map (fun y => y.f0)) = [7] ∧
    ((staged (.isect 1 0) id (fun p => { p with pb := [.vec [.bead bead0]] })).2.sideB.length) = 1 ∧
    ((staged (.isect 1 0) id id).2.sideB.length) = 0 := by decide +kernel

def acc0 : StageAcc := { id := 3, die := 0, entry := 0, pipe := 0, stg := 0, lane := 0, port := false, stream := 0, group := 3, kind := .load, addr := 0xFFFFFF00000080,
                         size := 4, data := 9, tag := 0, dst := 1, kv := false, posted := false, gen := 0, retried := false, waited := false }
def accessing (i : Instr) (a : List StageAcc) (n : Nat) : State :=
  { stageIn i (fun st => { st with busy := some [.bead { bead0 with accs := [3] }] }) (fun p => { p with pa := [] }) with
    focus := .none
    stageAccs := a
    mem := base.mem ++ [(0xFFFFFF00000081, 2)]
    lines := [(n, { LineState.reset with full := false })] }
/-- StageMemory: an access that is issued and held, one that is posted and one that fails; one that is performed, in its stream's turn
and out of it, and on a line that is empty; SBARS with an access to wait for and without. -/
theorem test_witness_stage_memory :
    let ld : Instr := .spld 1 0 0 0 2 0
    let stI : Instr := .spst 1 0 0 0 2 0
    let done (a : List StageAcc) (n : Nat) : Option (List Lane) × Nat :=
      let t := after (exec (.stageAccessComplete 3) (accessing ld a n))
      ((t.stageOf ref0).busy, t.stageAccs.length)
    ((after (exec ld (stageIn ld id (fun p => { p with pa := [.vec [.bead { bead0 with f0 := 12 }]] })))).stageAccs.map (fun a => (a.addr, a.posted))) =
      [(0xFFFFFF0000000C, false)] ∧
    ((after (exec ld (stageIn ld id (fun p => { p with pa := [.vec [.bead { bead0 with f0 := 0x20000000 }]] })))).stageAccs) = [] ∧
    ((after (exec stI (stageIn stI id (fun p => { p with pa := [.vec [.bead { bead0 with f0 := 8 }]] })))).stageAccs.map (fun a => (a.addr, a.posted))) =
      [(0xFFFFFF00000008, true)] ∧
    (done [acc0] 0).2 = 0 ∧ done [{ acc0 with id := 2 }, acc0] 0 = (some [.bead { bead0 with accs := [3] }], 2) ∧
    done [acc0] 1 = (some [.bead { bead0 with accs := [3] }], 1) ∧ done [] 0 = (some [.bead { bead0 with accs := [3] }], 0) ∧
    (after (exec (.stageAccessComplete 3) (accessing stI [{ acc0 with kind := .store, posted := true }] 0))).stageAccs = [] ∧
    (after (exec (.stageAccessComplete 3) (accessing stI [{ acc0 with kind := .mark true, posted := true }] 1))).lines = [] ∧
    ((staged (.sbars 0 15 0) id id).2.busy = some vec0) ∧
    ((staged (.sbars 0 15 0) (fun st => { st with busy := some vec0 }) id).2.busy = none) := by decide +kernel
/-- TileOperations: PKOUT's packet begun and ended short, PKIN's header, and what is no vector. -/
theorem test_witness_tiles :
    (staged (.pkout 0 0) (fun st => { st with const := 0 }) id).2.inEnded = false ∧
    ((staged (.pkout 0 0) (fun st => { st with inEnded := true, beats := 2 }) (fun p => { p with pa := [] })).2.beats = 1) ∧
    ((after (exec (.pkin 1) (stageIn (.pkin 1) id (fun p => { p with pa := [.header 5] })))).pipeOf ref0).pa = [] ∧
    ((after (exec (.pkin 0) (stageIn (.pkin 0) id (fun p => { p with pa := [.header 5] })))).pipeOf ref0).pa = [] ∧
    ((staged (.pass 0) id (fun p => { p with pa := [.eos] })).2.inEnded = true) ∧
    ((staged (.pass 0) (fun st => { st with loading := [(0, 4)] }) (fun p => { p with pa := [.swap 1] })).2.active = [(0, 4)]) ∧
    ((staged (.pass 0) (fun st => { st with loading := [(0, 4)] }) (fun p => { p with pa := [.swap 2] })).2.active = []) ∧
    ((staged (.pass 0) id (fun p => { p with pa := [.load 0 [(17, 6)]] })).2.loading = [(17, 6)]) ∧
    ((staged (.pass 0) id (fun p => { p with pa := [.load 1 [(17, 6)]] })).2.loading = []) := by decide +kernel

/-! ### The step, and the life of a block -/

/-- StepRunsDecoded: a word of a block, a word of a stage, an event, and a cycle, each first on the agenda. -/
theorem test_witness_step :
    (let s := { demo (.add 0 0x185 4 6) [(4, 2), (6, 3)] with agenda := [.fire 0 0, .clock] }
     ((blockIn s).words[0]?.map decodeSeq).bind (fun r => r.toOption) = some (.add 0 0x185 4 6) ∧
       (blockIn (after (step s))).regw.map (fun w => w.value) = [5] ∧ (after (step s)).agenda = [.clock] ∧
       (after (step (after (step s)))).cycle = 1) ∧
    (let s := { staging (.iadd 0 0 1 0 0) with agenda := [.stage 0 0 0 0] }
     (decodeStage (wordOf (.iadd 0 0 1 0 0))).toOption = some (.iadd 0 0 1 0 0) ∧ (after (step s)).mould 0 0 ≠ s.mould 0 0) ∧
    (let s := { base with agenda := [.event (.powerThrottle 0 7)] }
     (Instr.powerThrottle 0 7).home = .device ∧ (Instr.powerThrottle 0 7).wf = true ∧ (after (step s)).islands = [(0, 7)]) := by decide +kernel
/-- StepKeepsMemory: memory in its form, and a step. -/
theorem test_witness_memory_form : Memory.wf base.mem = true ∧ Memory.wf kvMem = true ∧ Memory.wf (after (step { base with agenda := [.clock] })).mem = true := by
  decide +kernel
/-- DecodeEncode: an instruction of a block, one of a stage and one of the device. -/
theorem test_witness_encoding : ((Instr.add 0 0x185 4 6).wf = true ∧ (Instr.add 0 0x185 4 6).home = .block) ∧
    ((Instr.iadd 0 0 1 0 0).wf = true ∧ (Instr.iadd 0 0 1 0 0).home = .fabric) ∧ (Instr.logread).home = .device := by decide

/-- A slot about to fetch the block at 0x10000: a header of KIND 1 and an ERET. -/
def fetching (a : Arrival) (m : List Host.Cell) : State :=
  { base with mem := m, slots := [(0, { Slot.reset with status := .running, task := some task0, ctxid := 1, pc := 0x10000, arrival := a, trapframe := 0 })] }
/-- BlockFetchAndCommit, its first part: a block that is good, one of the wrong KIND, one with an illegal word, and one on no page. -/
theorem test_witness_fetch :
    let m := base.mem
    let f (s : State) : SlotStatus × Option Nat := let t := after (exec (.blockFetch 0) s); ((t.slot 0).status, (t.slot 0).block.map (fun b => b.count))
    ((fetching .trap m).slot 0).fetches = true ∧ f (fetching .trap m) = (.running, some 1) ∧ (f (fetching .normal m)).1 = .frozen false ∧
    (f (fetching .trap ((0x10007, 0) :: (m.filter (fun e => e.1 != 0x10007)))) ).1 = .frozen false ∧
    (f { fetching .trap m with bays := [(0, { bay0 with tlb := [] })] }).1 = .frozen false ∧ (base.slot 0).fetches = false ∧
    (match (fetching .trap m).fetchWords ((fetching .trap m).agent 0) 0 0x10000 1 with
      | (.ok [h], s1) => h.toNat / 2 ^ 25 == 0 && (match s1.fetchWords ((fetching .trap m).agent 0) 0 0x10004 1 with
        | (.ok ws, _) => blockCause true ws == none
        | _ => false)
      | _ => false) = true := by decide +kernel
def blockAs (f : Block → Block) : State := { base with slots := [(0, slot1 [] (f { block1 (wordOf (.add 0 0x185 4 6)) with fired := 1 }))] }
/-- Committing and Completed: places of a commit, a block that is done with an exit and with none, one still going, and one past its time. -/
theorem test_witness_commit :
    let b0 := { block1 (wordOf (.add 0 0x185 4 6)) with fired := 1 }
    let at_ (f : Block → Block) : Option CommitPos × SlotStatus := let t := commits (blockAs f); ((t.slot 0).block.map (fun b => b.pos), (t.slot 0).status)
    (b0.reads = [] ∧ b0.replay = [] ∧ b0.count = 1 ∧ b0.ready (slot1 [] b0) 0 = false ∧ { b0 with fired := 0 }.ready (slot1 [] b0) 0 = true) ∧
    at_ (fun b => { b with exit := some (0, .exit) }) = (some (.writes 0), .running) ∧ (at_ id).2 = .running ∧
    at_ (fun b => { b with fired := 0 }) = (some .firing, .running) ∧
    (exec (.blockHang 0) (blockAs (fun b => { b with cycles := 2 ^ 24 - 1 })) |> after) = blockAs (fun b => { b with cycles := 2 ^ 24 - 1 }) ∧
    ((exec (.blockHang 0) (blockAs (fun b => { b with cycles := 2 ^ 24 })) |> after) |> blockIn).handler = true ∧
    at_ (fun b => { b with pos := .writes 0 }) = (some (.effects 0), .running) ∧ at_ (fun b => { b with pos := .effects 0 }) = (some .settle, .running) ∧
    at_ (fun b => { b with pos := .settle }) = (some (.waits 128), .running) ∧ at_ (fun b => { b with pos := .waits 0 }) = (some .leave, .running) ∧
    at_ (fun b => { b with pos := .leave, exit := some (0, .goto 8) }) = (none, .running) ∧
    at_ (fun b => { b with pos := .leave, exit := some (0, .exit) }) = (none, .idle) := by decide +kernel
/-- A store held: its line is. -/
def heldStore : State × Block × StoreEntry :=
  let (_, b, e) := writing (.st64 0 0 4 6) 0xFFFFFF00000000 5 0
  let b := { b with waiting := some 0 }
  ({ demoIn [] b with lines := [(0, { LineState.reset with holders := 1 })] }, b, e)
/-- HeldWritesAndExits: a store that is held and one that may go; holds of each kind. -/
theorem test_witness_held_writes :
    (let (s, b, e) := heldStore
     b.nextWrite 0 = some 0 ∧ b.stores.find? (fun q => q.idx = 0) = some e ∧ ((s.slot 0).stalled).isSome = true ∧
       (match s.performBuffered 0 b e with
         | .stall => true
         | _ => false) = true ∧
       (blockIn (after (exec (.bufferedWriteResume 0) s))).waiting = some 0 ∧
       (blockIn (after (exec (.bufferedWriteResume 0) { s with lines := [] }))).stores = [] ∧ (base.slot 0).stalled = none) ∧
    (let holds (h : Hold) (i : Instr) : List Hold := (blockIn (after (exec i (blockAs (fun b => { b with pos := .settle, holds := [h] }))))).holds
     holds (.shootdown none) (.shootdownComplete 0) = [] ∧ holds (.invalidate none) (.blockInvalidateComplete 0) = [] ∧
       holds (.fenceSc [] []) (.fenceScComplete 0) = [] ∧ holds (.engines [] 0) (.blockCommit 0) = [] ∧
       (blockIn (commits { blockAs (fun b => { b with pos := .settle, holds := [.streams [3]] }) with stageAccs := [acc0] })).holds = [.streams [3]] ∧
       holds (.engines [] 0) (.shootdownComplete 0) = [.engines [] 0]) := by decide +kernel

/-- Waiting, decided. -/
def waitingB (s : State) (k : Nat) (b : Block) (c : Capture) (op : Nat) : Bool :=
  (s.slot k).status == .waiting && (s.slot k).block == some b && b.waiting == some c.idx && b.held.find? (fun e => e.idx = c.idx) == some c &&
    opOf (b.word c.idx) == op
theorem waiting_of {s : State} {k : Nat} {b : Block} {c : Capture} {op : Nat} (h : waitingB s k b c op = true) : Waiting s k b c op := by
  simp only [waitingB, Bool.and_eq_true, beq_iff_eq] at h
  obtain ⟨⟨⟨⟨h1, h2⟩, h3⟩, h4⟩, h5⟩ := h
  exact { status := h1, block := h2, wait := h3, held := h4, op := h5 }
def waitBlock (i : Instr) (c : Capture) : Block := { (block1 (wordOf i)).setFired 0 with held := [c], waiting := some 0, pos := .waits 0 }
def waitsIn (s : State) (i : Instr) (c : Capture) : State :=
  { s with slots := [(0, { slot1 [] (waitBlock i c) with status := .waiting, groups := [(3, 0)] })] }
theorem test_witness_waiting : Waiting (waitsIn base (.wait 0 4 6) (cap0 3 0)) 0 (waitBlock (.wait 0 4 6) (cap0 3 0)) (cap0 3 0) 0x5C ∧
    Waiting (waitsIn base (.await 0 4 6) (cap0 9 0)) 0 (waitBlock (.await 0 4 6) (cap0 9 0)) (cap0 9 0) 0x6D ∧
    Waiting (waitsIn base (.pjoin 0 4 6) (cap0 1 0)) 0 (waitBlock (.pjoin 0 4 6) (cap0 1 0)) (cap0 1 0) 0x66 ∧
    Waiting (waitsIn base (.mxjoin 0 4 6) (cap0 1 0)) 0 (waitBlock (.mxjoin 0 4 6) (cap0 1 0)) (cap0 1 0) 0x68 :=
  ⟨waiting_of (by decide +kernel), waiting_of (by decide +kernel), waiting_of (by decide +kernel), waiting_of (by decide +kernel)⟩
def job0 (k : JoinKind) (done : Bool) : JoinOb := { kind := k, op := 5, idx := 0, done := done, atExit := true, faults := [], overflow := false }
/-- WaitsEnd: a phase that has come, at both ends of its range, and one that has not; a stamp and none; operations done and not. -/
theorem test_witness_waits :
    let st (i : Instr) (s : State) : SlotStatus := ((after (exec i s)).slot 0).status
    let phase (p : BitVec 16) (s : State) : State :=
      { s with dies := [(0, { openDie with groups := [(3, { launch := 0, points := [(0, { expect := 2, arrived := 0, phase := p, deps := [] })] })] })] }
    let w (n : Word) (p : BitVec 16) : SlotStatus := st (.waitPhaseReached 0) (phase p (waitsIn base (.wait 0 4 6) (cap0 3 n)))
    let j (i : Instr) (e : Instr) (l : List JoinOb) : SlotStatus := st e { waitsIn base i (cap0 1 0) with joins := [(1, l)] }
    w 5 5 = .running ∧ w 5 0x8004 = .running ∧ w 5 4 = .waiting ∧ w 5 0x8005 = .waiting ∧
    st (.awaitComplete 0) (withHallmarks (waitsIn base (.await 0 4 6) (cap0 0xFFFFFF00000009 0xFFFF)) [{ hallmark0 with stamped := true }]) = .running ∧
    st (.awaitComplete 0) (withHallmarks (waitsIn base (.await 0 4 6) (cap0 0xFFFFFF00000009 0xFFFF)) [hallmark0]) = .waiting ∧
    j (.pjoin 0 4 6) (.pjoinComplete 0) [job0 (.ladle 0 0) false] = .waiting ∧ j (.pjoin 0 4 6) (.pjoinComplete 0) [job0 (.ladle 0 0) true] = .running ∧
    j (.pjoin 0 4 6) (.pjoinComplete 0) [job0 (.ladle 0 1) false] = .running ∧
    j (.mxjoin 0 4 6) (.mxjoinComplete 0) [job0 (.matrix 0 0) false] = .waiting ∧ j (.mxjoin 0 4 6) (.mxjoinComplete 0) [job0 (.matrix 0 0) true] = .running ∧
    j (.mxjoin 0 4 6) (.mxjoinComplete 0) [] = .running := by decide +kernel

/-- A completed block that holds one SRWR. -/
def srBlock (n : BitVec 14) (v : Word) : Block :=
  { (block1 (wordOf (.srwr 0 0x185 n))).setFired 0 with held := [cap0 v 0], exit := some (1, .exit), priv := true }
def srState (n : BitVec 14) (v : Word) : State := demoIn [] (srBlock n v)
/-- RegisterEvents: for each event a register and a value it acts on, and the same for the one that does not. -/
theorem test_witness_registers :
    let acts (i : Instr) (n : BitVec 14) (v : Word) : Bool := decide ((blockIn (after (exec i (srState n v)))).pos = .writes 0)
    (let b := srBlock 0x10 5
     ((srState 0x10 5).slot 0).status = .running ∧ b.pos = .firing ∧ b.reads = [] ∧ b.replay = [] ∧ b.ready (slot1 [] b) 0 = false ∧ b.exit.isSome = true ∧
       b.held.filter (fun e => opOf (b.word e.idx) = 0x2F) = [cap0 5 0]) ∧
    (acts (.specialRegisterWrite 0) 0x10 5, acts (.specialRegisterWrite 0) 0x200B 5) = (true, false) ∧
    (acts (.slotctlThaw 0) 0x200B 0x3FFFFFFFFFFFFFFF, acts (.slotctlThaw 0) 0x200B 0x4000000000000000) = (true, false) ∧
    (acts (.slotctlKill 0) 0x200B 0x7FFFFFFFFFFFFFFF, acts (.slotctlKill 0) 0x200B 0x8000000000000000) = (true, false) ∧
    (acts (.slotctlRequeue 0) 0x200B 0x8000000000000000, acts (.slotctlRequeue 0) 0x200B 0xC000000000000000) = (true, false) ∧
    (acts (.ctxswSave 0) 0x200A 0x3F, acts (.ctxswSave 0) 0x200A 0x40) = (true, false) ∧
    (acts (.ctxswRestore 0) 0x200A 0x40, acts (.ctxswRestore 0) 0x200A 0x80) = (true, false) ∧
    (acts (.tracectlFreeze 0) 0x200D 0x8000, acts (.tracectlFreeze 0) 0x200D 0x7FFF) = (true, false) ∧
    (acts (.tracectlThaw 0) 0x200D 0x7FFF, acts (.tracectlThaw 0) 0x200D 0x8000) = (true, false) := by decide +kernel

/-! ### Tasks and launches -/

def statusAfter (i : Instr) (s : State) : SlotStatus := ((after (exec i s)).slot 0).status
def entry0 : QEntry := { addr := 0x10040, image := false, launch := 0, level := 4, cls := 0, affKind := 0, affTgt := 0, pushedAt := 0, waitFrom := 0, deps := [], gang := none, member := none, place := 0 }
/-- A task that has left its last block, in a join. -/
def leaving (st : SlotStatus) : State :=
  { base with slots := [(0, { slot1 [] { block1 (wordOf (.exit 0 0x60 0x60)) with fired := 1, waiting := some 128 } with status := st, taskrec := 0xFFFFFF00000000 })] }
/-- A queue whose first record has waited, on a die of one bay, with every slot taken by the task of slot 0 or stopped. -/
def crowded (st : SlotStatus) (flags : BitVec 16) (est : Word) (cycle : Nat) : State :=
  { base with
    cycle := cycle
    mem := kvMem
    dies := [(0, { openDie with capbays := 1, queue := [entry0], pgtbase := 0x40000, savepool := 0xC0000 })]
    slots := (0, { slot1 [] (block1 (wordOf (.add 0 0x185 4 6))) with
        status := st, est := est, task := some { task0 with flags := flags }
        popped := if st = .bound then some (0, { entry0 with addr := 0x10060 }) else none }) ::
      (List.range 7).map (fun k => (k + 1, { Slot.reset with stopped := true })) }
/-- TasksEnd: joins that are over and not, with records to report and a full queue; candidates bound, near their end, kept, killed. -/
theorem test_witness_tasks_end :
    statusAfter (.taskRetire 0) (leaving .exitJoin) = .idle ∧ statusAfter (.taskRetire 0) (leaving .yieldJoin) = .yieldJoin ∧
    statusAfter (.yieldRequeue 0) (leaving .yieldJoin) = .idle ∧
    ((after (exec (.yieldRequeue 0) (leaving .yieldJoin))).die 0).queue.length = 1 ∧
    statusAfter (.taskRetire 0) { leaving .exitJoin with joins := [(1, [job0 (.kv 0) false])] } = .exitJoin ∧
    statusAfter (.taskRetire 0) { leaving .exitJoin with joins := [(1, [job0 (.kv 0) true])] } = .idle ∧
    (let s := crowded .bound 3 0x20000 4096
     s.candidates 0 entry0 = [0] ∧ ((List.range 256).all fun i => !s.idleSlot i) = true ∧ statusAfter (.preemptConsider 0) s = .idle) ∧
    statusAfter (.preemptConsider 0) (crowded .bound 3 0x20000 4095) = .bound ∧ statusAfter (.preemptConsider 0) base = .idle ∧
    statusAfter (.preemptConsider 0) (crowded .running 1 0x20000 4096) = .idle ∧
    statusAfter (.preemptConsider 0) (crowded .running 2 0x20000 4096) = .saving 0xC0000 0xC0000 ∧
    statusAfter (.preemptConsider 0) (crowded .running 0 0x20000 4096) = .running := by decide +kernel
theorem test_witness_checkpoint : statusAfter (.checkpointComplete 0) (crowded (.saving 0xC4000 0xC4000) 2 0x20000 4096) = .idle ∧
    statusAfter (.checkpointComplete 0) (crowded .running 2 0x20000 4096) = .running := by decide +kernel
/-- A record at 0x10040, queued with an idle slot of bay 0. -/
def queued (e : QEntry) : State :=
  { base with dies := [(0, { openDie with queue := [e] })], launches := [(0, { LaunchRun.reset with started := true, begun := true })], bays := [(0, bay0), (1, bay0)] }
def gang0 : Gang := { id := 9, launch := 0, w := 2, h := 1, origin := none, placed := none, fuse := true, members := [entry0, { entry0 with addr := 0x10060, place := 1 }],
                      group := none, left := 2 }
/-- TasksEnd: a slot that is idle and one that is not, an empty queue, a record that is good, of another launch, and unreadable; a
gang whose rectangle is free. -/
theorem test_witness_tasks_placed :
    (base.idleSlot 0 = true ∧ (demoIn [] (block1 0)).idleSlot 0 = false ∧ (queued entry0).select 0 = some (0, 0) ∧ base.select 0 = none) ∧
    statusAfter (.taskPop 0) (queued entry0) = .bound ∧ statusAfter (.taskPop 0) base = .idle ∧
    statusAfter (.taskPop 0) { queued entry0 with mem := base.mem ++ [(0x10054, 1)] } = .idle ∧
    statusAfter (.taskPop 0) (queued { entry0 with addr := 0x20000 }) = .idle ∧
    ((after (exec (.taskPop 0) (queued { entry0 with addr := 0x20000 }))).die 0).queue = [] ∧
    (let s : State := { queued entry0 with dies := [(0, { openDie with queue := [{ entry0 with addr := 0, cls := 2, gang := some 9 }], gangs := [gang0] })] }
     s.gangRect 0 gang0 = some 0 ∧ s.selectFrom 0 0 false = some 0 ∧ s.selectFrom 0 1 false = some 0 ∧ statusAfter (.taskPop 0) s = .idle ∧
       statusAfter (.gangPlace 0) s = .bound ∧ ((after (exec (.gangPlace 0) s)).slot 8).status = .bound ∧
       (after (exec (.gangPlace 0) base)).slots = []) := by decide +kernel

def graph (w : Word) (patch : Word) : State := { base with sched := [(0x100FF, w)], trigPatch := patch }
def run0 : GraphRun := { graph := 255, first := 0xFFF, count := 1, patches := [], running := false, id := 1, deps := [] }
/-- Triggers: a graph with the last entry of the table, and one past it; four runs that wait, and three; patches that are good, one past
the end, and at no address; a run that may start, one behind another, and one not there. -/
theorem test_witness_triggers :
    let go (s : State) : BitVec 2 × Nat := let t := after (exec (.triggerRegisterWrite 255) s); (t.trigStatus, t.runs.length)
    let ok : Word := 0x8000000000010FFF
    go (graph ok 0) = (0, 1) ∧ go (graph 0x8000000000020FFF 0) = (2, 0) ∧ go { graph ok 0 with runs := List.replicate 4 run0 } = (1, 4) ∧
    go { graph ok 0 with runs := List.replicate 3 run0 } = (0, 4) ∧ go { graph ok 0 with startStep := 1 } = (0, 0) ∧ go (graph ok 4) = (2, 0) ∧
    go (graph ok 0x100000000000000) = (2, 0) ∧
    (let s (i : Byte) (m : List Host.Cell) : State := { graph ok 0xC0000 with
       mem := (kvMem.filter (fun e => e.1 < 0xC0000)) ++ [(0xC0000, 1)] ++ (if i = 0 then [] else [(0xC0008, i)]) ++ m, dies := [(0, { openDie with pgtbase := 0x40000 })] }
     go (s 0 [(0xC000A, 120), (0xC0010, 7)]) = (0, 1) ∧ go (s 0 [(0xC000A, 128)]) = (2, 0) ∧ go (s 1 []) = (2, 0)) ∧
    (let runs (s : State) : List Bool := (after (exec (.graphRunStart 1) s)).runs.map (fun r => r.running)
     runs { base with runs := [run0] } = [true] ∧ runs { base with runs := [{ run0 with id := 0 }, run0] } = [false, false] ∧
       runs { base with runs := [{ run0 with id := 2 }] } = [false]) := by decide +kernel
/-- A launch of one task with its record at 0xC0040, in a run; loop makes it a loop launch whose bound stands at the end of memory. -/
def launching (word2 word14 : Word) (l : LaunchRun) : State :=
  { base with
    mem := kvMem
    dies := [(0, { openDie with pgtbase := 0x40000 })]
    sched := [(2, word2), (8, 0x0001000100000001), (10, 0xFFFF000000000000), (14, word14)]
    runs := [{ run0 with first := 0, running := true }]
    launches := if l = LaunchRun.reset then [] else [(0, l)] }
def launch0 : LaunchRun := { LaunchRun.reset with opened := true, begun := true, started := true, allReleased := true, words := [0] }
/-- Launches: an entry that is good, that fails its check, that is not due, and whose record has no page; held units whose keys are ready
and not; a launch that may finish and one with a task; dispatch of each scope. -/
theorem test_witness_launches :
    let open_ (s : State) : Bool × Bool × Nat := let t := after (exec (.launchOpen 0) s); ((t.launch 0).started, (t.launch 0).failed, (t.die 0).queue.length)
    open_ (launching 0xC0040 0 LaunchRun.reset) = (true, false, 1) ∧ open_ (launching 0xC0041 0 LaunchRun.reset) = (false, true, 0) ∧
    open_ (launching 0x20000 0 LaunchRun.reset) = (false, true, 0) ∧
    open_ (launching 0xC0040 0 { LaunchRun.reset with unfinished := 1 }) = (false, false, 0) ∧ open_ base = (false, false, 0) ∧
    (let u : HeldUnit := { launch := 0, tasks := [0], gangIdx := none, ready := [], readyAt := some 0 }
     let s := { launching 0xC0040 0 { launch0 with words := [0, 0, 0xC0040] } with heldUnits := [u] }
     ((after (exec (.heldTaskRelease 0) s)).heldUnits = [] ∧ (after (exec (.heldTaskRelease 1) s)).heldUnits = [u])) ∧
    (let fin (l : LaunchRun) : Bool := ((after (exec (.launchFinish 0) (launching 0xC0040 0 l))).launch 0).finished
     fin launch0 = true ∧ fin { launch0 with unretired := 1 } = false) ∧
    (let stopped (i : Instr) : List Bool := [7, 8, 255].map (fun k => ((after (exec i base)).slot k).stopped)
     stopped (.dispatchStop 1 0) = [true, false, false] ∧ stopped (.dispatchStop 2 0) = [true, true, true] ∧
       stopped (.dispatchStop 0 0) = [false, false, false] ∧
       stopped (.dispatchGo 1 0) = [false, false, false]) := by decide +kernel

/-! ### The package -/

/-- OutsideAccesses: before the controller runs and after; an ACCESS to the last byte of a stack and to the first past it, misaligned,
lost and poisoned; a peer's access in and out of its window. -/
theorem test_witness_outside :
    let off : State := { base with startStep := 0 }
    (after (exec .logread off)).reply = [] ∧ (after (exec .logread base)).reply = [0] ∧ (after (exec (.logclear 1 0) base)).reply = [0] ∧
    (let rd (a : BitVec 56) (n : Nat) (s : State) : List Word := (after (exec (.accessRead a n) s)).reply
     rd 0xBFFFFFFFF 1 base = [0, 0] ∧ rd 0xC00000000 1 base = [] ∧ rd 0x10004 2 base = [0, 0x3060] ∧ rd 0x10001 2 base = [cAlign.setWidth 64] ∧ rd 0 3 base = [] ∧
       rd 0 8 { base with poison := [0] } = [0xC] ∧ rd 0 8 { base with failedStacks := [0] } = [0xC] ∧ rd 0 8 { base with startStep := 1 } = []) ∧
    (let w := after (exec (.accessWrite 0x20000 4 0x44332211) base)
     w.reply = [0] ∧ w.byteFor 4 .host 0x20003 = 0x44 ∧ w.byteFor 4 .host 0x20004 = 0 ∧ (after (exec (.accessWrite 0 8 5) { base with poison := [0] })).poison = []) ∧
    (let p (s : State) : List Word := (after (exec (.peerAccessIn 9 0 0x40 8 (0, 0)) s)).reply
     let s : State := { launching 0 0 LaunchRun.reset with links := [0] }
     p base = [] ∧ p s = [0x1F] ∧ p { s with peerwin := 1 } = [0x1F] ∧ (after (exec (.peerAccessIn 9 0 0xC0010 8 (0, 0)) { s with peerwin := 1 })).reply = [0, 0xC2000] ∧
       (after (exec (.peerAccessIn 9 1 0xC0010 8 (5, 0)) { s with peerwin := 1 })).reply = [0]) := by decide +kernel

def line0 : State := { base with dies := [(0, { openDie with lines := [(1, true), (5, false)] })] }
def write0 : WriteRec := { id := 3, addr := 0x20000, data := [7], src := .host, origin := .own .host, group := 0, seen := [], deps := [], atomic := false }
/-- SlicesAndVisibility, Failures: walks, fills, retries, a slice that may leave and the last that may not, a write, and the parts that fail. -/
theorem test_witness_slices :
    (after (exec (.pageWalk 0 0x20000) base)) ≠ State.reset ∧
    (let d (i : Instr) (s : State) : Die := (after (exec i s)).die 0
     (d (.lineFill 0 1 5) line0).lines = [(1, true)] ∧ (d (.lineFill 1 1 5) line0).lines = (line0.die 0).lines ∧
       (d (.sliceLeaveService 0 63) base).capslice = 0x7FFFFFFFFFFFFFFF ∧ (d (.sliceLeaveService 0 64) base).capslice = 0xFFFFFFFFFFFFFFFF ∧
       (d (.sliceLeaveService 0 0) { base with dies := [(0, { openDie with capslice := 1 })] }).capslice = 1 ∧
       (d (.sliceLeaveService 0 0) { base with dies := [(0, { openDie with capslice := 3, slicemap := 15 })] }).slicemap = 0) ∧
    (let r : ReadInFlight := { cap := cap0 0 0, addr := 0x10000, size := 8, signed := false, acquire := false, gen := 0, retried := false }
     let s := { demoIn [] { (block1 (wordOf (.ld64 0 0x185 4 6))).setFired 0 with reads := [r] } with dies := [(0, { openDie with slicemap := 1 })] }
     s.staleRead 0 r = true ∧ (blockIn (after (exec (.sliceRetry 0 0) s))).reads.map (fun q => q.gen) = [1]) := by decide +kernel
theorem test_witness_failures :
    (after (exec (.powerThrottle 1023 7) base)).islands = [(1023, 7)] ∧ (after (exec (.powerThrottle 1024 7) base)).islands = [] ∧
    (after (exec (.linkOutOfService 23) { base with links := [23] })).links = [] ∧ (after (exec (.edgeFailure 3) { base with edges := [3] })).edges = [] ∧
    (after (exec (.partFailure 1 0) base)).failedStacks = [0] ∧ (after (exec (.partFailure 1 2) base)).failedStacks = [] ∧
    base.dieUp 0 = true ∧ base.dieUp 3 = false ∧ base.bayUp 31 = true ∧ base.bayUp 32 = false ∧
    ((after (exec (.partFailure 4 63) base)).die 0).capslice = 0x7FFFFFFFFFFFFFFF ∧ ((after (exec (.partFailure 8 0) base)).die 0).capmxt = 0xFFFFFFFE ∧
    (after (exec (.partFailure 3 0) base)) = base := by decide +kernel
/-- StartSequence: each step in turn and out of turn; a second start. -/
theorem test_witness_start :
    let s1 := after (exec (.startController true true 5 6) State.reset)
    let s2 : State := { base with startStep := 2 }
    let s3 : State := { s2 with tried := [(0, 1), (0, 2), (0, 3)] }
    let s4 : State := { s2 with startStep := 4, tried := [(5, 0), (5, 1), (5, 2), (5, 3)] }
    (s1.startStep = 1 ∧ s1.chipid = 5 ∧ s1.firmwareOk = true ∧ (s1.die 0).opened = false ∧ (s1.die 0).failed = false ∧ s1.bootPlan 0 0 ≠ 2) ∧
      ((s2.die 1).opened = false ∧ (s2.die 1).failed = false ∧ s2.bootPlan 0 1 ≠ 2 ∧ s2.wasTried 0 1 = false ∧
        findingsOk 1 0 0 [] [] = true ∧ findingsOk 1 786432 786431 [13311] [] = false ∧ findingsOk 0 786431 786432 [] [0xBFFFF] = true ∧
        ((after (exec (.dieOpen 1 1 1 1 0 0 [] []) s2)).die 1).failed = true) ∧
      (after (exec (.dieOpen 0 0 0 1 786432 0 [] []) s1)).startStep = 1 ∧ (after (exec (.dieOpen 1 1 1 1 1 1 [] []) s1)).startStep = 1 ∧
      (after (exec (.edgeTraining 3 0) s3)).edges = [3] ∧ (after (exec (.edgeTraining 3 2) s3)).edges = [] ∧ (after (exec (.edgeTraining 4 0) s3)).edges = [] ∧
      (after (exec (.edgeTraining 3 0) s2)).edges = [] ∧
      (after (exec (.linkTraining 23 1) s4)).links = [23] ∧ (after (exec (.linkTraining 24 1) s4)).links = [] ∧
      (after (exec (.linkTraining 0 0) s2)).links = [] ∧ (after (exec (.startController true true 7 6) s1)).chipid = 7 := by decide +kernel
/-- PackageStepsComplete: D0 opens with every part at its first start. -/
theorem test_witness_die_open :
    let s1 := after (exec (.startController true true 5 6) State.reset)
    let t := after (exec (.dieOpen 0 1 3 5 786432 786432 [] []) s1)
    s1.tried = [] ∧ s1.bootLog.length = 1 ∧ t.startStep = 2 ∧ (t.die 0).opened = true ∧ (t.die 0).capbays = 1 ∧ (t.die 0).capmxt = 1 ∧
      (t.die 0).capslice = 5 := by decide +kernel

/-! ### Moulds, tiles, ladles and KV operations -/

/-- The bytes of an image of one pipeline of six words, with a source and a sink; a magic number of its own, for one that is bad. -/
def imageMem (magic : Byte) : List Host.Cell :=
  [(0x18000, magic), (0x18001, 0xC7), (0x18002, 1), (0x18003, 1), (0x18004, 1), (0x1800C, 1),
   (0x1800D, 1), (0x18054, 2)]
def mouldIn (m : Mould) (mem : List Host.Cell) : State := { withMould base m with mem := mem }
/-- MouldEvents: an image that is good, one that fails, and one that cannot be read; a mould that is complete and one that is not; a token,
and one for a mould asked to drain; a quantum that has run out, with a mould that waits and without. -/
theorem test_witness_mould_events :
    let st (i : Instr) (s : State) : Option MouldState := ((after (exec i s)).mould 0 0).map (fun m => m.state)
    let loading := { mould0 with state := .loading, image := 0x18000, ctx := 0 }
    let other : Mould := { mould0 with present := false, loadOrder := 1 }
    let two (q : Nat) (sw : Bool) : State := { base with dies := [(0, { openDie with moulds := [(0, { mould0 with quantum := q, switching := sw }), (1, other)] })] }
    st (.mouldLoadDone 0 0) (mouldIn loading (imageMem 0xA5)) = some .stopped ∧ st (.mouldLoadDone 0 0) (mouldIn loading (imageMem 0xA4)) = some .failed ∧
    st (.mouldLoadDone 0 0) (mouldIn { loading with image := 0x20000 } []) = some .failed ∧ st (.mouldLoadDone 0 0) (mouldIn mould0 []) = some .running ∧
    st (.mouldComplete 0 0) (mouldIn mould0 []) = some .running ∧ (mouldIn mould0 []).mouldComplete 0 0 mould0 = false ∧
    (let tk (m : Mould) : List (List (Word32 × Word32)) := (((after (exec (.tokenArrive 0 0 0) (mouldIn { m with pipes := [{ Pipe.blank with coming := [(5, 6)] }] } []))).mould 0 0).map
       (fun m => m.pipes.map (fun p => p.tk))).getD []
     tk mould0 = [[(5, 6)]] ∧ tk { mould0 with drainAsked := true } = [[]]) ∧
    (let sw (s : State) : Option (Bool × Bool) := ((after (exec (.quantumExpiry 0 0) s)).mould 0 0).map (fun m => (m.switching, m.present))
     sw (two 0x100000 false) = some (true, true) ∧ sw (two 0xFFFFF false) = some (false, true) ∧ sw (mouldIn { mould0 with quantum := 0x100000 } []) = some (false, true) ∧
       sw { two 0x100000 true with stageAccs := [acc0] } = some (true, true)) := by decide +kernel

def mxIn (e : MxEntry) (ls : Smap LineState) : State := { base with bays := [(0, { bay0 with mx := [(15, e)], mxNext := 1 })], lines := ls }
/-- An entry of one pass: sixteen columns of OCP FP8, its A and B tiles at the start of units 0 and 1. -/
def mxOne : MxEntry := { mxEntry0 with k0 := 0x04000000, k1 := 0x0C100000 }
def pass0 (a b bad : Bool) : Pass := { num := 0, aHeld := a, bHeld := b, accumulated := false, aBytes := [], bBytes := [], bad := bad }
/-- TilePasses: a pass whose lines are full and one that must wait; operands held and released; one that is accumulated in turn, and not;
an entry that has no write-out. -/
theorem test_witness_passes :
    (mxIn mxOne []).mxBad 0 mxOne.form = false ∧ (mxIn mxOne []).mxReady 0 mxOne = true ∧ mxOne.form.rowCount = 128 ∧
    (mxIn mxOne [(0, { LineState.reset with full := false })]).mxReady 0 mxOne = false ∧
    (mxOne.form.aTile 0 0 ++ mxOne.form.bTiles 0 0).all (fun l => !((mxIn mxOne []).line l).guarded) = true ∧
    (let held (e : MxEntry) : Option (List (Bool × Bool)) := ((after (exec (.operandRelease 0 15 0) (mxIn e []))).mxEntry 0 15).map
       (fun e => e.passes.map (fun p => (p.aHeld, p.bHeld)))
     held { mxOne with passes := [pass0 true false false] } = some [(false, false)] ∧ held { mxOne with passes := [pass0 false true false] } = some [(false, false)]) ∧
    (after (exec (.passAccumulate 0 15 0) (mxIn { mxOne with passes := [pass0 true true false] } []))) = mxIn { mxOne with passes := [pass0 true true false] } [] ∧
    (after (exec (.writeOut 0 15) (mxIn mxOne []))) = mxIn mxOne [] ∧ ((mxIn mxOne []).mxEntry 0 14) = none := by decide +kernel

/-- A template that copies one word of 8 bytes within the scratchpad. -/
def template0 : List Byte :=
  bytesOf 8 0xFFFFFF00000000 ++ bytesOf 8 0xFFFFFF00000100 ++ [1, 0, 1, 0, 1, 0, 1, 0] ++ List.replicate 24 0 ++ [3] ++ List.replicate 15 0
def channel (x : Transfer) : State := { base with bays := [(0, { bay0 with chans := [(7, { queue := [x], seq := 1 })] })] }
/-- LadleEvents: a doorbell with room and without; a transfer at the head that may start, that is bad, and that has started; one with its
element to move, from a full line and an empty one, and one that is done. -/
theorem test_witness_ladles :
    let x := { transfer0 with tmpl := template0, src := 0xFFFFFF00000000 }
    let q (i : Instr) (s : State) : List (Bool × Nat) := ((after (exec i s)).chan 0 7).queue.map (fun x => (x.started, x.next))
    (q (.ladleDoorbellWrite 0 7 63) base).length = 1 ∧ (q (.ladleDoorbellWrite 0 8 63) base).length = 0 ∧
    (q (.ladleDoorbellWrite 0 7 63) { base with bays := [(0, { bay0 with chans := [(7, { queue := List.replicate 5 x, seq := 1 })] })] }).length = 5 ∧
    q (.ladleTransferStart 0 7) (channel x) = [(true, 0)] ∧
    ((after (exec (.ladleTransferStart 0 7) (channel { x with tmpl := [] }))).chan 0 7).queue.map (fun x => x.fault) = [some cTemplateInvalid] ∧
    q (.ladleTransferStart 0 7) base = [] ∧ q (.ladleTransferComplete 0 7) (channel x) = [(false, 0)] ∧
    q (.ladleTransferComplete 0 7) (channel { x with started := true }) = [(true, 1)] ∧
    q (.ladleTransferComplete 0 7) { channel { x with started := true } with lines := [(0, { LineState.reset with full := false })] } = [(true, 0)] ∧
    { x with next := 1 }.moved = true ∧ q (.ladleTransferComplete 0 7) (channel { x with started := true, next := 1 }) = [] ∧
    q (.decompBlock 0 7) (channel { x with started := true }) = [(true, 0)] := by decide +kernel

def kvopIn (o : KvOp) : State :=
  { base with mem := kvMem, kvpool := 0xC0000, dies := [(0, { openDie with pgtbase := 0x40000 })], kvops := [(5, { o with a0 := 0xFFFFFF00000000, ctx := 0 })] }
/-- KvOperations: a SPLICE whose turn it is and one it is not, and one past its time; a REPAIR with no such sequence; a KATT that takes its
snapshot, gives a block to a crucible that defers it, looks at it again, gives it up in time, and writes its area. -/
theorem test_witness_kv_operations :
    let ph (i : Instr) (o : KvOp) : List KvPhase := (after (exec i (kvopIn o))).kvops.map (fun e => e.2.phase)
    let splice := { kvop0 with phase := .waiting, seqWords := [0xFFFFFF00000000, 0xFFFFFF00000100, 1, 2, 1, 2, 0, 0, 0, 0, 1] }
    let away (s : State) : State :=
      { s with mem := s.mem.flatMap (fun e => if e.1 = 0xFFFFFF00000100 then [e, (0xFFFFFF00000105, 0x10)] else [e]) }
    let k : KvOp := { kvop0 with kind := .katt, a2 := 0xFFFFFF00000300, a3 := 0xFFFFFF00000400, sel := 0x7FF8000000000000 >>> 8, ctx := 0, a0 := 0xFFFFFF00000000 }
    let s0 := { kvopIn k with kvops := [(5, { k with seqWords := [0xFFFFFF00000000, 0xFFFFFF00000100, 1, 2, 1, 2, 0, 0, 0, 0, 1] })] }
    let s1 := after (exec (.kattRevisit 5 0 0) s0)
    let s2 := after (exec (.crucibleBlock 5 0 0) s1)
    ph (.spliceRun 5) kvop0 = [] ∧ ph (.spliceRun 4) kvop0 = [.queued] ∧ ph (.spliceRun 5) k = [.queued] ∧ (kvopIn kvop0).kvTurn kvop0 = true ∧
    { kvopIn kvop0 with kvops := [(4, { kvop0 with a0 := 0xFFFFFF00000000, op := 4 }), (5, { kvop0 with a0 := 0xFFFFFF00000000 })] }.kvTurn
      { kvop0 with a0 := 0xFFFFFF00000000 } = false ∧
    (let late (c : Nat) : Nat := (after (exec (.spliceAbsentTimeout 5) { away (kvopIn { splice with since := [(0, 0)] }) with cycle := c })).kvops.length
     late (2 ^ 20 - 1) = 1 ∧ late (2 ^ 20) = 0) ∧
    (after (exec (.spliceAbsentTimeout 5) { kvopIn { splice with since := [(0, 0)] } with cycle := 2 ^ 20 })).kvops.length = 1 ∧
    ph (.repairStart 5) { kvop0 with kind := .repair } = [] ∧ ph (.repairTaskRetired 5) kvop0 = [.queued] ∧
    s1.kvops.map (fun e => (e.2.phase, e.2.todo)) = [(.attend, [0])] ∧ s2.kvops.map (fun e => (e.2.given, e.2.since)) = [([(0, 0)], [(0, 0)])] ∧
    (after (exec (.kattRevisit 5 0 0) s2)).kvops.length = 1 ∧
    (let late (c : Nat) : List (List Nat × Bool) := (after (exec (.kattAbsentTimeout 5 0) { s2 with cycle := c })).kvops.map (fun e => (e.2.todo, e.2.incomplete))
     late (2 ^ 20 - 1) = [([0], false)] ∧ late (2 ^ 20) = [([], true)]) ∧
    (after (exec (.kattComplete 5) s1)).kvops.length = 1 := by decide +kernel

/-! ### Other chips, watchdogs, contexts and migrations -/

def linked (s : State) : State := { s with links := [0] }
/-- RemoteChips: a query in its place and out of it, of a key with an entry and without; a report to a wait, to a test, and to neither; a path
that is gone for a write and for a fetch. -/
theorem test_witness_remote :
    let ask (s : State) (k : Word) : List Word := (after (exec (.remoteHallmarkQuery 9 k 0xFFFF) s)).reply
    ask base 0xFFFFFF00000009 = [] ∧ ask (linked base) 0xFFFFFF00000009 = [2] ∧ ask (linked (withHallmarks base [hallmark0])) 0xFFFFFF00000009 = [0xFFFF0000] ∧
    ask (linked (withHallmarks base [{ hallmark0 with stamped := true }])) 0xFFFFFF00000009 = [0xFFFF0001] ∧ ask (linked base) 0x20009 = [8] ∧
    ask (linked (withHallmarks base [{ hallmark0 with stamped := true, sys := true }])) 0xFFFFFF00000009 = [0xFFFF0001] ∧
    (let w := linked (waitsIn base (.await 0 4 6) (cap0 0xFFFFFF00000009 0x1000040000000))
     let st (n : Word) : SlotStatus := statusAfter (.remoteHallmarkReport 0 0 n) w
     ((w.slot 0).waitsIn 0x6D = some 0 ∧ selRemote 0x1000040000000 = true) ∧ st 1 = .running ∧ st 0 = .waiting ∧ st 8 = .running ∧ st 2 = .running) ∧
    (let i : Instr := .hmtest 0 0x185 4 6
     let b := { block1 (wordOf i) with replay := [cap0 0xFFFFFF00000009 0x1000040000000] }
     (blockIn (after (exec (.remoteHallmarkReport 0 0 0x50001) (linked (demoIn [] b))))).regw.map (fun w => w.value) = [0x50001] ∧
       (blockIn (after (exec (.remoteHallmarkReport 0 0 8) (linked (demoIn [] b))))).handler = true) ∧
    (let far (s : State) : State := { s with bays := [(0, { bay0 with tlb := [{ vpage := 1, large := false, leaf := 0x8000100010047#64, ctr := 0 }] })] }
     (far base).cutAddr 0 0x10000 ≠ (none, far base) ∧
       (let (s, b, e) := writing (.st64 0 0 4 6) 0x10000 5 0
        ((far s).slot 0).block = some b ∧ e.idx = 0)) := by decide +kernel

def watched (flags : BitVec 16) (w t : Nat) : State :=
  { crowded .running flags 0 0 with slots := [(0, { slot1 [] (block1 0) with task := some { task0 with flags := flags }, wCount := w, tCount := t, due := some (w, t) })] }
/-- WatchAndScrub: each count at its end and before it, with FLAGS.2 and without; a task that keeps its state, with an image and without;
errors found in each array. -/
theorem test_witness_watch :
    let st (s : State) : SlotStatus := statusAfter (.watchdogFire 0) s
    st (watched 0 0x40000000 0) = .frozen false ∧ st (watched 0 0 0x4000000000) = .frozen false ∧
    st { watched 0 0x40000000 0 with slots := (watched 0 0x40000000 0).slots.map (fun e => (e.1, { e.2 with due := none })) } = .running ∧
    st (watched 2 0x40000000 0) = .idle ∧ st base = .idle ∧
    (let due (f : BitVec 16) (w t : Nat) : Option (Nat × Nat) := (({ (watched f w t).slot 0 with due := none } : Slot).tick true 0x40000000).due
     due 0 0x3FFFFFFF 5 = some (0x40000000, 6) ∧ due 0 0x3FFFFFFE 5 = none ∧ due 0 0 0x3FFFFFFFFF = some (1, 0x4000000000) ∧ due 4 0 0x3FFFFFFFFF = none) ∧
    ((watched 2 0 0).takeImage 0).1 = some 0xC0000 ∧
    ((after (exec (.tracePostFreeze 0) { base with bays := [(0, { bay0 with postLeft := some 0 })] })).bay 0).tracectl.getLsbD 15 = true ∧
    (after (exec (.tracePostFreeze 0) base)) = base ∧
    (let s (i : Instr) : State := after (exec i base)
     ((s (.scrub 5 8 true)).die 0).cecount = 1 ∧ (s (.scrub 5 8 false)).poison = [1] ∧ (s (.scrub 0 0xFFFFFF00000008 false)).poison.length = 1 ∧
       (s (.scrub 5 4 true)) = base ∧ base.scrubbed 3 511 = true ∧ base.scrubbed 3 512 = false) ∧
    statusAfter (.scrub 1 0 false) (demoIn [] (block1 0)) = .frozen false ∧
    ((after (exec (.scrub 2 0 false) (mouldIn mould0 []))).mould 0 0).map (fun m => m.state) ≠ some .running ∧
    ((mxIn mxOne []).slotUser 0 0).isSome = true := by decide +kernel

def switchOf (r : Bool) : CtxSwitch :=
  { restore := r, ctx := 1, die := 0, area := 0xC0000, saved := { ctx := 1, images := [], moulds := [], entries := [], transfers := [], runs := [] } }
def ctxIn (w : CtxSwitch) (s : State) : State := { s with ctxSwitch := some w, ctxsw := 0x141, stoppedCtx := [1] }
/-- ContextSwitches: a save that is over, one with a task whose image cannot be written, and one that must wait; a restore with an image,
and one that is over. -/
theorem test_witness_contexts :
    let sw (s : State) : Option Bool × Word := ((after (exec .ctxswComplete s)).ctxSwitch.map (fun w => w.restore), (after (exec .ctxswComplete s)).ctxsw)
    sw base = (none, 0) ∧ (base.stopMoulds 1).ctxMoulds 1 = [] ∧ base.ctxTransfer 1 = none ∧
    sw (ctxIn (switchOf false) (demoIn [] (block1 0))) = (none, 0xC1) ∧ ((demoIn [] (block1 0)).slot 0).ctxSavable = true ∧
    sw (ctxIn (switchOf false) (leaving (.saving 0 0))) = (some false, 0x141) ∧
    sw (ctxIn (switchOf true) base) = (none, 0x41) ∧
    sw (ctxIn { switchOf true with saved := { ctx := 1, images := [0x10000], moulds := [], entries := [], transfers := [], runs := [] } }
      { base with parked := [(0x10000, task0)] }) = (some true, 0x141) := by decide +kernel

def mig0 : Migration := { uid := 1, ctx := 1, bay := 0, va := 0xC0000, dest := 0x300000, large := false, leaf := 0x80060, counter := 0x90018, started := false,
                          shot := false, copied := false }
def migIn (m : Migration) : State := { kvopIn kvop0 with kvops := [], migs := [(5, m)] }
/-- Migrations: an effect on a page and on none; each step in turn, with an older one of the page in its way, a frame that is none, and lost
memory. -/
theorem test_witness_migrations :
    let cp (m : Migration) : List (Bool × Bool × Bool) := (after (exec (.migrationCopyDone 5) (migIn m))).migs.map (fun e => (e.2.started, e.2.shot, e.2.copied))
    let i : Instr := .migrate 0 0x1C0 4 6
    (commits { kvIn i (cap0 0xC0000 0x300000) with kvpool := 0 }).migs.length = 1 ∧ (commits (kvIn i (cap0 0x20000 0x300000))).migs = [] ∧
    cp mig0 = [(true, false, false)] ∧ cp { mig0 with va := 0x20000 } = [] ∧ cp { mig0 with dest := 0xFFFFFFFFF0000 } = [] ∧
    cp { mig0 with started := true } = [(true, true, false)] ∧ cp { mig0 with started := true, shot := true, copied := true } = [(true, true, true)] ∧
    (after (exec (.migrationCopyDone 5) { migIn { mig0 with started := true, shot := true } with poison := [0x18000] })).migs = [] ∧
    (after (exec (.migrationCopyDone 5) { migIn mig0 with migs := [(4, { mig0 with started := true }), (5, mig0)] })).migs.map (fun e => e.2.started) = [true, false] ∧
    (after (exec (.migrationFinish 5) (migIn mig0))).migs.length = 1 ∧
    (after (exec (.migrationFinish 5) (migIn { mig0 with started := true, shot := true, copied := true }))).migs = [] := by decide +kernel

/-- DeviceStepsComplete, its KV steps: a splice that reads its records and one past its last layer; a repair that waits for a block, one
that pushes its first task, and one whose last task has retired; a KATT that has attended every block. -/
theorem test_witness_kv_steps :
    let cand (m : List Host.Cell) : List Host.Cell := m.flatMap (fun e => if e.1 = 0xC1008 then [e, (0xC1010, 1)] else [e])
    let away (m : List Host.Cell) : List Host.Cell := m.flatMap (fun e => if e.1 = 0xFFFFFF00000100 then [e, (0xFFFFFF00000105, 0x10)] else [e])
    let docMem := kvMem ++ [(0xFFFFFF00000200, 0x80), (0xFFFFFF00000204, 0xFF), (0xFFFFFF00000205, 0xFF), (0xFFFFFF00000206, 0xFF), (0xFFFFFF00000208, 1),
      (0xFFFFFF00000211, 1), (0xFFFFFF00000214, 0xFF), (0xFFFFFF00000215, 0xFF), (0xFFFFFF00000216, 0xFF)]
    let repMem := cand kvMem ++ [(0xFFFFFF00000319, 5), (0xFFFFFF0000031C, 0xFF), (0xFFFFFF0000031D, 0xFF), (0xFFFFFF0000031E, 0xFF)]
    let seq : List Word := [0xFFFFFF00000000, 0xFFFFFF00000100, 1, 2, 1, 2, 0, 0, 0, 0, 1]
    let sp : KvOp := { kvop0 with a1 := 1, a2 := 0xFFFFFF00000200, a3 := 1, len := 1 }
    let rp : KvOp := { kvop0 with kind := .repair, a1 := 0x100000000, a2 := 1, a3 := 0xFFFFFF00000300 }
    let ka : KvOp := { kvop0 with kind := .katt, phase := .attend, a2 := 0xFFFFFF00000300, a3 := 0xFFFFFF00000400, seqWords := seq }
    let run (i : Instr) (o : KvOp) (m : List Host.Cell) : List (KvPhase × List Nat × Option Word) :=
      (after (exec i { kvopIn o with mem := m })).kvops.map (fun e => (e.2.phase, e.2.since.map (fun q => q.1), e.2.task))
    run (.spliceRun 5) sp docMem = [(.waiting, [], none)] ∧ run (.spliceRun 5) { sp with phase := .layer 1, seqWords := seq } docMem = [] ∧
    run (.repairStart 5) rp (away repMem) = [(.waiting, [0], none)] ∧
    run (.repairStart 5) rp repMem = [(.probe 0, [], some 0xFFFFFF00000500)] ∧
    run (.repairTaskRetired 5) { rp with phase := .repair 0, task := some 0xFFFFFF00000500, rows := [[3]], cols := [0], marked := [0], seqWords := seq } repMem = [] ∧
    run (.kattComplete 5) ka kvMem = [] := by decide +kernel
/-- A store whose page is marked WB. -/
def wbIn : State :=
  let b := { (block1 (wordOf (.st64 0 0 4 6))).setFired 0 with stores := [{ idx := 0, addr := 0x10000, data := 5, dataP := 0, place := none, gen := none }], pos := .writes 0, waiting := some 0 }
  { demoIn [] b with bays := [(0, { bay0 with tlb := [{ vpage := 1, large := false, leaf := 0x1000F#64, ctr := 0 }] })] }
/-- DeviceStepsComplete: a store that walks again for the WB of its page, and an entry armed for a form. The special registers stand in
test_witness_registers, the holds of a commit in test_witness_held_writes, the watchdog, the trace and the scrubber in test_witness_watch,
a restore in test_witness_contexts, migrations in test_witness_migrations, and a KATT in test_witness_kv_operations. -/
theorem test_witness_device_steps :
    ((wbIn.slot 0).stalled.isSome = true ∧
      (match (wbIn.translate 0 0x10000).1 with
        | .ok y => y.wb
        | .error _ => false) = true ∧ after (exec (.wbRewalk 0) wbIn) ≠ wbIn) ∧
    (let s := effect (.mxcfg 0 0x1C0 0x10 5) (cap0 0 15)
     Smap.has (s.bay 0).mx 15 = false ∧ (s.bay 0).mx = [] ∧ (((after (exec (.mxcfgArm 0) s)).mxEntry 0 15).map (fun e => (e.op, e.uid, e.num))) = some (1, 1, 0)) := by
  decide +kernel
/-- PackageStepsComplete: a line a read in flight has missed, a peer's write and read of a scratchpad line, and a link path that ends under a
remote test. The walk, the retry, the slices and failures stand in test_witness_slices and test_witness_failures, the start in
test_witness_start and test_witness_die_open. -/
theorem test_witness_package_steps :
    (let r : ReadInFlight := { cap := cap0 0 0, addr := 0x10000, size := 8, signed := false, acquire := false, gen := 0, retried := false }
     let s := demoIn [] { (block1 (wordOf (.ld64 0 0x185 4 6))).setFired 0 with reads := [r] }
     (s.requestFor 0 512).isSome = true ∧ ((after (exec (.lineFill 0 512 512) s)).die 0).lines = [(512, false)]) ∧
    (let s : State := { base with links := [0], peerwin := 0xFFFFFF00000001, mem := kvMem }
     (after (exec (.peerAccessIn 9 1 0x40 8 (5, 0)) s)).reply = [0] ∧ (after (exec (.peerAccessIn 9 0 8 8 (0, 0)) s)).reply = [0, 0xFFFFFF00000100]) ∧
    (let s := demoIn [] { block1 (wordOf (.hmtest 0 0x185 4 6)) with replay := [cap0 0xFFFFFF00000009 0x1000040000000] }
     (s.remoteTest 0 0).isSome = true ∧ (blockIn (after (exec (.linkPathTimeout 0 0) s))).handler = true) ∧
    (after (exec (.writeVisibleOnDie 3 0) { base with writes := [write0] })).writes ≠ [write0] := by decide +kernel

/-! ### Further witnesses: a state for every clause -/

/-- FiringAndOperands: a register that an uncorrectable error has spoilt. SpecialRegisterReads: one written in this cycle. -/
theorem test_witness_spoilt :
    (let i : Instr := .add 0 0x185 4 6
     let b := block1 (wordOf i)
     let s : State := { demoIn [] b with slots := [(0, { slot1 [] b with badRegs := [4] })] }
     standsB s i (firingIn [] b) = true ∧ b.capture (s.slot 0) 0 = some (firingIn [] b).cap ∧ b.void 0 0 = false ∧
       b.spoilt (s.slot 0) 0 (formOf (b.word 0)) = true ∧ fate (exec i s) = (some cUncorrectable, false)) ∧
    (let i : Instr := .srrd 0 0x185 0x2006
     let s := { demoIn [] { block1 (wordOf i) with priv := true } with dies := [(0, { openDie with srOld := [(0x2006, 7)] })] }
     (blockIn (after (exec i s))).regw.map (fun w => w.value) = [7]) := by decide +kernel

/-- The task of slot 0 in the privileged view, and where an access of an agent leads. -/
def taskP : Agent := { bay := 0, party := .task 1, ctx := 0, priv := true }
def ledTo (s : State) (a : Agent) (va : Nat) (w : Want) : Option Place × Option Byte := match (s.resolve a va w).1 with
  | .ok p => (some p, none)
  | .error c => (none, some c)
/-- AccessChecks: the windows, at the ends of what each holds, and from a party that may not; a block of the KV window that is there, one
with COW, one that is stale, one that is not valid, and one past the pool. -/
theorem test_witness_windows :
    ledTo base taskP 0xFFFFFE00000038 (wantRead 8) = (some (.doorbell 0 7), none) ∧ ledTo base taskP 0xFFFFFE00000040 (wantRead 8) = (none, some cPageAbsent) ∧
    ledTo base taskP 0xFFFFFE00001FF8 (wantRead 8) = (some (.template 0 0xFF8), none) ∧ ledTo base taskP 0xFFFFFE00002000 (wantRead 8) = (none, some cPageAbsent) ∧
    ledTo base taskP 0xFFFFFE00001000 (wantRead 4) = (none, some cAlign) ∧
    ledTo base { taskP with priv := false } 0xFFFFFE00001000 (wantRead 8) = (none, some cPageProtect) ∧
    ledTo base taskP 0xFFFFFD00000008 (wantRead 8) = (some (.sched 8), none) ∧ ledTo base (peerAgent 9) 0xFFFFFD00000008 (wantRead 8) = (none, some cPageProtect) ∧
    ledTo base taskP 0xFFFFFC0000FFF8 (wantRead 8) = (some (.trace 0 4095 true), none) ∧ ledTo base taskP 0xFFFFFC00010000 (wantRead 8) = (none, some cPageProtect) ∧
    ledTo base taskP 0xFFFFFC00000000 (wantWrite 4) = (none, some cPageProtect) ∧ ledTo base taskP 0xFFFFFC00000000 (wantRead 4) = (none, some cAlign) := by
  decide +kernel
def ledKv (m : List Host.Cell) (va : Nat) (w : Want) : Option Place × Option Byte := ledTo { kvIn (.pass 0) (cap0 0 0) with mem := m } taskP va w
theorem test_witness_kv_window : ledKv kvMem 0xFE00000000FFF8 (wantRead 8) = (some (.kv 0x20FFF8), none) ∧
    ledKv (Smap.put kvMem 0 0xC1000 3) 0xFE000000000000 (wantWrite 8) = (none, some cPageProtect) ∧
    ledKv (Smap.put kvMem 0 0xC1010 5) 0xFE000000000000 (wantRead 8) = (none, some cKvStale) ∧
    ledKv kvMem 0xFE000000010000 (wantRead 8) = (none, some cPageAbsent) ∧ ledKv kvMem 0xFE000000040000 (wantRead 8) = (none, some cPageAbsent) := by decide +kernel

/-- A read of 8 bytes in flight. -/
def reading (s : State) (va : Word) : State :=
  let r : ReadInFlight := { cap := cap0 0 0, addr := va, size := 8, signed := false, acquire := false, gen := 0, retried := false }
  { s with slots := [(0, slot1 [] { (block1 (wordOf (.ld64 0 0x185 4 6))).setFired 0 with reads := [r] })] }
def delivered (s : State) : List Word × Nat := let b := blockIn (after (exec (.readDeliver 0 0) s)); (b.regw.map (fun w => w.value), b.bound.length)
/-- ReadDelivered: of a page, of a block of the KV window, of a guarded line, and of a word that a lower-index store gives whole, though its
memory is poisoned. -/
theorem test_witness_reads :
    (match base.resolve (base.agent 0) 0x10000 (wantRead 8) with
      | (.ok p, s) => p.key == some 0x10000 && !s.placeCut p && !s.placeBad p 8
      | _ => false) = true ∧
    delivered (reading base 0x10000) = ([0x6E70306000010000], 1) ∧ delivered (reading (kvIn (.pass 0) (cap0 0 0)) 0xFE000000000000) = ([0], 1) ∧
    delivered (reading { base with lines := [(0, { LineState.reset with guarded := true })] } 0xFFFFFF00000000) = ([0], 0) ∧
    (let w := wordOf (.ld64 0 0x185 4 6)
     let r : ReadInFlight := { cap := { cap0 0 0 with idx := 1 }, addr := 0xFFFFFF00000000, size := 8, signed := false, acquire := false, gen := 0, retried := false }
     let e : StoreEntry := { idx := 0, addr := 0xFFFFFF00000000, data := 77, dataP := 0, place := none, gen := none }
     let b := { block1 w with fired := 3, words := [wordOf (.st64 0 0 4 6), w], reads := [r], stores := [e] }
     let s := { demoIn [] b with poison := [0xFFFFFF00000000 / 8] }
     s.allForwarded (s.agent 0) b 1 0xFFFFFF00000000 8 = true ∧ s.poisoned 0xFFFFFF00000000 8 = true ∧
       (blockIn (after (exec (.readDeliver 0 1) s))).regw.map (fun w => w.value) = [77]) := by decide +kernel

/-- An atomic performed: what its register receives, and what of it is left in the buffer. -/
def performed (i : Instr) (va l r : Word) (f : State → State) : Word × Nat × Option Nat :=
  let t := after (exec (.blockCommit 0) (f (writing i va l r).1))
  ((t.slot 0).reg 5, (blockIn t).stores.length, (blockIn t).waiting)
/-- Atomics: on a page, with a write still buffered; on a block of the KV window; a CAS64 that fails on a line that is held, and one that
does not. -/
theorem test_witness_atomics_performed :
    performed (.amo64 0 0x185 4 0 0 1) 0x10000 5 0 id = (0x6E70306000010000, 0, none) ∧
    performed (.amo64 0 0x185 4 0 0 1) 0x20000 5 0 (fun s => { s with
      writes := [write0], bays := [(0, { bay0 with tlb := [{ vpage := 2, large := false, leaf := 0x20007#64, ctr := 0 }] })] }) = (7, 0, none) ∧
    performed (.amo64 0 0x185 4 0 0 1) 0xFE000000000000 5 0 (fun s => { s with
      mem := kvMem, kvpool := 0xC0000, dies := [(0, { openDie with pgtbase := 0x40000 })] }) = (0, 0, none) ∧
    performed (.cas64 0x185 4 0 0) 0xFFFFFF00000000 5 7 (fun s => { s with lines := [(0, { LineState.reset with holders := 1 })] }) = (0, 0, none) ∧
    performed (.cas64 0x185 4 0 0) 0xFFFFFF00000000 0 7 (fun s => { s with lines := [(0, { LineState.reset with holders := 1 })] }) = (0, 1, some 0) := by
  decide +kernel

def strided (q n a : Word) : State := withMould (effect (.inject 0 0x1C0 0x10 5) { cap0 0 q with grp := [a, 16, n, 0] }) mould0
/-- MouldEffects: a stride of two, one whose reads fail and that closes its source, one over a line that is empty; a start whose override is
read, one whose read faults, one of a mould that has failed, and one of a mould that runs. -/
theorem test_witness_strides :
    (let beads (s : State) : Option (List Item × BitVec 16 × List Bool) := ((commits s).mould 0 0).map (fun m =>
       (((m.pipeAt 0).pa.filter (fun i => i != .vec [.bead { bead0 with f0 := 0, f1 := 0, f2 := 0, f3 := 0, tag := 0 }])), m.counter, m.sources.map (fun x => x.closed)))
     (beads (strided 0x10100 2 0xFFFFFF00000000)).map (fun x => (x.2.1, x.2.2)) = some (2, [false]) ∧
       (beads (strided 0x30100 2 0x20000)).map (fun x => (x.2.1, x.2.2)) = some (0, [true]) ∧ given (strided 0x30100 2 0x20000) = (0, 1, true) ∧
       given (withLine (strided 0x10100 2 0xFFFFFF00000000) 0 { LineState.reset with full := false }) = (0, 0, false)) ∧
    moulded (.mstart 0 0x1C0 4 6) (cap0 0x100 0xFFFFFF00000040) { mould0 with state := .stopped } = (some .running, (0, 0, true)) ∧
    moulded (.mstart 0 0x1C0 4 6) (cap0 0x100 0x20000) { mould0 with state := .stopped } = (some .stopped, (0, 1, true)) ∧
    moulded (.mstart 0 0x1C0 4 6) (cap0 0x100 0) { mould0 with state := .failed } = (some .failed, (0, 1, true)) ∧
    moulded (.mstart 0 0x1C0 4 6) (cap0 0x100 8) mould0 = (some .running, (0, 0, true)) := by decide +kernel

def patched (m : List Host.Cell) (q : Word) : State :=
  { effect (.graphgo 0 0x185 4 6) (cap0 255 q) with sched := [(0x100FF, 0x8000000000010FFF)], mem := base.mem ++ m }
/-- EngineEffects: a list of patches that cannot be read, at its head and behind it, one that is too long, one that is good, and one with a
place past its launch. -/
theorem test_witness_patches :
    let p : Word := 0xFFFFFF00000000
    given (patched [] 0x20000) = (2, 0, true) ∧ given (patched [(0xFFFFFF0033FFF8, 1)] 0xFFFFFF0033FFF8) = (2, 0, true) ∧
    given (patched [(0xFFFFFF00000000, 1), (0xFFFFFF00000001, 0x10)] p) = (2, 0, true) ∧
    (commits (patched [(0xFFFFFF00000000, 1), (0xFFFFFF0000000A, 120), (0xFFFFFF00000010, 7)] p)).runs.map (fun r => r.patches) = [[(0, 120, 7)]] ∧
    given (patched [(0xFFFFFF00000000, 1), (0xFFFFFF0000000A, 128)] p) = (2, 0, true) := by decide +kernel

/-- HallmarkEffects: the key of a block that is valid and of one that is not; a unit held for the generation before. -/
theorem test_witness_block_keys :
    let d (i : Instr) (k : Word) : Word × Nat × Bool := given (kvIn i (cap0 k 0))
    keyOk 0xFE000000000009 = true ∧ isKvKey 0xFE000000000009 = true ∧ d (.hmdecl 0 0x185 4 0x60) 0xFE000000000009 = (1, 0, true) ∧
    d (.stamp 0 0x185 4 0x60) 0xFE000000000009 = (0, 0, true) ∧ d (.hmretire 0 0x185 4 0x60) 0xFE000000000009 = (0, 0, true) ∧
    d (.hmdecl 0 0x185 4 0x60) 0xFE000000030009 = (1, 0, true) ∧ (d (.stamp 0 0x1C0 4 0x60) 0xFE000000030009).2 = (1, true) ∧
    given { kvIn (.stamp 0 0x185 4 0x60) (cap0 0xFE000000030009 0) with launches := [(0, { LaunchRun.reset with coarse := true })] } = (0x10000, 0, true) := by
  decide +kernel
/-- KvEffects: a hash the table holds, with PIN 0, with PIN 1 over a slot that is taken and over one that is free, and one it does not hold. -/
theorem test_witness_lookups :
    let look (pin : Byte) (free : Bool) (h : Word) : State :=
      { withPfx (.pfxlook 0 0x185 4 0x60) (cap0 0xFFFFFF00000200 0) [(h, 0xFFFFFF00000200, 0)] with
        mem := (if free then Smap.put kvMem 0 0xFFFFFF00000100 0 else kvMem) ++ [(0xFFFFFF00000200, 8), (0xFFFFFF00000201, 2), (0xFFFFFF00000204, 0xFF),
          (0xFFFFFF00000205, 0xFF), (0xFFFFFF00000206, 0xFF), (0xFFFFFF00000208, 1)] ++ (if pin = 0 then [] else [(0xFFFFFF0000020C, pin)]) ++
          [(0xFFFFFF00000214, 0xFF), (0xFFFFFF00000215, 0xFF), (0xFFFFFF00000216, 0xFF), (0xFFFFFF00000240, 3)] }
    given (look 0 false 1) = (1, 0, true) ∧ given (look 1 false 0x100000001) = (0xFFFFFFFFFFFFFFFF, 1, true) ∧
    given (look 1 true 0x100000001) = (1, 0, true) ∧ (commits (look 1 true 0x100000001)).byteLast 0xFFFFFF00000100 = 3 ∧ given (look 0 false 7) = (0, 0, true) := by
  decide +kernel

/-- Two SRWRs in a completed block. -/
def srTwo (m n : BitVec 14) (v w : Word) : Block :=
  { block1 (wordOf (.srwr 0 0x185 m)) with
    words := [wordOf (.srwr 0 0x185 m), wordOf (.srwr 0 0x186 n)], fired := 3, held := [cap0 v 0, { cap0 w 0 with idx := 1 }], exit := some (1, .exit)
    priv := true }
/-- RegisterEvents: two registers of one block, one of them with an event of its own, and action 11 of SLOTCTL. -/
theorem test_witness_register_pairs :
    (let s := demoIn [] (srTwo 0x200B 0x2006 0x55 0x77)
     let t := after (exec (.specialRegisterWrite 0) s)
     (srTwo 0x200B 0x2006 0x55 0x77).srwrs.length = 2 ∧ (t.readSr 0 0x2006).toNat = 0x77 ∧ (t.slot 0).reg 6 = 0x40000000 ∧ after (exec (.slotctlThaw 0) s) = t ∧
       after (exec (.slotctlKill 0) s) = s) ∧
    (let s := srState 0x200B 0xC000000000000005
     (commits s).readSr 0 0x200B = 0xC000000000000005 ∧ after (exec (.specialRegisterWrite 0) s) = s ∧ after (exec (.slotctlThaw 0) s) = s) := by
  decide +kernel

/-- A migration that is under way, of the page at 0xC0000 to the frame at 0x300000. -/
def migrating (s : State) : State := { s with migs := [(5, { mig0 with started := true })] }
/-- BlockFetchAndCommit: a fetch from an empty line, traced once, and an image whose pool's page is being migrated. TasksEnd, Launches, KvOperations
and ContextSwitches: steps that would write to such a page. -/
theorem test_witness_waits_for_migration :
    (let s : State := { base with
       lines := [(0, { LineState.reset with full := false })]
       slots := [(0, { Slot.reset with status := .running, task := some task0, ctxid := 1, pc := 0xFFFFFF00000000, arrival := .normal, trapframe := 0 })] }
     let t := after (exec (.blockFetch 0) s)
     (t.slot 0).fetchTraced = true ∧ (t.bay 0).trace.length = 1 ∧ ((after (exec (.blockFetch 0) t)).bay 0).trace.length = 1) ∧
    (let s := crowded .running 2 0x20000 4096
     statusAfter (.preemptConsider 0) s = .saving 0xC0000 0xC0000 ∧ after (exec (.preemptConsider 0) (migrating s)) = migrating s) ∧
    ((after (exec (.launchOpen 0) (migrating (launching 0xC0040 0 LaunchRun.reset)))).launch 0).started = false := by decide +kernel

/-- HeldWritesAndExits, Migrations: a shootdown with a write in another slot that was issued through the page, and with none. -/
theorem test_witness_unlanded :
    let tr : Trans := { pa := 0x10000, home := 0, tier := 0, cnt := false, wb := false, w := true, r := true, large := false, ctr := 0 }
    let e : StoreEntry := { idx := 0, addr := 0x10000, data := 5, dataP := 0, place := some (.mem tr), gen := none }
    let b := { (block1 (wordOf (.st64 0 0 4 6))).setFired 0 with stores := [e], pos := .writes 0 }
    let s := blockAs (fun b => { b with pos := .settle, holds := [.shootdown (some 1)] })
    let u : State := { s with slots := s.slots ++ [(1, slot1 [] b)] }
    u.unlanded (some 1) = true ∧ s.unlanded (some 1) = false ∧ after (exec (.shootdownComplete 0) u) = u ∧
      (blockIn (after (exec (.shootdownComplete 0) s))).holds = [] := by decide +kernel

/-- A gang of two in slots 0 and 1 of a die of one bay, behind a record that has waited. -/
def gangs (st : Nat → SlotStatus) (flags : BitVec 16) (est : Word) (left : Nat) : State :=
  let s := crowded (st 0) flags est 4096
  let sl (k : Nat) : Slot := { s.slot 0 with
    status := st k, task := some { task0 with uid := k + 1, flags := flags, gang := some 9, place := k }
    popped := if st k = .bound then some (0, { entry0 with addr := 0x10060, gang := some 9, place := k }) else none }
  { s with
    nextUid := 3
    dies := [(0, { openDie with capbays := 1, queue := [entry0], pgtbase := 0x40000, savepool := 0xC0000, gangs := [{ gang0 with members := [], left := left }] })]
    slots := [(0, sl 0), (1, sl 1)] ++ (List.range 6).map (fun k => (k + 2, { Slot.reset with stopped := true })) }
/-- TasksEnd: a gang that is bound, one that runs and is drained, checkpointed, killed or left, one with a member gone, and one bound in part. -/
theorem test_witness_gangs_preempted :
    let run : Nat → SlotStatus := fun _ => .running
    let go (s : State) : SlotStatus × SlotStatus := let t := after (exec (.preemptConsider 0) s); ((t.slot 0).status, (t.slot 1).status)
    (gangs run 3 0x20000 2).together 0 = [0, 1] ∧ ((gangs run 3 0x20000 2).candidates 0 entry0).head? = some 0 ∧
    go (gangs (fun _ => .bound) 3 0x20000 2) = (.idle, .idle) ∧ go (gangs run 1 0x20000 2) = (.idle, .idle) ∧
    go (gangs run 0 0x20000 2) = (.running, .running) ∧ go (gangs run 1 0x20000 3) = (.running, .running) ∧
    go (gangs (fun k => if k = 0 then .bound else .running) 1 0x20000 2) = (.bound, .running) := by decide +kernel
/-- One for whose members the pool has images, and one for which it has too few. -/
theorem test_witness_gangs_saved :
    let s := gangs (fun _ => .running) 2 0x20000 2
    let t := after (exec (.preemptConsider 0) { s with mem := Smap.put (Smap.put kvMem 0 0xC1011 0x40) 0 0xC1012 0x0C })
    (t.slot 0).status = .saving 0xC0000 0xC0000 ∧ (t.slot 1).status = .saving 0xC4000 0xC4000 ∧
      ((after (exec (.checkpointComplete 0) t)).slot 0).status = .idle ∧ ((after (exec (.checkpointComplete 0) t)).slot 1).status = .idle ∧
      statusAfter (.preemptConsider 0) s = .running := by decide +kernel

/-- Accesses of a peer to the scratchpad of bay 0: what is answered, and the bytes that stand there then. -/
def peered (i : Instr) (f : State → State) : List Word × Byte :=
  let t := after (exec i (f { base with links := [0], peerwin := 0xFFFFFF00000001, mem := base.mem ++ [(0xFFFFFF00000040, 7)] }))
  (t.reply, t.byteLast 0xFFFFFF00000040)
/-- OutsideAccesses, PackageStepsComplete: a peer's atomics: an addition, a CAS64 that succeeds, and one that fails on a held line, one that waits for
it, a guarded line, one that is empty, one that is poisoned, and kinds and sizes that are none. -/
theorem test_witness_peer_atomics :
    let held (s : State) : State := { s with lines := [(0, { LineState.reset with holders := 1 })] }
    peered (.peerAccessIn 9 9 0x40 8 (5, 0)) id = ([0, 7], 12) ∧ peered (.peerAccessIn 9 2 0x40 8 (5, 7)) id = ([0, 7], 5) ∧ peered (.peerAccessIn 9 2 0x40 8 (5, 6)) held = ([0, 7], 7) ∧ peered (.peerAccessIn 9 2 0x40 8 (5, 7)) held = ([], 7) ∧
    peered (.peerAccessIn 9 9 0x40 8 (5, 0)) (fun s => { s with lines := [(0, { LineState.reset with guarded := true })] }) = ([0, 0], 7) ∧
    peered (.peerAccessIn 9 9 0x40 8 (5, 0)) (fun s => { s with lines := [(0, { LineState.reset with full := false })] }) = ([], 7) ∧
    peered (.peerAccessIn 9 9 0x40 4 (5, 0)) (fun s => { s with poison := [0xFFFFFF00000040 / 8] }) = ([0x1F], 7) ∧ peered (.peerAccessIn 9 3 0x40 8 (5, 0)) id = ([], 7) ∧ peered (.peerAccessIn 9 2 0x40 4 (5, 7)) id = ([], 7) ∧
    peered (.peerAccessIn 9 9 0x40 8 (5, 0)) (fun s => { s with peerwin := 0xFFFFFF00000000 }) = ([0x1F], 7) := by decide +kernel

/-- SlicesAndVisibility: a buffered write of an older generation is answered with retry, and its slice may not leave till then; one of the present
generation is not. Failures: a lane of the sprue port; the first and the last part of the mirror. -/
theorem test_witness_retries :
    (let st (g : BitVec 4) : State := demoIn [] { (block1 (wordOf (.st64 0 0 4 6))).setFired 0 with
       stores := [{ idx := 0, addr := 0x10000, data := 5, dataP := 0, place := none, gen := some g }], pos := .writes 0, waiting := some 0 }
     let gens (s : State) : List (Option (BitVec 4)) := (blockIn (after (exec (.sliceRetry 0 0) s))).stores.map (fun e => e.gen)
     gens (st 3) = [some 0] ∧ gens (st 0) = [some 0] ∧ (st 3).staleWrite 0 { idx := 0, addr := 0x10000, data := 5, dataP := 0, place := none, gen := some 3 } = true ∧
       ((after (exec (.sliceLeaveService 0 63) (st 3))).die 0).capslice = 0xFFFFFFFFFFFFFFFF) ∧
    (after (exec (.linkOutOfService 25) { base with sprue := [0, 1] })).sprue = [0] ∧ (after (exec (.linkOutOfService 26) { base with sprue := [0, 1] })).sprue = [0, 1] := by
  decide +kernel

/-- An entry whose one pass has been accumulated: D of one row of sixteen columns of FP32, at the start of unit 2. -/
def mxOut (key : Word) : MxEntry := { mxOne with k1 := 0x0C100800 + 0x4000000000 + 0x8000000000000, rows := 1, key := key, accumulated := 1 }
def wrote (e : MxEntry) (ls : Smap LineState) (f : State → State) : Bool × Byte × List Bool :=
  let t := after (exec (.writeOut 0 15) (f { mxIn e ls with accs := [(0, 0x3F800000)] }))
  ((t.mxEntry 0 15).isSome, t.byteLast 0xFFFFFF00040003, (t.die 0).hallmarks.map (fun h => h.stamped))
/-- TilePasses: D is written, with no key, with one that is declared and one that is not; a line with GUARD 1 is left, and one that is held is waited
for. -/
theorem test_witness_write_out :
    (mxOut 0).form.writes = true ∧ (mxOut 0).accumulated = (mxOut 0).form.repeats + 1 ∧ (mxOut 0).form.rowCount = 1 ∧ wrote (mxOut 0) [] id = (false, 0x3F, []) ∧
    wrote (mxOut 0xFFFFFF00000009) [] (fun s => withHallmarks s [hallmark0]) = (false, 0x3F, [true]) ∧ wrote (mxOut 0xFFFFFF00000009) [] id = (false, 0x3F, []) ∧
    wrote (mxOut 0) [(2048, { LineState.reset with guarded := true })] id = (false, 0, []) ∧
    wrote (mxOut 0) [(2048, { LineState.reset with holders := 1 })] id = (true, 0, []) := by decide +kernel

/-- A template that decompresses one block. -/
def templateD : List Byte :=
  bytesOf 8 0xFFFFFF00000000 ++ bytesOf 8 0xFFFFFF00002000 ++ [0, 2, 1, 0, 1, 0, 1, 0] ++ List.replicate 24 0 ++ [3, 1] ++ List.replicate 14 0
/-- LadleEvents: blocks of a wrong magic number, of no payload, and of one that is too long. -/
theorem test_witness_bad_blocks :
    let x := { transfer0 with tmpl := templateD, src := 0xFFFFFF00000000, started := true }
    let d (m : List Host.Cell) : List Bool := ((after (exec (.decompBlock 0 7) { channel x with mem := base.mem ++ m })).chan 0 7).queue.map (fun x => x.fault == some cDecompFormat)
    x.t.ok 0 = true ∧ base.decodes x = true ∧ d [] = [true] ∧ d [(0xFFFFFF00000000, 0xB4), (0xFFFFFF00000001, 0xC7)] = [true] ∧
      d [(0xFFFFFF00000000, 0xB4), (0xFFFFFF00000001, 0xC7), (0xFFFFFF00000002, 1), (0xFFFFFF00000003, 0x10)] = [true] := by decide +kernel

/-- WatchAndScrub: a register that is spoilt, a clean line that is dropped with the copies of it, and one that is not clean; a word of the first copy of
scheduler memory, of both, and of the first when it is alone. -/
theorem test_witness_scrubs :
    (let t := after (exec (.scrub 1 (1024 * 5) false) (demoIn [] (block1 0)))
     (t.slot 0).badRegs = [5] ∧ (t.slot 0).status = .frozen false) ∧
    (let s (dirty : Bool) : State := { base with
       bays := [(0, { bay0 with bcache := [(0x10000, 0), (0x20000, 0)], l1 := [0x200, 0x201] })], dies := [(0, { openDie with lines := [(0x200, dirty)] })] }
     let kept (s : State) : Nat × List Nat × Nat := let t := after (exec (.scrub 4 0x10000 false) s); ((t.bay 0).bcache.length, (t.bay 0).l1, (t.die 0).lines.length)
     (s false).scrubbed 4 0x10000 = true ∧ kept (s false) = (1, [0x201], 0) ∧ kept (s true) = (1, [0x201], 1)) ∧
    (let pushed (addr : Nat) (m : List Nat) : List Nat := ((after (exec (.scrub 6 addr false) { base with
       cycle := 9, mirrors := m, dies := [(0, { openDie with queue := [entry0] })] })).die 0).queue.map (fun e => e.pushedAt)
     pushed 0x807FF [0, 2] = [0] ∧ pushed 0x180000 [0, 2] = [9] ∧ pushed 0 [0] = [9]) := by decide +kernel

/-- ContextSwitches: a task whose image is taken into an area that has a page, one whose wait is over first, and an area that is lost. -/
theorem test_witness_context_saves :
    let s (m : List Host.Cell) : State := { ctxIn (switchOf false) (demoIn [] (block1 0)) with mem := m, dies := [(0, { openDie with pgtbase := 0x40000 })] }
    let sw (s : State) : Option (List Nat) := (after (exec .ctxswComplete s)).ctxSwitch.map (fun w => w.saved.images)
    sw (s kvMem) = none ∧ ((after (exec .ctxswComplete (s kvMem))).ctxsw.toNat / 128 % 2 = 1) := by decide +kernel

/-- Migrations: a shootdown behind a write issued through the page, and a copy with no path to the frame. -/
theorem test_witness_migration_waits :
    let tr : Trans := { pa := 0xC0000, home := 0, tier := 0, cnt := false, wb := false, w := true, r := true, large := false, ctr := 0 }
    let e : StoreEntry := { idx := 0, addr := 0xC0000, data := 5, dataP := 0, place := some (.mem tr), gen := none }
    let b := { (block1 (wordOf (.st64 0 0 4 6))).setFired 0 with stores := [e], pos := .writes 0 }
    let m := { mig0 with started := true }
    let s : State := { migIn m with slots := [(0, slot1 [] b)] }
    s.migLanded m = false ∧ (migIn m).migLanded m = true ∧
      (after (exec (.migrationCopyDone 5) s)).migs.map (fun q => q.2.shot) = [false] := by decide +kernel

/-- BeadControl, StreamOperations: a stage with no room for what it has still to send. -/
theorem test_witness_no_room :
    let full (st : Stage) : Stage := { st with out := [.vec vec0, .vec vec0], side := [.vec vec0], genq := [(.bead bead0, 3)] }
    (stageIn (.gen 0 0 0 1 1) full id).demanded ref0 = false ∧ (stageIn (.gen 0 0 0 1 1) id id).demanded ref0 = true ∧
    (staged (.gen 0 0 0 1 1) full id).2.genq.length = 1 ∧ (staged (.fork 0 0 0 0 0) full id).2.side.length = 1 := by decide +kernel

end Sys2Proof.Tests
end

section
/-! SUPPORT. The values of the integer, compare, select and move instructions: the model's word operations give the exact results
of 07 R92-R104, and an instruction that fires delivers them. -/

namespace Sys2Proof.Proofs

open Sys2Proof Sys2Proof.Machine Sys2Proof.Laws

/-! ### Sums and products (07 R92, R95) -/

/-- A word is known by its number. -/
theorem eq_ofNat_of_toNat (w : Word) (n : Nat) (h : w.toNat = n % 2 ^ 64) : w = BitVec.ofNat 64 n :=
  BitVec.eq_of_toNat_eq (by rw [h, BitVec.toNat_ofNat])

theorem add_eq_ofNat (l r : Word) : l + r = BitVec.ofNat 64 ((l.toNat + r.toNat) % 2 ^ 64) :=
  eq_ofNat_of_toNat _ _ (by rw [BitVec.toNat_add, Nat.mod_mod])

theorem mul_eq_ofNat (l r : Word) : l * r = BitVec.ofNat 64 (l.toNat * r.toNat % 2 ^ 64) :=
  eq_ofNat_of_toNat _ _ (by rw [BitVec.toNat_mul, Nat.mod_mod])

theorem sub_eq_ofInt (l r : Word) : l - r = BitVec.ofInt 64 ((l.toNat : Int) - r.toNat) := by
  apply BitVec.eq_of_toNat_eq
  simp only [BitVec.toNat_sub, BitVec.toNat_ofInt]
  omega

theorem mulHigh_eq_extract (a b : Int) :
    mulHigh a b = (BitVec.ofInt 128 a * BitVec.ofInt 128 b).extractLsb' 64 64 := by
  rw [← BitVec.ofInt_mul, mulHigh]
  apply BitVec.eq_of_toNat_eq
  generalize a * b = z
  simp only [BitVec.toNat_ofInt, BitVec.extractLsb'_toNat, Nat.shiftRight_eq_div_pow]
  omega

theorem mulHigh_signed (l r : Word) :
    mulHigh l.toInt r.toInt = (l.signExtend 128 * r.signExtend 128).extractLsb' 64 64 :=
  mulHigh_eq_extract l.toInt r.toInt

theorem mulHigh_unsigned (l r : Word) :
    mulHigh l.toNat r.toNat = (l.setWidth 128 * r.setWidth 128).extractLsb' 64 64 := by
  rw [mulHigh_eq_extract, BitVec.ofInt_natCast, BitVec.ofInt_natCast]; simp

theorem addw_eq (l r : Word) :
    ((l + r).truncate 32).signExtend 64 = BitVec.ofInt 64 (BitVec.ofNat 32 (l.toNat + r.toNat)).toInt := by
  have h : (l + r).truncate 32 = BitVec.ofNat 32 (l.toNat + r.toNat) := by
    apply BitVec.eq_of_toNat_eq
    simp
  rw [h, BitVec.signExtend]

theorem shiftLeft_add_eq (l r p : Word) (k : Nat) :
    (l <<< k) + r + p = BitVec.ofNat 64 (l.toNat * 2 ^ k + r.toNat + p.toNat) := by
  apply eq_ofNat_of_toNat
  simp [Nat.shiftLeft_eq]

/-! ### Minima and maxima (07 R92) -/

theorem min_signed (l r : Word) : (if l.slt r then l else r) = BitVec.ofInt 64 (min l.toInt r.toInt) := by
  simp only [BitVec.slt_iff_toInt_lt]
  split
  · rw [min_eq_left (by omega), BitVec.ofInt_toInt]
  · rw [min_eq_right (by omega), BitVec.ofInt_toInt]

theorem max_signed (l r : Word) : (if l.slt r then r else l) = BitVec.ofInt 64 (max l.toInt r.toInt) := by
  simp only [BitVec.slt_iff_toInt_lt]
  split
  · rw [max_eq_right (by omega), BitVec.ofInt_toInt]
  · rw [max_eq_left (by omega), BitVec.ofInt_toInt]

theorem min_unsigned (l r : Word) : (if l.ult r then l else r) = BitVec.ofNat 64 (min l.toNat r.toNat) := by
  simp only [BitVec.ult_iff_lt, BitVec.lt_def]
  split
  · rw [min_eq_left (by omega), BitVec.ofNat_toNat, BitVec.setWidth_eq]
  · rw [min_eq_right (by omega), BitVec.ofNat_toNat, BitVec.setWidth_eq]

theorem max_unsigned (l r : Word) : (if l.ult r then r else l) = BitVec.ofNat 64 (max l.toNat r.toNat) := by
  simp only [BitVec.ult_iff_lt, BitVec.lt_def]
  split
  · rw [max_eq_right (by omega), BitVec.ofNat_toNat, BitVec.setWidth_eq]
  · rw [max_eq_left (by omega), BitVec.ofNat_toNat, BitVec.setWidth_eq]

/-! ### Division (07 R94) -/

/-- The one overflow: -2^63 divided by -1 is 2^63, whose word is that of -2^63. -/
theorem divSigned_eq (l r : Word) :
    divSigned l r = if r = 0 then BitVec.allOnes 64
      else if l.toInt = -2 ^ 63 ∧ r.toInt = -1 then BitVec.ofNat 64 (2 ^ 63)
      else BitVec.ofInt 64 (l.toInt.tdiv r.toInt) := by
  unfold divSigned
  split
  · rfl
  · split
    next h =>
      obtain ⟨hl, hr⟩ := h
      rw [hl, hr]; rfl
    · rfl

theorem divUnsigned_eq (l r : Word) :
    divUnsigned l r = if r = 0 then BitVec.allOnes 64 else BitVec.ofNat 64 (l.toNat / r.toNat) := rfl

theorem remSigned_eq (l r : Word) :
    remSigned l r = if r = 0 then l
      else if l.toInt = -2 ^ 63 ∧ r.toInt = -1 then 0
      else BitVec.ofInt 64 (l.toInt - l.toInt.tdiv r.toInt * r.toInt) := by
  unfold remSigned
  split
  · rfl
  · split
    next h =>
      obtain ⟨hl, hr⟩ := h
      rw [hl, hr]; rfl
    · rw [Int.tmod_def, Int.mul_comm]

theorem remUnsigned_eq (l r : Word) :
    remUnsigned l r = if r = 0 then l else BitVec.ofNat 64 (l.toNat - l.toNat / r.toNat * r.toNat) := by
  rw [remUnsigned, Nat.mod_eq_sub_div_mul]

/-! ### Shifts and the rotate (07 R93) -/

theorem count_lt (r : Word) : count r < 64 := Nat.mod_lt _ (by decide)

theorem shiftLeft_count (l r : Word) :
    l <<< count r = BitVec.ofNat 64 (l.toNat * 2 ^ (r.toNat % 64) % 2 ^ 64) := by
  apply eq_ofNat_of_toNat
  simp [count, Nat.shiftLeft_eq]

theorem shiftRight_count (l r : Word) : l >>> count r = BitVec.ofNat 64 (l.toNat / 2 ^ (r.toNat % 64)) := by
  apply eq_ofNat_of_toNat
  have h : l.toNat / 2 ^ (r.toNat % 64) < 2 ^ 64 := Nat.lt_of_le_of_lt (Nat.div_le_self _ _) l.isLt
  rw [BitVec.toNat_ushiftRight, Nat.shiftRight_eq_div_pow, count, Nat.mod_eq_of_lt h]

theorem sshiftRight_count (l r : Word) :
    l.sshiftRight (count r) = BitVec.ofInt 64 (l.toInt / 2 ^ (r.toNat % 64)) := by
  rw [BitVec.sshiftRight, Int.shiftRight_eq_div_pow, count]; norm_cast

/-- Where the low part leaves room for it, OR adds. -/
theorem shiftLeft_mod_or (x y c : Nat) (hc : c ≤ 64) (hy : y < 2 ^ c) :
    x <<< c % 2 ^ 64 ||| y = x * 2 ^ c % 2 ^ 64 + y := by
  have e : x * 2 ^ c % 2 ^ 64 = 2 ^ c * (x % 2 ^ (64 - c)) := by
    rw [← Nat.mul_mod_mul_left, ← Nat.pow_add, Nat.add_sub_cancel' hc, Nat.mul_comm]
  rw [Nat.shiftLeft_eq, e, Nat.two_pow_add_eq_or_of_lt hy]

theorem rotateLeft_count (l r : Word) :
    l.rotateLeft (count r) =
      BitVec.ofNat 64 (l.toNat * 2 ^ (r.toNat % 64) % 2 ^ 64 + l.toNat / 2 ^ (64 - r.toNat % 64)) := by
  have hc : count r ≤ 64 := (count_lt r).le
  have hy : l.toNat / 2 ^ (64 - count r) < 2 ^ count r := by
    rw [Nat.div_lt_iff_lt_mul (by positivity), ← Nat.pow_add, Nat.add_sub_cancel' hc]
    exact l.isLt
  have e : (l.rotateLeft (count r)).toNat = l.toNat * 2 ^ count r % 2 ^ 64 + l.toNat / 2 ^ (64 - count r) := by
    rw [BitVec.toNat_rotateLeft, Nat.mod_eq_of_lt (count_lt r), Nat.shiftRight_eq_div_pow, shiftLeft_mod_or _ _ _ hc hy]
  apply eq_ofNat_of_toNat
  change _ = (l.toNat * 2 ^ count r % 2 ^ 64 + l.toNat / 2 ^ (64 - count r)) % 2 ^ 64
  rw [← e, Nat.mod_eq_of_lt (BitVec.isLt _)]

/-! ### Bit counts (07 R96) -/

/-- Below 2^n, what is not the leading zeros is the number's length in bits. -/
theorem leadingZeros_eq (x : Word) (n : Nat) (hx : x.toNat < 2 ^ n) :
    leadingZeros n x = if x = 0 then n else n - 1 - Nat.log2 x.toNat := by
  induction n with
  | zero => simp [leadingZeros]
  | succ m ih =>
    unfold leadingZeros
    split
    next hb =>
      have hle : 2 ^ m ≤ x.toNat := Nat.ge_two_pow_of_testBit hb
      have h0 : x.toNat ≠ 0 := by have := Nat.two_pow_pos m; omega
      have hl : Nat.log2 x.toNat = m := (Nat.log2_eq_iff h0).mpr ⟨hle, hx⟩
      rw [if_neg (fun e => h0 (by rw [e]; rfl)), hl]; omega
    next hb =>
      have hlt : x.toNat < 2 ^ m := by
        by_contra hge
        exact hb (Nat.testBit_of_two_pow_le_and_two_pow_add_one_gt (Nat.le_of_not_lt hge) hx)
      rw [ih hlt]
      split
      · omega
      next h0 =>
        have h0 : x.toNat ≠ 0 := fun e => h0 (BitVec.eq_of_toNat_eq e)
        have := (Nat.log2_lt h0).mpr hlt
        omega

theorem clz_eq (x : Word) : leadingZeros 64 x = if x = 0 then 64 else 63 - Nat.log2 x.toNat :=
  leadingZeros_eq x 64 x.isLt

/-- From bit 64 - n up, the zeros end at the first one bit found there. -/
theorem trailingZeros_eq (x : Word) (n : Nat) (hn : n ≤ 64) :
    64 - n + trailingZeros n x = ((List.range' (64 - n) n).find? (fun i => x.getLsbD i)).getD 64 := by
  induction n with
  | zero => rfl
  | succ m ih =>
    have e : 64 - (m + 1) = 63 - m := by omega
    have e' : 63 - m + 1 = 64 - m := by omega
    rw [e, List.range'_succ, List.find?_cons, trailingZeros, e']
    cases x.getLsbD (63 - m) with
    | true => rfl
    | false =>
      have := ih (by omega)
      simp only [Bool.false_eq_true, if_false]
      omega

theorem ctz_eq (x : Word) : trailingZeros 64 x = ((List.range 64).find? (fun i => x.getLsbD i)).getD 64 := by
  have h := trailingZeros_eq x 64 le_rfl
  rwa [Nat.sub_self, Nat.zero_add, ← List.range_eq_range'] at h

theorem onesBelow_eq (x : Word) (n : Nat) : onesBelow n x = (List.range n).countP (fun i => x.getLsbD i) := by
  induction n with
  | zero => rfl
  | succ m ih => rw [onesBelow, ih, List.range_succ, List.countP_append, List.countP_singleton, Nat.add_comm]

/-! ### Extensions (07 R97) -/

theorem signedOf_succ (c n : Nat) : signedOf (c + 1) n = (BitVec.ofNat (c + 1) n).toInt := by
  have hp : 2 ^ (c + 1) = 2 * 2 ^ c := by rw [Nat.pow_succ, Nat.mul_comm]
  rw [signedOf, BitVec.toInt_eq_toNat_cond, BitVec.toNat_ofNat]
  simp only [Nat.one_shiftLeft, Nat.add_sub_cancel, hp, Nat.mul_lt_mul_left Nat.two_pos]

theorem extend_signed (l r : Word) :
    extend true l (count r + 1) = (l <<< (63 - r.toNat % 64)).sshiftRight (63 - r.toNat % 64) := by
  have hc := count_lt r
  change _ = (l <<< (63 - count r)).sshiftRight (63 - count r)
  have e : extend true l (count r + 1) = (l.setWidth (count r + 1)).signExtend 64 := by
    rw [extend, if_pos rfl, signedOf_succ, BitVec.ofNat_toNat, BitVec.signExtend]
  rw [e]
  generalize count r = c at hc
  ext i hi
  rw [BitVec.getElem_signExtend, BitVec.getElem_sshiftRight]
  by_cases h : i < c + 1
  · rw [dif_pos h, dif_pos (by omega)]
    simp [BitVec.getElem_shiftLeft, BitVec.getLsbD_eq_getElem hi]
  · rw [dif_neg h, dif_neg (by omega)]
    have hk : 63 - (63 - c) = c := by omega
    simp [BitVec.msb_eq_getLsbD_last, BitVec.getLsbD_eq_getElem hc, hk]

theorem extend_unsigned (l r : Word) :
    extend false l (count r + 1) = BitVec.ofNat 64 (l.toNat % 2 ^ (r.toNat % 64 + 1)) := by
  simp [extend, count, Nat.one_shiftLeft]

/-! ### Compares, tests, complement, selection, constants (07 R98-R102) -/

theorem flagEq_eq (l r : Word) : flagEq l r = if l.toNat = r.toNat then 1 else 0 := by
  simp [flagEq, flag, BitVec.toNat_inj]

theorem flagNe_eq (l r : Word) : flagNe l r = if l.toNat = r.toNat then 0 else 1 := by
  simp [flagNe, flag, BitVec.toNat_inj]

theorem flagLt_eq (l r : Word) : flagLt l r = if l.toInt < r.toInt then 1 else 0 := by
  simp [flagLt, flag, BitVec.slt_iff_toInt_lt]

theorem flagLtu_eq (l r : Word) : flagLtu l r = if l.toNat < r.toNat then 1 else 0 := by
  simp [flagLtu, flag, BitVec.ult]

theorem flagLe_eq (l r : Word) : flagLe l r = if l.toInt ≤ r.toInt then 1 else 0 := by
  simp [flagLe, flag, BitVec.sle]

theorem flagLeu_eq (l r : Word) : flagLeu l r = if l.toNat ≤ r.toNat then 1 else 0 := by
  simp [flagLeu, flag, BitVec.ule]

theorem flagZero_eq (l : Word) : flagZero l = if l.toNat = 0 then 1 else 0 := flagEq_eq l 0

theorem flagNonzero_eq (l : Word) : flagNonzero l = if l.toNat = 0 then 0 else 1 := flagNe_eq l 0

theorem not_eq_ofNat (l : Word) : ~~~l = BitVec.ofNat 64 (2 ^ 64 - 1 - l.toNat) := by
  apply eq_ofNat_of_toNat
  rw [BitVec.toNat_not, Nat.mod_eq_of_lt (by omega)]

theorem select_eq (l r p : Word) : (if p != 0 then l else r) = if p.toNat = 0 then r else l := by
  have h : p.toNat = 0 ↔ p = 0 := BitVec.toNat_inj (y := 0)
  simp only [h, bne_iff_ne, ite_not]

theorem constx_eq (l : Word) (i : BitVec 14) :
    (l <<< 14) ||| i.zeroExtend 64 = BitVec.ofNat 64 ((l.toNat * 2 ^ 14 + i.toNat) % 2 ^ 64) := by
  have hi : i.toNat % 2 ^ 64 = i.toNat := Nat.mod_eq_of_lt (by omega)
  apply eq_ofNat_of_toNat
  rw [BitVec.toNat_or, BitVec.toNat_shiftLeft, BitVec.toNat_setWidth, hi,
    shiftLeft_mod_or _ _ 14 (by decide) i.isLt]
  omega

/-! ### The instructions -/

/-- Settles O1: each meaning is of class Value, in the form of its word, and the lemmas above give its value. -/
theorem integerInstructions : Obligations.IntegerInstructions := by
  refine ⟨fun p t l r => ?arithmetic, fun p t l r => ?division, fun p t l r => ?shifts⟩
  case arithmetic =>
    exact ⟨
      delivers_of_fireValue _ _ _ _ _ (form_add p t l r) (exec_add p t l r) (fun x => add_eq_ofNat x.cap.l x.cap.r),
      delivers_of_fireValue _ _ _ _ _ (form_sub p t l r) (exec_sub p t l r) (fun x => sub_eq_ofInt x.cap.l x.cap.r),
      delivers_of_fireValue _ _ _ _ _ (form_mul p t l r) (exec_mul p t l r) (fun x => mul_eq_ofNat x.cap.l x.cap.r),
      delivers_of_fireValue _ _ _ _ _ (form_mulh p t l r) (exec_mulh p t l r) (fun x => mulHigh_signed x.cap.l x.cap.r),
      delivers_of_fireValue _ _ _ _ _ (form_mulhu p t l r) (exec_mulhu p t l r) (fun x => mulHigh_unsigned x.cap.l x.cap.r),
      delivers_of_fireValue _ _ _ _ _ (form_and p t l r) (exec_and p t l r) (fun _ => rfl),
      delivers_of_fireValue _ _ _ _ _ (form_or p t l r) (exec_or p t l r) (fun _ => rfl),
      delivers_of_fireValue _ _ _ _ _ (form_xor p t l r) (exec_xor p t l r) (fun _ => rfl),
      delivers_of_fireValue _ _ _ _ _ (form_andn p t l r) (exec_andn p t l r) (fun _ => rfl),
      delivers_of_fireValue _ _ _ _ _ (form_min p t l r) (exec_min p t l r) (fun x => min_signed x.cap.l x.cap.r),
      delivers_of_fireValue _ _ _ _ _ (form_max p t l r) (exec_max p t l r) (fun x => max_signed x.cap.l x.cap.r),
      delivers_of_fireValue _ _ _ _ _ (form_minu p t l r) (exec_minu p t l r) (fun x => min_unsigned x.cap.l x.cap.r),
      delivers_of_fireValue _ _ _ _ _ (form_maxu p t l r) (exec_maxu p t l r) (fun x => max_unsigned x.cap.l x.cap.r),
      delivers_of_fireValue _ _ _ _ _ (form_addw p t l r) (exec_addw p t l r) (fun x => addw_eq x.cap.l x.cap.r)⟩
  case division =>
    exact ⟨
      delivers_of_fireValue _ _ _ _ _ (form_div p t l r) (exec_div p t l r) (fun x => divSigned_eq x.cap.l x.cap.r),
      delivers_of_fireValue _ _ _ _ _ (form_divu p t l r) (exec_divu p t l r) (fun x => divUnsigned_eq x.cap.l x.cap.r),
      delivers_of_fireValue _ _ _ _ _ (form_rem p t l r) (exec_rem p t l r) (fun x => remSigned_eq x.cap.l x.cap.r),
      delivers_of_fireValue _ _ _ _ _ (form_remu p t l r) (exec_remu p t l r) (fun x => remUnsigned_eq x.cap.l x.cap.r),
      delivers_of_fireValue _ _ _ _ _ (form_shadd1 t l r) (exec_shadd1 t l r) (fun x => shiftLeft_add_eq x.cap.l x.cap.r x.cap.p 1),
      delivers_of_fireValue _ _ _ _ _ (form_shadd2 t l r) (exec_shadd2 t l r) (fun x => shiftLeft_add_eq x.cap.l x.cap.r x.cap.p 2),
      delivers_of_fireValue _ _ _ _ _ (form_shadd3 t l r) (exec_shadd3 t l r) (fun x => shiftLeft_add_eq x.cap.l x.cap.r x.cap.p 3),
      delivers_of_fireValue _ _ _ _ _ (form_shadd4 t l r) (exec_shadd4 t l r) (fun x => shiftLeft_add_eq x.cap.l x.cap.r x.cap.p 4)⟩
  case shifts =>
    exact ⟨
      delivers_of_fireValue _ _ _ _ _ (form_shl p t l r) (exec_shl p t l r) (fun x => shiftLeft_count x.cap.l x.cap.r),
      delivers_of_fireValue _ _ _ _ _ (form_shr p t l r) (exec_shr p t l r) (fun x => shiftRight_count x.cap.l x.cap.r),
      delivers_of_fireValue _ _ _ _ _ (form_sar p t l r) (exec_sar p t l r) (fun x => sshiftRight_count x.cap.l x.cap.r),
      delivers_of_fireValue _ _ _ _ _ (form_rotl p t l r) (exec_rotl p t l r) (fun x => rotateLeft_count x.cap.l x.cap.r),
      delivers_of_fireValue _ _ _ _ _ (form_clz p t l r) (exec_clz p t l r) (fun x => congrArg (BitVec.ofNat 64) (clz_eq x.cap.l)),
      delivers_of_fireValue _ _ _ _ _ (form_ctz p t l r) (exec_ctz p t l r) (fun x => congrArg (BitVec.ofNat 64) (ctz_eq x.cap.l)),
      delivers_of_fireValue _ _ _ _ _ (form_popc p t l r) (exec_popc p t l r) (fun x => congrArg (BitVec.ofNat 64) (onesBelow_eq x.cap.l 64)),
      delivers_of_fireValue _ _ _ _ _ (form_sext p t l r) (exec_sext p t l r) (fun x => extend_signed x.cap.l x.cap.r),
      delivers_of_fireValue _ _ _ _ _ (form_zext p t l r) (exec_zext p t l r) (fun x => extend_unsigned x.cap.l x.cap.r)⟩

/-- Settles O2: each meaning is of class Value, FAN's with two targets, and the lemmas above give its value. -/
theorem compareSelectMove : Obligations.CompareSelectMove := by
  intro p t u l r i
  exact ⟨
    delivers_of_fireValue _ _ _ _ _ (form_ceq p t l r) (exec_ceq p t l r) (fun x => flagEq_eq x.cap.l x.cap.r),
    delivers_of_fireValue _ _ _ _ _ (form_cne p t l r) (exec_cne p t l r) (fun x => flagNe_eq x.cap.l x.cap.r),
    delivers_of_fireValue _ _ _ _ _ (form_clt p t l r) (exec_clt p t l r) (fun x => flagLt_eq x.cap.l x.cap.r),
    delivers_of_fireValue _ _ _ _ _ (form_cltu p t l r) (exec_cltu p t l r) (fun x => flagLtu_eq x.cap.l x.cap.r),
    delivers_of_fireValue _ _ _ _ _ (form_cle p t l r) (exec_cle p t l r) (fun x => flagLe_eq x.cap.l x.cap.r),
    delivers_of_fireValue _ _ _ _ _ (form_cleu p t l r) (exec_cleu p t l r) (fun x => flagLeu_eq x.cap.l x.cap.r),
    delivers_of_fireValue _ _ _ _ _ (form_tz p t l r) (exec_tz p t l r) (fun x => flagZero_eq x.cap.l),
    delivers_of_fireValue _ _ _ _ _ (form_tnz p t l r) (exec_tnz p t l r) (fun x => flagNonzero_eq x.cap.l),
    delivers_of_fireValue _ _ _ _ _ (form_not p t l r) (exec_not p t l r) (fun x => not_eq_ofNat x.cap.l),
    delivers_of_fireValue _ _ _ _ _ (form_sel t l r) (exec_sel t l r) (fun x => select_eq x.cap.l x.cap.r x.cap.p),
    delivers_of_fireValue _ _ _ _ _ (form_const p t i) (exec_const p t i) (fun _ => rfl),
    delivers_of_fireValue _ _ _ _ _ (form_constx p t i) (exec_constx p t i) (fun x => constx_eq x.cap.l i),
    delivers_of_fireValue _ _ _ _ _ (form_mov p t l r) (exec_mov p t l r) (fun _ => rfl),
    delivers_of_fireValue _ _ _ _ _ (form_fan p t u) (exec_fan p t u) (fun _ => rfl)⟩

end Sys2Proof.Proofs
end
